-- ==== Sys2Proof/Word.lean ====
section
/-! DEFINITION. The plain types of the model: register words, bytes, and `Tab`, a table of a fixed number of rows. -/

namespace Sys2Proof

/-- A 32-bit register word (00_scope R15). -/
abbrev Word := BitVec 32

/-- A byte of a descriptor, record or buffer. -/
abbrev Byte := BitVec 8

/-- A table of exactly `n` rows: slots, branches, quadrants, queues and the like.
The length travels with the data, so no operation can lose or add a row. -/
structure Tab (α : Type) (n : Nat) where
  rows : List α
  size_eq : rows.length = n
  deriving DecidableEq, Repr

namespace Tab

variable {α β : Type} {n : Nat}

/-- Row `i`. -/
def get (t : Tab α n) (i : Fin n) : α := t.rows[i.val]'(by rw [t.size_eq]; exact i.isLt)

/-- Row `i` replaced by `f` of it. -/
def modify (t : Tab α n) (i : Fin n) (f : α → α) : Tab α n :=
  ⟨t.rows.modify i.val f, by simp [t.size_eq]⟩

/-- Row `i` set to `a`. -/
def set (t : Tab α n) (i : Fin n) (a : α) : Tab α n :=
  ⟨t.rows.set i.val a, by simp [t.size_eq]⟩

/-- Every row mapped. -/
def map (f : α → β) (t : Tab α n) : Tab β n := ⟨t.rows.map f, by simp [t.size_eq]⟩

/-- Every row mapped with its number. -/
def mapIdx (f : Nat → α → β) (t : Tab α n) : Tab β n := ⟨t.rows.mapIdx f, by simp [t.size_eq]⟩

/-- The same row `n` times. -/
def fill (n : Nat) (a : α) : Tab α n := ⟨List.replicate n a, by simp⟩

/-- Row `i` of a number `i`, or `d` where there is no such row. -/
def getD (t : Tab α n) (i : Nat) (d : α) : α := t.rows.getD i d

/-- Row `i` of a number `i` replaced by `f` of it; a number past the table changes nothing. -/
def modifyNat (t : Tab α n) (i : Nat) (f : α → α) : Tab α n :=
  ⟨t.rows.modify i f, by simp [t.size_eq]⟩

/-- The rows with their numbers. -/
def indexed (t : Tab α n) : List (Nat × α) := t.rows.mapIdx (fun i a => (i, a))

end Tab

end Sys2Proof
end

