-- ==== Sys2Proof/Machine/Common.lean ====
section
/-! DEFINITION. Types that both dies share: the variant, commands as they arrive, completions, event entries, the
outcome of a barrier crossing, the state of a block, and the lists of messages that wait for a barrier slot. -/

namespace Sys2Proof

/-- The three parts of 00_scope R2. -/
inductive Variant where
  | fls6480 | fls6440 | fls6420
  deriving DecidableEq, Repr

/-- The two dies (01 R16). -/
inductive Side where
  | host | field
  deriving DecidableEq, Repr

/-- Quadrants present (00_scope R5, CAP0.QUAD_MASK). -/
def Variant.quads : Variant → Nat
  | .fls6480 => 4
  | .fls6440 => 2
  | .fls6420 => 1

/-- CAP0.PART_CODE (00_scope Table 00-2). -/
def Variant.partCode : Variant → Nat
  | .fls6480 => 0x80
  | .fls6440 => 0x40
  | .fls6420 => 0x20

/-- The status codes of Table 19-2 (19_command_reference R480). -/
inductive Status where
  | ok | busy | badOpcode | badParam | unitAbsent | staleRole | notActive | authFail | notConfigured | timeout
  | wrongMode | collided | mediaError | full | aborted
  deriving DecidableEq, Repr

/-- The code of a status in Table 19-2. -/
def Status.code : Status → Nat
  | .ok => 0 | .busy => 1 | .badOpcode => 2 | .badParam => 3 | .unitAbsent => 4 | .staleRole => 5 | .notActive => 6
  | .authFail => 7 | .notConfigured => 8 | .timeout => 9 | .wrongMode => 0xA | .collided => 0xB | .mediaError => 0xC
  | .full => 0xD | .aborted => 0xE

/-- The answer a NAND page operation gives (17_storage R433, R437). -/
inductive NandResult where
  | good | corrected (bits : Nat) | uncorrectable | programFail | eraseFail
  deriving DecidableEq, Repr

/-- A command descriptor (Table 19-3) with the queue it came from. `authOk` is the answer of the security engine to its
token (R474); `data` is what the command's
host buffer holds when the device reads it (R467), and `peer` says that the command came in through the
input frame of the twin (R472). `media` is what the NAND answers a command that reads or writes it at once (17 R433), and `silent`
marks a command that the device's own firmware issues, which has no completion; `arrival` is its arrival tick on the field side, and
`bufOk` says whether its host buffer lies where it may (18 R458), which region H tells the field side of a command that it forwards. -/
structure Request where
  opcode : Nat := 0
  flags : Nat := 0
  unit : Nat := 0xFF
  tag : Nat := 0
  epoch : Nat := 0
  applyTick : Nat := 0
  params : BitVec 256 := 0
  token : BitVec 128 := 0
  queue : Fin 32 := 0
  authOk : Bool := false
  peer : Bool := false
  data : List Byte := []
  media : NandResult := .good
  silent : Bool := false
  arrival : Nat := 0
  bufOk : Bool := true
  deriving DecidableEq, Repr

/-- FLAGS bit 0, AUTH (R477). -/
def Request.auth (r : Request) : Bool := r.flags.testBit 0

/-- FLAGS bit 1, APPLY_AT_TICK (R477). -/
def Request.atTick (r : Request) : Bool := r.flags.testBit 1

/-- The key slot in FLAGS [3:2] (R474). -/
def Request.keySlot (r : Request) : Nat := r.flags / 4 % 4

/-- The `w`-byte little-endian parameter at offset `o` of PARAMS (R12, R477). -/
def Request.par (r : Request) (o w : Nat) : Nat := r.params.toNat >>> (8 * o) % 2 ^ (8 * w)

/-- The u32 at offset `o` of PARAMS. -/
def Request.u32 (r : Request) (o : Nat) : Nat := r.par o 4

/-- The s32 at offset `o` of PARAMS. -/
def Request.s32 (r : Request) (o : Nat) : Int := (BitVec.ofNat 32 (r.par o 4)).toInt

/-- A completion (Table 18-9) before its PHASE is known, with the bytes that a field-executed command returns into its host
buffer (R467).. -/
structure Completion where
  queue : Fin 32
  tag : Nat
  status : Status
  result : Nat
  epoch : Nat
  peer : Bool := false
  held : Bool := false
  addr : Nat := 0
  data : List Byte := []
  deriving DecidableEq, Repr

/-- An event that a block has reported and that its collector has not judged yet (15_faults R386, R393). -/
structure Event where
  tb : Nat
  fine : Nat
  src : Nat
  code : Nat
  value : Nat := 0
  deriving DecidableEq, Repr

/-- A judged event entry (Table 15-1). -/
structure Entry where
  ev : Event
  cls : Nat
  rung : Nat
  severe : Bool
  escalated : Bool
  injected : Bool := false
  deriving DecidableEq, Repr

/-- How a barrier message arrives at the receiving end: good, or with one of the five defects of 01_architecture R22. -/
inductive Arrival where
  | good | badClass | wrongDirection | badCrc | badLength | outsideSlot
  deriving DecidableEq, Repr

/-- The classes of barrier messages (01 Table 01-8). -/
inductive MsgClass where
  | configPush | cmdForward | cmdComplete | telemetry | event | recSnapshot | traceBlock | fwBlock | heartbeat | timeSync
  deriving DecidableEq, Repr

/-- Who reads a register: each initiator has its own TB shadows (03 R82, R83). -/
inductive Initiator where
  | dispatcher | qc (q : Fin 4) | barrier | opPath
  deriving DecidableEq, Repr

/-- A live operation in progress on a block: its kind as LAST_OP codes it (Table 01-5), the steps of R553 left after this
one, and the commands that wait for its end. -/
structure BlkOp where
  kind : Nat
  stepsLeft : Nat := 0
  waits : List Request := []
  deriving DecidableEq, Repr

/-- The common header of a block and what the block level holds of it (01 R18, R34, R37, R42). STATE is a code of
Table 01-7. -/
structure Blk where
  state : Nat := 1
  lastOp : Nat := 0
  resetCnt : Nat := 0
  op : Option BlkOp := none
  /-- Cells that found no spare left (R33). -/
  failedCells : List Nat := []
  /-- For the memory blocks: row groups moved to spares, and the times of the corrected errors per row group (R34). -/
  rowsUsed : Nat := 0
  rowErrs : List (Nat × List Nat) := []
  rowMap : List (Nat × Nat) := []
  deriving DecidableEq, Repr

/-- Power states of a domain (02 R53 to R56). -/
inductive Domain where
  | off | starting | good | failed
  deriving DecidableEq, Repr

/-- One source of Tables 15-2 to 15-4 as a collector holds it (15_faults R387 to R392, R402). The class and the scope are
fixed and are read from the tables. -/
structure Source where
  ev : Nat := 0
  sv : Nat := 0
  flt : Bool := false
  n : Nat := 4
  w : Nat := 40000
  q : Nat := 400000
  stamps : List Nat := []
  last : Nat := 0
  winCnt : Nat := 0
  severe : Bool := false
  pend : Bool := false
  recov : Nat := 0
  deriving DecidableEq, Repr

/-- What both collectors hold besides their sources (Tables 15-10, 15-11, 15-14). -/
structure Collector where
  sources : Tab Source 256 := Tab.fill 256 {}
  sel : Nat := 0
  lastRx : Nat := 0
  lastSrc : Nat := 0
  lastData : Nat := 0
  mismatch : Bool := false
  word : Nat := 0
  arisen : List Event := []
  deriving DecidableEq, Repr

/-- A recorder record (Tables 16-2 and 16-3), its 512 bytes formed from these fields when it is read. `context` lists what
0x50 to 0x7F hold, each as its width in bytes and its value; `req` is the REC_TRIGGER that waits for the SEQ. -/
structure Record where
  type : Nat
  kind : Nat := 0
  list : Nat := 0xFF
  values : List (Option Word) := []
  ops : List Nat := []
  seq : Nat := 0
  tb : Nat := 0
  fine : Nat := 0xFFFF
  listGen : Nat := 0
  wall : Nat := 0
  modeStatus : Word := 0
  roleEpoch : Nat := 0
  twinId : Bool := false
  active : Bool := false
  hLate : Bool := false
  traceLost : Bool := false
  hostOnly : Bool := false
  traceId : Nat := 0xFFFF
  missed : Nat := 0
  ledgerUsed : Nat := 0
  hTb : Nat := 0
  entry : Option Entry := none
  context : List (Nat × Nat) := []
  req : Option Request := none
  deriving DecidableEq, Repr

/-- A learned-value record of the LEARNED partition (17_storage Table 17-9, 13 R347): TYPE, identity, values, WRITTEN. -/
structure Learned where
  type : Nat
  vendor : Nat
  product : Nat
  serial : Nat
  values : List Nat
  written : Nat
  deriving DecidableEq, Repr

/-- A CONFIG_PUSH message (R490): GEN, OFFSET and up to 368 bytes; `learned` marks learned records for a slot (R449). -/
structure Push where
  gen : Nat
  offset : Nat
  bytes : List Byte
  learned : List Learned := []
  deriving DecidableEq, Repr

end Sys2Proof
end

