-- ==== Sys2Proof/Machine/HostTypes.lean ====
section
/-! DEFINITION. The state types of the host die (region H): power and modes, barrier end, interfaces and queues, storage
and boot, recorder host part, security, fault mirror; and the timer and two-wire blocks, which both dies have. -/

namespace Sys2Proof

/-- One timer channel (21_timers Tables 21-3 to 21-7). `cmp0Next` and `cmp3Next` hold PWM writes until PCNT restarts (R522);
`resetNext` a
RESET_LINKED that acts at the next count (R520), `waiting` is a capture in the pending stage and
`lockedAt` the count of the read that holds it there (R524); the shadows
are those of R525 for the region's processor, the OP path and the input frame. -/
structure TimerCh where
  en : Bool := false
  chain : Bool := false
  outMode : Nat := 0
  outInv : Bool := false
  capMode : Nat := 0
  capIrq : Bool := false
  filt : Nat := 4
  count : Nat := 0
  rise : Nat := 0
  fall : Nat := 0
  width : Nat := 0
  period : Nat := 0
  rose : Bool := false
  cmp : Tab Nat 4 := Tab.fill 4 0
  act : Tab Nat 4 := Tab.fill 4 0
  cmpf : Tab Bool 4 := Tab.fill 4 false
  capPending : Bool := false
  risef : Bool := false
  fallf : Bool := false
  input : Bool := false
  out : Bool := false
  snapLo : Nat := 0
  snapHi : Nat := 0
  pcnt : Nat := 0
  cmp0Next : Option Nat := none
  cmp3Next : Option Nat := none
  waiting : Option (Bool × Nat) := none
  lockedAt : Option Nat := none
  resetNext : Bool := false
  shadowProc : Nat := 0
  shadowOp : Nat := 0
  shadowFrame : Nat := 0
  deriving DecidableEq, Repr

/-- A timer block of `n` channels (21_timers R518, TIM_CTRL of Table 21-4); `elapsed` is the counts since the last tick
edge that its events have shown. -/
structure TimerBlk (n : Nat) where
  lock : Bool := false
  ch : Tab TimerCh n := Tab.fill n {}
  elapsed : Nat := 0
  deriving DecidableEq, Repr

/-- What waits on a two-wire bus (20_two_wire R500, R515): a TW_XFER, a TW_SET_BUS, or one read of a polled device. -/
inductive TwJob where
  | xfer (r : Request)
  | setBus (r : Request)
  | poll (device reading : Nat)
  deriving DecidableEq, Repr

/-- A two-wire bus (20_two_wire R502 to R517). `job` is the controller transaction in progress, `tries` the bus recoveries
tried for it (R508); `tgtRead` says that the target transaction in progress reads; `latch` is the register word latched
by a target read (Table 20-3). -/
structure TwBus where
  lock : Bool := false
  role : Nat := 0
  speed : Nat := 0
  pecEn : Bool := false
  taddr : Nat := 0
  busy : Bool := false
  ctrlAct : Bool := false
  tgtAct : Bool := false
  sda : Bool := true
  scl : Bool := true
  stuckCnt : Nat := 0
  toutCnt : Nat := 0
  protoCnt : Nat := 0
  pecCnt : Nat := 0
  queue : List TwJob := []
  job : Option TwJob := none
  tries : Nat := 0
  pointer : Nat := 0
  latch : Word := 0
  tgtRead : Bool := false
  deriving DecidableEq, Repr

/-- The strap of 18_host R454. -/
inductive Link where
  | pcie | qspi
  deriving DecidableEq, Repr

/-- Power of the host side (02 R53 to R62): domains H_AON, H_CORE, H_HIF, H_STO. `twinB` is TWIN_ID as region H knew it at VINH power-on (log
entry 91). -/
structure HPower where
  vinh : Bool := true
  dom : Tab Domain 4 := ⟨[.good, .off, .off, .off], rfl⟩
  marchFailed : Bool := false
  asleep : Bool := false
  link : Link := .pcie
  linkUp : Bool := false
  twinB : Bool := false
  deriving DecidableEq, Repr

/-- MODE_STATUS and RST_CAUSE as PCRH holds them (02 Tables 02-1, 02-5), and what the last valid field heartbeat carried
(01 R25, Table 01-15). `word` is MODE_STATUS as the field computed it. -/
structure HMode where
  mode : Nat := 2
  prevMode : Nat := 0
  changes : Nat := 0
  hostLost : Bool := false
  fieldLost : Bool := false
  word : Word := 0
  fieldRunning : Bool := false
  winter : Bool := false
  notConfigured : Bool := false
  fltPend : Bool := false
  isolated : Nat := 0
  epoch : Nat := 0
  cause : Nat := 1
  scope : Nat := 3
  chipResets : Nat := 0
  deriving DecidableEq, Repr

/-- Host end of the barrier (01 R22 to R27): ticks since the last valid field heartbeat, drops, heartbeats sent, the tick count of the last
field heartbeat, the telemetry parts of the set in progress with that set's number and the last complete set, and what waits for H to F
slots. -/
structure HBarrier where
  since : Nat := 0
  drops : Nat := 0
  dropped : Bool := false
  hbCount : Nat := 0
  tick : Nat := 0
  partsOf : Nat := 0
  parts : List (Nat × List Byte) := []
  telemetry : List Byte := []
  forward : List Request := []
  push : List Push := []
  blocks : List (List Byte) := []
  deriving DecidableEq, Repr

/-- A queue pair (18_host Tables 18-7, 18-8). `waiting` holds completions that wait for room in the ring, `cqHead` the
head the host last released; `fetched` and `refused` are the counters of GET_DIAG (Table 19-11). -/
structure QPair where
  en : Bool := false
  ordered : Bool := false
  error : Bool := false
  cqLog2 : Nat := 4
  sqLog2 : Nat := 4
  errCode : Nat := 0
  sqBase : Nat := 0
  cqBase : Nat := 0
  sqHead : Nat := 0
  sqTail : Nat := 0
  cqTail : Nat := 0
  cqHead : Nat := 0
  phase : Bool := false
  qcnt : Nat := 0
  waiting : List Completion := []
  heldOut : List Completion := []
  fetched : Nat := 0
  refused : Nat := 0
  deriving DecidableEq, Repr

/-- A MSI-X table entry (18_host R455, R470). -/
structure MsixEntry where
  addr : Nat := 0
  data : Word := 0
  masked : Bool := true
  deriving DecidableEq, Repr

/-- The host interface (18_host Tables 18-2 to 18-6, R458 to R475). `mem` is host memory under PCIe and the shared area
under QSPI, in canonical form (no cell that reads 0, addresses rising). `check` holds the commands whose token the
security engine has still to check (R474), `ready` the field commands of the forward buffer (R464), `outstanding` the queue,
the tag and the share done on region H of each forwarded command whose completion has not come, `lastMsi` the MSI-X message
sent last, `pulses` the pulses given on each IRQ_N line, and `doorbells` the doorbell writes that wait for CS_N (R459). -/
structure Hif where
  lock : Bool := false
  irqPulse : Bool := false
  evqEn : Bool := false
  mboxEn : Bool := false
  evqBase : Nat := 0
  evqLog2 : Nat := 6
  ovf : Bool := false
  lost : Nat := 0
  evqTail : Nat := 0
  evqHead : Nat := 0
  vecEn : BitVec 64 := 0x00FFFFFFFFFFFFFF
  vecPend : BitVec 64 := 0
  vecMask : BitVec 64 := 0
  irqMap : Tab Nat 64 := ⟨(List.range 64).map (fun v => 8 + v / 8), rfl⟩
  msix : Tab MsixEntry 64 := Tab.fill 64 {}
  functionMask : Bool := false
  pulses : Tab Nat 8 := Tab.fill 8 0
  lastMsi : Option (Nat × Word) := none
  queues : Tab QPair 32 := Tab.fill 32 {}
  served : Nat := 31
  check : List Request := []
  ready : List Request := []
  outstanding : List (Nat × Nat × Nat) := []
  doorbells : List (Nat × Word) := []
  mem : List Host.Cell := []
  subsystem : Word := 0
  deriving DecidableEq, Repr

/-- An OTP firmware key slot (17_storage R441, 19 R493). -/
structure FwKey where
  programmed : Bool := false
  revoked : Bool := false
  hash : List Byte := []
  deriving DecidableEq, Repr

/-- The security engine (18_host R474, R475; 19 R493). `nonceHi` holds the shadow of AUTH_NONCE_HI for each reader: the host link, and the target
windows of MB0 and MB1 (03 R83). -/
structure Sec where
  authKeys : Tab (Option (List Byte)) 4 := Tab.fill 4 none
  fwKeys : Tab FwKey 4 := Tab.fill 4 {}
  nonce : Nat := 0
  nonceHi : Tab Nat 3 := Tab.fill 3 0
  failures : Nat := 0
  lockout : Bool := false
  lockedAt : Nat := 0
  draws : Nat := 0
  deriving DecidableEq, Repr

/-- A block of the NAND as the storage manager maps it (17_storage R432 to R436). `part` is the partition code of Table
17-4, 0xF for the spare pool. -/
structure NandBlock where
  phys : Nat
  part : Nat := 0xF
  logical : Nat := 0
  erases : Nat := 0
  gen : Nat := 0
  day : Nat := 0
  retired : Bool := false
  deriving DecidableEq, Repr

/-- A page operation that waits for the memory port, with its priority class of R437 and what waits for it. -/
inductive NandOp where
  | records (n : Nat) | ledger | header | learned | config (r : Option Request) | trace | staging (r : Request)
  | scrub (phys : Nat) | level (phys : Nat)
  deriving DecidableEq, Repr

/-- The boot header (17_storage Table 17-5), the block maps apart: they are the block list. -/
structure BootHeader where
  gen : Nat := 0
  geometry : Word := 0
  manifest : Bool := false
  slotB : Bool := false
  pending : Bool := false
  cfgPending : Bool := false
  trial : Bool := false
  lastResult : Nat := 0
  confirmT : Nat := 30
  stagedLen : Nat := 0
  cfgLen : Nat := 0
  sizes : List Nat := []
  floor : Nat := 0
  deriving DecidableEq, Repr

/-- The storage manager with what it keeps on the NAND (17_storage R430 to R453). `fieldStale` is that of R446, `loading`, `loadTries` and
`fieldLoaded` belong to the field load (R447, R444), `copies` are the two CONFIG copies with their generations.
`ops` wait for the memory port, `current` is in progress (R437). `blocks` lists the physical blocks that
are not fresh; `device` is the geometry that the attached device answers (R431), `recovered` says that the last run of the ROM
ended in recovery: a block of the device that is not listed is good, free and never erased. `updCmds` are the UPDATE_FIELD commands that wait for the
start of their load (R451). -/
structure Stor where
  formatted : Bool := false
  device : Word := 0
  recovered : Bool := false
  recovery : Bool := false
  hdr : BootHeader := {}
  otpFloor : Nat := 0
  slotA : List Byte := []
  slotB : List Byte := []
  stagedImg : List Byte := []
  stagedCfg : List Byte := []
  copies : List (Nat × List Byte) := []
  learned : List Learned := []
  learnedUsed : Nat := 0
  blocks : List NandBlock := []
  ops : List NandOp := []
  current : Option NandOp := none
  scrubbing : Bool := false
  scrubLeft : List Nat := []
  rewritten : Nat := 0
  scrubCmds : List Request := []
  scrubDay : Nat := 0
  spareLow : Bool := false
  ueCnt : Nat := 0
  wlSpread : Nat := 2000
  scrubPeriod : Nat := 14
  refreshAge : Nat := 365
  fieldStale : Bool := false
  loading : Bool := false
  loadTries : Nat := 0
  rollback : Nat := 0
  key : Nat := 0
  fieldLoaded : Bool := true
  updCmds : List Request := []
  deriving DecidableEq, Repr

/-- A stored or frozen trace capture (16_recorder Table 16-4). -/
structure Trace where
  id : Nat
  pre : Nat
  firstValid : Nat
  tbTrig : Nat
  ops : List Nat
  shifts : List Nat
  rows : List (List Nat)
  deriving DecidableEq, Repr

/-- An entry of the clear ledger (16_recorder R425). -/
structure Ledger where
  index : Nat
  what : Nat
  keySlot : Nat
  tb : Nat
  wall : Nat
  lastSeq : Nat
  lastTrace : Nat
  cleared : Bool := true
  deriving DecidableEq, Repr

/-- The recorder, host part (16_recorder R416 to R426, Table 16-5). `buffer` holds records not yet on the NAND, the first
`handed` of them already with the storage manager; `log` those that are; `openAt` is the HTB at which the open page took its
first record; `incoming` is the capture being received, `traces` those stored, `lists` the last LIST record of each list; `pages` gives the
records in each written page of the log, `clears` counts the clears of the traces, and `clearCmds` are the REC_CLEAR commands whose ledger entry is
being written. -/
structure Rech where
  frozen : Bool := false
  endSeq : Nat := 0
  frozenAt : Nat := 0
  thawAt : Option Nat := none
  full : Bool := false
  fullRaised : Bool := false
  trFull : Bool := false
  trFullRaised : Bool := false
  urgent : Bool := false
  missCnt : Nat := 0
  missedSince : Nat := 0
  missRaised : Bool := false
  nextSeq : Nat := 0
  buffer : List Record := []
  handed : Nat := 0
  log : List Record := []
  pages : List Nat := []
  capacity : Nat := 65536
  traceCapacity : Nat := 127
  traces : List (Nat × List Byte) := []
  incoming : List Byte := []
  clears : Nat := 1
  ledger : List Ledger := []
  clearCmds : List Request := []
  flushDly : Nat := 100
  flushCmds : List Request := []
  openAt : Option Nat := none
  lists : Tab (Nat × List Nat) 4 := Tab.fill 4 (0, [])
  deriving DecidableEq, Repr

/-- The configuration as region H holds it (19 R485 to R492): the running blob with GEN and CRC, the load that is being
pushed, the command that waits for its save. -/
structure HConfig where
  blob : Option (List Byte) := none
  gen : Nat := 0
  crc : Nat := 0
  pushing : Option Request := none
  pushed : List Byte := []
  deriving DecidableEq, Repr

/-- The host die. `htb` is the copy of TB and `htbHi` its shadow for each reader as in `Sec` (03 R83, R84), `wall` the wall-clock seconds and whether they were set (19 R484),
`area` the message area of Table 20-3 in canonical form, `booted` that the firmware runs, for `runTicks` ticks so far (17 R444), `held` the
completions held through a restart with the HTB at which the host heartbeat returned (18 R466), and `resetIn` a RESET of region H. -/
structure HostDie where
  power : HPower := {}
  mode : HMode := {}
  blk : Tab Blk 13 := Tab.fill 13 {}
  bar : HBarrier := {}
  hif : Hif := {}
  sec : Sec := {}
  stor : Stor := {}
  rech : Rech := {}
  cfg : HConfig := {}
  fcm : Collector := {}
  htim : TimerBlk 8 := {}
  mb : Tab TwBus 2 := Tab.fill 2 {}
  area : List Host.Cell := []
  htb : Nat := 0
  htbHi : Tab Nat 3 := Tab.fill 3 0
  wall : Nat := 0
  wallSet : Bool := false
  wallTicks : Nat := 0
  booted : Bool := false
  held : List Completion := []
  heldSince : Option Nat := none
  resetIn : Option Nat := none
  runTicks : Nat := 0
  deriving DecidableEq, Repr

end Sys2Proof
end

