-- ==== Sys2Proof/Machine/SlotTypes.lean ====
section
/-! DEFINITION. The state types of one module position (slot) and one branch of the field die, with the frames of the contract
line. -/

namespace Sys2Proof

/-- The role of a slot's unit (06 Table 06-2, 10 Table 10-1). -/
inductive Role where
  | none | supply | storage
  deriving DecidableEq, Repr

/-- ROLE as registers code it. -/
def Role.code : Role → Nat
  | .none => 0 | .supply => 1 | .storage => 2

/-- Tick-bus state of a slot (05 R146, R147, Tables 05-16, 05-17): the last valid uplink payload as it was delivered, the
error counters. `got` says that a frame came in this tick, `heard` is the payload that a standby heard itself, `judged` that it has judged its own reception, `ref` the reference of
the last downlink in Q15, and the sums are those of the telemetry set. -/
structure SlotBus where
  valid : Bool := false
  stale : Bool := false
  lost : Bool := false
  status : Nat := 0
  echo : Nat := 0
  missRun : Nat := 0
  iout : Int := 0
  vout : Nat := 0
  avail : Nat := 0
  temp : Int := 0
  noFrame : Nat := 0
  window : Nat := 0
  crc : Nat := 0
  mismatch : Nat := 0
  got : Bool := false
  heard : Option Nat := none
  judged : Bool := false
  ref : Int := 0
  sumI : Int := 0
  sumV : Int := 0
  deriving DecidableEq, Repr

/-- The unit context of a slot (06 Table 06-2) with the scales of its uplink (10 R255), and its result of the last run (Table 06-10). -/
structure UnitCtx where
  role : Role := .none
  member : Bool := false
  run : Bool := false
  imax : Nat := 0
  ichg : Nat := 0
  rampUp : Nat := 0
  rampDn : Nat := 0
  inv : Nat := 0
  iLsb : Nat := 0
  vLsb : Nat := 0
  wgt : Nat := 0x10000
  soc : Nat := 0
  dsgLim : Nat := 0
  chgLim : Nat := 0
  res : Nat := 0
  excl : Bool := false
  wovr : Bool := false
  prev : Int := 0
  pbase : Int := 0
  alloc : Int := 0
  pin : Nat := 0
  bound : Nat := 0
  weight : Nat := 0
  weightNext : Nat := 0x10000
  held : Bool := false
  runSent : Bool := false
  probeSent : Bool := false
  deriving DecidableEq, Repr

/-- Wear of a slot's unit (06 R172 to R175): STRESS in Q32.32, rated life, and the sums over the second; `rate` is what the last second added to
STRESS, `shared` and `inSet` what the quadrants exchange for the weights: STRESS, and whether the unit belongs to the set of R174. -/
structure Wear where
  stress : Nat := 0
  lifeH : Nat := 0
  sumI : Nat := 0
  sumT : Int := 0
  samples : Nat := 0
  known : Bool := false
  rate : Nat := 0
  shared : Nat := 0
  inSet : Bool := false
  deriving DecidableEq, Repr

/-- A frame of the contract line (09 Tables 09-4 to 09-8) as a port sends it. `cmd` is the host command that it serves, `re` the type of the
frame that an ACK or a REJECT answers, `probe` the probe phase that a GET serves (13 R330), `sends` how often it was sent (R261), and
`once` marks a frame that starts no timer: the SOFT_RESET of 11 R296, and one on the line whose exchange has ended; `host` one that a host command
asked for. -/
structure CtFrame where
  type : Nat
  msgId : Nat := 0
  epoch : Nat := 0
  terms : List Word := []
  cmd : Option Request := none
  re : Nat := 0xF
  probe : Nat := 0
  sends : Nat := 0
  once : Bool := false
  host : Bool := false
  deriving DecidableEq, Repr

/-- The contract port of a slot (09 Tables 09-13 to 09-15). LINE is 0 idle, 1 busy, 2 reset, 3 stuck. `moist` holds the last results of
the moisture check, latest first; `lastExec` type and MSG_ID of the last frame executed (R237); `bad` a transceiver that failed its self-test and waits for its spare, `resetWanted` a hard reset that waits to be
signalled and `lowByUs` one that this device signals (R232), `sent` the bytes of the frame sent last (R234), and `moistRetry` the tick at which a
deferred or voided check is due again (R242, R244). -/
structure Port where
  line : Nat := 0
  present : Bool := false
  pullup : Bool := false
  tx : Bool := false
  rxType : Nat := 0
  rxId : Nat := 0
  collCnt : Nat := 0
  presCnt : Nat := 0
  syncFail : Nat := 0
  crc : Nat := 0
  badType : Nat := 0
  staleRx : Nat := 0
  mstate : Nat := 3
  vMv : Nat := 0
  rKohm : Nat := 0
  moist : List Nat := []
  checking : Bool := false
  deferred : Nat := 0
  nextId : Nat := 0
  lastExec : Option (Nat × Nat) := none
  holdoff : Bool := false
  sending : Option CtFrame := none
  queue : List CtFrame := []
  awaiting : Option CtFrame := none
  bad : Bool := false
  resetWanted : Bool := false
  lowByUs : Bool := false
  sent : List Byte := []
  moistRetry : Option Nat := none
  deriving DecidableEq, Repr

/-- The timers of a slot's session that run (10 R259 to R267); their deadlines lie below the tick and belong to the rows
that report their expiry. `respKinds` are the frame types that the response timer awaits. -/
structure SessTimers where
  ack : Bool := false
  response : Bool := false
  respKinds : List Nat := []
  swap : Bool := false
  hardDone : Bool := false
  poll : Bool := false
  retry : Bool := false
  deriving DecidableEq, Repr

/-- The contract session of a slot (10 R248 to R282, Tables 10-6, 10-7). STATE is a code of Table 10-1. `outstanding` is the acknowledged
frame whose reply has not come; `statusWaits`, `hardCmds` and `swapCmd` are the host commands that wait for a STATUS, a hard reset and a
swap. `softTried` and `hardTried` hold from a reset until CONTRACTED (R263, R266), `presSince` that a presence pulse came since the
declaration. `swapStage` is 0 none, 1 own SWAP sent, 2 own feed turned on, 3 own READY sent as the new source, 4 the module's READY awaited, 5
own READY sent as the old source, 6 ACCEPT sent; `swapMod` says that the new source is the module. `lostNeed` marks a GET due to a lost
uplink (11 R295), `bcast` the SOFT_RESET of 11 R296. -/
structure Sess where
  state : Nat := 0
  epoch : Nat := 0
  role : Role := .none
  auxMod : Bool := false
  hrFail : Nat := 0
  auxGrant : Nat := 0
  rank : Nat := 0
  spacing : Nat := 0
  imaxG : Nat := 0
  ichgG : Nat := 0
  soft : Nat := 0
  hard : Nat := 0
  respExp : Nat := 0
  retries : Nat := 0
  capability : Option (List Word) := none
  identity : Option (List Word) := none
  status : Option (List Word) := none
  request : Option (List Word) := none
  t : SessTimers := {}
  outstanding : Option CtFrame := none
  statusWaits : List Request := []
  hardCmds : List Request := []
  swapCmd : Option Request := none
  softTried : Bool := false
  hardTried : Bool := false
  presSince : Bool := false
  swapStage : Nat := 0
  swapMod : Bool := false
  lostNeed : Bool := false
  bcast : Bool := false
  deriving DecidableEq, Repr

/-- The policy of a slot (10 R282, SET_SLOT_POLICY). ROLES bit 0 SUPPLY, bit 1 STORAGE. -/
structure Policy where
  roles : Nat := 3
  imaxCeil : Nat := 4000000
  ichgCeil : Nat := 4000000
  auxMax : Nat := 255
  rank : Nat := 0
  deriving DecidableEq, Repr

/-- Insertion state of a slot (11 R283, Table 11-2): 0 NONE, 1 QUALIFYING, 2 WAITING, 3 STARTING, 4 JOINED, 5 REMOVING. `qualRuns` counts
the runs of R284, `ulRun` consecutive valid uplinks, `startTick` is the edge of the March start, and `runDrop` says that the contract bank has still
to clear RUN for a SUSPECT (R295). -/
structure Ins where
  state : Nat := 0
  qual : Bool := false
  startPhase : Bool := false
  suspect : Bool := false
  ulSeen : Bool := false
  qualRuns : Nat := 0
  startTick : Nat := 0
  ulRun : Nat := 0
  runDrop : Bool := false
  deriving DecidableEq, Repr

/-- The battery estimate of a slot (13 R326 to R349). Q_REM, UQ, Q_LRN in nC, E_LRN in nJ, Q_CAP in µC, E_CAP in J. `dis` is the charge
discharged in nC, `stale` that no probe has succeeded within PROBE_STALE, `first` that a STATUS has come since the grant, `disTold` that
SOC_DISAGREE code 1 or 3 stands raised until the next anchor, `sumI` and `sumN` the mean current since the ACK of a GET. -/
structure Bat where
  qRem : Int := 0
  uq : Nat := 0
  qLrn : Int := 0
  eLrn : Int := 0
  qCap : Nat := 0
  eCap : Nat := 0
  rEff : Nat := 0
  profile : Nat := 0
  stale : Bool := true
  empty : Bool := false
  full : Bool := false
  cycleOpen : Bool := false
  disagree : Bool := false
  disTold : Bool := false
  disErr : Int := 0
  vOc : Nat := 0
  sampled : Bool := false
  vCell : Nat := 0
  warnLow : Bool := false
  warnCrit : Bool := false
  uncertain : Bool := false
  rHigh : Bool := false
  lastProbe : Nat := 0
  lastLearn : Nat := 0
  learnCount : Nat := 0
  dis : Nat := 0
  outcome : Nat := 0
  reason : Nat := 0
  first : Bool := false
  cycTicks : Nat := 0
  cycInvalid : Nat := 0
  cycOpenAt : Nat := 0
  sumI : Int := 0
  sumN : Nat := 0
  grantAt : Nat := 0
  deriving DecidableEq, Repr

/-- The staging section of a slot (03 R76): the contract and the estimator's values (13 Table 13-1) as the quadrant controller wrote them last,
which the next edge swaps in if they were committed. -/
structure SlotBank where
  sess : Sess := {}
  suspect : Bool := false
  soc : Nat := 0
  dsgLim : Nat := 0
  chgLim : Nat := 0
  res : Nat := 0
  deriving DecidableEq, Repr

/-- One slot of the field die. `uAlloc` and `uFlags` are UNIT_ALLOC and UNIT_FLAGS as the last run committed them (06 R177). `landSrcN` and `landHigh` are its SLOT lands as last shifted out (22 R536 to R538). -/
structure Slot where
  bus : SlotBus := {}
  ctx : UnitCtx := {}
  wear : Wear := {}
  port : Port := {}
  sess : Sess := {}
  pol : Policy := {}
  ins : Ins := {}
  bat : Bat := {}
  bank : SlotBank := {}
  uAlloc : Int := 0
  uFlags : Word := 0
  landSrcN : Bool := false
  landHigh : Bool := false
  srcClearedAt : Option Nat := none
  deriving DecidableEq, Repr

/-- One branch: configuration (12 R299, SET_BRANCH) and 08 priorities. -/
structure BranchCfg where
  configured : Bool := false
  startClosed : Bool := false
  filt : Nat := 2
  iR : Nat := 0
  invR : Nat := 0
  ftI : Nat := 0
  ftInI : Nat := 0
  ftCode : Nat := 0
  ftCodeIn : Nat := 0
  curve : Nat := 0
  inCurve : Nat := 0
  rank : Nat := 0
  inrushT : Nat := 100
  cool : Nat := 22
  reN : Nat := 0
  reDly : Nat := 1000
  reReset : Nat := 60
  pri : Nat := 0
  shedEn : Bool := false
  deriving DecidableEq, Repr

/-- A branch (12 R299 to R315; 08 R207 to R218). `fwdTrip` is a trip latch that the in-step input frame shows, `ownTripAt` the tick in which a
standby's own latch set (14 R367), `testDue` a self-test that a configuration or a block reset asked for (12 R303), `cmdOpen` the tick in which a
command opened it, with whether it was closing (12 R311). STATE is a code of Table 12-1, CAUSE one of Table 12-3. -/
structure Branch where
  cfg : BranchCfg := {}
  state : Nat := 0
  cause : Nat := 0
  recl : Nat := 0
  curveSusp : Bool := false
  acc : Nat := 0
  accIn : Nat := 0
  latch : Bool := false
  latchRead : Bool := false
  cmp : Bool := false
  on : Bool := false
  onCmd : Bool := false
  fb : Bool := false
  testPass : Bool := false
  testGated : Bool := false
  testDue : Bool := false
  cmdOpen : Option (Nat × Bool) := none
  tripCnt : Nat := 0
  armed : Bool := false
  openRun : Nat := 0
  closeReq : Bool := false
  closeShed : Bool := false
  winRun : Nat := 0
  startTick : Nat := 0
  closedAt : Nat := 0
  tripAt : Nat := 0
  reclosing : Bool := false
  current : Int := 0
  sumI : Int := 0
  maxI : Int := 0
  bud : Int := 0
  demand : Int := 0
  pending : Bool := false
  wAt : Nat := 0
  shedOrder : Bool := false
  startPhase : Bool := false
  dLast : Int := 0
  fwdTrip : Bool := false
  ownTripAt : Option Nat := none
  tripDiff : Bool := false
  deriving DecidableEq, Repr

end Sys2Proof
end

