-- ==== Sys2Proof/Machine/FieldTypes.lean ====
section
/-! DEFINITION. The state types of the field die: timebase, measurement, tick buses, dispatcher, grid services, capping, the
March, breakers, battery estimation, twin operation, recorder field part, configuration. -/

namespace Sys2Proof

/-- TB_HI and FINE shadows of one initiator (03 R82, R83). -/
structure TbShadow where
  hi : Nat := 0
  fine : Nat := 0
  deriving DecidableEq, Repr

/-- A staging bank (03 R76, R77): committed for this tick or not. -/
structure Staging where
  contract : Tab Bool 4 := Tab.fill 4 false
  weights : Tab Bool 4 := Tab.fill 4 false
  battery : Tab Bool 4 := Tab.fill 4 false
  hostPath : Bool := false
  deriving DecidableEq, Repr

/-- A waiting command of the schedule (03 R86 to R91). -/
structure Sched where
  req : Request
  apply : Nat
  arrival : Nat
  deriving DecidableEq, Repr

/-- The timebase and the tick (03 Tables 03-3 to 03-9). `fine` is the fine time that the tick has reached, as the commands of the tick give
it. `qcMissed` counts the ticks that a controller in reset has missed, `qcLate` the consecutive edges at which its task had not completed
(R78), `syncOut` is the land TICK_SYNC_OUT (R92). -/
structure TickSt where
  tb : Nat := 0
  fine : Nat := 0
  shadows : Tab TbShadow 7 := Tab.fill 7 {}
  overrunCnt : Nat := 0
  repeatRun : Nat := 0
  lateBanks : Nat := 0
  dispMax : Nat := 0
  dispLast : Nat := 0
  locked : Bool := false
  following : Bool := false
  trim : Int := 0
  phaseErr : Int := 0
  lossCnt : Nat := 0
  goodEdges : Nat := 0
  badEdges : Nat := 0
  missing : Nat := 0
  staging : Staging := {}
  schedule : List Sched := []
  qcMissed : Tab Nat 4 := Tab.fill 4 0
  qcLate : Tab Nat 4 := Tab.fill 4 0
  syncOut : Bool := false
  ranThisTick : Bool := false
  overran : Bool := false
  deriving DecidableEq, Repr

/-- A measurement channel (04 Tables 04-6 to 04-10). -/
structure Chan where
  scale : Nat := 0
  gain : Nat := 0
  group : Nat := 0
  neg : Bool := false
  en : Bool := false
  avg : Int := 0
  max : Int := 0
  min : Int := 0
  valid : Bool := false
  stale : Bool := false
  clip : Bool := false
  clipCnt : Nat := 0
  cell : Nat := 0
  cmpPass : Bool := true
  failed : Bool := false
  deriving DecidableEq, Repr

/-- A measurement cell: its coefficients, the factory pair, the last calibration, and whether it is retired or failed. -/
structure Cell where
  gain : Nat := 0x8000
  offset : Int := 0
  lastGain : Nat := 0x8000
  lastOffset : Int := 0
  calibrated : Bool := false
  failed : Bool := false
  deriving DecidableEq, Repr

/-- A calibration spare (04 R115 to R120). `state` is as CAL_STATUS codes it; `stage` counts the stages of Table 13 of that chapter
within a step: 0 first shadow, 1 offset, 2 gain, 3 second shadow, 4 the spare's own calibration. `own` is the cell under calibration,
`newOff` its offset just measured, `first` the result that a repeat has to agree with, `shadowed` whether the second shadow has failed
once, `usedFor` the channel that a permanent spare carries, `wanted` a channel whose failed cell the spare is to replace, and `prior` the cell
under calibration as it was before the step. -/
structure CalSpare where
  state : Nat := 0
  ch : Nat := 0
  stage : Nat := 0
  own : Nat := 0
  newOff : Int := 0
  first : Option (Nat × Int) := none
  shadowed : Bool := false
  usedFor : Option Nat := none
  wanted : Option Nat := none
  prior : Option Cell := none
  deriving DecidableEq, Repr

/-- The measurement block of a quadrant (04 R98 to R121). `refRun` counts consecutive disagreeing ticks of R107, `tempOut` holds which
temperature channel is outside its table, `calNote` what the record of the last retirement holds (R117), and `sweepLeft` the channels that a
sweep has still to calibrate (R120). -/
structure MeasQ where
  lock : Bool := false
  rotEn : Bool := true
  ch : Tab Chan 16 := Tab.fill 16 {}
  cells : Tab Cell 18 := Tab.fill 18 {}
  cal : Tab CalSpare 2 := Tab.fill 2 {}
  rotations : Nat := 0
  retired : Nat := 0
  refRun : Nat := 0
  tempOut : Tab Bool 2 := Tab.fill 2 false
  calNote : List (Nat × Nat) := []
  tempTable : Tab (List (Int × Int)) 2 := Tab.fill 2 []
  sweepLeft : List Nat := []
  deriving DecidableEq, Repr

/-- A line input (04 R123, Table 04-16). -/
structure LineZc where
  valid : Bool := false
  freq : Nat := 0
  lastEdge : Option Nat := none
  since : Nat := 0
  deriving DecidableEq, Repr

/-- Bus voltage and the overvoltage paths (04 R104 to R114, Tables 04-11, 04-12). `shelfStop` is SHELF_STOP_N asserted by this device,
`aLost` and `bLost` that OV_PATH_LOST stands, `gate` the path under self-test, `settling` an analog domain that returned within this
tick. -/
structure Volt where
  pos : Int := 0
  neg : Int := 0
  posOk : Bool := false
  negOk : Bool := false
  ovLimit : Nat := 0
  ovLock : Bool := false
  aSense : Nat := 0
  bSense : Nat := 0xF
  aValid : Bool := false
  bValid : Bool := false
  aCmp : Bool := false
  bCmp : Bool := false
  dlStop : Bool := false
  stopLatched : Bool := false
  stopCnt : Nat := 0
  shelfStop : Bool := false
  aLost : Bool := false
  bLost : Bool := false
  overEdges : Nat := 0
  underRun : Nat := 0
  gate : Option Nat := none
  settling : Tab Bool 2 := Tab.fill 2 false
  zc : Tab LineZc 2 := Tab.fill 2 {}
  deriving DecidableEq, Repr

/-- One tick bus (05 Tables 05-13 to 05-15): enables, the engine serving it, faults, counters, what was sent; `markSeen` says that a standby saw
the mark of this tick. -/
structure TBus where
  en : Bool := false
  eng : Nat := 0
  padFault : Bool := false
  echoErr : Nat := 0
  markMiss : Nat := 0
  listenMism : Nat := 0
  echoRun : Nat := 0
  markSent : Bool := false
  markSeen : Bool := false
  errRaised : Bool := false
  dead : Bool := false
  sent : List Byte := []
  deriving DecidableEq, Repr

/-- The tick-bus block of a quadrant: engines 0, 1 and the spare; `failOrder` lists the engines that failed their self-test, the first first. -/
structure TbeQ where
  lock : Bool := false
  bus : Tab TBus 2 := ⟨[{ eng := 0 }, { eng := 1 }], rfl⟩
  pass : Tab Bool 3 := Tab.fill 3 false
  engFail : Tab Bool 3 := Tab.fill 3 false
  resetting : Option Nat := none
  spareUsed : Bool := false
  failOrder : List Nat := []
  deriving DecidableEq, Repr

/-- Dispatcher control and loop settings (06 Tables 06-3, 06-6; 13 and 07 settings that the Dispatcher uses apart). -/
structure DispCfg where
  lock : Bool := false
  busMode : Nat := 0
  ffSrc : Bool := false
  policy : Nat := 0
  storeBal : Bool := true
  kp : Nat := 0x07D00000
  ki : Nat := 0x00320000
  intMax : Nat := 1000000
  ffGain : Nat := 0x10000
  vsetTgt : Nat := 0
  vslew : Nat := 10
  vsetMin : Nat := 1000
  vsetMax : Nat := 1310700
  imbLimit : Nat := 0x051F
  kw : Nat := 0x140000
  gap : Nat := 90
  lifeH : Nat := 87600
  ea : Nat := 700
  tref : Nat := 4000
  deriving DecidableEq, Repr

/-- A probe as the Dispatcher carries it (06 R169, R170; 13 R330). -/
structure ProbeReq where
  unit : Nat
  step : Int
  deriving DecidableEq, Repr

/-- The compensation record of a run (06 R170). `free` counts the free units of the run before it, the probed unit apart (13 R333). -/
structure ProbeRec where
  unit : Nat
  step : Int
  base : Int
  free : Nat
  applied : Bool
  inexact : Bool
  deriving DecidableEq, Repr

/-- Dispatcher results (06 Tables 06-7 to 06-9) and the runs it counts. -/
structure Disp where
  cfg : DispCfg := {}
  vsetEff : Nat := 0
  vbusUsed : Int := 0
  iDemand : Int := 0
  integ : Int := 0
  sAlloc : Int := 0
  tAlloc : Int := 0
  resid : Int := 0
  lambdaS : Int := 0
  lambdaT : Int := 0
  vbusOk : Bool := false
  sLimited : Bool := false
  tLimited : Bool := false
  override : Bool := false
  probeOn : Bool := false
  nFree : Nat := 0
  nPinned : Nat := 0
  overrideCnt : Nat := 0
  shortCnt : Nat := 0
  posRun : Nat := 0
  negRun : Nat := 0
  invalidRun : Nat := 0
  validRun : Nat := 0
  blind : Bool := false
  imbRun : Nat := 0
  probe : Option ProbeReq := none
  probeSeen : Option Nat := none
  comp : Option ProbeRec := none
  drove : Bool := false
  rBar : Nat := 0
  deriving DecidableEq, Repr

/-- Grid-service settings (07 Table 07-11). -/
structure GridCfg where
  lossFrac : Nat := 0x8000
  dipFrac : Nat := 0x4000
  recov : Nat := 400
  huReserve : Nat := 0
  huBand : Nat := 1000000
  winLo : Nat := 0
  winHi : Nat := 0
  cBus : Nat := 0
  socTgt : Nat := 0xF333
  socHyst : Nat := 0x2666
  chgReq : Nat := 0
  lead : Tab Nat 8 := Tab.fill 8 0
  reSpacing : Nat := 20
  offsetMax : Nat := 2000
  reSeed : Nat := 0
  offset : Nat := 0
  rampEn : Bool := false
  rampUp : Nat := 0
  rampDn : Nat := 0
  rampBand : Nat := 0
  frEn : Bool := false
  fNom : Nat := 0
  frDb : Nat := 0
  frGain : Nat := 0
  frMax : Nat := 0
  frShift : Nat := 12
  srcMask : Nat := 7
  agree : Nat := 50
  hostAge : Nat := 4000
  singleOk : Bool := false
  deriving DecidableEq, Repr

/-- A re-entry batch (07 R192); `last` is its last release tick. -/
structure Batch where
  start : Nat
  units : List Nat
  recovery : Bool := false
  begun : Bool := false
  due : List (Nat × Nat) := []
  last : Nat := 0
  deriving DecidableEq, Repr

/-- Grid state (07 R182 to R199). `history` holds the bus values of the last runs, none where it was invalid, `vms` the means of R190 that they
gave, both latest first, and `releaseEdge` the edge of the last re-entry release (11 R290). -/
structure Grid where
  cfg : GridCfg := {}
  inputState : Nat := 0
  recovCnt : Nat := 0
  batches : List Batch := []
  charging : Bool := false
  reserveLow : Bool := false
  tte : Nat := 0xFFFFFFFF
  eRes : Nat := 0
  history : List (Option Int) := []
  vms : List Int := []
  warn : Tab Bool 8 := Tab.fill 8 false
  warnSet : Tab Nat 8 := Tab.fill 8 0
  warnClr : Tab Nat 8 := Tab.fill 8 0
  gRef : Int := 0
  rampAct : Bool := false
  frAct : Bool := false
  fFilt : Nat := 0
  freqValid : Bool := false
  freqSrcs : Nat := 0
  frI : Int := 0
  hostFreq : Nat := 0
  hostUntil : Option Nat := none
  nLost : Nat := 0
  resArm : Nat := 0
  releaseEdge : Option Nat := none
  deriving DecidableEq, Repr

/-- A cap (08 R202). -/
structure Cap where
  limit : Option Nat := none
  deadline : Nat := 2000
  lapse : Option Nat := none
  deriving DecidableEq, Repr

/-- Capping (08 R202 to R222). -/
structure Capping where
  grid : Cap := {}
  deliv : Cap := {}
  shedLead : Nat := 1000
  release : Nat := 100
  autoRestore : Bool := false
  restoreDly : Nat := 5000
  relMax : Option Nat := none
  capped : Bool := false
  bindG : Bool := false
  bindD : Bool := false
  unrelieved : Bool := false
  violation : Bool := false
  thr : Tab Bool 8 := Tab.fill 8 false
  thrRun : Tab Nat 8 := Tab.fill 8 0
  relRun : Nat := 0
  allow : Int := 0x7FFFFFFF
  x : Int := 0
  xU : Int := 0
  iLoad : Int := 0
  age : Nat := 0
  quietRun : Nat := 0
  xuRun : Nat := 0
  restoreRef : Nat := 0
  reached : Bool := false
  head : Int := 0
  deriving DecidableEq, Repr

/-- The March (11 R284 to R297). -/
structure March where
  lock : Bool := false
  spacing : Nat := 200
  brSpacing : Nat := 50
  insMod : Nat := 50
  insBr : Nat := 10
  startLimit : Nat := 60
  busUp : Bool := false
  busUpRun : Nat := 0
  nextOk : Nat := 0
  lastUnit : Nat := 0xFF
  starts : Nat := 0
  paused : Bool := false
  phaseOn : Bool := false
  phaseDone : Bool := false
  phaseBegin : Nat := 0
  firstReleased : Bool := false
  startEdge : Option Nat := none
  driveTicks : Nat := 0
  coldDone : Bool := false
  deriving DecidableEq, Repr

/-- A trip curve point as configured and the logarithms formed from it (12 R304, R305). -/
structure CurvePt where
  m : Nat := 0
  t : Nat := 0
  lm : Nat := 0
  lt : Nat := 0
  deriving DecidableEq, Repr

/-- A request of TEST_PFW (12 R318): groups and the tick at which it ends. -/
structure TestPfw where
  group : Nat
  until_ : Nat
  deriving DecidableEq, Repr

/-- Breaker block and sequencer registers shared by branches (12 Tables 12-6, 12-10; lands of R318). `testReq` holds the TEST_PFW commands whose
assertion has not started. -/
structure Brk where
  brkLock : Tab Bool 4 := Tab.fill 4 false
  fbOff : Tab Nat 4 := Tab.fill 4 10
  fbOn : Tab Nat 4 := Tab.fill 4 20
  bseqLock : Bool := false
  bank : Bool := false
  curves : Tab (Tab CurvePt 8) 8 := Tab.fill 8 (Tab.fill 8 {})
  staged : Tab (Tab CurvePt 8) 8 := Tab.fill 8 (Tab.fill 8 {})
  pfwLand : Tab Bool 8 := Tab.fill 8 false
  thrLand : Tab Bool 8 := Tab.fill 8 false
  tests : List TestPfw := []
  testReq : List Request := []
  deriving DecidableEq, Repr

/-- A battery profile (13 Table 13-2). -/
structure Profile where
  valid : Bool := false
  vendor : Nat := 0
  product : Nat := 0
  soc : List Nat := []
  mv : List Nat := []
  vEod : Nat := 0
  vEoc : Nat := 0
  taper : Nat := 0
  rNom : Nat := 0
  qRated : Nat := 0
  eRated : Nat := 0
  ce : Nat := 0
  deriving DecidableEq, Repr

/-- Battery settings (13 Table 13-14). -/
structure BatCfg where
  probeEn : Bool := true
  amp : Nat := 0x0CCD
  half : Nat := 40000
  gap : Nat := 40000
  stale : Nat := 3600
  gainErr : Nat := 0x0148
  offErr : Nat := 0x0083
  uOcv : Nat := 0x07AE
  bmsUnc : Nat := 0x0CCD
  eodPoll : Nat := 250
  slopeMin : Nat := 20
  warnLow : Nat := 0x3333
  warnCrit : Nat := 0x199A
  uncWarn : Nat := 0x199A
  rWarn : Nat := 0x20000
  learnEn : Bool := false
  learnPeriod : Nat := 180
  learnI : Nat := 0x3333
  lchg : Nat := 0x8000
  learnRamp : Nat := 1000
  learnMax : Nat := 24
  deriving DecidableEq, Repr

/-- The probe coordinator and the learning scheduler (13 R323, R330 to R345, Table 13-8). `start` is tick 0 of the probe, none until a
section has carried its request; `req` is the request of the next section, `reqBank` that of the section written last; `vp` and `vm` are the samples of the two phases, `recOk` that
every compensation record of the phase was good; `half` and `gap` are the values the probe began with, `last` the unit probed last, `q`
the coordinator's quadrant. -/
structure Coord where
  q : Nat := 0
  unit : Nat := 0xFF
  phase : Nat := 0
  start : Option Nat := none
  gapAt : Nat := 0
  half : Nat := 40000
  gap : Nat := 40000
  amp : Int := 0
  sL : Int := 0
  req : Option ProbeReq := none
  reqBank : Option ProbeReq := none
  vp : Option Nat := none
  vm : Option Nat := none
  recOk : Bool := true
  last : Nat := 0xFF
  halt : Bool := false
  haltRun : Nat := 0
  learnUnit : Nat := 0xFF
  learnStep : Nat := 0
  learnAt : Nat := 0
  deriving DecidableEq, Repr

/-- Battery estimation of the device (13): settings, profiles, coordinator, counters and records pushed from LEARNED. -/
structure Battery where
  cfg : BatCfg := {}
  profiles : Tab Profile 4 := Tab.fill 4 {}
  coord : Coord := {}
  done : Tab Nat 4 := Tab.fill 4 0
  void : Tab Nat 4 := Tab.fill 4 0
  records : List Learned := []
  deriving DecidableEq, Repr

/-- Twin control and links (14 Tables 14-8 to 14-13). Roles: 0 undecided, 1 standby, 2 active. -/
structure TwinCfg where
  lock : Bool := false
  pairEn : Bool := false
  revertEn : Bool := true
  divergeN : Nat := 2
  roleWait : Nat := 10
  revertDly : Nat := 60
  deriving DecidableEq, Repr

/-- A heartbeat of the peer (14 Table 14-16). -/
structure PeerBeat where
  tb : Nat := 0
  epoch : Nat := 0
  role : Nat := 0
  state : Nat := 0
  twinB : Bool := false
  part : Nat := 0
  cap1 : Word := 0
  health : Word := 0
  deriving DecidableEq, Repr

/-- A role message of the twin link (14 R376). -/
structure RoleMsg where
  newEpoch : Nat
  stamp : Nat
  switchEdge : Nat
  deriving DecidableEq, Repr

/-- A receive lane of the twin link (14 R359): consecutive ticks without and with a discarded packet, and one in this tick. -/
structure Lane where
  up : Bool := false
  good : Nat := 0
  bad : Nat := 0
  hit : Bool := false
  deriving DecidableEq, Repr

/-- Twin operation (14 R353 to R385). `tbDelta` is the peer's TB less this device's, `adopt` that the next edge takes it over (03 R80),
`tookOver` holds from a takeover while this device stays active (18 R473), `gaveUp` from a COLD_SWAP until the peer shows active.
Roles: 0 undecided, 1 standby, 2 active. `sampling` runs from an assertion of ACTIVE_N to the sample of
R355, `waitTicks` counts from the decision edge or the last valid heartbeat, `join` is 0 or a step of Table 14-4, `linkTold` that
TWIN_LINK_LOST stands raised, `evq` the port events that wait (R362), `kept` the completions kept for the peer (18 R472), `heardDiff` that a downlink of this tick was
heard otherwise than it was computed (05 R151), `snapTicks` the ticks that SNAPSHOT took (14 R369). -/
structure Twin where
  cfg : TwinCfg := {}
  twinB : Bool := false
  activeN : Bool := false
  peerActive : Bool := false
  sampling : Bool := false
  role : Nat := 0
  epoch : Nat := 0
  lanes : Tab Lane 2 := Tab.fill 2 {}
  linkErr : Nat := 0
  hbMiss : Nat := 0
  digMism : Nat := 0
  hbSeen : Bool := false
  missRun : Nat := 0
  beat : Option PeerBeat := none
  inStep : Bool := false
  twinned : Bool := false
  mixedTold : Bool := false
  latent : Bool := false
  peerDigest : Option (BitVec 64) := none
  diffRun : Nat := 0
  sections : List Nat := []
  evq : Nat := 0
  leftAt : Nat := 0
  noAuto : Bool := false
  join : Nat := 0
  joinTicks : Nat := 0
  joinBeats : Nat := 0
  joinDigests : Nat := 0
  joinTimes : List Nat := []
  joinReqs : List (Nat × Request) := []
  parts : List Nat := []
  linkTold : Bool := false
  kept : List (Nat × Completion) := []
  waitTicks : Nat := 0
  tbDelta : Int := 0
  adopt : Bool := false
  tookOver : Bool := false
  gaveUp : Bool := false
  heardDiff : Bool := false
  snapTicks : Nat := 0
  deriving DecidableEq, Repr

/-- Handover, revert and drill (14 R375 to R381, Tables 14-11 to 14-13). `asking` says that this device was active when it began, `acked` that
COMMIT_ACK has come, `out` is the role message sent last with its code, `swap` the SWAP_REQ sent last, `wait` the requests by their stamps, those of the peer and of a
revert without a command, `condFrom` the edge from which the HANDOVER condition stands, `revTicks` the ticks of REVERT_DLY counted,
`cold` a COLD_SWAP that waits for its release. -/
structure Handover where
  phase : Nat := 0
  outcome : Nat := 0
  handovers : Nat := 0
  takeovers : Nat := 0
  cond : Bool := false
  condFrom : Option Nat := none
  stamp : Nat := 0
  lastStamp : Option Nat := none
  newEpoch : Nat := 0
  switchEdge : Nat := 0
  asking : Bool := false
  acked : Bool := false
  released : Bool := false
  tries : Nat := 0
  wait : List (Nat × Option Request) := []
  cold : Option Request := none
  out : Option (Nat × RoleMsg) := none
  swap : Option RoleMsg := none
  revTicks : Nat := 0
  hold : Bool := false
  drillOn : Bool := false
  drillKind : Nat := 0
  drillStep : Nat := 0
  drillHold : Nat := 0
  drillBack : Bool := false
  drillAt : Nat := 0
  drillFail : Bool := false
  drillReq : Option Request := none
  drills : Nat := 0
  tbusFail : Nat := 0
  portFail : Bool := false
  readbackFail : Bool := false
  roundFail : Bool := false
  deriving DecidableEq, Repr

/-- A recorder trigger setting (16 R411). -/
structure Trig where
  cond : Nat := 0
  list : Nat := 0
  trace : Bool := false
  deriving DecidableEq, Repr

/-- A level comparator (16 R421). -/
structure LevelCmp where
  ch : Nat := 0
  level : Int := 0
  dir : Nat := 0
  list : Nat := 0
  trace : Bool := false
  armed : Bool := true
  backRun : Nat := 0
  prev : Option Int := none
  deriving DecidableEq, Repr

/-- A trigger of the tick (16 Table 16-1). -/
structure TrigHit where
  kind : Nat
  list : Nat
  trace : Bool
  fine : Nat := 0xFFFF
  entry : Option Entry := none
  context : List (Nat × Nat) := []
  req : Option Request := none
  deriving DecidableEq, Repr

/-- A snapshot list (16 R413). -/
structure SnapList where
  ops : List Nat := []
  staged : List Nat := []
  gen : Nat := 0
  deriving DecidableEq, Repr

/-- The recorder, field part (16 R410 to R423, Table 16-6). `rows` are the rows of the ring, the last of them that of tick `rowAt`; `cleared` is the
count of trace clears that the field knows of. -/
structure Recf where
  trig : List Trig := []
  lists : Tab SnapList 4 := Tab.fill 4 {}
  chOp : Tab Nat 16 := Tab.fill 16 0xFFFF
  chShift : Tab Nat 16 := Tab.fill 16 0
  pre : Nat := 2048
  levels : Tab LevelCmp 4 := Tab.fill 4 {}
  hits : List TrigHit := []
  queue : List Record := []
  missed : Nat := 0
  ring : Nat := 0
  rows : List (List Nat) := []
  rowAt : Nat := 0
  post : Option Nat := none
  postTrig : Nat := 0
  postPre : Nat := 0
  postId : Nat := 0
  held : List (Nat × Trace) := []
  sendOff : Nat := 0
  trMissed : Nat := 0
  nextId : Nat := 0
  cleared : Nat := 0
  frozen : Bool := false
  learned : List Learned := []
  deriving DecidableEq, Repr

/-- What F_AON keeps through a field start (16 R417, 14 R356, 04 R113): the rest of it lies in `Volt` and `Twin`. -/
structure Faon where
  lost : Nat := 0
  cause : Option Entry := none
  deriving DecidableEq, Repr

/-- The running configuration of the field (19 R485 to R491); `blob` is the blob that took effect last. -/
structure FConfig where
  blob : List Byte := []
  loaded : Bool := false
  gen : Nat := 0
  crc : Nat := 0
  pushGen : Nat := 0
  pushed : List Byte := []
  poll : Nat := 1000
  hostLimit : Nat := 2000
  auxBudget : Nat := 14400
  deriving DecidableEq, Repr

/-- Field end of the barrier (01 R22 to R27, R44 to R46), the timing master; `plant` are the sums of the PLANT means of the telemetry set in
progress, `crossed` the rows of Table 01-9 whose slots this tick has used. -/
structure FBarrier where
  since : Nat := 0
  hostLost : Bool := false
  lostTicks : Nat := 0
  limitRaised : Bool := false
  seenLeft : Nat := 0
  drops : Nat := 0
  dropped : Bool := false
  events : List Entry := []
  overflow : Nat := 0
  episode : Option Nat := none
  completions : List Completion := []
  telemetry : List Byte := []
  plant : List Int := []
  wall : Nat := 0
  vectors : List Nat := []
  timerVec : Bool := false
  hostHealth : Nat := 0
  hostCount : Nat := 0
  crossed : List Nat := []
  deriving DecidableEq, Repr

/-- Phases of the field: waiting for its image, SPRING, running (02 R50, R58). -/
inductive FPhase where
  | unpowered | waiting | spring | running
  deriving DecidableEq, Repr

/-- Power and major mode of the field side (02 R50 to R59); `dom` are the domains F_AON, F_FC, F_ANA01,
F_Q0, F_Q1, F_ANA23, F_Q2, F_Q3; `cond` holds the conditions of MODE_STATUS [14:10] as of the last edge; what a judgement chose waits in
`pendReset`, `pendWinter` and `pendBlocks` (region, block, and 1 + local bus for one engine), `resetAt` is a RESET of scope 2 or 4 with its
edge, and `pendIsolate` the quadrants to isolate with the command that asked. `regionReset` says which isolated quadrants have had the region
reset of 01 R39, and `startCause` cause and scope of a field start that region H has not heard of yet (R16, R65). -/
structure FPower where
  vinf : Bool := true
  dom : Tab Domain 8 := ⟨[.good, .off, .off, .off, .off, .off, .off, .off], rfl⟩
  marchFailed : Bool := false
  phase : FPhase := .waiting
  winter : Bool := false
  mode : Nat := 2
  prevMode : Nat := 0
  changes : Nat := 0
  cond : Word := 0
  pendReset : Option Nat := none
  resetAt : Option (Nat × Nat) := none
  pendWinter : Option Entry := none
  pendBlocks : List (Nat × Nat × Nat) := []
  isolated : Tab Bool 4 := Tab.fill 4 false
  pendIsolate : List (Nat × Option Request) := []
  regionReset : Tab Bool 4 := Tab.fill 4 false
  startCause : Option (Nat × Nat) := none
  digest : Nat := 0
  load : List (List Byte) := []
  ready : Bool := false
  deriving DecidableEq, Repr

/-- A legacy device of a quadrant's poll list (20 R515, Table 20-7). -/
structure Legacy where
  addr : Nat := 0
  page : Nat := 0xFF
  pec : Bool := false
  valid : Bool := false
  nack : Bool := false
  pecErr : Bool := false
  status : Nat := 0
  values : Tab Int 8 := Tab.fill 8 0
  mode : Nat := 0
  skipping : Bool := false
  deriving DecidableEq, Repr

/-- The field two-wire bus of a quadrant with its polled devices. -/
structure FtwQ where
  bus : TwBus := {}
  poll : Nat := 1000
  devs : Tab Legacy 8 := Tab.fill 8 {}
  deriving DecidableEq, Repr

/-- A fan (21 R527). -/
structure Fan where
  en : Bool := false
  freq : Nat := 25000
  ppr : Nat := 2
  points : List (Int × Nat) := []
  deriving DecidableEq, Repr

/-- One quadrant: blocks and block hardware (01 Table 01-3). `moistPort` and `moistAt` are the port whose moisture check comes next and when (09 R242). -/
structure Quad where
  blk : Tab Blk 7 := Tab.fill 7 {}
  portSpare : Tab (Option Nat) 4 := Tab.fill 4 none
  portLock : Bool := false
  moistEn : Bool := true
  moistPeriod : Nat := 10
  moistPort : Nat := 0
  moistAt : Nat := 0
  meas : MeasQ := {}
  tbe : TbeQ := {}
  ftim : TimerBlk 4 := {}
  ftw : FtwQ := {}
  deriving DecidableEq, Repr

/-- The field die. `free` numbers the free values drawn so far: it is the model's own field, not the spec's. -/
structure FieldDie where
  power : FPower := {}
  blk : Tab Blk 9 := Tab.fill 9 {}
  tick : TickSt := {}
  quad : Tab Quad 4 := Tab.fill 4 {}
  volt : Volt := {}
  slot : Tab Slot 96 := Tab.fill 96 {}
  branch : Tab Branch 32 := Tab.fill 32 {}
  disp : Disp := {}
  grid : Grid := {}
  cap : Capping := {}
  march : March := {}
  brk : Brk := {}
  bat : Battery := {}
  twin : Twin := {}
  hand : Handover := {}
  fcol : Collector := {}
  recf : Recf := {}
  aon : Faon := {}
  cfg : FConfig := {}
  bar : FBarrier := {}
  fans : Tab Fan 8 := Tab.fill 8 {}
  coldTurn : Option Nat := none
  free : Nat := 0
  deriving DecidableEq, Repr

end Sys2Proof
end

