-- ==== Sys2Proof/Machine/Wire.lean ====
section
/-! DEFINITION. What the commands of the table carry from outside: frames as received, measured codes, packets of the twin
link, outcomes of wires, media and boot. -/

namespace Sys2Proof

/-- The 25 codes of each of the 64 measurement channels over one tick (04 R99), channel c of quadrant q at row 16q + c. -/
abbrev Samples := Tab (Tab Int 25) 64

/-- What a power-up of region H finds: the strap HIF_SEL (18 R454) and, by block, the row groups that the self-test found bad (01 R34). -/
structure HostPowerUp where
  hifSel : Bool
  bad : List (Fin 32 × Nat)
  deriving DecidableEq, Repr

/-- What a power-up of the field side finds: the strap TWIN_ID (14 R354) and, by region and block, the row groups that the self-test found bad
(01 R34). -/
structure FieldPowerUp where
  twinId : Bool
  bad : List (Fin 8 × Fin 32 × Nat)
  deriving DecidableEq, Repr

/-- The block whose operation has ended, with the transceivers that failed the self-test of a PORT reset (01 R31), bit n for port n. -/
structure OpEnd where
  block : Fin 32
  fails : BitVec 24
  deriving DecidableEq, Repr

/-- A read of TB_LO: who reads, and the fine time of the cycle in which it does (03 R82). -/
structure TbRead where
  initiator : Initiator
  fine : Fin 10000
  deriving DecidableEq, Repr

/-- An uplink frame as the engine received it (05 R146): whether its delimiter was found, how far it began from its nominal
time, whether a code violation came inside it, and its bytes. -/
structure UplinkFrame where
  delimiter : Bool
  offsetNs : Int
  violation : Bool
  header : BitVec 8
  payload : BitVec 64
  crc : BitVec 16
  deriving DecidableEq, Repr

/-- A frame of the contract line as its receiver decoded it (09 R234, R235): sync found in time, no code violation or glitch, the bytes from
the header to the boundary that ends the frame, and how many bits follow the last whole byte. -/
structure CtRaw where
  sync : Bool
  clean : Bool
  bytes : List Byte
  loose : Fin 8
  deriving DecidableEq, Repr

/-- A part of the join snapshot (14 R369). -/
structure StatePart where
  slots : List (Fin 96 × Slot) := []
  branches : List (Fin 32 × Branch) := []
  disp : Option Disp := none
  grid : Option Grid := none
  cap : Option Capping := none
  march : Option March := none
  brk : Option Brk := none
  battery : Option Battery := none
  config : Option FConfig := none
  sources : List (Fin 256 × Source) := []
  schedule : List Sched := []
  last : Bool := false
  deriving DecidableEq, Repr

/-- A channel of the Channels section: CH_AVG, the MAX of a bus sense, VALID and STALE. -/
structure ChanIn where
  ch : Fin 64
  avg : BitVec 24
  max : Option (BitVec 16)
  valid : Bool
  stale : Bool
  deriving DecidableEq, Repr

/-- A branch of the Breakers section: trip latch, CMP, BRK_FB, TEST_PASS. -/
structure BrkIn where
  branch : Fin 32
  trip : Bool
  cmp : Bool
  fb : Bool
  test : Bool
  deriving DecidableEq, Repr

/-- A section of the input frame as the standby receives it (14 Table 14-3): 0 the header with TB and role epoch, 1 the channels, 2 the
breakers, 3 the uplinks, 4 the commands, 5 how many port events came to the queue of R362; the events themselves come as their own
commands. -/
structure InputSection where
  number : Fin 6
  tb : Option (BitVec 64) := none
  channels : List ChanIn := []
  breakers : List BrkIn := []
  uplinks : List (Fin 96 × BitVec 64) := []
  commands : List Request := []
  portEvents : Nat := 0
  deriving DecidableEq, Repr

/-- What the memory port and the copies gave during a boot (17 Table 17-7): steps 1, 2 and the copy of step 4. -/
structure BootOutcome where
  portOk : Bool
  headerOk : Bool
  copyOk : Bool
  deriving DecidableEq, Repr

/-- The answer to a descriptor fetch (18 R464, R465). Under QSPI the descriptors come from the shared area instead. -/
inductive Fetch where
  | failed
  | good (descriptors : List Request)
  deriving DecidableEq, Repr

/-- What a two-wire controller found before its transaction (20 R506, R508). -/
structure TwStart where
  sdaLow : Bool
  freed : Bool
  deriving DecidableEq, Repr

/-- How a controller transaction ended on the wire (20 R505, Table 19-14). -/
structure TwResult where
  outcome : Fin 7
  acked : Fin 33
  data : List Byte
  deriving DecidableEq, Repr

/-- A capture register that a read locks (21 R524). -/
inductive CapReg where
  | width | rise | fall | period
  deriving DecidableEq, Repr

/-- How a join step ends (14 R369). -/
inductive StepEnd where
  | done | failed
  deriving DecidableEq, Repr

/-- What a calibration stage measured (04 R115 to R117): the coefficients formed, the difference of the two shadow means and the
reading, both in 1/16 code. -/
structure CalResult where
  gain : Nat
  offset : Int
  diff : Int
  reading : Int
  deriving DecidableEq, Repr

end Sys2Proof
end

