-- ==== Sys2Proof/Syntax.lean ====
section
/-! DEFINITION. The commands of the block: one constructor per row of the operation and event table, with the operands that the
row's rule names. A command row of the command reference carries its descriptor. -/

namespace Sys2Proof

/-- The commands, in the order of the table. Each docstring gives the row's mnemonic and its rule. -/
inductive Instr where
  /-- VINH_POWER_ON (R63). -/
  | vinhPowerOn (up : HostPowerUp)
  /-- VINF_POWER_ON (R63). -/
  | vinfPowerOn (up : FieldPowerUp)
  /-- VINH_FALL (R56). -/
  | vinhFall
  /-- VINF_FALL (R59). -/
  | vinfFall
  /-- HRST_N_ASSERT (R63). -/
  | hrstNAssert
  /-- WAKE_N_FALL (R62). -/
  | wakeNFall
  /-- DOMAIN_STEP (R53). -/
  | domainStep (side : Side)
  /-- DOMAIN_FAIL (R55). -/
  | domainFail (side : Side)
  /-- HOST_WATCHDOG (R63). -/
  | hostWatchdog
  /-- HPC_LOCKSTEP_MISMATCH (R63). -/
  | hpcLockstepMismatch
  /-- QC_WATCHDOG (R78). -/
  | qcWatchdog (q : Fin 4)
  /-- QC_LOCKSTEP_MISMATCH (R63). -/
  | qcLockstepMismatch (q : Fin 4)
  /-- QC_RESTART (R276). -/
  | qcRestart (q : Fin 4)
  /-- CHIP_RESET (R63). -/
  | chipReset
  /-- FIELD_RESET (R64). -/
  | fieldReset
  /-- H_REGION_RESET (R44). -/
  | hRegionReset
  /-- WINTER_ENTRY (R67). -/
  | winterEntry
  /-- DEAD_MAN_RELEASE (R354). -/
  | deadManRelease
  /-- TICK_EDGE (R72). -/
  | tickEdge (samples : Samples) (marks : BitVec 8)
  /-- UPLINK_FRAME_RX (R146). -/
  | uplinkFrameRx (slot : Fin 96) (frame : UplinkFrame)
  /-- UPLINK_LOST (R147). -/
  | uplinkLost (slot : Fin 96)
  /-- DISPATCH_RUN (R153). -/
  | dispatchRun (cycles : Nat)
  /-- TICK_OVERRUN (R73). -/
  | tickOverrun
  /-- DOWNLINK_SEND (R135). -/
  | downlinkSend (echoDiffers : BitVec 8)
  /-- TBUS_PAD_FAULT (R148). -/
  | tbusPadFault (bus : Fin 8)
  /-- GUARD_PHASE (R393). -/
  | guardPhase (fcolDiff : Option Nat) (brkFb : BitVec 32)
  /-- OUTPUT_LAND_UPDATE (R72). -/
  | outputLandUpdate (engineFail : BitVec 12)
  /-- STAGING_COMMIT_DEADLINE (R77). -/
  | stagingCommitDeadline (late : BitVec 13)
  /-- TICK_SYNC_IN_PULSE (R93). -/
  | tickSyncInPulse (phase : Int)
  /-- TICK_SYNC_LOCKED (R94). -/
  | tickSyncLocked
  /-- TICK_SYNC_LOSS (R94). -/
  | tickSyncLoss
  /-- BARRIER_HEARTBEAT_RX (R25). -/
  | barrierHeartbeatRx (toHost : Bool) (arr : Arrival)
  /-- BARRIER_TIME_SYNC_RX (R25). -/
  | barrierTimeSyncRx (toHost : Bool) (arr : Arrival)
  /-- CMD_FORWARD_RX (R89). -/
  | cmdForwardRx (arr : Arrival)
  /-- CMD_COMPLETE_RX (R463). -/
  | cmdCompleteRx (arr : Arrival)
  /-- TELEMETRY_RX (R27). -/
  | telemetryRx (arr : Arrival)
  /-- BARRIER_EVENT_RX (R468). -/
  | barrierEventRx (arr : Arrival)
  /-- REC_SNAPSHOT_RX (R416). -/
  | recSnapshotRx (arr : Arrival)
  /-- TRACE_BLOCK_RX (R423). -/
  | traceBlockRx (arr : Arrival)
  /-- CONFIG_PUSH_RX (R490). -/
  | configPushRx (arr : Arrival)
  /-- FW_BLOCK_RX (R447). -/
  | fwBlockRx (arr : Arrival) (checkOk : Bool)
  /-- HOST_LOST (R24). -/
  | hostLost
  /-- FIELD_LOST (R24). -/
  | fieldLost
  /-- HOST_LOST_LIMIT (R46). -/
  | hostLostLimit
  /-- TRANSCEIVER_SELFTEST (R31). -/
  | transceiverSelftest (slot : Fin 96) (pass : Bool)
  /-- SPARE_SWAP (R32). -/
  | spareSwap (q : Fin 4) (block : Fin 7) (cell : Fin 24)
  /-- SRAM_ROW_MOVE (R34). -/
  | sramRowMove (region : Fin 8) (block : Fin 32) (row : Nat)
  /-- SRAM_SCRUB (R43). -/
  | sramScrub (region : Fin 8) (block : Fin 32) (addr : Nat) (errors : Fin 3)
  /-- BLOCK_OP_END (R37). -/
  | blockOpEnd (region : Fin 8) (done : OpEnd)
  /-- BLOCK_OP_TIMEOUT (R37). -/
  | blockOpTimeout (region : Fin 8) (block : Fin 32)
  /-- TBE_ENGINE_RESET_NEXT (R553). -/
  | tbeEngineResetNext (q : Fin 4)
  /-- BLOCK_RESET_REACTION (R395). -/
  | blockResetReaction
  /-- QUADRANT_ISOLATE (R400). -/
  | quadrantIsolate (q : Fin 4)
  /-- CAL_STAGE_END (R115). -/
  | calStageEnd (q : Fin 4) (spare : Fin 2) (result : CalResult)
  /-- OV_COMPARATOR_TRIP (R111). -/
  | ovComparatorTrip (pathB : Bool)
  /-- ANALOG_DOMAIN_LOSS (R114). -/
  | analogDomainLoss (high : Bool)
  /-- OV_SELFTEST (R112). -/
  | ovSelftest
  /-- OV_SELFTEST_GATE_END (R112). -/
  | ovSelftestGateEnd (pass : Bool)
  /-- STOP_LATCHED_CLEAR (R113). -/
  | stopLatchedClear
  /-- OV_LIMIT_WRITE (R113). -/
  | ovLimitWrite (value : Word)
  /-- LINE_ZC_EDGE (R123). -/
  | lineZcEdge (input : Fin 2) (stamp : Nat)
  /-- LINE_ZC_LOST (R123). -/
  | lineZcLost (input : Fin 2)
  /-- DISPATCH_BLIND (R161). -/
  | dispatchBlind
  /-- BLIND_EXIT (R161). -/
  | blindExit
  /-- POLE_IMBALANCE (R158). -/
  | poleImbalance
  /-- DISPATCH_SHORTFALL (R168). -/
  | dispatchShortfall
  /-- DISPATCH_SURPLUS (R168). -/
  | dispatchSurplus
  /-- WEAR_ACCUMULATE (R172). -/
  | wearAccumulate (q : Fin 4)
  /-- WEIGHT_BANK_COMMIT (R175). -/
  | weightBankCommit (q : Fin 4)
  /-- STRESS_PERSIST (R173). -/
  | stressPersist
  /-- INPUT_RECOVERY (R182). -/
  | inputRecovery
  /-- REENTRY_BATCH_START (R192). -/
  | reentryBatchStart
  /-- REENTRY_RELEASE (R192). -/
  | reentryRelease (slot : Fin 96)
  /-- HOST_FREQ_EXPIRY (R195). -/
  | hostFreqExpiry
  /-- CAP_EXPIRED (R202). -/
  | capExpired (delivered : Bool)
  /-- CAP_UNRELIEVED (R206). -/
  | capUnrelieved
  /-- THR_RELEASE (R208). -/
  | thrRelease
  /-- CAP_EPISODE_END (R211). -/
  | capEpisodeEnd
  /-- AUTO_RESTORE (R218). -/
  | autoRestore
  /-- CT_PRESENCE (R227). -/
  | ctPresence (slot : Fin 96)
  /-- CT_GLITCH (R225). -/
  | ctGlitch (slot : Fin 96)
  /-- CT_HARD_RESET_DECLARED (R264). -/
  | ctHardResetDeclared (slot : Fin 96)
  /-- CT_STUCK_LOW (R225). -/
  | ctStuckLow (slot : Fin 96)
  /-- CT_COLLISION (R231). -/
  | ctCollision (slot : Fin 96)
  /-- COLLISION_HOLDOFF_END (R231). -/
  | collisionHoldoffEnd (slot : Fin 96)
  /-- CT_FRAME_DISCARD (R235). -/
  | ctFrameDiscard (slot : Fin 96) (raw : CtRaw)
  /-- CT_ACK_RX (R237). -/
  | ctAckRx (slot : Fin 96) (id : Fin 8) (epoch : Fin 16)
  /-- CT_ACCEPT_RX (R272). -/
  | ctAcceptRx (slot : Fin 96) (id : Fin 8) (epoch : Fin 16)
  /-- CT_REJECT_RX (R252). -/
  | ctRejectRx (slot : Fin 96) (id : Fin 8) (epoch : Fin 16)
  /-- CT_READY_RX (R252). -/
  | ctReadyRx (slot : Fin 96) (id : Fin 8) (epoch : Fin 16)
  /-- CT_SOFT_RESET_RX (R262). -/
  | ctSoftResetRx (slot : Fin 96) (id : Fin 8) (epoch : Fin 16)
  /-- CT_STALE_RX (R268). -/
  | ctStaleRx (slot : Fin 96) (id : Fin 8) (epoch : Fin 16)
  /-- CT_CAPABILITY_RX (R252). -/
  | ctCapabilityRx (slot : Fin 96) (id : Fin 8) (epoch : Fin 16) (terms : Tab Word 6)
  /-- CT_IDENTITY_RX (R252). -/
  | ctIdentityRx (slot : Fin 96) (id : Fin 8) (epoch : Fin 16) (terms : Tab Word 6)
  /-- CT_REQUEST_RX (R253). -/
  | ctRequestRx (slot : Fin 96) (id : Fin 8) (epoch : Fin 16) (terms : Tab Word 3)
  /-- CT_STATUS_RX (R270). -/
  | ctStatusRx (slot : Fin 96) (id : Fin 8) (epoch : Fin 16) (terms : Tab Word 2)
  /-- CT_ALERT_RX (R270). -/
  | ctAlertRx (slot : Fin 96) (id : Fin 8) (epoch : Fin 16) (term : Word)
  /-- CT_SWAP_RX (R274). -/
  | ctSwapRx (slot : Fin 96) (id : Fin 8) (epoch : Fin 16) (term : Word)
  /-- CT_FRAME_TX_START (R230). -/
  | ctFrameTxStart (slot : Fin 96)
  /-- CT_FRAME_TX_END (R259). -/
  | ctFrameTxEnd (slot : Fin 96)
  /-- ACK_TIMER_EXPIRY (R261). -/
  | ackTimerExpiry (slot : Fin 96)
  /-- RESPONSE_TIMER_EXPIRY (R259). -/
  | responseTimerExpiry (slot : Fin 96)
  /-- SWAP_TIMER_EXPIRY (R273). -/
  | swapTimerExpiry (slot : Fin 96)
  /-- HARD_RESET_COMPLETION_EXPIRY (R266). -/
  | hardResetCompletionExpiry (slot : Fin 96)
  /-- HARD_RESET_GET_REPEAT (R266). -/
  | hardResetGetRepeat (slot : Fin 96)
  /-- STATUS_POLL_EXPIRY (R259). -/
  | statusPollExpiry (slot : Fin 96)
  /-- RETRY_HOLDOFF_END (R261). -/
  | retryHoldoffEnd (slot : Fin 96)
  /-- SWAP_FEED_READY (R538). -/
  | swapFeedReady (slot : Fin 96)
  /-- MOISTURE_CHECK_START (R242). -/
  | moistureCheckStart (slot : Fin 96)
  /-- MOISTURE_CHECK_END (R245). -/
  | moistureCheckEnd (slot : Fin 96) (samples : Tab Nat 8) (lineHigh : Bool)
  /-- MOISTURE_CHECK_VOID (R244). -/
  | moistureCheckVoid (slot : Fin 96)
  /-- QUALIFIED (R286). -/
  | qualified (slot : Fin 96)
  /-- BRANCH_QUALIFIED (R287). -/
  | branchQualified (branch : Fin 32)
  /-- BUS_UP (R285). -/
  | busUp
  /-- MARCH_START (R289). -/
  | marchStart
  /-- FIRST_START_RELEASE (R291). -/
  | firstStartRelease
  /-- MARCH_COMPLETE (R291). -/
  | marchComplete
  /-- MARCH_LATE (R291). -/
  | marchLate
  /-- SOFTSTART_END (R283). -/
  | softstartEnd (slot : Fin 96)
  /-- COLD_SOFT_RESET_BROADCAST (R296). -/
  | coldSoftResetBroadcast
  /-- FAST_TRIP (R301). -/
  | fastTrip (branch : Fin 32)
  /-- FT_SELFTEST (R303). -/
  | ftSelftest (branch : Fin 32) (pass : Bool)
  /-- INRUSH_END (R310). -/
  | inrushEnd (branch : Fin 32)
  /-- RECLOSE_DELAY_END (R312). -/
  | recloseDelayEnd (branch : Fin 32)
  /-- RECLOSE_RESET_END (R312). -/
  | recloseResetEnd (branch : Fin 32)
  /-- GATE_FB_FAIL_OPEN (R314). -/
  | gateFbFailOpen (branch : Fin 32)
  /-- GATE_FB_FAIL_CLOSE (R314). -/
  | gateFbFailClose (branch : Fin 32)
  /-- GATE_FB_LOST (R314). -/
  | gateFbLost (branch : Fin 32)
  /-- GATE_FB_STUCK (R314). -/
  | gateFbStuck (branch : Fin 32)
  /-- BRK_OPEN_CURRENT (R314). -/
  | brkOpenCurrent (branch : Fin 32)
  /-- TEST_PFW_END (R318). -/
  | testPfwEnd (group : Fin 8)
  /-- PROBE_START (R330). -/
  | probeStart
  /-- PROBE_PHASE_GET (R330). -/
  | probePhaseGet
  /-- PROBE_PHASE_MINUS (R330). -/
  | probePhaseMinus
  /-- PROBE_EVALUATE (R332). -/
  | probeEvaluate
  /-- PROBE_GAP_END (R330). -/
  | probeGapEnd
  /-- PROBE_HALT_CLEAR (R333). -/
  | probeHaltClear
  /-- PROBE_STALE_EXPIRY (R333). -/
  | probeStaleExpiry (slot : Fin 96)
  /-- EOD_POLL (R329). -/
  | eodPoll (slot : Fin 96)
  /-- LEARN_CHECK (R344). -/
  | learnCheck
  /-- LEARN_MAX_EXPIRY (R345). -/
  | learnMaxExpiry
  /-- CYCLE_OPEN_EXPIRY (R342). -/
  | cycleOpenExpiry (slot : Fin 96)
  /-- BAT_RECORD_WRITE (R348). -/
  | batRecordWrite (slot : Fin 96)
  /-- LEARNED_RECORD_APPLY (R349). -/
  | learnedRecordApply (slot : Fin 96)
  /-- TWIN_HEARTBEAT_RX (R360). -/
  | twinHeartbeatRx (lane : Fin 2) (beat : PeerBeat)
  /-- TWIN_INPUT_RX (R361). -/
  | twinInputRx (sec : InputSection)
  /-- TWIN_DIGEST_RX (R366). -/
  | twinDigestRx (digest : BitVec 64)
  /-- TWIN_PREPARE_RX (R376). -/
  | twinPrepareRx (msg : RoleMsg)
  /-- TWIN_PREP_ACK_RX (R376). -/
  | twinPrepAckRx (msg : RoleMsg)
  /-- TWIN_PREP_NAK_RX (R376). -/
  | twinPrepNakRx (msg : RoleMsg)
  /-- TWIN_COMMIT_RX (R376). -/
  | twinCommitRx (msg : RoleMsg)
  /-- TWIN_COMMIT_ACK_RX (R376). -/
  | twinCommitAckRx (msg : RoleMsg)
  /-- TWIN_SWAP_REQ_RX (R375). -/
  | twinSwapReqRx (msg : RoleMsg)
  /-- TWIN_STATE_RX (R369). -/
  | twinStateRx (part : StatePart)
  /-- TWIN_DRILL_RX (R380). -/
  | twinDrillRx (step : Fin 256) (port : Fin 256) (outcome : Bool)
  /-- TWIN_PACKET_DISCARD (R359). -/
  | twinPacketDiscard (lane : Fin 2)
  /-- LANE_UP (R359). -/
  | laneUp (lane : Fin 2)
  /-- LANE_DOWN (R359). -/
  | laneDown (lane : Fin 2)
  /-- ROLE_DECISION (R358). -/
  | roleDecision
  /-- FIELD_IMAGE_START (R447). -/
  | fieldImageStart (peerPulse : Bool)
  /-- HEARTBEAT_MISSED (R371). -/
  | heartbeatMissed
  /-- TWIN_TAKEOVER (R371). -/
  | twinTakeover
  /-- TWIN_PEER_LOST (R374). -/
  | twinPeerLost
  /-- PEER_ACTIVE_SAMPLE (R355). -/
  | peerActiveSample (asserted : Bool)
  /-- TWIN_INTERLOCK (R355). -/
  | twinInterlock
  /-- INPUT_SECTION_DEADLINE (R365). -/
  | inputSectionDeadline (sec : Fin 6)
  /-- JOIN_START (R370). -/
  | joinStart
  /-- JOIN_STEP_END (R369). -/
  | joinStepEnd (outcome : StepEnd)
  /-- HANDOVER_RELEASE (R376). -/
  | handoverRelease
  /-- HANDOVER_SWITCH_EDGE (R376). -/
  | handoverSwitchEdge (peerReleased : Bool)
  /-- HANDOVER_ASSERT_FAIL (R377). -/
  | handoverAssertFail
  /-- REVERT_EXPIRY (R379). -/
  | revertExpiry
  /-- DRILL_STEP (R380). -/
  | drillStep (outcome : Bool)
  /-- DRILL_HOLD_END (R381). -/
  | drillHoldEnd
  /-- SEVERE_RECOVERY (R392). -/
  | severeRecovery (src : Fin 256)
  /-- HOST_EVENT_JUDGE (R397). -/
  | hostEventJudge
  /-- REC_PAGE_FLUSH (R416). -/
  | recPageFlush
  /-- TRACE_FREEZE (R422). -/
  | traceFreeze
  /-- TRACE_CAPTURE_WRITTEN (R423). -/
  | traceCaptureWritten
  /-- REC_AUTO_THAW (R424). -/
  | recAutoThaw
  /-- HOST_BOOT (R443). -/
  | hostBoot (boot : BootOutcome)
  /-- TRIAL_CONFIRM (R444). -/
  | trialConfirm
  /-- FIELD_STALE_LOAD (R446). -/
  | fieldStaleLoad
  /-- NAND_OP_DONE (R437). -/
  | nandOpDone (result : NandResult)
  /-- SCRUB_PERIOD (R436). -/
  | scrubPeriod
  /-- LEARNED_COMPACTION (R449). -/
  | learnedCompaction
  /-- PCIE_LINK_DOWN (R456). -/
  | pcieLinkDown
  /-- PCIE_AER_ERROR (R456). -/
  | pcieAerError
  /-- PCIE_FLR (R456). -/
  | pcieFlr
  /-- QSPI_READ (R457). -/
  | qspiRead (addr : Nat) (words : Nat)
  /-- QSPI_QREAD (R457). -/
  | qspiQread (addr : Nat) (words : Nat)
  /-- QSPI_WRITE (R457). -/
  | qspiWrite (addr : Nat) (data : List Word)
  /-- QSPI_QWRITE (R457). -/
  | qspiQwrite (addr : Nat) (data : List Word)
  /-- QSPI_BAD_INSTRUCTION (R459). -/
  | qspiBadInstruction (instruction : BitVec 8)
  /-- QSPI_CS_ABORT (R459). -/
  | qspiCsAbort (addr : Nat) (data : List Word) (write : Bool)
  /-- SQ_TAIL_DOORBELL (R462). -/
  | sqTailDoorbell (queue : Fin 32) (v : Word)
  /-- CQ_HEAD_DOORBELL (R463). -/
  | cqHeadDoorbell (queue : Fin 32) (v : Word)
  /-- QCFG_WRITE (R461). -/
  | qcfgWrite (queue : Fin 32) (v : Word)
  /-- HIF_CTRL_WRITE (R466). -/
  | hifCtrlWrite (v : Word)
  /-- EVQ_HEAD_WRITE (R468). -/
  | evqHeadWrite (v : Word)
  /-- EVQ_CFG_READ (R460). -/
  | evqCfgRead
  /-- EVQ_OVF_CLEAR (R460). -/
  | evqOvfClear
  /-- VEC_PEND_CLEAR (R470). -/
  | vecPendClear (high : Bool) (v : Word)
  /-- MSIX_UNMASK (R470). -/
  | msixUnmask (vec : Fin 64)
  /-- VECTOR_SIGNAL (R470). -/
  | vectorSignal (vec : Fin 64)
  /-- DESCRIPTOR_FETCH (R464). -/
  | descriptorFetch (fetch : Fetch)
  /-- AUTH_CHECK_DONE (R474). -/
  | authCheckDone
  /-- AUTH_LOCKOUT_END (R475). -/
  | authLockoutEnd
  /-- COMMAND_FORWARD (R464). -/
  | commandForward
  /-- COMPLETION_WRITE (R463). -/
  | completionWrite (queue : Fin 32) (ok : Bool)
  /-- HELD_COMPLETION_WRITE (R466). -/
  | heldCompletionWrite (queue : Fin 32)
  /-- HELD_COMPLETION_DISCARD (R466). -/
  | heldCompletionDiscard
  /-- UNDEFINED_OPCODE (R476). -/
  | undefinedOpcode (r : Request)
  /-- TB_LO_READ (R82). -/
  | tbLoRead (read : TbRead)
  /-- HTB_LO_READ (R84). -/
  | htbLoRead
  /-- AUTH_NONCE_READ (R83). -/
  | authNonceRead
  /-- MODE_STATUS_READ (R48). -/
  | modeStatusRead
  /-- DISP_TIME_READ (R81). -/
  | dispTimeRead
  /-- BUS_CNT_READ (R149). -/
  | busCntRead (bus : Fin 8)
  /-- SLOT_ERR_READ (R149). -/
  | slotErrRead (slot : Fin 96)
  /-- CT_LINK_READ (R247). -/
  | ctLinkRead (slot : Fin 96)
  /-- CT_ERR_READ (R247). -/
  | ctErrRead (slot : Fin 96)
  /-- SESS_CNT_READ (R280). -/
  | sessCntRead (slot : Fin 96)
  /-- DISP_CNT_READ (R177). -/
  | dispCntRead
  /-- BAT_PCNT_READ (R351). -/
  | batPcntRead (q : Fin 4)
  /-- TWIN_CNT_READ (R384). -/
  | twinCntRead
  /-- STOR_STATUS_READ (R452). -/
  | storStatusRead
  /-- REC_STATUS_READ (R428). -/
  | recStatusRead
  /-- TR_CNT_READ (R428). -/
  | trCntRead
  /-- TW_STATUS_READ (R517). -/
  | twStatusRead (bus : Fin 6)
  /-- TSTAT_CLEAR (R530). -/
  | tstatClear (ch : Fin 24) (mask : Word)
  /-- TIMER_SNAP_WRITE (R526). -/
  | timerSnapWrite (block : Fin 5) (pairs : BitVec 4)
  /-- TIMER_COUNT_READ (R525). -/
  | timerCountRead (ch : Fin 24) (opPath : Bool)
  /-- CAPTURE_READ_LOCK (R524). -/
  | captureReadLock (ch : Fin 24) (reg : CapReg)
  /-- CURVE_POINT_WRITE (R321). -/
  | curvePointWrite (curve : Fin 8) (point : Fin 8) (isT : Bool) (v : Word)
  /-- REGISTER_WRITE (R496). -/
  | registerWrite (window : Bool) (addr : BitVec 16) (value : Word) (mask : Word)
  /-- TW_TARGET_ADDRESSED (R509). -/
  | twTargetAddressed (bus : Fin 2) (addr : BitVec 7) (read : Bool)
  /-- TW_TARGET_WRITE_COMMIT (R510). -/
  | twTargetWriteCommit (bus : Fin 2) (bytes : List Byte)
  /-- TW_PROTO_ERR (R511). -/
  | twProtoErr (bus : Fin 2) (pecBad : Bool)
  /-- TW_TARGET_TIMEOUT (R513). -/
  | twTargetTimeout (bus : Fin 2)
  /-- TW_CONTROLLER_TIMEOUT (R504). -/
  | twControllerTimeout (bus : Fin 6)
  /-- TW_ARBITRATION_LOST (R507). -/
  | twArbitrationLost (bus : Fin 6) (inAddr : Bool) (winning : BitVec 8)
  /-- TW_TRANSACTION_START (R506). -/
  | twTransactionStart (bus : Fin 6) (found : TwStart)
  /-- TW_TRANSACTION_END (R505). -/
  | twTransactionEnd (bus : Fin 6) (result : TwResult)
  /-- TW_STUCK_RETRY (R508). -/
  | twStuckRetry (bus : Fin 6) (stillLow : Bool)
  /-- LEGACY_POLL (R515). -/
  | legacyPoll (q : Fin 4)
  /-- TIMER_COMPARE_MATCH (R520). -/
  | timerCompareMatch (ch : Fin 24) (i : Fin 4)
  /-- TIMER_CAPTURE (R523). -/
  | timerCapture (ch : Fin 24) (rising : Bool) (count : Word)
  /-- TIMER_PWM_PERIOD (R522). -/
  | timerPwmPeriod (ch : Fin 24)
  /-- FAN_CONTROL (R527). -/
  | fanControl (q : Fin 4)
  /-- IDENTIFY (R5). -/
  | identify (r : Request)
  /-- RESET (R483). -/
  | reset (r : Request)
  /-- SLEEP (R60). -/
  | sleep (r : Request)
  /-- SET_WALL_CLOCK (R484). -/
  | setWallClock (r : Request)
  /-- ECHO (R482). -/
  | echo (r : Request)
  /-- CFG_LOAD (R491). -/
  | cfgLoad (r : Request)
  /-- CFG_SAVE (R489). -/
  | cfgSave (r : Request)
  /-- CFG_READ (R489). -/
  | cfgRead (r : Request)
  /-- CFG_INFO (R489). -/
  | cfgInfo (r : Request)
  /-- SET_VSET (R187). -/
  | setVset (r : Request)
  /-- SET_LOOP (R179). -/
  | setLoop (r : Request)
  /-- SET_SHARING (R174). -/
  | setSharing (r : Request)
  /-- SET_UNIT_WEIGHT (R178). -/
  | setUnitWeight (r : Request)
  /-- EXCLUDE_UNIT (R163). -/
  | excludeUnit (r : Request)
  /-- GET_UNIT (R178). -/
  | getUnit (r : Request)
  /-- GET_WEAR (R173). -/
  | getWear (r : Request)
  /-- GET_DISPATCH (R178). -/
  | getDispatch (r : Request)
  /-- SET_WINDOW (R187). -/
  | setWindow (r : Request)
  /-- SET_HOLDUP (R201). -/
  | setHoldup (r : Request)
  /-- SET_REENTRY (R193). -/
  | setReentry (r : Request)
  /-- SET_WARN_LEAD (R191). -/
  | setWarnLead (r : Request)
  /-- SET_CHARGE (R189). -/
  | setCharge (r : Request)
  /-- SET_RAMP (R194). -/
  | setRamp (r : Request)
  /-- SET_FREQ_RESP (R197). -/
  | setFreqResp (r : Request)
  /-- SET_FREQ_SRC (R195). -/
  | setFreqSrc (r : Request)
  /-- PUT_HOST_FREQ (R195). -/
  | putHostFreq (r : Request)
  /-- GET_HOLDUP (R200). -/
  | getHoldup (r : Request)
  /-- GET_GRID (R200). -/
  | getGrid (r : Request)
  /-- GET_RESERVE (R188). -/
  | getReserve (r : Request)
  /-- SET_CAP (R202). -/
  | setCap (r : Request)
  /-- SET_CAP_POLICY (R221). -/
  | setCapPolicy (r : Request)
  /-- SET_BRANCH_CAP (R222). -/
  | setBranchCap (r : Request)
  /-- RESTORE_BRANCH (R217). -/
  | restoreBranch (r : Request)
  /-- GET_CAP (R221). -/
  | getCap (r : Request)
  /-- GET_BUDGET (R207). -/
  | getBudget (r : Request)
  /-- SET_SLOT_POLICY (R256). -/
  | setSlotPolicy (r : Request)
  /-- RESET_SLOT (R269). -/
  | resetSlot (r : Request)
  /-- SWAP_AUX (R271). -/
  | swapAux (r : Request)
  /-- ENABLE_SLOT (R282). -/
  | enableSlot (r : Request)
  /-- GET_SLOT (R282). -/
  | getSlot (r : Request)
  /-- GET_MODULE_DATA (R282). -/
  | getModuleData (r : Request)
  /-- SET_BRANCH (R300). -/
  | setBranch (r : Request)
  /-- SET_CURVE_POINT (R304). -/
  | setCurvePoint (r : Request)
  /-- CLOSE_BRANCH (R308). -/
  | closeBranch (r : Request)
  /-- OPEN_BRANCH (R322). -/
  | openBranch (r : Request)
  /-- CLEAR_LOCKOUT (R312). -/
  | clearLockout (r : Request)
  /-- TEST_PFW (R318). -/
  | testPfw (r : Request)
  /-- GET_BRANCH (R322). -/
  | getBranch (r : Request)
  /-- GET_ACC (R306). -/
  | getAcc (r : Request)
  /-- SET_PROBE (R330). -/
  | setProbe (r : Request)
  /-- SET_COUNTING (R326). -/
  | setCounting (r : Request)
  /-- SET_BAT_WARN (R346). -/
  | setBatWarn (r : Request)
  /-- SET_LEARNING (R344). -/
  | setLearning (r : Request)
  /-- START_LEARN (R344). -/
  | startLearn (r : Request)
  /-- ABORT_LEARN (R345). -/
  | abortLearn (r : Request)
  /-- SET_SOC (R352). -/
  | setSoc (r : Request)
  /-- SET_CAPACITY (R352). -/
  | setCapacity (r : Request)
  /-- GET_BAT (R352). -/
  | getBat (r : Request)
  /-- GET_BAT_VALUE (R352). -/
  | getBatValue (r : Request)
  /-- GET_LEARN (R352). -/
  | getLearn (r : Request)
  /-- HANDOVER (R375). -/
  | handover (r : Request)
  /-- SET_REVERT (R379). -/
  | setRevert (r : Request)
  /-- DRILL (R380). -/
  | drill (r : Request)
  /-- LEAVE_STEP (R385). -/
  | leaveStep (r : Request)
  /-- JOIN (R369). -/
  | join (r : Request)
  /-- COLD_SWAP (R383). -/
  | coldSwap (r : Request)
  /-- GET_TWIN (R385). -/
  | getTwin (r : Request)
  /-- ACK_FAULT (R391). -/
  | ackFault (r : Request)
  /-- SET_SOURCE (R408). -/
  | setSource (r : Request)
  /-- GET_SOURCE (R407). -/
  | getSource (r : Request)
  /-- GET_FAULT (R407). -/
  | getFault (r : Request)
  /-- INJECT_EVENT (R409). -/
  | injectEvent (r : Request)
  /-- CLEAR_RECOVERY (R407). -/
  | clearRecovery (r : Request)
  /-- REC_SET_TRIGGER (R411). -/
  | recSetTrigger (r : Request)
  /-- REC_SET_LIST (R413). -/
  | recSetList (r : Request)
  /-- REC_SET_TRACE (R420). -/
  | recSetTrace (r : Request)
  /-- REC_SET_LEVEL (R421). -/
  | recSetLevel (r : Request)
  /-- REC_TRIGGER (R412). -/
  | recTrigger (r : Request)
  /-- REC_FREEZE (R424). -/
  | recFreeze (r : Request)
  /-- REC_THAW (R424). -/
  | recThaw (r : Request)
  /-- REC_FLUSH (R416). -/
  | recFlush (r : Request)
  /-- REC_CLEAR (R426). -/
  | recClear (r : Request)
  /-- REC_SET_FLUSH (R416). -/
  | recSetFlush (r : Request)
  /-- REC_READ (R429). -/
  | recRead (r : Request)
  /-- REC_READ_TRACE (R429). -/
  | recReadTrace (r : Request)
  /-- REC_READ_LEDGER (R425). -/
  | recReadLedger (r : Request)
  /-- REC_STATUS (R429). -/
  | recStatus (r : Request)
  /-- IMG_STAGE (R450). -/
  | imgStage (r : Request)
  /-- IMG_COMMIT (R450). -/
  | imgCommit (r : Request)
  /-- STAGE_CANCEL (R453). -/
  | stageCancel (r : Request)
  /-- SET_UPDATE_MODE (R442). -/
  | setUpdateMode (r : Request)
  /-- UPDATE_FIELD (R451). -/
  | updateField (r : Request)
  /-- SET_ROLLBACK_FLOOR (R453). -/
  | setRollbackFloor (r : Request)
  /-- STOR_FORMAT (R438). -/
  | storFormat (r : Request)
  /-- STOR_SCRUB_NOW (R436). -/
  | storScrubNow (r : Request)
  /-- GET_UPDATE (R453). -/
  | getUpdate (r : Request)
  /-- GET_STORAGE (R453). -/
  | getStorage (r : Request)
  /-- SEC_SET_AUTH_KEY (R493). -/
  | secSetAuthKey (r : Request)
  /-- SEC_CLEAR_AUTH_KEY (R493). -/
  | secClearAuthKey (r : Request)
  /-- SEC_ADD_FW_KEY (R493). -/
  | secAddFwKey (r : Request)
  /-- SEC_REVOKE_FW_KEY (R493). -/
  | secRevokeFwKey (r : Request)
  /-- SEC_GET_IDENTITY (R493). -/
  | secGetIdentity (r : Request)
  /-- SEC_ATTEST (R494). -/
  | secAttest (r : Request)
  /-- SEC_RANDOM (R493). -/
  | secRandom (r : Request)
  /-- SEC_GET_KEYS (R493). -/
  | secGetKeys (r : Request)
  /-- OP_WRITE (R496). -/
  | opWrite (r : Request)
  /-- BLOCK_OP (R497). -/
  | blockOp (r : Request)
  /-- OP_READ (R496). -/
  | opRead (r : Request)
  /-- GET_BLOCK (R495). -/
  | getBlock (r : Request)
  /-- GET_DIAG (R495). -/
  | getDiag (r : Request)
  /-- TMR_SET (R498). -/
  | tmrSet (r : Request)
  /-- TMR_COMPARE (R499). -/
  | tmrCompare (r : Request)
  /-- TMR_SNAPSHOT (R526). -/
  | tmrSnapshot (r : Request)
  /-- TMR_GET (R498). -/
  | tmrGet (r : Request)
  /-- TW_XFER (R501). -/
  | twXfer (r : Request)
  /-- TW_SET_BUS (R500). -/
  | twSetBus (r : Request)
  /-- TW_GET_BUS (R500). -/
  | twGetBus (r : Request)
  /-- ANALOG_DOMAIN_RETURN (R101). -/
  | analogDomainReturn (high : Bool)
  /-- CT_LINE_RELEASED (R266). -/
  | ctLineReleased (slot : Fin 96)
  /-- TW_TARGET_STOP (R514). -/
  | twTargetStop (bus : Fin 2) (bytesRead : Nat)
  deriving DecidableEq, Repr

end Sys2Proof
end

