-- ==== Sys2Proof/Machine/Bits.lean ====
section
/-! DEFINITION. Numbers and bits: saturation, rounding, fields of words, byte order, checksums. -/

namespace Sys2Proof

/-- `n` held at the largest value of `w` bits. -/
def satN (w n : Nat) : Nat := min n (2 ^ w - 1)

/-- `x` held between `lo` and `hi`. -/
def clampI (lo hi x : Int) : Int := max lo (min hi x)

/-- `x` held in the range of a signed `w`-bit number. -/
def satI (w : Nat) (x : Int) : Int := clampI (-(2 ^ (w - 1))) (2 ^ (w - 1) - 1) x

/-- `a / b` rounded to nearest, ties away from zero; 0 for `b = 0`. -/
def roundDiv (a : Int) (b : Nat) : Int :=
  if b = 0 then 0
  else if a < 0 then -(((-a).toNat * 2 + b) / (2 * b) : Nat) else ((a.toNat * 2 + b) / (2 * b) : Nat)

/-- `a / b` rounded toward zero; 0 for `b = 0`. -/
def truncDiv (a : Int) (b : Nat) : Int := a.tdiv b

/-- A Bool as a bit. -/
def bit (b : Bool) : Nat := if b then 1 else 0

/-- A signed value in `w` bits, two's complement. -/
def enc (w : Nat) (x : Int) : Nat := (BitVec.ofInt w x).toNat

/-- The signed value of the low `w` bits of `n`. -/
def sext (w n : Nat) : Int := (BitVec.ofNat w n).toInt

/-- A 32-bit word of fields, each a value at a bit position. -/
def pack (fs : List (Nat × Nat)) : Word := BitVec.ofNat 32 (fs.foldl (fun a f => a + f.2 * 2 ^ f.1) 0)

/-- Bits `hi` to `lo` of a word. -/
def bits (hi lo : Nat) (w : Word) : Nat := w.toNat / 2 ^ lo % 2 ^ (hi + 1 - lo)

/-- `w` bytes of `n`, little-endian (00_scope R12). -/
def leBytes (w n : Nat) : List Byte := (List.range w).map fun i => BitVec.ofNat 8 (n / 256 ^ i)

/-- The number that bytes spell, little-endian. -/
def ofLe : List Byte → Nat
  | [] => 0
  | b :: bs => b.toNat + 256 * ofLe bs

/-- `n` bytes from offset `o`, padded with 0 past the end. -/
def slice (o n : Nat) (bs : List Byte) : List Byte :=
  let s := (bs.drop o).take n
  s ++ List.replicate (n - s.length) 0

/-- The `w`-byte little-endian number at offset `o`. -/
def rd (w o : Nat) (bs : List Byte) : Nat := ofLe (slice o w bs)

/-- Big-endian bytes of a number. -/
def beBytes (w n : Nat) : List Byte := (leBytes w n).reverse

/-- `new` written over `bs` from offset `o`, growing it with zeros as needed. -/
def overlay (o : Nat) (new bs : List Byte) : List Byte :=
  slice 0 o bs ++ new ++ bs.drop (o + new.length)

/-- One byte into CRC-16, polynomial 0x1021, most significant bit first (05 R129). -/
def crc16Byte (crc b : Nat) : Nat :=
  (List.range 8).foldl
    (fun c i => if (c / 0x8000 % 2 == 1) != (b.testBit (7 - i)) then Nat.xor (c * 2 % 0x10000) 0x1021 else c * 2 % 0x10000) crc

/-- CRC-16 of bytes with a start value. -/
def crc16 (init : Nat) (bs : List Nat) : Nat := bs.foldl crc16Byte init

/-- One byte into CRC-32C, polynomial 0x1EDC6F41, reflected. -/
def crc32cByte (crc : Nat) (b : Byte) : Nat :=
  (List.range 8).foldl (fun c _ => if c % 2 = 1 then Nat.xor (c / 2) 0x82F63B78 else c / 2) (Nat.xor crc b.toNat)

/-- CRC-32C of bytes. -/
def crc32c (bs : List Byte) : Nat := Nat.xor (bs.foldl crc32cByte 0xFFFFFFFF) 0xFFFFFFFF

/-- One byte into the SMBus PEC, CRC-8 with polynomial 0x07 (20 R503). -/
def crc8Byte (crc : Nat) (b : Byte) : Nat :=
  (List.range 8).foldl (fun c _ => if c / 128 % 2 = 1 then Nat.xor (c * 2 % 256) 0x07 else c * 2 % 256) (Nat.xor crc b.toNat)

/-- The PEC of a transaction's bytes. -/
def pec (bs : List Byte) : Nat := bs.foldl crc8Byte 0

/-- A memory in canonical form: addresses strictly rising, and no cell that reads 0. -/
def memWf : List Host.Cell → Bool
  | [] => true
  | (_, v) :: [] => v != 0
  | (a, v) :: (b, w) :: rest => v != 0 && a < b && memWf ((b, w) :: rest)

/-- The byte at an address; an address that is not listed reads 0. -/
def memRead : List Host.Cell → Nat → Byte
  | [], _ => 0
  | (b, v) :: rest, a => if a = b then v else memRead rest a

/-- One byte written, keeping the canonical form: a byte of 0 is not listed. -/
def memWrite : List Host.Cell → Nat → Byte → List Host.Cell
  | [], a, v => if v = 0 then [] else [(a, v)]
  | (b, w) :: rest, a, v =>
    if a < b then (if v = 0 then (b, w) :: rest else (a, v) :: (b, w) :: rest)
    else if a = b then (if v = 0 then rest else (a, v) :: rest)
    else (b, w) :: memWrite rest a v

/-- Bytes written from an address up. -/
def memWriteAll (m : List Host.Cell) (a : Nat) : List Byte → List Host.Cell
  | [] => m
  | v :: vs => memWriteAll (memWrite m a v) (a + 1) vs

/-- `n` bytes read from an address up. -/
def memReadAll (m : List Host.Cell) (a n : Nat) : List Byte := (List.range n).map fun i => memRead m (a + i)

end Sys2Proof
end

