-- ==== Sys2Proof/Machine/Hash.lean ====
section
/-! DEFINITION. The hash functions that the spec names and does not spell out: SHA-256 (FIPS 180-4) and HMAC-SHA-256 (FIPS 198-1), for
18_host R474, 07 R193, 17 R441 and R446. PRESUMED: the algorithms come from those standards, outside the spec. -/

namespace Sys2Proof.Hash

/-- The whole part of the `k`-th root of `n`, bit by bit from 2^35 down. -/
def root (k n : Nat) : Nat :=
  (List.range 36).foldr (fun b x => if (x + 2 ^ b) ^ k ≤ n then x + 2 ^ b else x) 0

/-- The first 32 bits of the fraction of the `k`-th root of `p`. -/
def rootFraction (k p : Nat) : Word := BitVec.ofNat 32 (root k (p * 2 ^ (32 * k)))

/-- The first 64 primes. -/
def primes : List Nat := (List.range 312).filter fun n => 2 ≤ n && (List.range n).all fun d => d < 2 || n % d != 0

/-- The working words of SHA-256, a to h: they start from the square roots of the first eight primes. -/
def start : List Word := (primes.take 8).map (rootFraction 2)

/-- The constant of each round: the cube roots of the first 64 primes. -/
def roundConstants : List Word := primes.map (rootFraction 3)

/-- The exclusive or of a word turned right by each of the given distances. -/
def turns (ds : List Nat) (x : Word) : Word := ds.foldl (fun y d => y ^^^ x.rotateRight d) 0

/-- The message schedule grows by one word: the words so far, newest first. -/
def extend (ws : List Word) : List Word :=
  let back (n : Nat) : Word := ws.getD (n - 1) 0
  (back 16 + back 7 + (turns [7, 18] (back 15) ^^^ back 15 >>> 3) + (turns [17, 19] (back 2) ^^^ back 2 >>> 10)) :: ws

/-- The schedule of a block: its 16 words and the 48 that follow from them. -/
def schedule (bs : List Byte) : List Word :=
  let first := (List.range 16).foldl (fun ws i => BitVec.ofNat 32 (ofLe (slice (4 * i) 4 bs).reverse) :: ws) []
  ((List.range 48).foldl (fun ws _ => extend ws) first).reverse

/-- One round over the working words with the sum of its constant and its schedule word. -/
def round (x : List Word) (kw : Word) : List Word :=
  let w (i : Nat) : Word := x.getD i 0
  let choice := w 6 ^^^ (w 4 &&& (w 5 ^^^ w 6))
  let majority := (w 0 &&& (w 1 ||| w 2)) ||| (w 1 &&& w 2)
  let add := kw + w 7 + choice + turns [6, 11, 25] (w 4)
  (add + majority + turns [2, 13, 22] (w 0)) :: (x.take 3 ++ (w 3 + add) :: (x.drop 4).take 3)

/-- The compression of a block of 64 bytes into the working words. -/
def compress (x : List Word) (bs : List Byte) : List Word :=
  List.zipWith (· + ·) x ((List.zipWith (· + ·) roundConstants (schedule bs)).foldl round x)

/-- A message padded to whole blocks of 64 bytes: 80H, zeros, the length in bits most significant byte first. -/
def padded (m : List Byte) : List Byte :=
  m ++ 0x80 :: (List.replicate ((119 - m.length % 64) % 64) 0 ++ (leBytes 8 (8 * m.length)).reverse)

/-- SHA-256, 32 bytes. -/
def sha256 (m : List Byte) : List Byte :=
  let p := padded m
  ((List.range (p.length / 64)).foldl (fun x i => compress x (slice (64 * i) 64 p)) start).flatMap fun w => (leBytes 4 w.toNat).reverse

/-- HMAC-SHA-256, 32 bytes: key, message. -/
def hmac (key m : List Byte) : List Byte :=
  let k := slice 0 64 (if 64 < key.length then sha256 key else key)
  sha256 (k.map (· ^^^ 0x5C) ++ sha256 (k.map (· ^^^ 0x36) ++ m))

/-- The token of a message (18 R474): the first 16 bytes of its HMAC, as the descriptor holds them. -/
def token (key m : List Byte) : BitVec 128 := BitVec.ofNat 128 (ofLe ((hmac key m).take 16))

end Sys2Proof.Hash
end

