-- ==== Sys2Proof/Config.lean ====
section
/-! DEFINITION. What the spec leaves open or fixes per part: opaque constants, so that no proof can lean on a value. -/

namespace Sys2Proof.Config

/-- Whether an ECDSA P-256 signature (public key, signature, message) holds (17_storage R441). -/
opaque ecdsaOk : List Byte → List Byte → List Byte → Bool

/-- The ECDSA signature that the identity key gives a message (19 R494), 64 bytes. -/
opaque ecdsaSign : List Byte → List Byte

/-- The device identity public key, X then Y (19 R493), fixed per part. -/
opaque identityKey : List Byte

/-- The device identity public key of the peer (07 R193), fixed per pair. -/
opaque peerKey : List Byte

/-- The n-th draw of the random number generator: a byte (19 R493, 18 R475). -/
opaque random : Nat → Byte

/-- Whether the n-th health test of the generator passes (19 R493). -/
opaque rngHealthy : Nat → Bool

/-- VERSION of a block's hardware, by region and block (01 Table 01-4); the spec gives no value. -/
opaque blkVersion : Nat → Nat → BitVec 8

/-- Spare row groups of a memory block in total, by region and block: about 2 % of the block (01 R18, R42). -/
opaque rowGroups : Nat → Nat → BitVec 16

/-- The row group that holds a word of a memory block: region, block, address (01 R34, R42); the spec gives no size of a row group. -/
opaque rowOf : Nat → Nat → Nat → Nat

/-- Factory coefficients of a measurement cell: quadrant, cell 0 to 17 (04 R100, R116); the spec gives no values. -/
opaque factoryGain : Nat → Nat → BitVec 16

/-- Factory offset of a measurement cell. -/
opaque factoryOffset : Nat → Nat → BitVec 16

/-- The load header of a field load, 512 bytes, from the image that is loaded (17 R447); the spec gives no layout. -/
opaque loadHeader : List Byte → List Byte

/-- The 32 bytes of a clear-ledger entry from its fields (16_recorder R425); the spec lists the fields and gives no layout. -/
opaque ledgerLayout : List Nat → List Byte

/-- The bytes of the output record of the digest from what it covers (14 R366); the spec gives no layout. -/
opaque outputRecord : List Nat → List Byte

/-- The bytes of the state record of the digest. -/
opaque stateRecord : List Nat → List Byte

/-- A free value of width 64: the n-th value that the spec leaves open. -/
opaque freeValue : Nat → BitVec 64

end Sys2Proof.Config
end

