-- ==== Sys2Proof/Machine/Tables.lean ====
section
/-! DEFINITION. The fixed tables of the fault collector (15_faults Tables 15-2 to 15-4) and the sources as they stand at
reset. -/

namespace Sys2Proof

/-- Scope of a source (15 R387): computed from the in-step input frame, local field hardware, or judged by FCM. -/
inductive Scope where
  | s | l | h
  deriving DecidableEq, Repr

/-- SCOPE as SRC_CFG codes it (Table 15-12). -/
def Scope.code : Scope → Nat
  | .s => 0 | .l => 1 | .h => 2

/-- The fixed row of a source: class, default reactions, FAULT_N flag and scope. -/
structure SrcRow where
  cls : Nat
  ev : Nat
  sv : Nat
  flt : Bool
  scope : Scope
  deriving DecidableEq, Repr

/-- Table 15-2. -/
def srcRowLow : Nat → Option SrcRow
  | 0 => some ⟨2, 0, 0, true, .h⟩
  | 1 => some ⟨2, 0, 0, true, .h⟩
  | 2 => some ⟨0, 0, 0, false, .h⟩
  | 3 => some ⟨2, 2, 3, true, .h⟩
  | 4 => some ⟨2, 0, 0, true, .h⟩
  | 5 => some ⟨1, 0, 1, false, .h⟩
  | 6 => some ⟨1, 0, 1, false, .h⟩
  | 7 => some ⟨2, 0, 1, true, .h⟩
  | 8 => some ⟨2, 0, 0, true, .h⟩
  | 9 => some ⟨2, 3, 3, true, .h⟩
  | 10 => some ⟨0, 0, 0, false, .h⟩
  | 11 => some ⟨1, 0, 1, false, .h⟩
  | 32 => some ⟨3, 4, 4, true, .l⟩
  | 33 => some ⟨0, 0, 0, false, .l⟩
  | 34 => some ⟨3, 3, 3, true, .l⟩
  | 35 => some ⟨2, 0, 3, true, .l⟩
  | 36 => some ⟨3, 3, 3, true, .l⟩
  | 37 => some ⟨1, 0, 1, false, .l⟩
  | 38 => some ⟨1, 0, 1, false, .l⟩
  | 39 => some ⟨1, 0, 0, false, .l⟩
  | 40 => some ⟨2, 0, 0, false, .l⟩
  | 41 => some ⟨1, 0, 0, false, .l⟩
  | 42 => some ⟨2, 0, 0, false, .l⟩
  | 43 => some ⟨2, 0, 1, true, .s⟩
  | 44 => some ⟨0, 0, 0, false, .l⟩
  | 45 => some ⟨3, 0, 0, true, .l⟩
  | 46 => some ⟨2, 0, 1, true, .s⟩
  | 47 => some ⟨3, 0, 0, true, .l⟩
  | 48 => some ⟨3, 3, 3, true, .l⟩
  | _ => none

/-- Table 15-3: the 32 sources of a quadrant, by offset. -/
def srcRowQuad : Nat → Option SrcRow
  | 0 => some ⟨2, 0, 2, false, .l⟩
  | 1 => some ⟨2, 0, 2, false, .l⟩
  | 2 => some ⟨0, 0, 0, false, .l⟩
  | 3 => some ⟨2, 2, 2, false, .l⟩
  | 4 => some ⟨2, 0, 0, true, .l⟩
  | 5 => some ⟨0, 0, 0, false, .l⟩
  | 6 => some ⟨2, 0, 1, true, .s⟩
  | 7 => some ⟨0, 0, 0, false, .l⟩
  | 8 => some ⟨1, 0, 1, false, .l⟩
  | 9 => some ⟨2, 0, 1, false, .l⟩
  | 10 => some ⟨1, 0, 0, false, .s⟩
  | 11 => some ⟨0, 0, 0, false, .s⟩
  | 12 => some ⟨1, 0, 1, false, .s⟩
  | 13 => some ⟨1, 0, 1, false, .l⟩
  | 14 => some ⟨2, 0, 0, true, .l⟩
  | 15 => some ⟨0, 0, 0, false, .s⟩
  | 16 => some ⟨1, 0, 0, false, .s⟩
  | 17 => some ⟨1, 0, 0, false, .s⟩
  | 18 => some ⟨2, 0, 0, false, .s⟩
  | 19 => some ⟨1, 0, 1, false, .s⟩
  | 20 => some ⟨2, 0, 0, true, .s⟩
  | 21 => some ⟨0, 0, 0, false, .s⟩
  | 22 => some ⟨0, 0, 0, false, .s⟩
  | 23 => some ⟨1, 0, 0, false, .s⟩
  | 24 => some ⟨1, 0, 1, false, .s⟩
  | 25 => some ⟨0, 0, 0, false, .s⟩
  | 26 => some ⟨2, 0, 0, false, .s⟩
  | 27 => some ⟨3, 0, 0, true, .s⟩
  | 28 => some ⟨2, 0, 0, true, .s⟩
  | 29 => some ⟨2, 0, 0, true, .s⟩
  | 30 => some ⟨2, 0, 0, true, .s⟩
  | 31 => some ⟨2, 0, 0, true, .l⟩
  | _ => none

/-- Table 15-4. -/
def srcRowHigh : Nat → Option SrcRow
  | 192 => some ⟨2, 0, 0, true, .s⟩
  | 193 => some ⟨1, 0, 0, false, .s⟩
  | 194 => some ⟨1, 0, 0, false, .s⟩
  | 195 => some ⟨1, 0, 0, false, .s⟩
  | 196 => some ⟨1, 0, 0, false, .s⟩
  | 197 => some ⟨0, 0, 0, false, .s⟩
  | 198 => some ⟨1, 0, 0, false, .s⟩
  | 199 => some ⟨1, 0, 0, false, .s⟩
  | 200 => some ⟨0, 0, 0, false, .s⟩
  | 201 => some ⟨0, 0, 0, false, .s⟩
  | 202 => some ⟨1, 0, 0, false, .s⟩
  | 203 => some ⟨1, 0, 0, false, .s⟩
  | 204 => some ⟨2, 0, 0, true, .s⟩
  | 205 => some ⟨1, 0, 0, false, .s⟩
  | 206 => some ⟨1, 0, 0, false, .s⟩
  | 207 => some ⟨0, 0, 0, false, .s⟩
  | 208 => some ⟨1, 0, 0, false, .s⟩
  | 209 => some ⟨1, 0, 0, false, .s⟩
  | 210 => some ⟨0, 0, 0, false, .s⟩
  | 211 => some ⟨0, 0, 0, false, .s⟩
  | 212 => some ⟨1, 0, 1, false, .l⟩
  | 224 => some ⟨1, 0, 0, false, .l⟩
  | 225 => some ⟨2, 0, 0, true, .l⟩
  | 226 => some ⟨3, 0, 0, true, .l⟩
  | 227 => some ⟨1, 0, 1, false, .l⟩
  | 228 => some ⟨1, 0, 0, false, .l⟩
  | 229 => some ⟨0, 0, 0, false, .l⟩
  | 230 => some ⟨2, 0, 0, false, .l⟩
  | 231 => some ⟨2, 0, 0, true, .l⟩
  | 232 => some ⟨2, 0, 0, false, .l⟩
  | 233 => some ⟨1, 0, 0, false, .l⟩
  | 234 => some ⟨0, 0, 0, false, .l⟩
  | 240 => some ⟨1, 0, 0, false, .h⟩
  | 241 => some ⟨0, 0, 0, false, .h⟩
  | 242 => some ⟨0, 0, 0, false, .h⟩
  | 243 => some ⟨1, 0, 0, true, .h⟩
  | 244 => some ⟨2, 0, 1, true, .h⟩
  | 245 => some ⟨2, 0, 0, true, .h⟩
  | 246 => some ⟨0, 0, 0, false, .h⟩
  | 247 => some ⟨1, 0, 0, false, .h⟩
  | 248 => some ⟨1, 0, 1, false, .h⟩
  | 249 => some ⟨3, 0, 0, true, .h⟩
  | 250 => some ⟨0, 0, 0, false, .h⟩
  | 251 => some ⟨2, 0, 0, true, .h⟩
  | _ => none

/-- The row of source `s`; none for a reserved source (15 R387, R388). -/
def srcRow (s : Nat) : Option SrcRow :=
  if s < 64 then srcRowLow s else if s < 192 then srcRowQuad (s % 32) else srcRowHigh s

/-- Source `s` as its table row leaves it: the row's reactions and flag, N 4, W 40,000 and, but for TICK_OVERRUN with its W of
40, Q 400,000 (15 R387). -/
def srcInit (s : Nat) : Source :=
  match srcRow s with
  | some r => { ev := r.ev, sv := r.sv, flt := r.flt, w := if s = 35 then 40 else 40000 }
  | none => {}

/-- All sources at their defaults. -/
def srcInitAll : Tab Source 256 := ⟨(List.range 256).map srcInit, by simp⟩

/-- The offset of a quadrant's source (15 R388). -/
def qSrc (q k : Nat) : Nat := 64 + 32 * q + k

/-- The trigger settings of the recorder at reset (16 R411): class MAJOR or CRITICAL triggers, TRACE for CRITICAL; a mode
change on list 0; spare swaps and retirements on list 1. -/
def trigInit (s : Nat) : Trig :=
  if s = 0x100 then { cond := 1 }
  else if s = 0x101 ∨ s = 0x102 then { cond := 1, list := 1 }
  else match srcRow s with
    | some r => if 2 ≤ r.cls then { cond := 1, trace := r.cls == 3 } else {}
    | none => {}

end Sys2Proof
end

