-- ==== Sys2Proof/Machine/State.lean ====
section
/-! DEFINITION. The state of the block: the chip, which is its two dies, and the queue of commands that wait. -/

namespace Sys2Proof.Machine

open Sys2Proof

/-- Why the machine stops with a fault: the spec stops the block on no command, so there is no reason. -/
inductive Fault where
  deriving DecidableEq, Repr

/-- Why the machine gives a command no meaning. -/
inductive Refusal where
  /-- Raised by an arm of `exec` whose command has no meaning yet, with the command's mnemonic. Safe: no state follows. -/
  | notModelled (mnemonic : String)
  deriving DecidableEq, Repr

end Sys2Proof.Machine

namespace Sys2Proof

/-- The device: its variant, its two dies, and the words that the last read command returned (the read data of the host
interface or of the reading initiator, held until the next read). -/
structure Chip where
  variant : Variant
  host : HostDie
  field : FieldDie
  readData : List Word
  deriving DecidableEq, Repr

/-- The host die at reset: as its structures default, with the collector's sources at their table rows and the
two-wire target addresses of Table 20-5 for its twin, A unless told otherwise. -/
def HostDie.reset (twinB : Bool := false) : HostDie :=
  { power := { twinB := twinB }
    fcm := { sources := srcInitAll }
    mb := ⟨(List.range 2).map (fun i => { taddr := 0x58 + 2 * i + twinB.toNat }), by simp⟩ }

/-- GAIN of a channel at reset (04 Table 04-2): 16 for the shunts of channels 0 to 7, 1 for the others. -/
def chanInit (c : Nat) : Chan := { gain := if c < 8 then 2 else 0, cell := c }

/-- A measurement cell at reset: the factory coefficients of the part (04 R116). -/
def cellInit (q c : Nat) : Cell :=
  { gain := (Config.factoryGain q c).toNat, offset := (Config.factoryOffset q c).toInt
    lastGain := (Config.factoryGain q c).toNat, lastOffset := (Config.factoryOffset q c).toInt }

/-- A measurement block at reset. -/
def measInit (q : Nat) : MeasQ :=
  { ch := ⟨(List.range 16).map chanInit, by simp⟩
    cells := ⟨(List.range 18).map (cellInit q), by simp⟩ }

/-- The field die at reset: as its structures default, with the table values that differ from row to row. -/
def FieldDie.reset : FieldDie :=
  { quad := ⟨(List.range 4).map (fun q => { meas := measInit q }), by simp⟩
    slot := ⟨(List.range 96).map (fun k => { pol := { rank := k } }), by simp⟩
    branch := ⟨(List.range 32).map (fun b => { cfg := { rank := 96 + b } }), by simp⟩
    fcol := { sources := srcInitAll }
    recf := { trig := (List.range 0x103).map trigInit } }

end Sys2Proof

namespace Sys2Proof.Machine

open Sys2Proof

/-- The whole state: the chip and the commands that wait, first in first out. -/
structure State where
  chip : Chip
  pending : List Instr
  deriving DecidableEq, Repr

/-- The machine right after reset. -/
def State.reset : State :=
  { chip := { variant := .fls6480, host := HostDie.reset, field := FieldDie.reset, readData := [] }
    pending := [] }

/-- A change of the chip alone. -/
def State.on (f : Chip → Chip) (s : State) : State := { s with chip := f s.chip }

/-- A change of the host die alone. -/
def State.onHost (f : HostDie → HostDie) (s : State) : State :=
  { s with chip := { s.chip with host := f s.chip.host } }

/-- A change of the field die alone. -/
def State.onField (f : FieldDie → FieldDie) (s : State) : State :=
  { s with chip := { s.chip with field := f s.chip.field } }

/-- What `exec` and `step` answer. -/
abbrev Out := Host.Outcome State Fault Refusal

end Sys2Proof.Machine
end

