-- ==== Sys2Proof/Machine/Ops.lean ====
section
/-! DEFINITION. The shared operations on the two dies: events, vectors, completions, units, shadows, barrier arrivals. -/

namespace Sys2Proof

/-- Slots that the variant has (00_scope R6). -/
def Variant.slots (v : Variant) : Nat := 24 * v.quads

/-- Branches that the variant has. -/
def Variant.branches (v : Variant) : Nat := 8 * v.quads

/-- Branch groups that the variant has, each with its PFW_N and THROTTLE_N land (22 Table 22-3). -/
def Variant.groups (v : Variant) : Nat := 2 * v.quads

/-- CAP0.QUAD_MASK. -/
def Variant.quadMask (v : Variant) : Nat := 2 ^ v.quads - 1

/-- The quadrant of a slot (00_scope R14). -/
def slotQuad (k : Nat) : Nat := k / 24

/-- The tick bus of a slot. -/
def slotBus (k : Nat) : Nat := k / 12

/-- The quadrant of a branch. -/
def branchQuad (b : Nat) : Nat := b / 8

/-- Nothing of the device's own is on the line any more: a frame that it was sending is cut short, and its line is idle (09 Table 09-13). -/
def Port.silence (p : Port) : Port := { p with sending := none, tx := p.tx && p.lowByUs, line := if p.sending.isSome ∧ p.line = 1 then 0 else p.line }

namespace HostDie

/-- A host-side event reported to FCM, stamped with HTB (15 R386). -/
def raise (h : HostDie) (src code : Nat) (value : Nat := 0) : HostDie :=
  { h with fcm := { h.fcm with arisen := h.fcm.arisen ++ [{ tb := h.htb, fine := 0xFFFF, src := src, code := code, value := value }] } }

/-- A vector is raised: it becomes pending unless VEC_EN holds it back (18 R469, R470). -/
def vector (h : HostDie) (v : Nat) : HostDie :=
  if v < 56 ∧ h.hif.vecEn.getLsbD v then
    { h with hif := { h.hif with vecPend := h.hif.vecPend ||| BitVec.twoPow 64 v } }
  else h

/-- A completion joins the completions that wait for their queue's ring (18 R463). -/
def post (h : HostDie) (c : Completion) : HostDie :=
  { h with hif := { h.hif with queues := h.hif.queues.modify c.queue (fun q => { q with waiting := q.waiting ++ [c] }) } }

/-- A host-executed command completes (19 R479): RESULT is 0 unless the status gives one. -/
def complete (h : HostDie) (r : Request) (st : Status) (result : Nat := 0) : HostDie :=
  if r.silent then h else h.post { queue := r.queue, tag := r.tag, status := st, result := result % 2 ^ 64, epoch := h.mode.epoch }

/-- A command enters from its queue: it counts as fetched and is in progress until its completion is written (18 Table 18-8, 19 Table
19-11). -/
def accept (h : HostDie) (r : Request) : HostDie :=
  { h with hif := { h.hif with queues := h.hif.queues.modify r.queue (fun q => { q with qcnt := q.qcnt + 1, fetched := (q.fetched + 1) % 2 ^ 32 }) } }

/-- A command goes to the field side: its completion is awaited, with the share of RESULT that region H has done. -/
def await (h : HostDie) (r : Request) (share : Nat) : HostDie :=
  { h with hif := { h.hif with outstanding := h.hif.outstanding ++ [(r.queue.val, r.tag, share)] } }

/-- A failed token check (18 R475): AUTH_FAIL, AUTH_FAILURE with the opcode, vector 48. -/
def authFailed (h : HostDie) (r : Request) : HostDie :=
  let h := { h with hif := { h.hif with queues := h.hif.queues.modify r.queue (fun q => { q with refused := (q.refused + 1) % 2 ^ 32 }) } }
  ((h.complete r .authFail).raise 248 1 r.opcode).vector 48

/-- Block `b` of region H. -/
def modBlk (h : HostDie) (b : Nat) (g : Blk → Blk) : HostDie := { h with blk := h.blk.modifyNat b g }

/-- Bytes that a command's host buffer holds from an address (18 R467): the shared area under QSPI, what the transfer read
under PCIe. -/
def bufRead (h : HostDie) (r : Request) (addr n : Nat) : List Byte :=
  match h.power.link with
  | .qspi => memReadAll h.hif.mem addr n
  | .pcie => slice 0 n r.data

/-- Bytes written into a command's host buffer. -/
def bufWrite (h : HostDie) (addr : Nat) (bs : List Byte) : HostDie :=
  { h with hif := { h.hif with mem := memWriteAll h.hif.mem addr bs } }

/-- Whether a data buffer lies where the link lets it lie (18 R458): under QSPI inside the shared area. -/
def bufOk (h : HostDie) (addr n : Nat) : Bool :=
  match h.power.link with
  | .qspi => n == 0 || (0x080000 ≤ addr && addr + n ≤ 0x140000)
  | .pcie => addr + n ≤ 2 ^ 64

/-- A field command with what region H knows of its host buffer: OP_READ's and TW_XFER's (19 R496, R501), the bytes to write read
ahead. -/
def withBuffer (h : HostDie) (r : Request) : Request :=
  { r with
    bufOk := if r.opcode = 0xC010 then r.par 8 8 == 0 || h.bufOk (r.par 8 8) (4 * r.u32 4)
      else if r.opcode = 0xE001 then h.bufOk (r.par 24 8) (max (r.u32 8) (r.u32 12)) else r.bufOk
    data := if r.opcode = 0xE001 then h.bufRead r (r.par 24 8) (min (r.u32 8) 32) else r.data }

/-- Whether region H takes commands and accesses: its supply is there and it does not sleep (02 R60, R62). -/
def listens (h : HostDie) : Bool := h.power.vinh && !h.power.asleep

/-- Whether the reported mode is one of a list of codes of Table 02-2. -/
def modeIn (h : HostDie) (ms : List Nat) : Bool := ms.contains h.mode.mode

end HostDie

namespace FieldDie

/-- Slot `k`. -/
def sl (f : FieldDie) (k : Nat) : Slot := f.slot.getD k {}

/-- Slot `k` changed. -/
def modSl (f : FieldDie) (k : Nat) (g : Slot → Slot) : FieldDie := { f with slot := f.slot.modifyNat k g }

/-- Branch `b`. -/
def br (f : FieldDie) (b : Nat) : Branch := f.branch.getD b {}

/-- Branch `b` changed. -/
def modBr (f : FieldDie) (b : Nat) (g : Branch → Branch) : FieldDie := { f with branch := f.branch.modifyNat b g }

/-- Quadrant `q`. -/
def qd (f : FieldDie) (q : Nat) : Quad := f.quad.getD q {}

/-- Quadrant `q` changed. -/
def modQd (f : FieldDie) (q : Nat) (g : Quad → Quad) : FieldDie := { f with quad := f.quad.modifyNat q g }

/-- Block `b` of quadrant `q` changed. -/
def modQBlk (f : FieldDie) (q b : Nat) (g : Blk → Blk) : FieldDie :=
  f.modQd q (fun x => { x with blk := x.blk.modifyNat b g })

/-- Block `b` of region FC changed. -/
def modFBlk (f : FieldDie) (b : Nat) (g : Blk → Blk) : FieldDie := { f with blk := f.blk.modifyNat b g }

/-- SPARE_MAP of a quadrant's block with swappable cells (01 Table 01-6). -/
def spareMap (f : FieldDie) (q b : Nat) : Word :=
  let x := f.qd q
  let one (k : Nat) (u : Option Nat) : Nat × Nat := (8 * k, match u with | some c => 0x80 + c | none => 0)
  match b with
  | 1 => pack ((List.range 4).map fun k => one k (x.portSpare.getD k none))
  | 2 => pack [one 0 (if x.tbe.spareUsed then some ((x.tbe.bus.rows.findIdx (fun t => t.eng == 2))) else none)]
  | 3 => pack ((List.range 2).map fun k => one k (x.meas.cal.getD k {}).usedFor)
  | _ => 0

/-- The tick has reached cycle `c` (03 R70); TICK_SYNC_OUT falls 40 cycles after the edge (03 R92). -/
def atCycle (f : FieldDie) (c : Nat) : FieldDie :=
  { f with tick := { f.tick with fine := c, syncOut := f.tick.syncOut && decide (c < 40) } }

/-- A field event reported to FCOL at the present tick and fine time (15 R386, R393). -/
def raise (f : FieldDie) (src code : Nat) (value : Nat := 0) : FieldDie :=
  { f with fcol := { f.fcol with
      arisen := f.fcol.arisen ++ [{ tb := f.tick.tb, fine := f.tick.fine, src := src, code := code, value := value }] } }

/-- An event of quadrant `q` (15 R388). -/
def raiseQ (f : FieldDie) (q k code : Nat) (value : Nat := 0) : FieldDie := f.raise (qSrc q k) code value

/-- A vector that the field raises: it crosses with the next heartbeat. -/
def vector (f : FieldDie) (v : Nat) : FieldDie :=
  if f.bar.vectors.contains v then f else { f with bar := { f.bar with vectors := f.bar.vectors ++ [v] } }

/-- A field-executed command completes. A command that came in through the twin's input frame has its completion kept for
400 ticks, and written by a device that has taken over (18 R472, R473). -/
def complete (f : FieldDie) (r : Request) (st : Status) (result : Nat := 0) (addr : Nat := 0) (data : List Byte := []) : FieldDie :=
  let c : Completion :=
    { queue := r.queue, tag := r.tag, status := st, result := result % 2 ^ 64, epoch := f.twin.epoch, addr := addr, data := data }
  if r.silent then f
  else if r.peer ∧ ¬ f.twin.tookOver then { f with twin := { f.twin with kept := f.twin.kept ++ [(r.applyTick, c)] } }
  else if r.peer then { f with bar := { f.bar with completions := f.bar.completions ++ [{ c with peer := true }] } }
  else { f with bar := { f.bar with completions := f.bar.completions ++ [c] } }

/-- The next free value: a value of `w` bits that nothing constrains, from the opaque source. -/
def draw (f : FieldDie) (w : Nat) : Nat × FieldDie :=
  ((Config.freeValue f.free).toNat % 2 ^ w, { f with free := f.free + 1 })

/-- Whether the controller of quadrant `q` runs: its region is in service and no operation holds its block. -/
def qcUp (f : FieldDie) (q : Nat) : Bool := !f.power.isolated.getD q false && ((f.qd q).blk.getD 0 {}).op.isNone

/-- Whether the field image runs (02 R50, R58). -/
def running (f : FieldDie) : Bool := f.power.phase == .spring || f.power.phase == .running

/-- Whether the device holds the active role. -/
def isActive (f : FieldDie) : Bool := f.twin.role == 2

/-- Whether the device is a standby. -/
def isStandby (f : FieldDie) : Bool := f.twin.role == 1

/-- Whether the device follows an active peer through the input frame: a standby in step, or one in REPLAY or CONFIRM of a join (14 R361,
R369). -/
def follows (f : FieldDie) : Bool := f.isStandby && (f.twin.inStep || decide (5 ≤ f.twin.join))

/-- The slots that exist, by number. -/
def slots (v : Variant) : List Nat := List.range v.slots

end FieldDie

end Sys2Proof
end

