-- ==== Sys2Proof/Machine/Operands.lean ====
section
/-! DEFINITION. The operands of commands: the checks of R9 in their order, on each die, and how a command that passes them runs
and completes. -/

namespace Sys2Proof

/-- Which units a command accepts in UNIT (00 R7, R8). -/
inductive UnitKind where
  | none | slot | branch
  deriving DecidableEq, Repr

/-- The unit check of R9: first the kind, then whether the unit exists in the variant. -/
def unitStatus (v : Variant) (k : UnitKind) (u : Nat) : Option Status :=
  match k with
  | .none => if u = 0xFF then Option.none else some .badParam
  | .slot => if 96 ≤ u then some .badParam else if u < v.slots then Option.none else some .unitAbsent
  | .branch =>
    if u < 96 ∨ 128 ≤ u then some .badParam else if u - 96 < v.branches then Option.none else some .unitAbsent

/-- Groups that WINTER accepts (02 R68): admin, faults, recorder, and reads of diagnostics. -/
def winterOk (opcode : Nat) (ro : Bool) : Bool :=
  let g := opcode / 256
  g == 0x00 || g == 0x80 || g == 0x90 || (g == 0xC0 && ro)

/-- Groups that a standby executes besides GET commands (14 R364). -/
def standbyOk (opcode : Nat) (ro : Bool) : Bool :=
  ro || [0x00, 0x70, 0x80, 0x90, 0xA0, 0xB0, 0xC0].contains (opcode / 256)

/-- A field-executed command: its opcode, whether it needs a token, whether it only reads, whether it needs a configuration, its unit kind,
whether it reaches a function that only parts with GRID have, the ranges of its parameters, and what it does. The answer is the
completion, or none where the command completes later. -/
structure FCmd where
  code : Nat
  auth : Request → Bool := fun _ => false
  ro : Bool := false
  cfg : Bool := false
  unit : UnitKind := .none
  grid : Bool := false
  chk : Variant → FieldDie → Request → Option Status := fun _ _ _ => none
  op : Variant → FieldDie → Request → FieldDie × Option (Status × Nat)

/-- Parts with CAP0.GRID set (00 Table 00-1): the FLS-6480 alone. -/
def Variant.grid : Variant → Bool
  | .fls6480 => true
  | _ => false

/-- Parts with CAP0.PCIE set (00 Table 00-1): the FLS-6480 alone. -/
def Variant.pcie : Variant → Bool
  | .fls6480 => true
  | _ => false

/-- The checks of R9 and R89 on the field side that come before the parameters: the epoch, the role, the unit, the function. A field side
that waits in reset for its image (02 R58) executes nothing, what comes in the input frame both devices execute (18 R472), and what region H's
own firmware issues names no role. -/
def admitUnit (v : Variant) (f : FieldDie) (c : FCmd) (r : Request) : Option Status :=
  if ¬ f.running then some .wrongMode
  else if ¬ r.silent ∧ r.epoch ≠ f.twin.epoch then some .staleRole
  else if f.isStandby ∧ ¬ r.peer ∧ ¬ standbyOk r.opcode c.ro then some .notActive
  else match unitStatus v c.unit r.unit with
    | some st => some st
    | none => if c.grid ∧ ¬ v.grid then some .unitAbsent else none

/-- All checks of R9 on the field side, the parameters last; a reserved FLAGS bit fails them (19 R477). -/
def admitF (v : Variant) (f : FieldDie) (c : FCmd) (r : Request) : Option Status :=
  match admitUnit v f c r with
  | some st => some st
  | none => if 16 ≤ r.flags ∨ ¬ r.bufOk then some .badParam else c.chk v f r

/-- The checks at the apply tick beyond R90: WINTER admits only its groups (02 R68), and a command that needs the active role, one that a
standby refuses, needs a configuration (02 R52); the load that brings one does not. -/
def gateF (f : FieldDie) (c : FCmd) (r : Request) : Option Status :=
  if f.power.winter ∧ ¬ winterOk r.opcode c.ro then some .wrongMode
  else if ¬ f.cfg.loaded ∧ (c.cfg ∨ (¬ standbyOk r.opcode c.ro ∧ r.opcode ≠ 0x1001)) then some .notConfigured
  else none

/-- A command's effect and its completion at the apply tick. -/
def applyF (v : Variant) (c : FCmd) (r : Request) (f : FieldDie) : FieldDie :=
  match gateF f c r with
  | some st => f.complete r st
  | none =>
    let (g, res) := c.op v f r
    match res with
    | some (st, x) => g.complete r st x
    | none => g

/-- A field-executed command from its checks on the field side to its completion. -/
def runF (v : Variant) (c : FCmd) (r : Request) (f : FieldDie) : FieldDie :=
  match admitF v f c r with
  | some st => f.complete r st
  | none => applyF v c r f

/-- A command that waits for its apply tick (03 R88, R89): its checks at arrival, then its place in the schedule. -/
def schedF (v : Variant) (c : FCmd) (r : Request) (f : FieldDie) : FieldDie :=
  match admitF v f c r with
  | some st => f.complete r st
  | none =>
    if r.applyTick < r.arrival + 2 ∨ r.arrival + 4000000 < r.applyTick then f.complete r .badParam
    else if f.power.winter ∧ ¬ winterOk r.opcode c.ro then f.complete r .wrongMode
    else if 64 ≤ f.tick.schedule.length then f.complete r .full
    else { f with tick := { f.tick with schedule := f.tick.schedule ++ [{ req := r, apply := r.applyTick, arrival := r.arrival }] } }

/-- Whether the token check of 18_host R475 fails: a token that is wrong, or none where the opcode requires one. -/
def tokenBad (needed : Bool) (r : Request) : Bool := (needed || r.auth) && !(r.auth && r.authOk)

/-- A host-executed command, as `FCmd`. -/
structure HCmd where
  code : Nat
  auth : HostDie → Request → Bool := fun _ _ => false
  ro : Bool := false
  chk : Variant → HostDie → Request → Option Status := fun _ _ _ => none
  op : Variant → HostDie → Request → HostDie × Option (Status × Nat)

/-- What region H knows of the role: ACTIVE_ROLE and the reported mode (14 R364). -/
def HostDie.standby (h : HostDie) : Bool := h.mode.mode == 5

/-- The opcodes that the ROM executes in recovery (17 R445). -/
def recoveryOk (r : Request) : Bool :=
  [0x0001, 0x0005, 0xA007, 0xA001, 0xA002].contains r.opcode || (r.opcode == 0x0002 && r.u32 0 == 3)

/-- The checks of R9 on region H (18 R471): authorisation, epoch, role, unit, parameters; APPLY_AT_TICK is refused (03 R88), and
the ROM in recovery serves queue 0 and its own list only, without the epoch (17 R445, 19 R478). -/
def admitH (v : Variant) (h : HostDie) (c : HCmd) (r : Request) : Option Status :=
  if tokenBad (c.auth h r) r then some .authFail
  else if h.stor.recovery ∧ (¬ recoveryOk r ∨ r.queue.val ≠ 0) then some .wrongMode
  else if ¬ h.stor.recovery ∧ r.epoch ≠ h.mode.epoch then some .staleRole
  else if h.standby ∧ ¬ standbyOk r.opcode c.ro then some .notActive
  else match unitStatus v .none r.unit with
    | some st => some st
    | none =>
      if 16 ≤ r.flags ∨ r.atTick then some .badParam
      else match c.chk v h r with
        | some st => some st
        | none => if h.mode.winter ∧ ¬ winterOk r.opcode c.ro then some .wrongMode else none

/-- A host-executed command from its checks to its completion. -/
def runH (v : Variant) (c : HCmd) (r : Request) (h : HostDie) : HostDie :=
  match admitH v h c r with
  | some .authFail => h.authFailed r
  | some st => h.complete r st
  | none =>
    let (g, res) := c.op v h r
    match res with
    | some (st, x) => g.complete r st x
    | none => g

/-- A parameter in its range, or BAD_PARAM (00 R13). -/
def need (b : Bool) : Option Status := if b then none else some .badParam

namespace Machine

/-- What happens on the lands of a slot: nothing where the part does not have it (00 R4, R10). -/
def State.onSlot (k : Nat) (g : FieldDie → FieldDie) (s : State) : State := if k < s.chip.variant.slots then s.onField g else s

/-- As `State.onSlot` for a branch. -/
def State.onBranch (b : Nat) (g : FieldDie → FieldDie) (s : State) : State := if b < s.chip.variant.branches then s.onField g else s

/-- A register read with what its RC fields do; one that the part does not have reads 0 (00 R10). -/
def State.readRc (present : Bool) (word : FieldDie → Word) (clear : FieldDie → FieldDie) (s : State) : State :=
  if present then (s.on (fun c => { c with readData := [word c.field] })).onField clear else s.on (fun c => { c with readData := [0] })

/-- A field-executed command row: region H checks the token and, in recovery, serves its own list only (18 R471, 17 R445); what
passes is checked and executed on the field side, after region H has done the share of it that `g` gives. The row is the command at its apply
tick, or with APPLY_AT_TICK at its arrival (log entry 35). A host side that is off or asleep takes nothing (02 R60). -/
def State.fieldShare (c : FCmd) (g : HostDie → HostDie × Nat) (r : Request) (s : State) : State :=
  let r := { r with opcode := c.code }
  if ¬ s.chip.host.listens then s
  else if tokenBad (c.auth r) r then s.onHost (fun h => (h.accept r).authFailed r)
  else if s.chip.host.stor.recovery then s.onHost (fun h => (h.accept r).complete r .wrongMode)
  else
    let now := s.chip.field.tick.tb
    let x := { s.chip.host.withBuffer r with arrival := now }
    (s.onHost (fun h => let (h, n) := g (h.accept r); h.await r n)).onField
      (if r.atTick then schedF s.chip.variant c x else runF s.chip.variant c { x with applyTick := now })

/-- A field-executed command row of which region H does nothing itself. -/
def State.field (c : FCmd) (r : Request) (s : State) : State := s.fieldShare c (fun h => (h, 0)) r

/-- A host-executed command row. -/
def State.host (c : HCmd) (r : Request) (s : State) : State :=
  let r := { r with opcode := c.code }
  if ¬ s.chip.host.listens then s
  else s.onHost (fun h => runH s.chip.variant c r (h.accept r))

end Machine

end Sys2Proof
end

