-- ==== Sys2Proof/Machine/Faults.lean ====
section
/-! DEFINITION. Fault collection (15_faults R386 to R409): judging on both collectors, the entry's way to the host, reactions,
and the commands of group 0x80. -/

namespace Sys2Proof

/-- FLAGS of an entry (Table 15-1). -/
def Entry.flags (e : Entry) : Nat :=
  64 * e.cls + 8 * e.rung + 4 * bit e.severe + 2 * bit e.escalated + bit e.injected

/-- DATA of an entry (Table 15-1). -/
def Entry.data (e : Entry) : Nat := e.ev.code % 256 * 2 ^ 24 + e.ev.value % 2 ^ 24

/-- The 16 bytes of an entry (Table 15-1). -/
def Entry.bytes (e : Entry) : List Byte :=
  leBytes 8 e.ev.tb ++ leBytes 2 e.ev.fine ++ leBytes 1 e.ev.src ++ leBytes 1 e.flags ++ leBytes 4 e.data

/-- Where a BLOCK_RESET goes (Table 15-6). -/
inductive Target where
  | region (r b : Nat)
  | engine (bus : Nat)
  | chip
  | hostRegion
  deriving DecidableEq, Repr

/-- A block of region FC as a target: those that R396 names are never reset alone. -/
def fcTarget (b : Nat) : Target := if [0, 2, 4, 6, 7, 8].contains b then .chip else .region 1 b

/-- Table 15-6. -/
def target (src code value : Nat) : Target :=
  if src < 2 then .hostRegion
  else if src = 2 ∨ src = 3 then .region 0 (value % 32)
  else if src = 4 ∨ src = 5 then .region 0 10
  else if src = 6 then .region 0 (if code = 3 then 2 else 1)
  else if src = 7 then .region 0 11
  else if src = 8 ∨ src = 10 then .region 0 12
  else if src = 9 then .region 0 (value % 32)
  else if src = 11 then .region 0 (7 + value % 2)
  else if src = 33 ∨ src = 34 then fcTarget (value % 32)
  else if src < 64 then .chip
  else if src < 192 then
    let q := (src - 64) / 32
    let k := src % 32
    if k ≤ 3 then .region (4 + q) 0
    else if k = 4 then .region (4 + q) (value % 32)
    else if k = 5 then .region (4 + q) (value / 256 % 256)
    else if k ≤ 10 then .region (4 + q) 3
    else if k = 12 then .engine (slotBus value)
    else if k ≤ 14 then .engine value
    else if k ≤ 23 then .region (4 + q) 1
    else .region (4 + q) 4
  else if src < 212 then .chip
  else if src = 212 then .region (4 + value % 4) 6
  else if src < 240 then .region 1 3
  else if src < 242 then .region 0 6
  else if src < 248 then .region 0 4
  else .region 0 5

namespace Source

/-- Events inside the window at tick `t` (R389): those whose age is below W. -/
def count (s : Source) (t : Nat) : Nat := (s.stamps.filter (fun x => t - x < s.w)).length

/-- SRC_CFG (Table 15-12). -/
def cfgWord (s : Source) (row : SrcRow) : Word :=
  pack [(29, s.ev), (26, s.sv), (25, bit s.flt), (23, row.scope.code), (21, row.cls), (16, s.n), (0, s.w)]

/-- SRC_STAT (Table 15-13). -/
def statWord (s : Source) : Word := pack [(31, bit s.severe), (30, bit s.pend), (26, s.winCnt), (0, s.recov)]

end Source

namespace Collector

/-- Source `s`. -/
def src (c : Collector) (s : Nat) : Source := c.sources.getD s {}

/-- Whether the collector judges source `s`: FCM those of scope H, FCOL the others (R397). -/
def judges (host : Bool) (s : Nat) : Bool :=
  match srcRow s with
  | some r => (r.scope == .h) == host
  | none => false

/-- Whether some source that the collector judges has PEND set with class `cls` (R391). -/
def pendOf (c : Collector) (host : Bool) (cls : Nat) : Bool :=
  c.sources.indexed.any fun x => x.2.pend && judges host x.1 && ((srcRow x.1).map (·.cls)) == some cls

/-- What judging an event at tick `t` on a source gives (R389 to R391): the source after it, and the rung, the severe flag and
the escalation. -/
def evaluate (c : Collector) (host : Bool) (row : SrcRow) (t : Nat) (e : Event) : Source × Nat × Bool × Bool :=
  let s := c.src e.src
  let s := { s with stamps := (s.stamps ++ [e.tb]).drop (s.stamps.length + 1 - 15) }
  let n := s.count t
  let severe := s.severe || s.n ≤ n
  let rung := if severe then s.sv else s.ev
  let esc := row.cls != 0 && c.pendOf host row.cls
  let top := if host then 3 else 4
  let rung := if esc then min top (rung + 1) else rung
  let rung := if ¬ host ∧ rung = 2 ∧ target e.src e.code e.value = .chip then 3 else rung
  ({ s with last := e.tb, winCnt := min 15 n, severe := severe, pend := s.pend || row.cls != 0 }, rung, severe, esc)

/-- An event judged (R389 to R391, R396). A reserved source gives nothing. -/
def judge (c : Collector) (host : Bool) (t : Nat) (e : Event) : Collector × Option Entry :=
  match srcRow e.src with
  | none => (c, none)
  | some row =>
    let (s, rung, severe, esc) := c.evaluate host row t e
    let en : Entry := { ev := e, cls := row.cls, rung := rung, severe := severe, escalated := esc }
    ({ c with sources := c.sources.modifyNat e.src (fun _ => s), lastSrc := en.ev.src, lastData := en.data }, some en)

/-- WIN_CNT of every source at a judged tick (Table 15-13). -/
def age (c : Collector) (t : Nat) : Collector :=
  { c with sources := c.sources.map (fun (s : Source) => if s.stamps = [] then s else { s with winCnt := min 15 (s.count t) }) }

/-- An event judged on a copy (R409): only the entry. -/
def inject (c : Collector) (host : Bool) (t : Nat) (e : Event) : Option Entry :=
  (c.judge host t e).2.map (fun en => { en with injected := true })

/-- The entry that was delivered last (Table 15-10 LAST_SRC, GET_FAULT), an injected one too. -/
def lastEntry (c : Collector) (e : Entry) : Collector := { c with lastSrc := e.ev.src, lastData := e.data }

/-- A severe source returns to normal after its quiet period (R392). -/
def recover (c : Collector) (s t : Nat) : Collector :=
  let x := c.src s
  if x.severe ∧ x.q ≤ t - x.last then
    { c with sources := c.sources.modifyNat s (fun y => { y with severe := false, recov := satN 16 (y.recov + 1) }) }
  else c

/-- Sources with PEND and the FAULT_N flag (R399). -/
def faultPend (c : Collector) (host : Bool) : Bool :=
  c.sources.indexed.any fun x => x.2.pend && x.2.flt && judges host x.1

/-- N_SEVERE (Table 15-10). -/
def nSevere (c : Collector) : Nat := (c.sources.rows.filter (·.severe)).length

/-- PEND_CLASS (Table 15-10). -/
def pendClass (c : Collector) : Nat :=
  (List.range 3).foldl (fun a i =>
    a + 2 ^ i * bit (c.sources.indexed.any fun x => x.2.pend && ((srcRow x.1).map (·.cls)) == some (i + 1))) 0

/-- FLT_STATUS (Table 15-10). -/
def status (c : Collector) (winter faultN : Bool) : Word :=
  pack [(31, bit winter), (30, bit faultN), (27, c.lastRx), (16, c.nSevere), (12, c.pendClass), (0, c.lastSrc)]

/-- 32 flags of the sources from 32j as a word (R406). -/
def flagWord (c : Collector) (g : Source → Bool) (j : Nat) : Word :=
  pack ((List.range 32).map fun k => (k, bit (g (c.src (32 * j + k)))))

/-- The registers of Table 15-9 beyond the header. -/
def reg (c : Collector) (winter faultN : Bool) (idx : Nat) : Option Word :=
  match idx with
  | 0x08 => some (c.status winter faultN)
  | 0x09 => some (BitVec.ofNat 32 c.sel)
  | 0x0A => some (match srcRow c.sel with | some r => (c.src c.sel).cfgWord r | none => 0)
  | 0x0B => some (BitVec.ofNat 32 (match srcRow c.sel with | some _ => (c.src c.sel).q | none => 0))
  | 0x0C => some (c.src c.sel).statWord
  | 0x0D => some (pack [(31, bit c.mismatch), (8, c.word)])
  | i => if 0x10 ≤ i ∧ i < 0x18 then some (c.flagWord (·.pend) (i - 0x10))
         else if 0x18 ≤ i ∧ i < 0x20 then some (c.flagWord (·.severe) (i - 0x18)) else none

/-- PEND cleared on the sources that `pick` names, with the number cleared (Table 15-15). -/
def ack (c : Collector) (pick : Nat → Bool) : Collector × Nat :=
  ({ c with sources := c.sources.mapIdx (fun i s => if pick i then { s with pend := false } else s) },
    (c.sources.indexed.filter (fun x => pick x.1 && x.2.pend)).length)

/-- RECOV set to 0 on the sources that `pick` names. -/
def clearRecov (c : Collector) (pick : Nat → Bool) : Collector :=
  { c with sources := c.sources.mapIdx (fun i s => if pick i then { s with recov := 0 } else s) }

/-- SET_SOURCE (R408): counts and PEND are kept. -/
def setSource (c : Collector) (r : Request) : Collector :=
  { c with sources := c.sources.modifyNat (r.u32 0) (fun s =>
      { s with ev := r.u32 4, sv := r.u32 8, flt := r.u32 12 == 1, n := r.u32 16, w := r.u32 20, q := r.u32 24 }) }

end Collector

/-- Whether source `s` belongs to a quadrant that the variant lacks (00 R10). -/
def srcAbsent (v : Variant) (s : Nat) : Bool := 64 ≤ s && s < 192 && v.quads ≤ (s - 64) / 32

/-- The check of SRC (R407): a source of an absent quadrant is UNIT_ABSENT, a reserved or unknown one BAD_PARAM. `all` says
whether 0xFFFF_FFFF is accepted. -/
def srcCheck (v : Variant) (all : Bool) (s : Nat) : Option Status :=
  if all ∧ s = 0xFFFFFFFF then none
  else if srcAbsent v s then some .unitAbsent
  else if s < 256 ∧ (srcRow s).isSome then none else some .badParam

/-- The parameter checks of SET_SOURCE (Table 15-15, R408). -/
def setSourceCheck (v : Variant) (r : Request) : Option Status :=
  let s := r.u32 0
  match srcCheck v false s with
  | some st => some st
  | none =>
    match srcRow s with
    | none => some .badParam
    | some row => need (r.u32 4 ≤ 4 && r.u32 4 ≤ r.u32 8 && r.u32 8 ≤ 4 && r.u32 12 < 2 && 1 ≤ r.u32 16 && r.u32 16 ≤ 15 &&
        1 ≤ r.u32 20 && r.u32 20 ≤ 65535 && 1 ≤ r.u32 24 && s != 32 &&
        !((row.cls == 3 || s == 48) && (r.u32 4 < row.ev || r.u32 8 < row.sv)) &&
        !(row.scope == .h && (r.u32 4 == 4 || r.u32 8 == 4)))

/-- Whether a command of group 0x80 that names SRC runs on region H (R407). -/
def srcHost (r : Request) : Bool := (srcRow (r.u32 0)).any (fun x => x.scope == .h) && r.u32 0 < 256

/-- The RESULT of INJECT_EVENT (Table 15-15). -/
def injectResult (en : Entry) : Nat := en.rung + 8 * bit en.severe + 16 * bit en.escalated

/-- Insertion of an event into judgement order (R393): ascending source, then time. -/
def insertEvent (e : Event) : List Event → List Event
  | [] => [e]
  | x :: xs =>
    if e.src < x.src ∨ (e.src = x.src ∧ (e.tb < x.tb ∨ (e.tb = x.tb ∧ e.fine < x.fine))) then e :: x :: xs
    else x :: insertEvent e xs

/-- Events in judgement order. -/
def sortEvents (es : List Event) : List Event := es.foldl (fun a e => insertEvent e a) []

namespace FieldDie

/-- An entry joins the entries that wait for EVENT slots; the buffer holds 1,024 (01 R26). -/
def queueEntry (f : FieldDie) (e : Entry) : FieldDie :=
  match f.bar.episode with
  | some n => { f with bar := { f.bar with overflow := satN 32 (f.bar.overflow + 1), episode := some (satN 24 (n + 1)) } }
  | none =>
    if f.bar.events.length < 1024 then { f with bar := { f.bar with events := f.bar.events ++ [e] } }
    else { f with bar := { f.bar with overflow := satN 32 (f.bar.overflow + 1), episode := some 1 } }

/-- Vectors of a judged event (Table 15-5): 32 for class MINOR or above, 33 from rung NMI up. -/
def ruleVectors (f : FieldDie) (cls rung : Nat) : FieldDie :=
  let f := if cls ≠ 0 then f.vector 32 else f
  if 1 ≤ rung then f.vector 33 else f

/-- A trigger of the tick joins the recorder's list (16 R410). -/
def trigger (f : FieldDie) (h : TrigHit) : FieldDie := { f with recf := { f.recf with hits := f.recf.hits ++ [h] } }

/-- The trigger setting of SRC `s` (16 R411). -/
def trig (f : FieldDie) (s : Nat) : Trig := f.recf.trig.getD s {}

/-- The rung of an entry that the device carries out (R398): a standby carries out none above 1 of an S-scope source. -/
def carried (f : FieldDie) (e : Entry) : Nat :=
  if 2 ≤ e.rung ∧ f.isStandby ∧ (srcRow e.ev.src).any (fun r => r.scope == .s) then 0 else e.rung

/-- The recorder triggers that a judged entry makes (16 R411, Table 16-1): its source's, and those of spare swaps and
retirements. -/
def recordEntry (f : FieldDie) (e : Entry) : FieldDie :=
  let q := (e.ev.src - 64) / 32
  let k := e.ev.src % 32
  let inQuad := 64 ≤ e.ev.src && e.ev.src < 192
  let t := f.trig e.ev.src
  let fires := t.cond == 1 || (t.cond == 2 && e.severe) || (t.cond == 3 && 2 ≤ f.carried e)
  let f := if fires then f.trigger { kind := 1, list := t.list, trace := t.trace, fine := e.ev.fine, entry := some e } else f
  let f := if inQuad ∧ k = 5 ∧ (f.trig 0x101).cond = 1 then
      f.trigger { kind := 5, list := (f.trig 0x101).list, trace := (f.trig 0x101).trace, fine := e.ev.fine, entry := some e
                  context := [(2, (4 + q) * 8192 + e.ev.value / 256 % 256 * 256 + 2), (4, (f.spareMap q (e.ev.value / 256 % 256)).toNat)] } else f
  if inQuad ∧ k = 8 ∧ e.ev.code = 1 ∧ (f.trig 0x102).cond = 1 then
    f.trigger { kind := 6, list := (f.trig 0x102).list, trace := (f.trig 0x102).trace, fine := e.ev.fine, entry := some e
                context := (f.qd q).meas.calNote } else f

/-- What a judged entry's rung sets in motion (Table 15-5, R398): on a standby only rungs 0 and 1 of S-scope sources. -/
def react (f : FieldDie) (e : Entry) : FieldDie :=
  let s := (srcRow e.ev.src).any (fun r => r.scope == .s)
  if e.rung < 2 ∨ (s ∧ f.isStandby) then f
  else if e.rung = 2 then
    match target e.ev.src e.ev.code e.ev.value with
    | .region r b => { f with power := { f.power with pendBlocks := f.power.pendBlocks ++ [(r, b, 0)] } }
    | .engine bus => { f with power := { f.power with pendBlocks := f.power.pendBlocks ++ [(4 + bus / 2, 2, 1 + bus % 2)] } }
    | _ => { f with power := { f.power with pendReset := some 7 }, aon := { f.aon with cause := some e } }
  else if e.rung = 3 then
    { f with power := { f.power with pendReset := some 7 }, aon := { f.aon with cause := some e } }
  else { f with power := { f.power with pendWinter := some e } }

/-- A judged entry delivered: towards the host, to the recorder, and its reaction. The vectors are those of the rung carried out (R398). -/
def deliver (f : FieldDie) (e : Entry) : FieldDie :=
  (((f.queueEntry e).ruleVectors e.cls (f.carried e)).recordEntry e).react e

/-- FCOL judges one event at the present tick. -/
def judgeOne (f : FieldDie) (e : Event) : FieldDie :=
  let (c, en) := f.fcol.judge false f.tick.tb e
  match en with
  | some en => { f with fcol := { c with lastRx := max c.lastRx (f.carried en) } }.deliver en
  | none => f

/-- FCOL judges the events of the tick (R393), WIN_CNT and LAST_RX being those of this tick: those stamped at or after
cycle 9,376 of this tick wait for the next. -/
def faultJudge (f : FieldDie) : FieldDie :=
  let late (e : Event) : Bool := e.tb == f.tick.tb && 9376 ≤ e.fine
  let now := sortEvents (f.fcol.arisen.filter (fun e => !late e))
  let f := { f with fcol := { f.fcol with arisen := f.fcol.arisen.filter late, lastRx := 0 } }
  let f := now.foldl judgeOne f
  let f := { f with fcol := f.fcol.age f.tick.tb }
  -- rungs 3 and 4 supersede the lower ones, and rung 4 alone takes effect over rung 3 (R394)
  if f.power.pendWinter.isSome then { f with power := { f.power with pendReset := none, pendBlocks := [] } }
  else if f.power.pendReset.isSome then { f with power := { f.power with pendBlocks := [] } } else f

/-- The two copies of FCOL's state differ (R403): WINTER without the ladder, and FCOL_SELF logged with the differing word. -/
def fcolMismatch (f : FieldDie) (word : Nat) : FieldDie :=
  let e : Event := { tb := f.tick.tb, fine := f.tick.fine, src := 32, code := 1, value := word }
  let en : Entry := { ev := e, cls := 3, rung := 4, severe := false, escalated := false }
  let f := { f with fcol := { f.fcol with
      mismatch := true, word := word, lastSrc := 32, lastData := en.data, lastRx := 4
      sources := f.fcol.sources.modifyNat 32 (fun s => { s with pend := true, last := e.tb }) }
                    power := { f.power with pendWinter := some en, pendReset := none, pendBlocks := [] } }
  ((f.queueEntry en).ruleVectors 3 4).recordEntry en

/-- A later discard-free place in the event buffer takes the EVENT_OVERFLOW entry of the episode (01 R26). -/
def overflowEntry (f : FieldDie) : FieldDie :=
  match f.bar.episode with
  | none => f
  | some n =>
    if 1024 ≤ f.bar.events.length then f
    else { f with bar := { f.bar with episode := none } }.judgeOne
      { tb := f.tick.tb, fine := f.tick.fine, src := 41, code := 1, value := n }

end FieldDie

namespace HostDie

/-- FAULT_N (R399, 02 R55, 17 R445): asserted while any of its conditions holds. -/
def faultLand (h : HostDie) : Bool :=
  h.fcm.faultPend true || h.mode.fltPend || h.mode.winter || h.power.marchFailed || h.stor.recovery

/-- An event entry written to the event ring, or lost (18 R468). -/
def ringEntry (h : HostDie) (e : Entry) : HostDie :=
  if ¬ h.hif.evqEn then h
  else
    let next := (h.hif.evqTail + 1) % 2 ^ h.hif.evqLog2
    if next = h.hif.evqHead then { h with hif := { h.hif with ovf := true, lost := satN 16 (h.hif.lost + 1) } }
    else { h with hif := { h.hif with mem := memWriteAll h.hif.mem (h.hif.evqBase + 16 * h.hif.evqTail) e.bytes, evqTail := next } }

/-- Vectors of an entry judged on region H (Table 15-5). -/
def ruleVectors (h : HostDie) (cls rung : Nat) : HostDie :=
  let h := if cls ≠ 0 then h.vector 32 else h
  if 1 ≤ rung then h.vector 33 else h

end HostDie

/-- ACK_FAULT on the field side (Table 15-15). -/
def cmdAckFault : FCmd where
  code := 0x8001
  chk v _ r := srcCheck v true (r.u32 0)
  op _ f r :=
    let (c, n) := f.fcol.ack (fun i => (r.u32 0 == 0xFFFFFFFF || i == r.u32 0) && Collector.judges false i)
    ({ f with fcol := c }, some (.ok, n))

/-- ACK_FAULT on region H. -/
def cmdAckFaultH : HCmd where
  code := 0x8001
  chk v _ r := srcCheck v true (r.u32 0)
  op _ h r :=
    let (c, n) := h.fcm.ack (fun i => i == r.u32 0)
    ({ h with fcm := c }, some (.ok, n))

/-- SET_SOURCE on the field side (R408). -/
def cmdSetSource : FCmd where
  code := 0x8002
  auth _ := true
  chk v _ r := setSourceCheck v r
  op _ f r := ({ f with fcol := f.fcol.setSource r }, some (.ok, 0))

/-- SET_SOURCE on region H. -/
def cmdSetSourceH : HCmd where
  code := 0x8002
  auth _ _ := true
  chk v _ r := setSourceCheck v r
  op _ h r := ({ h with fcm := h.fcm.setSource r }, some (.ok, 0))

/-- SRC_CFG and SRC_STAT of a source (Table 15-15). -/
def Collector.getSource (c : Collector) (s : Nat) : Nat :=
  match srcRow s with
  | some row => ((c.src s).cfgWord row).toNat + 2 ^ 32 * (c.src s).statWord.toNat
  | none => 0

/-- GET_SOURCE on the field side. -/
def cmdGetSource : FCmd where
  code := 0x8003
  ro := true
  chk v _ r := srcCheck v false (r.u32 0)
  op _ f r := (f, some (.ok, f.fcol.getSource (r.u32 0)))

/-- GET_SOURCE on region H. -/
def cmdGetSourceH : HCmd where
  code := 0x8003
  ro := true
  chk v _ r := srcCheck v false (r.u32 0)
  op _ h r := (h, some (.ok, h.fcm.getSource (r.u32 0)))

/-- FAULT_N as the field side sees it (R399): its own sources, those of FCM as it mirrors them (R404), and WINTER. -/
def FieldDie.faultSeen (f : FieldDie) : Bool := f.fcol.faultPend false || f.fcol.faultPend true || f.power.winter

/-- GET_FAULT (Table 15-15): FLT_STATUS of FCOL and DATA of the last entry. -/
def cmdGetFault : FCmd where
  code := 0x8004
  ro := true
  op _ f _ := (f, some (.ok, (f.fcol.status f.power.winter f.faultSeen).toNat + 2 ^ 32 * f.fcol.lastData))

/-- INJECT_EVENT on the field side (R409): judged on a copy; the entry is delivered, and nothing above INT is carried out. -/
def cmdInjectEvent : FCmd where
  code := 0x8005
  auth _ := true
  chk v _ r := srcCheck v false (r.u32 0)
  op _ f r :=
    let e : Event := { tb := f.tick.tb, fine := f.tick.fine, src := r.u32 0, code := r.u32 4 / 2 ^ 24, value := r.u32 4 % 2 ^ 24 }
    match f.fcol.inject false f.tick.tb e with
    | some en => (({ f with fcol := f.fcol.lastEntry en }.queueEntry en).ruleVectors en.cls 0, some (.ok, injectResult en))
    | none => (f, some (.badParam, 0))

/-- INJECT_EVENT on region H. -/
def cmdInjectEventH : HCmd where
  code := 0x8005
  auth _ _ := true
  chk v _ r := srcCheck v false (r.u32 0)
  op _ h r :=
    let e : Event := { tb := h.htb, fine := 0xFFFF, src := r.u32 0, code := r.u32 4 / 2 ^ 24, value := r.u32 4 % 2 ^ 24 }
    match h.fcm.inject true h.htb e with
    | some en => (({ h with fcm := h.fcm.lastEntry en }.ringEntry en).ruleVectors en.cls 0, some (.ok, injectResult en))
    | none => (h, some (.badParam, 0))

/-- CLEAR_RECOVERY on the field side. -/
def cmdClearRecovery : FCmd where
  code := 0x8006
  auth _ := true
  chk v _ r := srcCheck v true (r.u32 0)
  op _ f r := ({ f with fcol := f.fcol.clearRecov (fun i => (r.u32 0 == 0xFFFFFFFF || i == r.u32 0) && Collector.judges false i) }, some (.ok, 0))

/-- CLEAR_RECOVERY on region H. -/
def cmdClearRecoveryH : HCmd where
  code := 0x8006
  auth _ _ := true
  chk v _ r := srcCheck v true (r.u32 0)
  op _ h r := ({ h with fcm := h.fcm.clearRecov (fun i => i == r.u32 0) }, some (.ok, 0))

/-- What region H does itself for a command of group 0x80 that names all sources: it clears its own, and answers how many PEND
flags that were. -/
def HostDie.allSources (h : HostDie) (code : Nat) (r : Request) : HostDie × Nat :=
  if code = 0x8001 ∧ r.u32 0 = 0xFFFFFFFF then
    let (c, n) := h.fcm.ack (Collector.judges true)
    ({ h with fcm := c }, n)
  else if code = 0x8006 ∧ r.u32 0 = 0xFFFFFFFF then ({ h with fcm := h.fcm.clearRecov (Collector.judges true) }, 0)
  else (h, 0)

namespace Machine

/-- A command of group 0x80 on the side of its source's scope (R407). A command that names all sources runs on the field side,
and region H does its share beside it. -/
def State.bySource (cf : FCmd) (ch : HCmd) (r : Request) (s : State) : State :=
  if srcHost r then s.host ch r else s.fieldShare cf (fun h => h.allSources cf.code r) r

/-- ACK_FAULT (R391, Table 15-15). -/
def execAckFault (r : Request) (s : State) : Out := .next (s.bySource cmdAckFault cmdAckFaultH r)

/-- SET_SOURCE (R408). -/
def execSetSource (r : Request) (s : State) : Out := .next (s.bySource cmdSetSource cmdSetSourceH r)

/-- GET_SOURCE (R407). -/
def execGetSource (r : Request) (s : State) : Out := .next (s.bySource cmdGetSource cmdGetSourceH r)

/-- GET_FAULT (R407). -/
def execGetFault (r : Request) (s : State) : Out := .next (s.field cmdGetFault r)

/-- INJECT_EVENT (R409). -/
def execInjectEvent (r : Request) (s : State) : Out := .next (s.bySource cmdInjectEvent cmdInjectEventH r)

/-- CLEAR_RECOVERY (R407). -/
def execClearRecovery (r : Request) (s : State) : Out := .next (s.bySource cmdClearRecovery cmdClearRecoveryH r)

/-- SEVERE_RECOVERY (R392), on the collector that judges the source. -/
def execSevereRecovery (src : Fin 256) (s : State) : Out :=
  .next (if Collector.judges true src then s.onHost (fun h => { h with fcm := h.fcm.recover src h.htb })
    else s.onField (fun f => { f with fcol := f.fcol.recover src f.tick.tb }))

end Machine

end Sys2Proof
end

