-- ==== Sys2Proof/Machine/Timers.lean ====
section
/-! DEFINITION. Timers and counters (21_timers R518 to R530): the channels, their events, their registers and the commands of
group 0xD0. Counts move by the counts that events show and, on the field side, to 2,500 more at each tick edge. -/

namespace Sys2Proof

namespace TimerCh

/-- An accepted edge loads the capture registers (R523); the stamp comes with the edge. -/
def load (c : TimerCh) (rising : Bool) (stamp : Nat) : TimerCh :=
  if rising then
    { c with rise := stamp, period := (stamp + 2 ^ 32 - c.rise) % 2 ^ 32, risef := true, rose := true }
  else
    { c with fall := stamp, fallf := true, rose := false
             width := if c.capMode = 3 ∧ c.rose then (stamp + 2 ^ 32 - c.rise) % 2 ^ 32 else c.width }

/-- Whether an edge of this kind is captured under CAP_MODE (R523). -/
def captures (c : TimerCh) (rising : Bool) : Bool :=
  if rising then c.capMode == 1 || c.capMode == 3 else c.capMode == 2 || c.capMode == 3

/-- PWM compare values that waited for a restart of PCNT take effect (R522). -/
def takePwm (c : TimerCh) : TimerCh :=
  { c with cmp := (c.cmp.modifyNat 0 (fun x => c.cmp0Next.getD x)).modifyNat 3 (fun x => c.cmp3Next.getD x)
           cmp0Next := none, cmp3Next := none }

/-- PCNT moves on by `d` counts in PWM mode, restarting after CMP3. -/
def movePwm (c : TimerCh) (d : Nat) : TimerCh :=
  if c.outMode = 2 then
    let top := c.cmp.getD 3 0
    if c.pcnt + d ≤ top then { c with pcnt := c.pcnt + d }
    else
      let n := c.takePwm
      { n with pcnt := (c.pcnt + d - top - 1) % (n.cmp.getD 3 0 + 1) }
  else { c with pcnt := 0 }

/-- The channel after `d` counts, its counter moving by `inc`: a pending capture transfers, and a RESET_LINKED that waits for
the next count takes effect (R520, R524). -/
def move (c : TimerCh) (d inc : Nat) : TimerCh :=
  if d = 0 then c
  else
    let c := match c.waiting with
      | some (rising, stamp) => { c.load rising stamp with waiting := none }
      | none => c
    let c := { c with lockedAt := none, resetNext := false
                      count := if c.resetNext then (if inc = 0 then 0 else d - 1) else (c.count + inc) % 2 ^ 32 }
    c.movePwm d

/-- The level that the channel commands on its output land (R522). -/
def level (c : TimerCh) : Bool :=
  match c.outMode with
  | 1 => c.out != c.outInv
  | 2 => if c.cmp.getD 3 0 = 0 then false else decide (c.pcnt < c.cmp.getD 0 0) != c.outInv
  | _ => false

/-- TCTRL (Table 21-5). -/
def tctrl (c : TimerCh) : Word :=
  pack [(31, bit c.en), (30, bit c.chain), (28, c.outMode), (27, bit c.outInv), (25, c.capMode), (24, bit c.capIrq), (16, c.filt)]

/-- TSTAT (Table 21-6). -/
def tstat (c : TimerCh) : Word :=
  pack [(31, bit (c.cmpf.getD 3 false)), (30, bit (c.cmpf.getD 2 false)), (29, bit (c.cmpf.getD 1 false)),
    (28, bit (c.cmpf.getD 0 false)), (27, bit c.capPending), (26, bit c.risef), (25, bit c.fallf), (24, bit c.input), (23, bit c.level)]

/-- CMP_ACT (Table 21-6). -/
def cmpAct (c : TimerCh) : Word := pack ((List.range 4).map fun i => (2 * i, c.act.getD i 0))

/-- W1C flags of TSTAT cleared (R530). -/
def clearFlags (c : TimerCh) (mask : Word) : TimerCh :=
  { c with cmpf := c.cmpf.mapIdx (fun i x => x && !mask.getLsbD (28 + i))
           capPending := c.capPending && !mask.getLsbD 27
           risef := c.risef && !mask.getLsbD 26
           fallf := c.fallf && !mask.getLsbD 25 }

/-- TCTRL written: a field whose new value it cannot take keeps its old one (R496, Table 21-5). CHAIN exists on even channels
only; PCNT reads 0 outside PWM. -/
def setCtrl (c : TimerCh) (even : Bool) (w : Word) : TimerCh :=
  let mode := if bits 29 28 w = 3 then c.outMode else bits 29 28 w
  { c with en := w.getLsbD 31, chain := even && w.getLsbD 30, outMode := mode, outInv := w.getLsbD 27
           capMode := bits 26 25 w, capIrq := w.getLsbD 24
           filt := if bits 23 16 w < 4 then c.filt else bits 23 16 w
           pcnt := if mode = 2 then c.pcnt else 0 }

/-- A compare value written: under PWM, CMP0 and CMP3 wait for the restart of PCNT (R522). -/
def setCmp (c : TimerCh) (i v : Nat) : TimerCh :=
  if c.outMode = 2 ∧ i = 0 then { c with cmp0Next := some v }
  else if c.outMode = 2 ∧ i = 3 then { c with cmp3Next := some v }
  else { c with cmp := c.cmp.modifyNat i (fun _ => v) }

end TimerCh

namespace TimerBlk

variable {n : Nat}

/-- Channel `k`. -/
def get (t : TimerBlk n) (k : Nat) : TimerCh := t.ch.getD k {}

/-- Channel `k` changed. -/
def mod (t : TimerBlk n) (k : Nat) (g : TimerCh → TimerCh) : TimerBlk n := { t with ch := t.ch.modifyNat k g }

/-- The channel linked with `k`: the other of its pair (R518). -/
def linked (k : Nat) : Nat := if k % 2 = 0 then k + 1 else k - 1

/-- Whether channel `k` lies in a pair whose even channel has CHAIN set (R525). -/
def chained (t : TimerBlk n) (k : Nat) : Bool := (t.get (k - k % 2)).chain

/-- How far channel `k`'s counter moves in `d` counts: an odd counter of a chained pair moves on the wraps of the even one
(R519, R525). -/
def inc (t : TimerBlk n) (d k : Nat) : Nat :=
  if k % 2 = 1 ∧ t.chained k then
    let e := t.get (k - 1)
    if e.en then (e.count + d) / 2 ^ 32 else 0
  else if (t.get k).en then d else 0

/-- The whole block after `d` counts. -/
def advance (t : TimerBlk n) (d : Nat) : TimerBlk n :=
  { t with ch := t.ch.mapIdx (fun k c => c.move d (t.inc d k)), elapsed := t.elapsed + d }

/-- The block moved on so that channel `k`'s counter reads `c`; a counter that stands still stays. -/
def advanceTo (t : TimerBlk n) (k c : Nat) : TimerBlk n :=
  if (t.get k).en ∧ ¬ (k % 2 = 1 ∧ t.chained k) then t.advance ((c + 2 ^ 32 - (t.get k).count) % 2 ^ 32) else t

/-- The field block at a tick edge: 2,500 counts since the last one (Table 21-1). -/
def edge (t : TimerBlk n) : TimerBlk n := { t.advance (2500 - t.elapsed) with elapsed := 0 }

/-- Compare `i` of channel `k` matches (R520 to R522). The answer says whether vector 54 is raised. -/
def compare (t : TimerBlk n) (k i : Nat) : TimerBlk n × Bool :=
  let c := t.get k
  if (c.outMode = 2 ∧ (i = 0 ∨ i = 3)) ∨ ¬ (c.en ∨ (k % 2 = 1 ∧ t.chained k)) then (t, false)
  else
    let t := t.advanceTo k (c.cmp.getD i 0)
    let a := c.act.getD i 0
    if a = 0 then (t, false)
    else
      let t := t.mod k (fun c => { c with cmpf := c.cmpf.modifyNat i (fun _ => true)
                                          out := if c.outMode = 1 then !c.out else c.out })
      if a = 1 ∨ t.chained k then (t, true)
      else if a = 2 then (t.mod (linked k) (fun c => { c with resetNext := true }), false)
      else (t.mod (linked k) (fun c => { c with en := true }), false)

/-- A filtered edge on channel `k`'s input, stamped `stamp` (R523, R524). -/
def capture (t : TimerBlk n) (k : Nat) (rising : Bool) (stamp : Nat) : TimerBlk n × Bool :=
  let t := (t.advanceTo k ((stamp + (t.get k).filt) % 2 ^ 32)).mod k (fun c => { c with input := rising })
  let c := t.get k
  if c.captures rising then
    (t.mod k (fun c =>
      if c.lockedAt = some c.count then { c with waiting := some (rising, stamp), capPending := true }
      else c.load rising stamp), c.capIrq)
  else (t, false)

/-- A snapshot of pair `p` (R526): both counts of one instant. -/
def snapshot (t : TimerBlk n) (p : Nat) : TimerBlk n :=
  t.mod (2 * p) (fun c => { c with snapLo := c.count, snapHi := (t.get (2 * p + 1)).count })

/-- The value of a capture register; the read locks all four for the count (R524). -/
def readCapture (t : TimerBlk n) (k : Nat) (reg : CapReg) : TimerBlk n × Nat :=
  let c := t.get k
  (t.mod k (fun c => { c with lockedAt := some c.count }),
    match reg with | .width => c.width | .rise => c.rise | .fall => c.fall | .period => c.period)

/-- A read of COUNT (R525): on a chained pair the even read latches the odd count for the reader and the odd read returns that
shadow. -/
def readCount (t : TimerBlk n) (k : Nat) (opPath : Bool) : TimerBlk n × Nat :=
  if t.chained k then
    if k % 2 = 0 then
      let odd := (t.get (k + 1)).count
      (t.mod k (fun c => if opPath then { c with shadowOp := odd } else { c with shadowProc := odd }), (t.get k).count)
    else (t, if opPath then (t.get (k - 1)).shadowOp else (t.get (k - 1)).shadowProc)
  else (t, (t.get k).count)

/-- The block's register at `idx` as an OP read returns it (Table 21-3), and the block after the read. -/
def opRead (t : TimerBlk n) (idx : Nat) (sideEffects : Bool) : Option Word × TimerBlk n :=
  if idx = 8 then (some (pack [(31, bit t.lock)]), t)
  else if 0x10 ≤ idx ∧ (idx - 0x10) / 0x10 < n then
    let k := (idx - 0x10) / 0x10
    let c := t.get k
    let cap (r : CapReg) := let (t', v) := t.readCapture k r; (some (BitVec.ofNat 32 v), if sideEffects then t' else t)
    match idx % 0x10 with
    | 0 => (some c.tctrl, t)
    | 1 => let (t', v) := t.readCount k true; (some (BitVec.ofNat 32 v), if sideEffects then t' else t)
    | 2 => cap .rise
    | 3 => cap .fall
    | 4 => cap .width
    | 5 => cap .period
    | 6 => (some c.tstat, t)
    | 7 => (some c.cmpAct, t)
    | 12 => (some (BitVec.ofNat 32 (if k % 2 = 0 then c.snapLo else 0)), t)
    | 13 => (some (BitVec.ofNat 32 (if k % 2 = 0 then c.snapHi else 0)), t)
    | 14 => (some (BitVec.ofNat 32 c.pcnt), t)
    | 15 => (some 0, t)
    | i => (some (BitVec.ofNat 32 (c.cmp.getD (i - 8) 0)), t)
  else (none, t)

/-- An OP write of a whole word to the register at `idx`, the bits outside the mask already filled with the register's own
(R496). `force` writes RWL fields whatever LOCK holds (19 R491). -/
def opWrite (t : TimerBlk n) (idx : Nat) (w mask : Word) (force : Bool) : TimerBlk n :=
  let open_ := !t.lock || force
  if idx = 8 then
    let t := (List.range (n / 2)).foldl (fun t p => if (w &&& mask).getLsbD p then t.snapshot p else t) t
    if open_ then { t with lock := w.getLsbD 31 } else t
  else if 0x10 ≤ idx ∧ (idx - 0x10) / 0x10 < n then
    let k := (idx - 0x10) / 0x10
    match idx % 0x10 with
    | 0 => if open_ then t.mod k (fun c => c.setCtrl (k % 2 = 0) w) else t
    | 1 => if open_ then t.mod k (fun c => if c.resetNext then c else { c with count := w.toNat }) else t
    | 6 => t.mod k (fun c => c.clearFlags (w &&& mask))
    | 7 => if open_ then t.mod k (fun c => { c with act := c.act.mapIdx (fun i _ => bits (2 * i + 1) (2 * i) w) }) else t
    | 8 => if open_ then t.mod k (fun c => c.setCmp 0 w.toNat) else t
    | 9 => if open_ then t.mod k (fun c => c.setCmp 1 w.toNat) else t
    | 10 => if open_ then t.mod k (fun c => c.setCmp 2 w.toNat) else t
    | 11 => if open_ then t.mod k (fun c => c.setCmp 3 w.toNat) else t
    | _ => t
  else t

/-- A block reset (01 R552): LOCK clears and the outputs are released. -/
def blockReset (t : TimerBlk n) : TimerBlk n := { t with lock := false, ch := t.ch.map (fun c => { c with out := false }) }

/-- TMR_SET (19 R498): the control register whole. -/
def tmrSet (t : TimerBlk n) (k : Nat) (r : Request) : TimerBlk n × Nat :=
  (t.mod k (fun c => c.setCtrl (k % 2 = 0) (BitVec.ofNat 32 (r.u32 4))), 0)

/-- TMR_COMPARE (19 R499). -/
def tmrCompare (t : TimerBlk n) (k : Nat) (r : Request) : TimerBlk n × Nat :=
  (t.mod k (fun c => { c.setCmp (r.u32 4) (r.u32 8) with act := c.act.modifyNat (r.u32 4) (fun _ => r.u32 12) }), 0)

/-- TMR_SNAPSHOT (R526): the 64-bit count of the pair. -/
def tmrSnapshot (t : TimerBlk n) (k : Nat) (_ : Request) : TimerBlk n × Nat :=
  let t := t.snapshot (k / 2)
  (t, (t.get k).snapLo + 2 ^ 32 * (t.get k).snapHi)

/-- TMR_GET (19 Table 19-12): count, width with CAPTURE_PENDING, or a compare value. -/
def tmrGet (t : TimerBlk n) (k : Nat) (r : Request) : TimerBlk n × Nat :=
  match r.u32 4 with
  | 0 => t.readCount k false
  | 1 => let (t', w) := t.readCapture k .width; (t', w + 2 ^ 32 * bit (t.get k).capPending)
  | _ => (t, (t.get k).cmp.getD (r.u32 8) 0)

end TimerBlk

/-- The parameters of TMR_SET (Table 21-5): a FILT below 4, the reserved OUT_MODE and the reserved bits are refused. -/
def tmrSetOk (r : Request) : Bool :=
  let w := BitVec.ofNat 32 (r.u32 4)
  4 ≤ bits 23 16 w && bits 29 28 w != 3 && bits 15 0 w == 0

/-- The parameters of TMR_COMPARE (19 Table 19-12). -/
def tmrCompareOk (r : Request) : Bool := r.u32 4 < 4 && r.u32 12 < 4

/-- The parameters of TMR_SNAPSHOT: an even channel. -/
def tmrSnapshotOk (r : Request) : Bool := r.u32 0 % 2 == 0

/-- The parameters of TMR_GET. -/
def tmrGetOk (r : Request) : Bool := r.u32 4 < 2 || (r.u32 4 == 2 && r.u32 8 < 4)

/-- Channels 2 and 3 of Q0 capture the rising edges of LINE_ZC0 and LINE_ZC1 whatever is written to them (21 R528). -/
def TimerBlk.lines (t : TimerBlk 4) : TimerBlk 4 :=
  { t with ch := t.ch.mapIdx (fun k (c : TimerCh) => if 2 ≤ k then { c with capMode := 1 } else c) }

/-- The field image starts them (21 R528), with their counters running (DEDUCED, log entry 89: a capture stamps a count). -/
def TimerBlk.startLines (t : TimerBlk 4) : TimerBlk 4 :=
  { t with ch := t.ch.mapIdx (fun k (c : TimerCh) => if 2 ≤ k then { c with en := true, capMode := 1 } else c) }

/-- Whether the configuration gives timer channel `ch` of the field a fixed function (19 R498): an enabled fan, or LINE_ZC. -/
def FieldDie.fixedTimer (f : FieldDie) (ch : Nat) : Bool :=
  let q := (ch - 8) / 4
  let k := (ch - 8) % 4
  (k < 2 && (f.fans.getD (2 * q + k) {}).en) || (q == 0 && 2 ≤ k)

namespace Machine

/-- An event on timer channel `ch`, on the die that has it; vector 54 is raised at the host for a host channel, and for a field
channel reaches the host with the next heartbeat (21 R529). -/
def State.onTimer (ch : Nat) (g : (n : Nat) → TimerBlk n → Nat → TimerBlk n × Bool) (s : State) : State :=
  if ch < 8 then
    s.onHost (fun h =>
      let (t, irq) := g 8 h.htim ch
      if irq then { h with htim := t }.vector 54 else { h with htim := t })
  else if s.chip.variant.quads ≤ (ch - 8) / 4 then s
  else
    s.onField (fun f =>
      let q := (ch - 8) / 4
      let (t, irq) := g 4 (f.qd q).ftim ((ch - 8) % 4)
      let f := f.modQd q (fun x => { x with ftim := t })
      if irq then { f with bar := { f.bar with timerVec := true } } else f)

/-- A read on timer channel `ch` whose value goes to the reader. -/
def State.readTimer (ch : Nat) (g : (n : Nat) → TimerBlk n → Nat → TimerBlk n × Nat) (s : State) : State :=
  let v := if ch < 8 then (g 8 s.chip.host.htim ch).2 else (g 4 (s.chip.field.qd ((ch - 8) / 4)).ftim ((ch - 8) % 4)).2
  (s.onTimer ch (fun n t k => ((g n t k).1, false))).on (fun c => { c with readData := [BitVec.ofNat 32 v] })

/-- TIMER_COMPARE_MATCH (R520). -/
def execTimerCompareMatch (ch : Fin 24) (i : Fin 4) (s : State) : Out :=
  .next (s.onTimer ch (fun _ t k => t.compare k i))

/-- TIMER_CAPTURE (R523). -/
def execTimerCapture (ch : Fin 24) (rising : Bool) (count : Word) (s : State) : Out :=
  .next (s.onTimer ch (fun _ t k => t.capture k rising count.toNat))

/-- TIMER_PWM_PERIOD (R522): PCNT restarts, and waiting values of CMP0 and CMP3 take effect. -/
def execTimerPwmPeriod (ch : Fin 24) (s : State) : Out :=
  .next (s.onTimer ch (fun _ t k => (t.mod k (fun c => if c.outMode = 2 then { c.takePwm with pcnt := 0 } else c), false)))

/-- TSTAT_CLEAR (R530). -/
def execTstatClear (ch : Fin 24) (mask : Word) (s : State) : Out :=
  .next (s.onTimer ch (fun _ t k => (t.mod k (fun c => c.clearFlags mask), false)))

/-- TIMER_SNAP_WRITE (R526): block 0 is HTIM, block 1 + q the FTIM of quadrant q, which has two pairs. -/
def execTimerSnapWrite (block : Fin 5) (pairs : BitVec 4) (s : State) : Out :=
  .next (s.onTimer (if block.val = 0 then 0 else 4 + 4 * block.val)
    (fun n t _ => ((List.range (n / 2)).foldl (fun t p => if pairs.getLsbD p then t.snapshot p else t) t, false)))

/-- TIMER_COUNT_READ (R525). -/
def execTimerCountRead (ch : Fin 24) (opPath : Bool) (s : State) : Out :=
  .next (s.readTimer ch (fun _ t k => t.readCount k opPath))

/-- CAPTURE_READ_LOCK (R524). -/
def execCaptureReadLock (ch : Fin 24) (reg : CapReg) (s : State) : Out :=
  .next (s.readTimer ch (fun _ t k => t.readCapture k reg))

end Machine

end Sys2Proof
end

