-- ==== Sys2Proof/Machine/Measure.lean ====
section
/-! DEFINITION. Measurement (04_measurement R97 to R123): tick values, bus voltages, overvoltage paths, calibration, line inputs and
the MEAS registers. -/

namespace Sys2Proof

/-- The factor of a GAIN code (Table 04-1). -/
def gainOf : Nat → Nat
  | 0 => 1
  | 1 => 4
  | _ => 16

/-- Gains that channel `c` allows (Table 04-2), as GAIN codes. -/
def gainAllowed (c g : Nat) : Bool :=
  if c < 8 then g == 1 || g == 2 else if c = 12 ∨ c = 13 then g == 0 || g == 1 else g == 0

/-- A raw code corrected with a cell's coefficients (R100). -/
def corrected (cell : Cell) (raw : Int) : Int := satI 16 (((raw - cell.offset) * cell.gain + 0x4000).fdiv 0x8000)

namespace Chan

/-- Whether channel `c` is measured (Table 04-6). -/
def measured (x : Chan) (c : Nat) : Bool := x.en || 14 ≤ c

/-- CH_CFG (Table 04-6). -/
def cfgWord (x : Chan) : Word := pack [(16, x.scale), (8, x.gain), (6, x.group), (5, bit x.neg), (0, bit x.en)]

/-- A value in 1/16 LSB of a bus sense as mV (R103). -/
def busMv (x : Chan) (v : Int) : Int :=
  let mv := roundDiv (v * 2500 * x.scale) (8388608 * gainOf x.gain)
  if x.neg then -mv else mv

/-- A value in 1/16 LSB of a shunt as mA (R103). -/
def branchMa (x : Chan) (v : Int) : Int := roundDiv (v * 25000000000) (524288 * gainOf x.gain * x.scale)

/-- The value of an overvoltage path (R110): the largest reading after NEG, in mV. -/
def pathMv (x : Chan) : Int := x.busMv (16 * (if x.neg then x.min else x.max))

end Chan

namespace MeasQ

/-- The cell that serves channel `x`: a spare is row 16 or 17. -/
def cellOf (x : Chan) : Nat := if 0x80 ≤ x.cell then 16 + (x.cell - 0x80) else x.cell

/-- The tick values of channel `c` from its 25 raw codes (R99 to R101). `ok` says that its region and its analog domain serve it. -/
def closeChan (m : MeasQ) (ok : Bool) (c : Nat) (raw : List Int) (x : Chan) : Chan :=
  let cell := m.cells.getD (cellOf x) {}
  if ¬ x.measured c then { x with avg := 0, max := 0, min := 0, valid := false, stale := false, clip := false }
  else if ¬ ok ∨ x.failed ∨ cell.failed then { x with valid := false, stale := true, clip := false }
  else
    let cs := raw.map (corrected cell)
    let clip := raw.any fun r => r == -32768 || r == 32767
    { x with avg := roundDiv (cs.sum * 16) 25, max := cs.foldl max (-32768), min := cs.foldl min 32767, valid := true, stale := false
             clip := clip, clipCnt := satN 16 (x.clipCnt + bit clip) }

/-- All channels of quadrant `q` at the tick edge. -/
def close (m : MeasQ) (q : Nat) (ok : Bool) (s : Samples) : MeasQ :=
  { m with ch := m.ch.mapIdx (fun c x => m.closeChan ok c (s.getD (16 * q + c) (Tab.fill 25 0)).rows x) }

/-- Temperature of channel 12 or 13 in 0.01 °C (R105), with whether the code lies outside the table; none without a valid value
or a table. The interpolation rounds to nearest, ties away from zero (DESIGN CHOICE, log entry 42). -/
def temp (m : MeasQ) (c : Nat) : Option (Int × Bool) :=
  let x := m.ch.getD c {}
  let t := m.tempTable.getD (c - 12) []
  if ¬ x.valid then none
  else match t with
    | [] => none
    | p :: _ =>
      let last := t.getLast?.getD p
      if x.avg < 16 * p.1 then some (p.2, true)
      else if 16 * last.1 < x.avg then some (last.2, true)
      else
        match (t.zip t.tail).find? (fun s => x.avg ≤ 16 * s.2.1) with
        | some (a, b) => some (a.2 + roundDiv ((x.avg - 16 * a.1) * (b.2 - a.2)) (16 * (b.1 - a.1)).toNat, false)
        | none => some (last.2, false)

/-- The spares in permanent use stay so, with the channels that they carry and the cells that they replaced (01 R33). -/
def keepSpares (m old : MeasQ) : MeasQ :=
  { m with
    ch := m.ch.mapIdx (fun c (x : Chan) =>
      let o := old.ch.getD c {}
      if 0x80 ≤ o.cell ∧ 4 ≤ (old.cal.getD (o.cell - 0x80) {}).state then { x with cell := o.cell, failed := o.failed } else { x with failed := o.failed })
    cells := m.cells.mapIdx (fun i (x : Cell) => { x with failed := (old.cells.getD i {}).failed })
    cal := m.cal.mapIdx (fun s (x : CalSpare) =>
      let o := old.cal.getD s {}
      if 4 ≤ o.state then { x with state := o.state, ch := o.ch, usedFor := o.usedFor } else x) }

/-- The hottest valid temperature of the quadrant (21 R527). -/
def hottest (m : MeasQ) : Option Int :=
  match m.temp 12, m.temp 13 with
  | some a, some b => some (max a.1 b.1)
  | some a, none => some a.1
  | none, some b => some b.1
  | none, none => none

end MeasQ

/-- An edge of a line input at a count, in tick `tb` (R123). -/
def LineZc.edge (z : LineZc) (stamp tb : Nat) : LineZc :=
  match z.lastEdge with
  | none => { z with lastEdge := some stamp }
  | some l =>
    let p := (stamp + 2 ^ 32 - l) % 2 ^ 32
    if p < 500000 then z
    else if 1428572 ≤ p ∧ p ≤ 2500000 then
      { z with lastEdge := some stamp, valid := true, freq := (roundDiv 100000000000 p).toNat, since := tb }
    else { z with lastEdge := some stamp }

namespace FieldDie

/-- The measurement block of quadrant `q` changed. -/
def modMeas (f : FieldDie) (q : Nat) (g : MeasQ → MeasQ) : FieldDie := f.modQd q (fun x => { x with meas := g x.meas })

/-- Channel `c` of quadrant `q`. -/
def chan (f : FieldDie) (q c : Nat) : Chan := (f.qd q).meas.ch.getD c {}

/-- Channel `c` of quadrant `q` changed. -/
def modChan (f : FieldDie) (q c : Nat) (g : Chan → Chan) : FieldDie := f.modMeas q (fun m => { m with ch := m.ch.modifyNat c g })

/-- Whether the analog domain of quadrant `q` reports power good (Table 02-3): F_ANA01 is domain 2, F_ANA23 domain 5. -/
def analogGood (f : FieldDie) (q : Nat) : Bool := f.power.dom.getD (if q < 2 then 2 else 5) .off == .good

/-- Whether temperature channel 12 + i of quadrant `q` reads outside its table (R105). -/
def tempOutside (f : FieldDie) (q i : Nat) : Bool :=
  match (f.qd q).meas.temp (12 + i) with
  | some t => t.2
  | none => false

/-- TEMP_OUT_OF_TABLE when a temperature leaves its table (R105). -/
def tempCheck (f : FieldDie) (q i : Nat) : FieldDie :=
  let now := f.tempOutside q i
  let f' := f.modMeas q (fun m => { m with tempOut := m.tempOut.modifyNat i (fun _ => now) })
  if now && !(f.qd q).meas.tempOut.getD i false then f'.raiseQ q 10 1 (12 + i) else f'

/-- The tick values of quadrant `q`, and REF_DISAGREE at the 40th disagreeing tick (R107). A tick in which channel 15 is not VALID neither
extends nor ends the stretch (DESIGN CHOICE, log entry 42). -/
def quadClose (f : FieldDie) (q : Nat) (s : Samples) : FieldDie :=
  let ok := f.analogGood q && !f.volt.settling.getD (q / 2) false && !f.power.isolated.getD q false
  let f := f.modMeas q (fun m => m.close q ok s)
  let x := f.chan q 15
  let bad : Bool := x.valid && decide (1312 < (x.avg - 262144).natAbs)
  let run := if ¬ x.valid then (f.qd q).meas.refRun else if bad then min 41 ((f.qd q).meas.refRun + 1) else 0
  let f := f.modMeas q (fun m => { m with refRun := run })
  let f := if bad && run == 40 then f.raiseQ q 6 1 else f
  (f.tempCheck q 0).tempCheck q 1

/-- MEAS_TICK_CLOSE (R99 to R101, R105, R107): the values of the tick just past, REF_DISAGREE at the 40th disagreeing tick, and
TEMP_OUT_OF_TABLE when a temperature leaves its table. -/
def measClose (v : Variant) (f : FieldDie) (s : Samples) : FieldDie :=
  let f := (List.range v.quads).foldl (fun f q => f.quadClose q s) f
  { f with volt := { f.volt with settling := Tab.fill 2 false } }

/-- Bus senses of a group in all present quadrants: enabled ones. -/
def senses (v : Variant) (f : FieldDie) (g : Nat) : List Chan :=
  (List.range v.quads).flatMap fun q =>
    ((List.range 4).map fun i => f.chan q (8 + i)).filter fun x => x.en && x.group == g

/-- Insertion into a rising list. -/
def insertInt (x : Int) : List Int → List Int
  | [] => [x]
  | y :: ys => if x ≤ y then x :: y :: ys else y :: insertInt x ys

/-- The median; of an even count the mean of the two middle values, rounded down (R104). -/
def median (xs : List Int) : Int :=
  let s := xs.foldr insertInt []
  let n := s.length
  if n % 2 = 1 then s.getD (n / 2) 0 else (s.getD (n / 2 - 1) 0 + s.getD (n / 2) 0).fdiv 2

/-- The bus value of a group (R104): none where fewer than 2 channels are valid. -/
def busValue (v : Variant) (f : FieldDie) (g : Nat) : Option Int :=
  let vs := ((senses v f g).filter (·.valid)).map fun x => x.busMv x.avg
  if vs.length < 2 then none else some (median vs)

/-- VBUS_FORM (R104): both bus values, and VBUS_MEAS_LOST when that of a used group becomes invalid. -/
def vbusForm (v : Variant) (f : FieldDie) : FieldDie :=
  let p := busValue v f 0
  let n := busValue v f 1
  let f' := { f with volt := { f.volt with
    pos := p.getD f.volt.pos, neg := n.getD f.volt.neg, posOk := p.isSome, negOk := n.isSome } }
  let f' := if f.volt.posOk ∧ p.isNone ∧ senses v f 0 ≠ [] then f'.raise 43 1 0 else f'
  if f.volt.negOk ∧ n.isNone ∧ senses v f 1 ≠ [] then f'.raise 43 1 1 else f'

/-- Whether sense `j` = 4 × quadrant + pair is eligible for a path (R109). -/
def eligible (v : Variant) (f : FieldDie) (j : Nat) : Bool :=
  let x := f.chan (j / 4) (8 + j % 4)
  decide (j / 4 < v.quads) && x.en && x.group < 2 && x.valid && x.cmpPass

/-- Candidates of path A in order (R109). -/
def orderA : List Nat := [0, 1, 4, 5, 8, 9, 12, 13]

/-- Candidates of path B in order (R109). -/
def orderB : List Nat := [15, 14, 11, 10, 7, 6, 3, 2]

/-- OV_PATH_SELECT for one path (R109): the sense, whether it has one, whether OV_PATH_LOST stands, and the events. -/
def selectPath (limit : Nat) (pick : Option Nat) (sense : Nat) (valid lost : Bool) : Nat × Bool × Bool × Option Nat :=
  match pick with
  | some j => (j, true, false, if j ≠ sense ∨ lost then some 44 else none)
  | none =>
    let newly := !lost && (valid || limit != 0)
    (sense, false, lost || newly, if newly then some 45 else none)

/-- OV_PATH_SELECT (R109). -/
def ovSelect (v : Variant) (f : FieldDie) : FieldDie :=
  let o := f.volt
  let (a, av, al, ea) := selectPath o.ovLimit (orderA.find? (eligible v f)) o.aSense o.aValid o.aLost
  let (b, bv, bl, eb) := selectPath o.ovLimit (orderB.find? (eligible v f)) o.bSense o.bValid o.bLost
  let f := { f with volt := { o with aSense := a, aValid := av, aLost := al, bSense := b, bValid := bv, bLost := bl } }
  let f := match ea with | some s => f.raise s 1 0 | none => f
  match eb with | some s => f.raise s 1 1 | none => f

/-- The channel of a path. -/
def pathChan (f : FieldDie) (b : Bool) : Chan :=
  let j := if b then f.volt.bSense else f.volt.aSense
  f.chan (j / 4) (8 + j % 4)

/-- Whether both paths' values lie below 98 % of OV_LIMIT (R110, R113); met while it is 0. -/
def bothBelow (f : FieldDie) : Bool :=
  f.volt.ovLimit == 0 ||
    (decide ((f.pathChan false).pathMv * 100 < 98 * f.volt.ovLimit) && decide ((f.pathChan true).pathMv * 100 < 98 * f.volt.ovLimit))

/-- The threshold code of a path's DAC (R111): the smallest whose voltage is at least OV_LIMIT ÷ K; 1,023 while disarmed. -/
def dacCode (f : FieldDie) (b : Bool) : Nat :=
  let s := (f.pathChan b).scale
  if f.volt.ovLimit = 0 ∨ s = 0 then 1023 else min 1023 ((f.volt.ovLimit * 16384 + 2500 * s - 1) / (2500 * s))

/-- Whether a path's input stood above its DAC's threshold in the tick just past (R108, R111). -/
def aboveDac (f : FieldDie) (b : Bool) : Bool :=
  decide ((f.dacCode b * 2500 * (f.pathChan b).scale : Int) < (f.pathChan b).pathMv * 16384)

/-- DL_STOP_EVAL (R110). The two edges over OV_LIMIT may be those of different paths: either path exceeding it at each of two consecutive edges
sets DL_STOP (DESIGN CHOICE, log entry 42). -/
def dlStopEval (f : FieldDie) : FieldDie :=
  let o := f.volt
  let high : Bool := o.ovLimit != 0 && (decide ((o.ovLimit : Int) < (f.pathChan false).pathMv) || decide ((o.ovLimit : Int) < (f.pathChan true).pathMv))
  let edges := if high then min 2 (o.overEdges + 1) else 0
  let run := if f.bothBelow then min 4000 (o.underRun + 1) else 0
  let o := { o with overEdges := edges, underRun := run
                    -- the comparators' live outputs fall once every sample of a tick lies at or below the DAC's threshold
                    aCmp := o.aCmp && f.aboveDac false
                    bCmp := o.bCmp && f.aboveDac true }
  if edges = 2 ∧ ¬ o.dlStop then { f with volt := { o with dlStop := true } }.raise 46 1
  else if o.dlStop ∧ edges < 2 ∧ ¬ o.stopLatched ∧ (o.ovLimit = 0 ∨ run = 4000) then { f with volt := { o with dlStop := false } }
  else { f with volt := o }

/-- An analog assertion of SHELF_STOP_N (R111, R114). -/
def shelfStop (f : FieldDie) (value : Nat) : FieldDie :=
  { f with volt := { f.volt with shelfStop := true, stopLatched := true, stopCnt := satN 16 (f.volt.stopCnt + 1) } }.raise 47 1 value

/-- Whether an analog domain, F_ANA23 for `high`, serves path A or B (R114). -/
def servesPath (f : FieldDie) (high : Bool) : Bool :=
  (f.volt.aValid && (2 ≤ f.volt.aSense / 4) == high) || (f.volt.bValid && (2 ≤ f.volt.bSense / 4) == high)

/-- An analog domain's power good goes (R101); while armed, the loss of a domain that serves a path asserts SHELF_STOP_N (R114). -/
def analogLost (f : FieldDie) (high : Bool) : FieldDie :=
  let serves := f.servesPath high
  let f := { f with power := { f.power with dom := f.power.dom.modifyNat (if high then 5 else 2) (fun _ => .off) } }
  if f.volt.ovLimit ≠ 0 ∧ serves then f.shelfStop (2 + bit high) else f

/-- Whether OV_LIMIT `limit` is within the DAC's range for a channel (R111). -/
def dacReach (limit scale : Nat) : Bool := limit * 16384 ≤ 2557500 * scale

/-- Whether OV_LIMIT may take a value (R111): every enabled sense of group 0 or 1 reaches it. -/
def ovLimitOk (v : Variant) (f : FieldDie) (limit : Nat) : Bool :=
  ((senses v f 0) ++ (senses v f 1)).all fun x => dacReach limit x.scale

/-- OV_LIMIT written by OP (R113, R496). -/
def writeOvLimit (v : Variant) (f : FieldDie) (limit : Nat) (force : Bool) : FieldDie :=
  if (f.volt.ovLock ∧ ¬ force) ∨ ¬ ovLimitOk v f limit then f else { f with volt := { f.volt with ovLimit := limit } }

/-- STOP_LATCHED cleared by a write of 1 where R113 allows it. -/
def clearStop (f : FieldDie) : FieldDie :=
  if f.volt.stopLatched ∧ ¬ f.volt.aCmp ∧ ¬ f.volt.bCmp ∧ f.bothBelow then
    { f with volt := { f.volt with stopLatched := false, shelfStop := false } }
  else f

/-- OV_STATUS (Table 04-12). -/
def ovStatus (f : FieldDie) : Word :=
  let o := f.volt
  pack [(28, o.aSense), (24, o.bSense), (23, bit o.aValid), (22, bit o.bValid), (21, bit o.aCmp), (20, bit o.bCmp), (19, bit o.dlStop),
    (18, bit o.stopLatched), (17, bit o.ovLock), (0, o.stopCnt)]

/-- The block that MEAS is in its quadrant. -/
def measBlk : Nat := 3

/-- The channels that spare `s` serves (R115): its half, or all where the other spare is permanent or failed. -/
def calChannels (m : MeasQ) (s : Nat) : List Nat :=
  let other := m.cal.getD (1 - s) {}
  let all := (List.range 16).filter fun c => (m.ch.getD c {}).measured c
  if 4 ≤ other.state then all else all.filter fun c => c / 8 == s

/-- Whether a sweep runs on the quadrant's measurement block (R120). -/
def sweeping (f : FieldDie) (q : Nat) : Bool := (((f.qd q).blk.getD measBlk {}).op.map (·.kind)) == some 2

/-- Whether a spare rotates: a rotation or a sweep runs, and it is neither permanent nor failed. -/
def calRuns (f : FieldDie) (q s : Nat) : Bool :=
  let m := (f.qd q).meas
  (m.rotEn || (f.sweeping q && !m.sweepLeft.isEmpty)) && (m.cal.getD s {}).state < 4

/-- A spare changed. -/
def modCal (f : FieldDie) (q s : Nat) (g : CalSpare → CalSpare) : FieldDie :=
  f.modMeas q (fun m => { m with cal := m.cal.modifyNat s g })

/-- A measurement cell changed. -/
def modCell (f : FieldDie) (q i : Nat) (g : Cell → Cell) : FieldDie :=
  f.modMeas q (fun m => { m with cells := m.cells.modifyNat i g })

/-- A cell's row for a CELL code. -/
def cellRow (code : Nat) : Nat := if 0x80 ≤ code then 16 + (code - 0x80) else code

/-- What R119 adds when a spare becomes permanent or failed: with no spare left, rotation stops. -/
def calStopped (f : FieldDie) (q : Nat) : FieldDie :=
  if (f.qd q).meas.cal.rows.all (fun s => 4 ≤ s.state) then (f.raiseQ q 8 2).vector 50 else f

/-- A spare fails (Table 04-5), with what R119 adds; its byte of SPARE_MAP stays (01 R33). -/
def spareFails (f : FieldDie) (q s : Nat) : FieldDie :=
  let x := (f.qd q).meas.cal.getD s {}
  let f := (f.modCell q (16 + s) (fun c => { c with failed := true })).modCal q s (fun y => { y with state := 5, stage := 0, first := none, prior := none })
  if x.state < 4 then f.calStopped q else f

/-- The spare takes channel `c` for good (R32, R117): SPARE_MAP, LAST_OP and vector 51. -/
def takeForGood (f : FieldDie) (q s c : Nat) : FieldDie :=
  let f := f.modCal q s (fun x => { x with
    state := 4, ch := c, usedFor := some c, wanted := none, first := none, shadowed := false, prior := none })
  let f := f.modChan q c (fun x => { x with cell := 0x80 + s, failed := false })
  let f := f.modQBlk q measBlk (fun b => { b with lastOp := 5 })
  ((f.raiseQ q 5 1 (measBlk * 256 + c)).vector 51).calStopped q

/-- A channel whose cell is FAILED with no spare (R121). -/
def chanFailed (f : FieldDie) (q c : Nat) : FieldDie :=
  if (f.chan q c).failed then f
  else
    let f := f.modChan q c (fun x => { x with failed := true })
    let f := f.modQBlk q measBlk (fun b => { b with failedCells := (b.failedCells.filter (· != c)) ++ [c] })
    if c < 8 ∨ 14 ≤ c then f.raiseQ q 9 1 c else f

/-- A step of spare `s` is cut short (R118): the cell under calibration resumes its channel with the coefficients that it had before the step. -/
def cutStep (f : FieldDie) (q s : Nat) : FieldDie :=
  let x := (f.qd q).meas.cal.getD s {}
  let f := match x.prior with
    | some p => f.modCell q (cellRow x.own) (fun c => { p with failed := c.failed })
    | none => f
  let f := if x.state = 2 then f.modChan q x.ch (fun y => { y with cell := x.own }) else f
  f.modCal q s (fun y => { y with state := 0, stage := 0, first := none, shadowed := false, prior := none })

/-- Channel `c` has a failed cell and needs a spare (R118): one that carries no channel takes it, at this edge; else a rotating spare's step is cut
short, and that spare takes the channel at the edge after; with no spare, R121. -/
def needSpare (f : FieldDie) (q c : Nat) : FieldDie :=
  let m := (f.qd q).meas
  match (List.range 2).find? (fun s => (m.cal.getD s {}).wanted == some c) with
  | some s => f.takeForGood q s c
  | none =>
    match (List.range 2).find? (fun s => let x := m.cal.getD s {}; x.state < 4 && x.state != 2 && x.wanted.isNone) with
    | some s => (f.cutStep q s).takeForGood q s c
    | none =>
      match (List.range 2).find? (fun s => let x := m.cal.getD s {}; x.state == 2 && x.wanted.isNone) with
      | some s => (f.cutStep q s).modCal q s (fun y => { y with wanted := some c })
      | none => f.chanFailed q c

/-- A measurement cell fails outright (R31, R118), named by its index: 16 and 17 are the spares. A spare works under the index of the cell that it has
replaced (01 R32), so the failure of cell `c` whose channel a permanent spare carries is that spare's. The failure of a cell that is under calibration
leaves its spare on the channel, and the failure of a spare that carries one for a calibration gives the channel back to its cell (DEDUCED, log
entry 89). -/
def measSwap (f : FieldDie) (q c : Nat) : FieldDie :=
  let m := (f.qd q).meas
  let x := m.ch.getD c {}
  if 16 ≤ c then
    let s := c - 16
    let y := m.cal.getD s {}
    if 5 ≤ y.state then f
    else if y.state = 4 then (f.spareFails q s).needSpare q y.ch
    else (f.cutStep q s).spareFails q s
  else if 0x80 ≤ x.cell then
    let s := x.cell - 0x80
    if (m.cal.getD s {}).state = 2 then (f.modCell q c (fun y => { y with failed := true })).takeForGood q s c
    else (f.spareFails q s).needSpare q c
  else (f.modCell q (cellRow x.cell) (fun y => { y with failed := true })).needSpare q c

/-- What the record of a retirement holds (R117). -/
def retireNote (q : Nat) (cell : Cell) (code ch reason : Nat) : List (Nat × Nat) :=
  let i := cellRow code
  [(1, code), (1, ch), (2, (Config.factoryGain q i).toNat), (2, enc 16 (Config.factoryOffset q i).toInt), (2, cell.lastGain),
    (2, enc 16 cell.lastOffset), (1, reason)]

/-- CAL_RETIRE of the cell with CELL code `code` (R117). -/
def retired (f : FieldDie) (q code ch reason : Nat) : FieldDie :=
  let cell := (f.qd q).meas.cells.getD (cellRow code) {}
  let f := f.modMeas q (fun m => { m with retired := satN 8 (m.retired + 1), calNote := retireNote q cell code ch reason })
  ((f.modCell q (cellRow code) (fun c => { c with failed := true })).raiseQ q 8 1 ch).vector 50

/-- The limits of Table 04-14 on a pair of coefficients against the factory's: the reason that retires, or 0. -/
def factoryCheck (q i gain : Nat) (off : Int) : Nat :=
  let fg := (Config.factoryGain q i).toNat
  if 64 < (off - (Config.factoryOffset q i).toInt).natAbs then 1
  else if 5 * fg < 1000 * ((gain : Int) - fg).natAbs then 2 else 0

/-- Whether a pair lies more than the limit from the last calibration (Table 04-14). -/
def lastCheck (cell : Cell) (gain : Nat) (off : Int) : Bool :=
  decide (16 < (off - cell.lastOffset).natAbs) || decide (5 * cell.lastGain < 10000 * ((gain : Int) - cell.lastGain).natAbs)

/-- Whether a repeat agrees with the first result (Table 04-14): 4 codes and 0.01 %. -/
def repeatAgrees (a : Nat × Int) (gain : Nat) (off : Int) : Bool :=
  decide ((off - a.2).natAbs ≤ 4) && decide (10000 * ((gain : Int) - a.1).natAbs ≤ a.1)

/-- The judgement of a step's coefficients (Table 04-14). -/
inductive Judged where
  /-- Accepted; CAL_STEP is raised after a repeat that agrees. -/
  | accept (step : Bool)
  /-- The step is repeated once. -/
  | again
  /-- The cell is retired, for a reason. -/
  | retire (reason : Nat)
  deriving DecidableEq, Repr

/-- Table 04-14 on a pair of coefficients of a cell: a repeat has to agree with the first result whatever it is compared with besides. -/
def judgeCal (q i : Nat) (cell : Cell) (first : Option (Nat × Int)) (gain : Nat) (off : Int) : Judged :=
  let why := factoryCheck q i gain off
  if why ≠ 0 then .retire why
  else match first with
    | some a => if repeatAgrees a gain off then .accept true else .retire 3
    | none => if lastCheck cell gain off then .again else .accept false

/-- New coefficients of a cell. -/
def acceptCal (f : FieldDie) (q i gain : Nat) (off : Int) : FieldDie :=
  f.modCell q i (fun c => { c with gain := gain, offset := off, lastGain := gain, lastOffset := off, calibrated := true })

/-- The next step of a spare (R115): the next channel in ascending order, a rotation completed at the wrap, or idle. A sweep takes the channels that
it has left. With both spares rotating, ROTATIONS counts the wraps of the lower one (DESIGN CHOICE, log entry 42). -/
def nextStep (f : FieldDie) (q s : Nat) : FieldDie :=
  let x := (f.qd q).meas.cal.getD s {}
  match x.wanted with
  | some c => f.takeForGood q s c
  | none =>
    let f := if x.state = 0 then f else f.modMeas q (fun m => { m with sweepLeft := m.sweepLeft.filter (· != x.ch) })
    let m := (f.qd q).meas
    let all := calChannels m s
    let left := all.filter fun c => m.sweepLeft.contains c
    let cs := if f.sweeping q ∧ ¬ m.rotEn then left else if left.isEmpty then all else left
    let wrap := x.state ≠ 0 ∧ ¬ all.any (x.ch < ·)
    let first := (List.range 2).find? (fun k => (m.cal.getD k {}).state < 4)
    let f := if wrap ∧ first = some s then f.modMeas q (fun m => { m with rotations := (m.rotations + 1) % 256 }) else f
    let idle (f : FieldDie) : FieldDie := f.modCal q s (fun y => { y with state := 0, stage := 0, first := none, shadowed := false, prior := none })
    match (cs.find? (fun c => x.state != 0 && decide (x.ch < c))).or cs.head? with
    | some c =>
      let own := (f.chan q c).cell
      if f.calRuns q s then f.modCal q s (fun y => { y with
        state := 1, stage := 0, ch := c, own := own, first := none, shadowed := false, prior := some ((f.qd q).meas.cells.getD (cellRow own) {}) })
      else idle f
    | none => idle f

/-- CAL_RETIRE at the end of a step of spare `s` (R117): the cell under calibration is retired and the spare stays on its channel. Where that cell is
itself a spare in permanent use, the channel's cell becomes FAILED (R33), and spare `s` goes on. -/
def retire (f : FieldDie) (q s reason : Nat) : FieldDie :=
  let x := (f.qd q).meas.cal.getD s {}
  let f := (f.retired q x.own x.ch reason).modMeas q (fun m => { m with sweepLeft := m.sweepLeft.filter (· != x.ch) })
  if 0x80 ≤ x.own then
    let f := (f.modChan q x.ch (fun c => { c with cell := x.own })).spareFails q (x.own - 0x80)
    (f.chanFailed q x.ch).nextStep q s
  else f.takeForGood q s x.ch

/-- A sweep starts (R120): every enabled channel is to be calibrated, and a rotating spare that stands idle begins at once. A step that runs already
goes on, and calibrates its channel for the sweep (DESIGN CHOICE, log entry 42). -/
def sweepBegin (f : FieldDie) (q : Nat) : FieldDie :=
  let f := f.modMeas q (fun m => { m with sweepLeft := (List.range 16).filter fun c => (m.ch.getD c {}).measured c })
  (List.range 2).foldl (fun f s => if ((f.qd q).meas.cal.getD s {}).state = 0 then f.nextStep q s else f) f

/-- Whether a sweep has calibrated every channel, or has no spare left to go on with (R119, R120). -/
def sweepDone (f : FieldDie) (q : Nat) : Bool :=
  (f.qd q).meas.sweepLeft.isEmpty || (f.qd q).meas.cal.rows.all (fun s => 4 ≤ s.state)

/-- CAL_STAGE_END (R115 to R119): the stage's coefficients are judged and the step goes on. A step that is repeated begins again with the shorted
input (DESIGN CHOICE, log entry 42). -/
def calStageEnd (f : FieldDie) (q s : Nat) (r : CalResult) : FieldDie :=
  let x := (f.qd q).meas.cal.getD s {}
  let i := cellRow x.own
  if 4 ≤ x.state then f
  else if x.state = 0 then f.nextStep q s
  else match x.stage with
    | 0 => (f.modChan q x.ch (fun c => { c with cell := 0x80 + s })).modCal q s (fun y => { y with state := 2, stage := 1 })
    | 1 => f.modCal q s (fun y => { y with stage := 2, newOff := r.offset })
    | 2 =>
      match judgeCal q i ((f.qd q).meas.cells.getD i {}) x.first r.gain x.newOff with
      | .retire why => f.retire q s why
      | .again => f.modCal q s (fun y => { y with stage := 1, first := some (r.gain, x.newOff) })
      | .accept step =>
        let f := f.acceptCal q i r.gain x.newOff
        (if step then f.raiseQ q 7 1 x.ch else f).modCal q s (fun y => { y with stage := 3, first := none })
    | 3 =>
      if 10000 * r.diff.natAbs ≤ 10000 * 128 + 2 * r.reading.natAbs then
        (f.modChan q x.ch (fun c => { c with cell := x.own })).modCal q s
          (fun y => { y with state := 3, stage := 4, shadowed := false, prior := none })
      else if x.shadowed then f.retire q s 4
      else f.modCal q s (fun y => { y with stage := 1, first := none, shadowed := true })
    | _ =>
      match judgeCal q (16 + s) ((f.qd q).meas.cells.getD (16 + s) {}) x.first r.gain r.offset with
      | .retire why =>
        ((f.retired q (0x80 + s) x.ch why).modMeas q (fun m => { m with sweepLeft := m.sweepLeft.filter (· != x.ch) })).spareFails q s
      | .again => f.modCal q s (fun y => { y with first := some (r.gain, r.offset) })
      | .accept step =>
        let f := f.acceptCal q (16 + s) r.gain r.offset
        (if step then f.raiseQ q 7 1 x.ch else f).nextStep q s

/-- ZC0_FREQ and ZC1_FREQ (Table 04-16). -/
def zcWord (f : FieldDie) (i : Nat) : Word :=
  let z := f.volt.zc.getD i {}
  pack [(31, bit z.valid), (0, z.freq)]

/-- CAL_STATUS (Table 04-5). -/
def calStatus (m : MeasQ) : Word :=
  let a := m.cal.getD 0 {}
  let b := m.cal.getD 1 {}
  pack [(28, a.state), (24, b.state), (20, a.ch), (16, b.ch), (8, m.rotations), (0, m.retired)]

/-- The MEAS registers beyond the header (Table 04-3). -/
def measReg (f : FieldDie) (q idx : Nat) : Option Word :=
  let m := (f.qd q).meas
  let c := idx % 16
  let x := m.ch.getD c {}
  if idx = 0x08 then some (pack [(31, bit m.lock), (30, bit m.rotEn)])
  else if idx = 0x09 then some (calStatus m)
  else if idx / 16 = 1 then some x.cfgWord
  else if idx / 16 = 2 then some (BitVec.ofInt 32 x.avg)
  else if idx / 16 = 3 then some (pack [(16, enc 16 x.max), (0, enc 16 x.min)])
  else if idx / 16 = 4 then
    some (pack [(31, bit x.valid), (30, bit x.stale), (29, bit x.clip), (28, if c = 10 ∨ c = 11 then 1 else 0), (16, x.cell), (0, x.clipCnt)])
  else if idx / 16 = 5 then
    let cell := m.cells.getD (MeasQ.cellOf x) {}
    some (pack [(16, cell.gain), (0, enc 16 cell.offset)])
  else if idx = 0x60 ∨ idx = 0x61 then some (if q = 0 then f.zcWord (idx - 0x60) else 0)
  else none

/-- CH_CFG written (R496): each field keeps its value where it cannot take the new one; a SCALE or GROUP that would put OV_LIMIT out of the
DAC's range is refused (R111). -/
def writeChCfg (f : FieldDie) (q c : Nat) (w : Word) : FieldDie :=
  let x := f.chan q c
  let sc := bits 31 16 w
  let scOk := if c < 8 then 100 ≤ sc else if c < 12 then 64 ≤ sc && sc ≤ 16000 else true
  let x := { x with scale := if scOk then sc else x.scale, gain := if gainAllowed c (bits 9 8 w) then bits 9 8 w else x.gain
                    neg := w.getLsbD 5 }
  let grp := if bits 7 6 w = 3 then x.group else bits 7 6 w
  let en := w.getLsbD 0
  let armed (y : Chan) : Bool := !(8 ≤ c && c < 12 && y.en && y.group < 2) || dacReach f.volt.ovLimit y.scale
  let old := f.chan q c
  let y := { x with group := grp, en := en }
  let y := if armed y then y else { y with scale := old.scale }
  let y := if armed y then y else { y with group := old.group, en := old.en }
  f.modChan q c (fun _ => y)

/-- An OP write to a MEAS register (R496). -/
def measWrite (f : FieldDie) (q idx : Nat) (w : Word) (force : Bool) : FieldDie :=
  if (f.qd q).meas.lock ∧ ¬ force then f
  else if idx = 0x08 then f.modMeas q (fun m => { m with lock := w.getLsbD 31, rotEn := w.getLsbD 30 })
  else if idx / 16 = 1 then f.writeChCfg q (idx % 16) w
  else f

end FieldDie

namespace Machine

/-- CAL_STAGE_END (R115). -/
def execCalStageEnd (q : Fin 4) (spare : Fin 2) (result : CalResult) (s : State) : Out :=
  .next (if q.val < s.chip.variant.quads then s.onField (fun f => f.calStageEnd q spare result) else s)

/-- OV_COMPARATOR_TRIP (R111): the live output is set; an armed path that is not under self-test asserts SHELF_STOP_N. -/
def execOvComparatorTrip (pathB : Bool) (s : State) : Out :=
  .next (s.onField (fun f =>
    let f := { f with volt := if pathB then { f.volt with bCmp := true } else { f.volt with aCmp := true } }
    if f.volt.ovLimit = 0 ∨ f.volt.gate = some (bit pathB) then f else f.shelfStop (bit pathB)))

/-- ANALOG_DOMAIN_LOSS (R114): the domain's power good goes, and while armed a loss of a domain that serves a path asserts
SHELF_STOP_N. -/
def execAnalogDomainLoss (high : Bool) (s : State) : Out :=
  .next (s.onField (fun f => f.analogLost high))

/-- ANALOG_DOMAIN_RETURN (R101): fresh values come from the first tick closed wholly after this one. -/
def execAnalogDomainReturn (high : Bool) (s : State) : Out :=
  .next (s.onField (fun f =>
    { f with power := { f.power with dom := f.power.dom.modifyNat (if high then 5 else 2) (fun _ => .good) }
             volt := { f.volt with settling := f.volt.settling.modifyNat (bit high) (fun _ => true) } }))

/-- OV_SELFTEST (R112): path A in ticks with TB mod 40,000 = 0, path B at 20,000; that path alone is gated. -/
def execOvSelftest (s : State) : Out :=
  .next (s.onField (fun f =>
    if f.tick.tb % 40000 = 0 then { f with volt := { f.volt with gate := some 0 } }
    else if f.tick.tb % 40000 = 20000 then { f with volt := { f.volt with gate := some 1 } } else f))

/-- OV_SELFTEST_GATE_END (R112): the gate lifts and the result is the comparator's. -/
def execOvSelftestGateEnd (pass : Bool) (s : State) : Out :=
  .next (s.onField (fun f =>
    match f.volt.gate with
    | some g =>
      let j := if g = 1 then f.volt.bSense else f.volt.aSense
      ({ f with volt := { f.volt with gate := none } }.modChan (j / 4) (8 + j % 4) (fun x => { x with cmpPass := pass }))
    | none => f))

/-- STOP_LATCHED_CLEAR (R113). -/
def execStopLatchedClear (s : State) : Out := .next (s.onField FieldDie.clearStop)

/-- OV_LIMIT_WRITE (R113). -/
def execOvLimitWrite (value : Word) (s : State) : Out :=
  .next (s.onField (fun f => f.writeOvLimit s.chip.variant value.toNat false))

/-- LINE_ZC_EDGE (R123, 21 R528): the edge is captured by channel 2 or 3 of the Q0 timers. The Q0 controller, while it runs, ignores an edge within
5 ms of the last one that it accepted; an accepted period gives the frequency. -/
def execLineZcEdge (input : Fin 2) (stamp : Nat) (s : State) : Out :=
  .next (s.onField (fun f =>
    let (t, irq) := (f.qd 0).ftim.capture (2 + input) true (stamp % 2 ^ 32)
    let f := f.modQd 0 (fun x => { x with ftim := t })
    let f := if irq then { f with bar := { f.bar with timerVec := true } } else f
    if ¬ f.running ∨ ¬ f.qcUp 0 then f
    else { f with volt := { f.volt with zc := f.volt.zc.set input ((f.volt.zc.get input).edge (stamp % 2 ^ 32) f.tick.tb) } }))

/-- LINE_ZC_LOST (R123): no period accepted for 2,000 ticks. -/
def execLineZcLost (input : Fin 2) (s : State) : Out :=
  .next (s.onField (fun f =>
    let z := f.volt.zc.get input
    if z.valid ∧ 2000 ≤ f.tick.tb - z.since then
      { f with volt := { f.volt with zc := f.volt.zc.set input { z with valid := false } } }.raiseQ 0 10 2 input
    else f))

/-- FAN_CONTROL (21 R527): once per second the duty of each enabled fan of the quadrant, by linear interpolation over its hottest valid
temperature; 100 % without one. -/
def execFanControl (q : Fin 4) (s : State) : Out :=
  .next (s.onField (fun f =>
    if s.chip.variant.quads ≤ q.val then f
    else (List.range 2).foldl (fun f k =>
      let fan := f.fans.getD (2 * q + k) {}
      if ¬ fan.en then f
      else
        let duty : Int := match (f.qd q).meas.hottest with
          | none => 0x10000
          | some t =>
            match fan.points with
            | [] => 0x10000
            | p :: _ =>
              let last := fan.points.getLast?.getD p
              if t ≤ p.1 then p.2
              else if last.1 ≤ t then last.2
              else match (fan.points.zip fan.points.tail).find? (fun x => t ≤ x.2.1) with
                | some (a, b) => a.2 + roundDiv ((t - a.1) * ((b.2 : Int) - a.2)) (b.1 - a.1).toNat
                | none => last.2
        f.modQd q (fun x => { x with ftim := x.ftim.mod k (fun c =>
          c.setCmp 0 (((c.cmp.getD 3 0 + 1) * duty.toNat + 0x8000) / 0x10000)) })) f))

end Machine

end Sys2Proof
end

