-- ==== Sys2Proof/Machine/TickBus.lean ====
section
/-! DEFINITION. The tick bus at the device (05_tick_bus R124 to R151): uplink checks, engines and their spare, and the TBE
registers. -/

namespace Sys2Proof

/-- I_LSB in µA of a slot's module (09 R240): 4 × the field of its CAPABILITY. -/
def Sess.iLsb (s : Sess) : Nat := match s.capability with | some ts => 4 * bits 31 16 (ts.getD 2 0) | none => 0

/-- V_LSB in µV. -/
def Sess.vLsb (s : Sess) : Nat := match s.capability with | some ts => bits 15 0 (ts.getD 2 0) | none => 0

namespace SlotBus

/-- A payload delivered with VALID set (R133, R147, Table 05-5). -/
def deliver (b : SlotBus) (iLsb vLsb p : Nat) : SlotBus :=
  { b with valid := true, stale := false, lost := false, missRun := 0, got := true
           iout := roundDiv (sext 16 (p / 2 ^ 48) * iLsb) 1000
           vout := (roundDiv ((p / 2 ^ 32 % 2 ^ 16 * vLsb : Nat) : Int) 1000).toNat
           avail := p / 2 ^ 24 % 256, temp := sext 8 (p / 2 ^ 16), status := p / 256 % 256, echo := p % 256 }

/-- A failed uplink: the last valid payload is held with STALE set (R147). -/
def fail (b : SlotBus) : SlotBus := { b with valid := false, stale := true, got := true, missRun := min 15 (b.missRun + 1) }

/-- The last valid payload used without counting (R147). -/
def hold (b : SlotBus) : SlotBus := { b with valid := false, stale := true, got := true }

/-- STATUS bits (Table 05-6). -/
def auton (b : SlotBus) : Bool := b.status.testBit 7
def holds (b : SlotBus) : Bool := b.status.testBit 6
def limit (b : SlotBus) : Bool := b.status.testBit 5
def sourceOk (b : SlotBus) : Bool := b.status.testBit 4
def dip (b : SlotBus) : Bool := b.status.testBit 3
def chgInh (b : SlotBus) : Bool := b.status.testBit 2
def dsgInh (b : SlotBus) : Bool := b.status.testBit 1
def alert (b : SlotBus) : Bool := b.status.testBit 0

/-- SLOT_STAT (Table 05-16). -/
def statWord (b : SlotBus) (member : Bool) (epoch : Nat) : Word :=
  pack [(31, bit member), (30, bit b.valid), (29, bit b.stale), (28, bit b.lost), (24, epoch % 16), (16, b.status), (8, b.echo), (4, b.missRun)]

/-- SLOT_ERR (Table 05-17). -/
def errWord (b : SlotBus) : Word := pack [(24, b.noFrame), (16, b.window), (8, b.crc), (0, b.mismatch)]

/-- The error counters cleared. -/
def clearErr (b : SlotBus) : SlotBus := { b with noFrame := 0, window := 0, crc := 0, mismatch := 0 }

end SlotBus

/-- The bytes that the uplink CRC covers (R129, R132). -/
def UplinkFrame.covered (fr : UplinkFrame) : List Nat :=
  fr.header.toNat :: (List.range 8).map fun i => fr.payload.toNat / 256 ^ (7 - i) % 256

/-- The first check of Table 05-11 that fails, by its order; none when all pass. -/
def UplinkFrame.check (fr : UplinkFrame) (pos epoch : Nat) : Option Nat :=
  if ¬ fr.delimiter then some 1
  else if fr.offsetNs < -30 ∨ 60 < fr.offsetNs then some 2
  else if fr.violation ∨ crc16 0xFFFF fr.covered ≠ fr.crc.toNat then some 3
  else if fr.header.toNat / 16 ≠ pos ∨ fr.header.toNat % 16 ≠ epoch % 16 then some 4
  else none

namespace FieldDie

/-- The conditions of R127, and of R380 where a drill drives: ACTIVE_N asserted, the image running, a configuration, no WINTER. -/
def driving (f : FieldDie) : Bool := f.twin.activeN && f.running && f.cfg.loaded && !f.power.winter

/-- The tick-bus block of quadrant `q` changed. -/
def modTbe (f : FieldDie) (q : Nat) (g : TbeQ → TbeQ) : FieldDie := f.modQd q (fun x => { x with tbe := g x.tbe })

/-- Tick bus `n` (R124). -/
def tbus (f : FieldDie) (n : Nat) : TBus := (f.qd (n / 2)).tbe.bus.getD (n % 2) {}

/-- Tick bus `n` changed. -/
def modBus (f : FieldDie) (n : Nat) (g : TBus → TBus) : FieldDie :=
  f.modTbe (n / 2) (fun t => { t with bus := t.bus.modifyNat (n % 2) g })

/-- Whether the engine of bus `n` works in this tick: the bus is in use, its quadrant is in service, and its engine neither failed nor
in reset. -/
def busUp (v : Variant) (f : FieldDie) (n : Nat) : Bool :=
  let x := f.qd (n / 2)
  let b := f.tbus n
  decide (n / 2 < v.quads) && b.en && !b.dead && !f.power.isolated.getD (n / 2) false && x.tbe.resetting != some b.eng

/-- TICK_MARK_SEND (R130): the marks of this tick; the flags of the tick's uplinks restart. -/
def markSend (v : Variant) (f : FieldDie) : FieldDie :=
  let f := (List.range 8).foldl (fun f n =>
    let sent := f.driving && f.busUp v n
    f.modBus n (fun b => { b with markSent := sent, markSeen := false, errRaised := false })) f
  { f with slot := f.slot.map (fun s => { s with bus := { s.bus with got := false, heard := none, judged := false } }) }

/-- A device that takes the role at an edge sends that edge's marks (R130, 14 R371, R376). -/
def markLate (v : Variant) (f : FieldDie) : FieldDie :=
  (List.range 8).foldl (fun f n => let sent := f.driving && f.busUp v n; f.modBus n (fun b => { b with markSent := b.markSent || sent })) f

/-- What a standby sees of the marks (Table 05-15): MARK_MISS counts the buses that work and on which none came within 0.20 µs of the own edge. -/
def markSeen (v : Variant) (f : FieldDie) (marks : BitVec 8) : FieldDie :=
  if ¬ f.isStandby then f
  else (List.range 8).foldl (fun f n =>
    if ¬ f.busUp v n then f
    else f.modBus n (fun b => { b with markSeen := marks.getLsbD n, markMiss := if marks.getLsbD n then b.markMiss else satN 8 (b.markMiss + 1) })) f

/-- A failed check of Table 05-11 in its counter (R146). -/
def uplinkCount (f : FieldDie) (k check : Nat) : FieldDie :=
  f.modSl k (fun s =>
    let b := { s.bus with judged := true }
    { s with bus := match check with
      | 1 => { b with noFrame := satN 8 (b.noFrame + 1) }
      | 2 => { b with window := satN 8 (b.window + 1) }
      | 3 => { b with crc := satN 8 (b.crc + 1) }
      | _ => { b with mismatch := satN 8 (b.mismatch + 1) } })

/-- A failed uplink as FC takes it (R147): the last payload, MISS_RUN, and UPLINK_ERR for the first of the tick on its bus. -/
def uplinkHeld (f : FieldDie) (k : Nat) : FieldDie :=
  let n := slotBus k
  let f := f.modSl k (fun s => { s with bus := s.bus.fail })
  if (f.tbus n).errRaised then f
  else (f.modBus n (fun b => { b with errRaised := true })).raiseQ (slotQuad k) 11 1 n

/-- A failed uplink of a member at the device that judges it (R146, R147). -/
def uplinkFail (f : FieldDie) (k check : Nat) : FieldDie := (f.uplinkCount k check).uplinkHeld k

/-- A valid uplink payload delivered to FC. -/
def uplinkGood (f : FieldDie) (k p : Nat) : FieldDie :=
  f.modSl k (fun s => { s with bus := s.bus.deliver s.ctx.iLsb s.ctx.vLsb p })

/-- An uplink frame in the slot of a member (R146, R147, R151). A standby judges what it hears and keeps the payload for the comparison with what
the active device forwards. In a tick without a mark nothing is counted. -/
def uplinkMember (f : FieldDie) (k : Nat) (fr : UplinkFrame) : FieldDie :=
  let res := fr.check (k % 12) (f.sl k).sess.epoch
  let n := slotBus k
  if f.isStandby then
    match res with
    | none => f.modSl k (fun s => { s with bus := { s.bus with heard := some fr.payload.toNat, judged := true } })
    | some c => if (f.tbus n).markSeen then f.uplinkCount k c else f
  else if ¬ (f.tbus n).markSent then f.modSl k (fun s => { s with bus := s.bus.hold })
  else match res with
    | none => f.uplinkGood k fr.payload.toNat
    | some c => f.uplinkFail k c

/-- The slot of a member at the end of the uplink phase: one from which nothing came fails the first check, or is held in a tick without a mark. A
standby counts what it did not hear itself, and takes as failed what the active device did not forward. -/
def closeUplink (f : FieldDie) (k : Nat) : FieldDie :=
  let n := slotBus k
  if f.isStandby then
    let f := if (f.tbus n).markSeen ∧ ¬ (f.sl k).bus.judged then f.uplinkCount k 1 else f
    if ¬ f.follows ∨ (f.sl k).bus.got then f
    else if (f.tbus n).markSeen then f.uplinkHeld k else f.modSl k (fun s => { s with bus := s.bus.hold })
  else if (f.sl k).bus.got then f
  else if (f.tbus n).markSent then f.uplinkFail k 1
  else f.modSl k (fun s => { s with bus := s.bus.hold })

/-- The end of the uplink phase for every member. -/
def closeUplinks (v : Variant) (f : FieldDie) : FieldDie :=
  (FieldDie.slots v).foldl (fun f k => if (f.sl k).ctx.member then f.closeUplink k else f) f

/-- A payload that the active device forwarded (R151): it is delivered, and compared with what this device heard. -/
def uplinkForwarded (f : FieldDie) (k p : Nat) : FieldDie :=
  let n := slotBus k
  let differs := match (f.sl k).bus.heard with | some h => h != p | none => false
  let f := f.uplinkGood k p
  if differs then (f.modBus n (fun b => { b with listenMism := satN 8 (b.listenMism + 1) })).raiseQ (slotQuad k) 13 2 n else f

/-- TBE_SELFTEST (R150): engine `e` of quadrant `q` is bit 3q + e. -/
def tbeSelfTest (v : Variant) (f : FieldDie) (fails : BitVec 12) : FieldDie :=
  (List.range v.quads).foldl (fun f q => f.modTbe q (fun t =>
    { t with pass := t.pass.mapIdx (fun e _ => !fails.getLsbD (3 * q + e))
             engFail := t.engFail.mapIdx (fun e was => was || fails.getLsbD (3 * q + e))
             failOrder := t.failOrder ++ (List.range 3).filter (fun e => fails.getLsbD (3 * q + e) && !t.engFail.getD e false) })) f

/-- An engine that failed its self-test gives way to the spare at the next tick edge (R150, R32): the first to fail takes it, of two that failed
together the one with the lower index (R33); with the spare gone its bus falls silent. -/
def tbeSwap (f : FieldDie) (q e : Nat) : FieldDie :=
  let t := (f.qd q).tbe
  if ¬ t.engFail.getD e false then f
  else match t.bus.rows.findIdx? (fun b => b.eng == e) with
    | none => f
    | some i =>
      if t.spareUsed ∨ t.engFail.getD 2 false ∨ (t.failOrder.filter (· != 2)).head? ≠ some e then
        (f.modTbe q (fun t => { t with bus := t.bus.modifyNat i (fun b => { b with dead := true }) })).modQBlk q 2
          (fun b => { b with failedCells := b.failedCells.filter (· != e) ++ [e] })
      else
        let f := f.modTbe q (fun t => { t with spareUsed := true, bus := t.bus.modifyNat i (fun b => { b with eng := 2 }) })
        (((f.modQBlk q 2 (fun b => { b with lastOp := 5 })).raiseQ q 5 1 (2 * 256 + e)).vector 51)

/-- What the comparison of what was sent on bus `n` with what came back gives (R148). -/
def echoResult (f : FieldDie) (n : Nat) (differs : Bool) : FieldDie :=
  if differs then
    (f.modBus n (fun b => { b with echoErr := satN 16 (b.echoErr + 1), echoRun := min 40 (b.echoRun + 1) })).raiseQ (n / 2) 13 1 n
  else f.modBus n (fun b => { b with echoRun := 0 })

/-- The comparison of a tick in which the device sent its mark on bus `n` (R148). -/
def echoCompare (f : FieldDie) (n : Nat) (differs : Bool) : FieldDie := if (f.tbus n).markSent then f.echoResult n differs else f

/-- TBE_STATUS (Table 05-14). -/
def tbeStatus (f : FieldDie) (q : Nat) : Word :=
  let t := (f.qd q).tbe
  let b0 := t.bus.getD 0 {}
  let b1 := t.bus.getD 1 {}
  pack [(30, b0.eng), (28, b1.eng), (27, bit f.driving), (26, bit b0.padFault), (25, bit b1.padFault), (24, bit (t.pass.getD 0 false)),
    (23, bit (t.pass.getD 1 false)), (22, bit (t.pass.getD 2 false))]

/-- BUS_CNT (Table 05-15). -/
def busCnt (b : TBus) : Word := pack [(16, b.echoErr), (8, b.markMiss), (0, b.listenMism)]

/-- BUS_CNT cleared by a read. -/
def clearBusCnt (b : TBus) : TBus := { b with echoErr := 0, markMiss := 0, listenMism := 0 }

/-- The TBE registers beyond the header (Table 05-12). -/
def tbeReg (f : FieldDie) (q idx : Nat) : Option Word :=
  let t := (f.qd q).tbe
  if idx = 0x08 then some (pack [(31, bit t.lock), (1, bit (t.bus.getD 1 {}).en), (0, bit (t.bus.getD 0 {}).en)])
  else if idx = 0x09 then some (f.tbeStatus q)
  else if idx = 0x0A ∨ idx = 0x0B then some (busCnt (t.bus.getD (idx - 0x0A) {}))
  else if 0x10 ≤ idx ∧ idx < 0x28 then
    let s := f.sl (24 * q + (idx - 0x10))
    some (s.bus.statWord s.ctx.member s.sess.epoch)
  else if 0x30 ≤ idx ∧ idx < 0x48 then some (f.sl (24 * q + (idx - 0x30))).bus.errWord
  else none

/-- The RC fields of a TBE register cleared. -/
def tbeClear (f : FieldDie) (q idx : Nat) : FieldDie :=
  if idx = 0x0A ∨ idx = 0x0B then f.modBus (2 * q + (idx - 0x0A)) clearBusCnt
  else if 0x30 ≤ idx ∧ idx < 0x48 then f.modSl (24 * q + (idx - 0x30)) (fun s => { s with bus := s.bus.clearErr })
  else f

/-- An OP write to a TBE register (R496). -/
def tbeWrite (f : FieldDie) (q idx : Nat) (w : Word) (force : Bool) : FieldDie :=
  if idx = 0x08 ∧ (¬ (f.qd q).tbe.lock ∨ force) then
    f.modTbe q (fun t => { t with lock := w.getLsbD 31, bus := t.bus.mapIdx (fun i b => { b with en := w.getLsbD i }) })
  else f

end FieldDie

namespace Machine

/-- TBUS_PAD_FAULT (R148): 40 consecutive differing ticks. -/
def execTbusPadFault (bus : Fin 8) (s : State) : Out :=
  .next (s.onField (fun f =>
    let b := f.tbus bus
    if b.echoRun = 40 ∧ ¬ b.padFault then (f.modBus bus (fun b => { b with padFault := true })).raiseQ (bus / 2) 14 1 bus else f))

/-- BUS_CNT_READ (R149). -/
def execBusCntRead (bus : Fin 8) (s : State) : Out :=
  .next (s.readRc (bus.val < 2 * s.chip.variant.quads) (fun f => FieldDie.busCnt (f.tbus bus)) (fun f => f.modBus bus FieldDie.clearBusCnt))

/-- SLOT_ERR_READ (R149). -/
def execSlotErrRead (slot : Fin 96) (s : State) : Out :=
  .next (s.readRc (slot < s.chip.variant.slots) (fun f => (f.sl slot).bus.errWord)
    (fun f => f.modSl slot (fun x => { x with bus := x.bus.clearErr })))

end Machine

end Sys2Proof
end

