-- ==== Sys2Proof/Machine/Grid.lean ====
section
/-! DEFINITION. The GRID phase of the dispatch run and what belongs to it (07_holdup_ridethrough_and_grid R180 to R201): input states,
re-entry, reserve, charging, time to window exit, ramp limiter, frequency response. -/

namespace Sys2Proof

/-- A counter of consecutive runs: it counts to `n` and stays there, or one above where a row has marked its event as raised. -/
def runUp (n : Nat) (hit : Bool) (c : Nat) : Nat := if hit then (if c < n then c + 1 else c) else 0

/-- RV (R194), used for every conversion of power to current on the bus. -/
def rvOf (vset : Nat) : Nat := 2 ^ 40 / vset

/-- conv(P) of R203: watts to mA on the bus. -/
def convW (rv p : Nat) : Nat := min ((p * 1000000 * rv + 2 ^ 39) / 2 ^ 40) 0x7FFFFFFF

/-- The largest s32. -/
def maxS32 : Int := 0x7FFFFFFF

/-- The group bounds that GRID and CAP deliver (Table 06-4), with those of the ramp limiter where it acts. -/
structure Bounds where
  sMin : Int := 0
  sMax : Int := maxS32
  cReq : Int := 0
  tMax : Int := maxS32
  rampLo : Option Int := none
  rampHi : Option Int := none
  deriving DecidableEq, Repr

namespace Slot

/-- Whether the unit counts as excluded: by command (R163), or because it is removing (R294). -/
def exclEff (s : Slot) : Bool := s.ctx.excl || s.ins.state == 5

/-- The pin reason of R163, coded as UNIT_FLAGS.PIN, before the probe. -/
def pinOf (s : Slot) (blind : Bool) : Nat :=
  if s.ctx.role = .none ∨ ¬ s.ctx.member ∨ ¬ s.ctx.run ∨ blind then 1
  else if s.bus.lost then 4 else if s.bus.auton then 2 else if s.bus.stale then 3 else 0

/-- Whether the GRID phase classifies the unit (R181). -/
def classed (s : Slot) (blind : Bool) : Bool :=
  s.ctx.role == .supply && !s.exclEff && (s.pinOf blind == 0 || s.pinOf blind == 3)

/-- Sound (Table 07-1). -/
def sound (s : Slot) : Bool := s.bus.sourceOk && !s.bus.dip

end Slot

namespace FieldDie

/-- Slots in March order (R289): rising RANK of the grant, the lower slot first. -/
def marchOrder (f : FieldDie) (ks : List Nat) : List Nat :=
  ks.mergeSort (fun a b => (f.sl a).sess.rank < (f.sl b).sess.rank || ((f.sl a).sess.rank == (f.sl b).sess.rank && a ≤ b))

/-- Slots whose unit satisfies a condition. -/
def slotsWhere (v : Variant) (f : FieldDie) (p : Slot → Bool) : List Nat := (FieldDie.slots v).filter fun k => p (f.sl k)

/-- STORE units with RUN set (R188, R189). -/
def stores (v : Variant) (f : FieldDie) : List Slot :=
  ((FieldDie.slots v).map f.sl).filter fun s => s.ctx.role == .storage && s.ctx.run

/-- The events of a change of INPUT_STATE (R183). Entry to LOST cancels every pending batch (R192). -/
def setInput (f : FieldDie) (new : Nat) : FieldDie :=
  let old := f.grid.inputState
  if new = old then f
  else
    let f := { f with grid := { f.grid with inputState := new, recovCnt := 0, batches := if new = 2 then [] else f.grid.batches } }
    let f := if old = 2 then (f.raise 196 2).vector 35 else f
    let f := if old = 1 ∨ old = 3 then (f.raise 197 2).vector 36 else f
    if new = 2 then (f.raise 196 1).vector 35 else if new = 1 then (f.raise 197 1).vector 36 else f

/-- Batches that are still pending at the present tick (R192): a batch ends when its last release tick has passed. -/
def pendingBatches (f : FieldDie) : List Batch := f.grid.batches.filter fun b => !b.begun || f.tick.tb < b.last

/-- The next INPUT_STATE by the rows of Table 07-2 that a run decides at once. -/
def inputNext (f : FieldDie) (n nLost nRec thL thD : Nat) : Nat :=
  let st := f.grid.inputState
  if n = 0 then 0
  else if st ≠ 2 ∧ thL ≤ nLost then 2
  else if st = 0 ∧ thD ≤ nLost + nRec then 1
  else if st = 3 ∧ ¬ f.pendingBatches.any (·.recovery) then (if thD ≤ nLost + nRec then 1 else 0)
  else st

/-- Input classification (R181, R182, R184): the counts, the change of INPUT_STATE, the holds, and the batches that sound units form
outside LOST and REENTRY (R192). -/
def inputPhase (v : Variant) (f : FieldDie) : FieldDie :=
  let ks := f.slotsWhere v (fun s => s.classed f.disp.blind)
  let n := ks.length
  let lost := ks.filter fun k => !(f.sl k).bus.sourceOk
  let nRec := (ks.filter fun k => (f.sl k).bus.sourceOk && (f.sl k).bus.dip).length
  let c := f.grid.cfg
  let thL := max 1 ((c.lossFrac * n + 0xFFFF) / 0x10000)
  let thD := max 1 ((c.dipFrac * n + 0xFFFF) / 0x10000)
  let f := lost.foldl (fun f k => f.modSl k (fun s => { s with ctx := { s.ctx with held := true } })) f
  let f := f.setInput (f.inputNext n lost.length nRec thL thD)
  let g := f.grid
  let low : Bool := if g.inputState == 1 then decide (lost.length + nRec < thD) else g.inputState == 2 && decide (lost.length < thL)
  let f := { f with grid := { g with nLost := lost.length, recovCnt := runUp c.recov low g.recovCnt, batches := f.pendingBatches } }
  let free := ks.filter fun k => (f.sl k).ctx.held && (f.sl k).sound && !f.grid.batches.any (fun b => b.units.contains k)
  if f.grid.inputState < 2 && !free.isEmpty then
    { f with grid := { f.grid with batches := f.grid.batches ++ [{ start := f.tick.tb + 1, units := f.marchOrder free }] } }
  else f

/-- Reserve (R188): E_RES, T_MAX in NORMAL, and RESERVE_LOW. -/
def reservePhase (v : Variant) (f : FieldDie) (b : Bounds) : FieldDie × Bounds :=
  let c := f.grid.cfg
  let ss := stores v f
  let e := (ss.map fun s => s.ctx.res).sum
  let full := (ss.map fun s => min s.ctx.imax s.ctx.dsgLim).sum
  let d := min (e - c.huReserve) c.huBand
  let r := min (d * (2 ^ 40 / c.huBand) / 2 ^ 24) 0x10000
  let low : Bool := decide (e ≤ c.huReserve)
  let arm := f.grid.resArm
  let fire := low && arm == 1
  let arm := if fire then 2 else if arm = 2 then (if c.huReserve + c.huBand < e then 1 else 2) else if low then arm else 1
  let f := { f with grid := { f.grid with eRes := e, reserveLow := low, resArm := arm } }
  let f := if fire then f.raise 198 1 else f
  (f, { b with tMax := if f.grid.inputState = 0 then ((full * r / 0x10000 : Nat) : Int) else maxS32 })

/-- The frequency of R195 from the sources in use, in mHz. -/
def freqForm (g : Grid) (fs : List Nat) : Option Nat :=
  match fs with
  | [a, b, c] => some (max (min a b) (min (max a b) c))
  | [a, b] => if max a b - min a b ≤ g.cfg.agree then some ((a + b) / 2) else none
  | [a] => if g.cfg.singleOk then some a else none
  | _ => none

/-- The valid sources of R195 that SRC_MASK selects. -/
def freqSources (f : FieldDie) : List Nat :=
  let g := f.grid
  let zc (i : Nat) : Option Nat := let z := f.volt.zc.getD i {}; if z.valid then some z.freq else none
  let host : Option Nat := match g.hostUntil with | some t => if f.tick.tb < t then some g.hostFreq else none | none => none
  ([zc 0, zc 1, host].zipIdx.filterMap fun x => if g.cfg.srcMask.testBit x.2 then x.1 else none)

/-- Frequency response (R195 to R197): the filter, FR_I from T_MAX and RV, and the events; the answer says whether it cuts the bounds, as it
does also with FR_I at 0. -/
def freqPhase (f : FieldDie) (rv : Nat) (b : Bounds) : FieldDie × Bool :=
  let g := f.grid
  let fs := f.freqSources
  match freqForm g fs with
  | none =>
    let f' := { f with grid := { g with freqSrcs := fs.length, freqValid := false, frI := 0, frAct := false } }
    let f' := if g.freqValid then (f'.raise 199 1).vector 38 else f'
    (if g.frI ≠ 0 then f'.vector 38 else f', false)
  | some x =>
    let filt : Nat := if g.freqValid then ((g.fFilt : Int) + ((x : Int) - g.fFilt) / 2 ^ g.cfg.frShift).toNat else x
    let c := g.cfg
    let dfm : Int := (c.fNom : Int) - c.frDb - filt
    let on : Bool := c.frEn && (g.inputState == 0 || g.inputState == 3) && decide (0 < dfm)
    let i : Int :=
      if on then
        min (((min (c.frGain * dfm.toNat / 1000) c.frMax * 1000000 * rv + 2 ^ 39) / 2 ^ 40 : Nat) : Int) b.tMax
      else 0
    let f' := { f with grid := { g with freqSrcs := fs.length, freqValid := true, fFilt := filt, frI := i, frAct := i != 0 } }
    (if g.frI = 0 ∧ i ≠ 0 then (f'.raise 200 1).vector 38 else if g.frI ≠ 0 ∧ i = 0 then f'.vector 38 else f', on)

/-- Charging (R189). Without a running STORE unit there is no mean and the flag stays. -/
def chargePhase (v : Variant) (f : FieldDie) (b : Bounds) : FieldDie × Bounds :=
  let g := f.grid
  let ss := stores v f
  let mean := (ss.map fun s => s.ctx.soc).sum / ss.length
  let c := g.cfg
  let on : Bool :=
    if g.inputState ≠ 0 then false
    else if ss = [] then g.charging
    else if mean < c.socTgt - c.socHyst then true
    else if c.socTgt ≤ mean then false else g.charging
  ({ f with grid := { g with charging := on } },
    { b with cReq := if on ∧ g.inputState = 0 ∧ g.frI = 0 then (c.chgReq : Int) else 0 })

/-- BAND_I of R194. -/
def bandI (g : Grid) (rv : Nat) : Int := ((g.cfg.rampBand * 1000000 * rv + 2 ^ 39) / 2 ^ 40 : Nat)

/-- STEP_UP or STEP_DN of R194, in mA Q16 per tick. -/
def rampStep (w rv : Nat) : Int := ((w * 25 * 65536 * rv + 2 ^ 39) / 2 ^ 40 : Nat)

/-- The ramp limiter's bounds (R194). -/
def rampPhase (f : FieldDie) (rv : Nat) (b : Bounds) : Bounds :=
  let g := f.grid
  if ¬ g.cfg.rampEn ∨ g.inputState = 2 then b
  else
    let r := g.gRef / 2 ^ 16
    let hi := r + bandI g rv
    let lo := max (r - bandI g rv) 0
    if g.inputState = 0 then { b with sMax := min b.sMax hi, sMin := max b.sMin lo, rampLo := some lo, rampHi := some hi }
    else { b with sMax := min b.sMax hi, rampHi := some hi }

/-- The mean of a list rounded down, none of an empty one. -/
def meanOf (xs : List Int) : Option Int := if xs = [] then none else some (xs.sum / xs.length)

/-- TTE (R190) of a run whose means, latest first, are `vms`: VM is the first and VM_OLD the one of 40 runs before. -/
def tteOf (f : FieldDie) (busOk : Bool) (vms : List Int) : Nat :=
  let g := f.grid
  let sat (x : Int) : Nat := (clampI 0 0xFFFFFFFF x).toNat
  let vm : Int := vms.headD f.disp.vsetEff
  let lo : Int := g.cfg.winLo
  if busOk ∧ vm ≤ lo then 0
  else
    let t := 0xFFFFFFFF
    let p := (f.disp.tAlloc * vm) / 1000000
    let t := if g.inputState ≠ 0 ∧ 0 < f.disp.tAlloc ∧ 0 < p then min t (sat ((g.eRes * 1000 : Nat) / p)) else t
    let t := if busOk ∧ 0 < g.cfg.cBus ∧ 0 < f.disp.resid then min t (sat (((vm - lo) * g.cfg.cBus) / (f.disp.resid * 1000))) else t
    match vms[40]? with
    | some old => if busOk ∧ vm < old then min t (sat ((vm - lo) / (old - vm))) else t
    | none => t

/-- The warning request of group `i` after a run (R191): the request and its two run counts. -/
def warnNext (lead tte : Nat) (on : Bool) (up dn : Nat) : Bool × Nat × Nat :=
  if lead = 0 then (false, 0, 0)
  else
    let up := runUp 2 (decide (tte < lead)) up
    let dn := runUp 400 (decide (lead + lead / 4 ≤ tte)) dn
    (if up = 2 then true else if dn = 400 then false else on, up, dn)

/-- The history and the means of R190 after a run: VM is the mean of the valid values of the last 40 runs, and VSET_EFF while the bus value is
invalid. Which values count where some are invalid the spec does not say (log 51). -/
def voltHistory (f : FieldDie) (busOk : Bool) : List (Option Int) × List Int :=
  let h := ((if busOk then some f.disp.vbusUsed else none) :: f.grid.history).take 40
  let vm := if busOk then (meanOf (h.filterMap id)).getD f.disp.vbusUsed else f.disp.vsetEff
  (h, (vm :: f.grid.vms).take 41)

/-- Time to window exit and the warning requests (R190, R191). -/
def warnPhase (f : FieldDie) (busOk : Bool) : FieldDie :=
  let g := f.grid
  let (history, vms) := f.voltHistory busOk
  let t := f.tteOf busOk vms
  let next := (List.range 8).map fun i => warnNext (g.cfg.lead.getD i 0) t (g.warn.getD i false) (g.warnSet.getD i 0) (g.warnClr.getD i 0)
  let g' := { g with
    history := history
    vms := vms
    tte := t
    warn := g.warn.mapIdx fun i _ => (next.getD i (false, 0, 0)).1
    warnSet := g.warnSet.mapIdx fun i _ => (next.getD i (false, 0, 0)).2.1
    warnClr := g.warnClr.mapIdx fun i _ => (next.getD i (false, 0, 0)).2.2 }
  let f' := { f with grid := g' }
  if g'.warn ≠ g.warn then f'.vector 42 else f'

/-- GRID_PHASE (R180, R198): it acts on the demand `iD` of the run and delivers the group bounds. -/
def gridPhase (v : Variant) (f : FieldDie) (iD : Int) (busOk : Bool) : FieldDie × Bounds :=
  let rv := rvOf f.disp.vsetEff
  let f := inputPhase v f
  let (f, b) := reservePhase v f {}
  let (f, cuts) := if v.grid then f.freqPhase rv b else (f, false)
  let (f, b) := chargePhase v f b
  let b := if v.grid then f.rampPhase rv b else b
  let b := if cuts then
      let hi := min b.sMax (max 0 (iD - f.grid.frI))
      { b with sMax := hi, sMin := min b.sMin hi }
    else b
  (f.warnPhase busOk, b)

/-- G_REF at COMMIT (R194), and whether the allocation lay at a bound of the limiter. -/
def rampCommit (v : Variant) (f : FieldDie) (sA : Int) (override : Bool) (b : Bounds) : FieldDie :=
  if ¬ v.grid then f
  else
    let g := f.grid
    let rv := rvOf f.disp.vsetEff
    let x := sA * 2 ^ 16
    let r := if g.inputState = 2 ∨ override then x else clampI (g.gRef - rampStep g.cfg.rampDn rv) (g.gRef + rampStep g.cfg.rampUp rv) x
    { f with grid := { g with gRef := r, rampAct := b.rampLo == some sA || b.rampHi == some sA } }

/-- The sum of IOUT over SUPPLY members, from which G_REF starts (R194). -/
def supplyIout (v : Variant) (f : FieldDie) : Int :=
  (((FieldDie.slots v).map f.sl).filter fun s => s.ctx.role == .supply && s.ctx.member).foldl (fun a s => a + s.bus.iout) 0

/-- OFFSET of R193 for a key, a seed and OFFSET_MAX. -/
def reOffset (key : List Byte) (seed maxMs : Nat) : Nat :=
  let h := Hash.sha256 (key ++ leBytes 4 seed)
  ((h.take 4).foldl (fun a b => a * 256 + b.toNat) 0) % (maxMs * 40 + 1)

/-- The key from which this device forms OFFSET: twin A's, of which twin B in step takes the value (R193). -/
def offsetKey (f : FieldDie) : List Byte := if f.twin.twinB ∧ f.twin.inStep then Config.peerKey else Config.identityKey

/-- HU_STATUS (Table 07-4). -/
def huStatus (v : Variant) (f : FieldDie) : Word :=
  let g := f.grid
  pack [(30, g.inputState), (29, bit g.rampAct), (28, bit g.frAct), (27, bit g.freqValid), (26, bit g.reserveLow), (24, g.freqSrcs),
    (16, (f.slotsWhere v (fun s => s.ctx.held)).length), (8, g.nLost),
    (0, (List.range 8).foldl (fun a i => a + bit (g.warn.getD i false) * 2 ^ i) 0)]

/-- GRID_FREQ (Table 07-7). -/
def gridFreq (v : Variant) (f : FieldDie) : Word := if v.grid then pack [(31, bit f.grid.freqValid), (0, f.grid.fFilt % 2 ^ 24)] else 0

/-- FR_OUT (Table 07-8). -/
def frOut (v : Variant) (f : FieldDie) : Word := if v.grid then BitVec.ofInt 32 f.grid.frI else 0

/-- The GRID registers of DISP (Tables 07-3 to 07-10). -/
def gridReg (v : Variant) (f : FieldDie) (idx : Nat) : Option Word :=
  if idx = 0x18 then some (f.huStatus v)
  else if idx = 0x19 then some (BitVec.ofNat 32 f.grid.tte)
  else if idx = 0x1A then some (BitVec.ofNat 32 (satN 32 f.grid.eRes))
  else if idx = 0x1B then some (f.gridFreq v)
  else if idx = 0x1C then some (f.frOut v)
  else if idx = 0x1D then some (if v.grid then BitVec.ofInt 32 (f.grid.gRef / 2 ^ 16) else 0)
  else if idx = 0x1E then some (BitVec.ofNat 32 f.grid.cfg.offset)
  else none

/-- Grid settings changed. -/
def modGridCfg (f : FieldDie) (g : GridCfg → GridCfg) : FieldDie := { f with grid := { f.grid with cfg := g f.grid.cfg } }

/-- The re-entry batch that starts at this edge (R192): its units by March order with their release ticks. -/
def batchBegin (v : Variant) (f : FieldDie) : FieldDie :=
  let g := f.grid
  match g.batches.find? (fun b => !b.begun && b.start ≤ f.tick.tb) with
  | none => f
  | some b =>
    let us := if b.recovery then f.marchOrder (f.slotsWhere v (fun s => s.ctx.held)) else b.units.filter fun k => (f.sl k).ctx.held
    let due := us.zipIdx.map fun x => (x.1, f.tick.tb + g.cfg.offset + x.2 * g.cfg.reSpacing * 40)
    let b' := { b with
      start := f.tick.tb, begun := true, units := us, due := due, last := due.foldl (fun m d => max m d.2) f.tick.tb }
    { f with grid := { g with batches := g.batches.map fun x => if x = b then b' else x } }

/-- Whether unit `k` is released at the present edge (R192): it is held, Sound, and due in a batch that is still pending. -/
def releaseDue (f : FieldDie) (k : Nat) : Bool :=
  (f.sl k).ctx.held && (f.sl k).sound &&
    f.grid.batches.any fun b => b.begun && f.tick.tb ≤ b.last && b.due.any fun d => d.1 == k && d.2 ≤ f.tick.tb

end FieldDie

/-- Q16 fractions and other ranges of group 0x30. -/
def setWindowC : FCmd where
  code := 0x3001
  cfg := true
  chk _ _ r := need (r.u32 8 ≤ 10000000)
  op _ f r :=
    if r.u32 0 < f.disp.cfg.vsetTgt ∧ f.disp.cfg.vsetTgt < r.u32 4 then
      (f.modGridCfg (fun c => { c with winLo := r.u32 0, winHi := r.u32 4, cBus := r.u32 8 }), some (.ok, 0))
    else (f, some (.badParam, 0))

/-- SET_HOLDUP. -/
def setHoldupC : FCmd where
  code := 0x3002
  cfg := true
  chk _ _ r := need (0x199A ≤ r.u32 0 && r.u32 0 ≤ 0x10000 && 0x0CCD ≤ r.u32 4 && r.u32 4 ≤ r.u32 0 && 40 ≤ r.u32 8 && r.u32 8 ≤ 400000
    && 1 ≤ r.u32 20)
  op _ f r := (f.modGridCfg (fun c => { c with
    lossFrac := r.u32 0, dipFrac := r.u32 4, recov := r.u32 8, huReserve := r.par 12 8, huBand := r.u32 20 }), some (.ok, 0))

/-- SET_REENTRY (R193). -/
def setReentryC : FCmd where
  code := 0x3003
  cfg := true
  chk _ _ r := need (1 ≤ r.u32 0 && r.u32 0 ≤ 5000 && r.u32 4 ≤ 10000)
  op _ f r :=
    let off := FieldDie.reOffset f.offsetKey (r.u32 8) (r.u32 4)
    (f.modGridCfg (fun c => { c with reSpacing := r.u32 0, offsetMax := r.u32 4, reSeed := r.u32 8, offset := off }), some (.ok, off))

/-- SET_WARN_LEAD. -/
def setWarnLeadC : FCmd where
  code := 0x3004
  cfg := true
  chk _ _ r := need ((List.range 8).all fun g => r.u32 (4 * g) ≤ 3600000)
  op _ f r := (f.modGridCfg (fun c => { c with lead := c.lead.mapIdx fun g _ => r.u32 (4 * g) }), some (.ok, 0))

/-- SET_CHARGE. -/
def setChargeC : FCmd where
  code := 0x3005
  cfg := true
  chk _ _ r := need (0x8000 ≤ r.u32 0 && r.u32 0 ≤ 0x10000 && 0x028F ≤ r.u32 4 && r.u32 4 ≤ 0x8000)
  op _ f r := (f.modGridCfg (fun c => { c with socTgt := r.u32 0, socHyst := r.u32 4, chgReq := r.u32 8 }), some (.ok, 0))

/-- SET_RAMP. -/
def setRampC : FCmd where
  code := 0x3010
  auth _ := true
  cfg := true
  grid := true
  chk _ _ r := need (r.u32 0 ≤ 1 && 1 ≤ r.u32 4 && r.u32 4 ≤ 100000000 && 1 ≤ r.u32 8 && r.u32 8 ≤ 100000000 && r.u32 12 ≤ 10000000)
  op _ f r := (f.modGridCfg (fun c => { c with rampEn := r.u32 0 == 1, rampUp := r.u32 4, rampDn := r.u32 8, rampBand := r.u32 12 }),
    some (.ok, 0))

/-- SET_FREQ_RESP. -/
def setFreqRespC : FCmd where
  code := 0x3011
  auth _ := true
  cfg := true
  grid := true
  chk _ _ r := need (r.u32 0 ≤ 1 && 45000 ≤ r.u32 4 && r.u32 4 ≤ 65000 && r.u32 8 ≤ 2000 && r.u32 20 ≤ 15)
  op _ f r := (f.modGridCfg (fun c => { c with
    frEn := r.u32 0 == 1, fNom := r.u32 4, frDb := r.u32 8, frGain := r.u32 12, frMax := r.u32 16, frShift := r.u32 20 }), some (.ok, 0))

/-- SET_FREQ_SRC. -/
def setFreqSrcC : FCmd where
  code := 0x3012
  cfg := true
  grid := true
  chk _ _ r := need (r.u32 0 ≤ 7 && 1 ≤ r.u32 4 && r.u32 4 ≤ 1000 && 40 ≤ r.u32 8 && r.u32 8 ≤ 400000 && r.u32 12 ≤ 1)
  op _ f r := (f.modGridCfg (fun c => { c with
    srcMask := r.u32 0, agree := r.u32 4, hostAge := r.u32 8, singleOk := r.u32 12 == 1 }), some (.ok, 0))

/-- PUT_HOST_FREQ. -/
def putHostFreqC : FCmd where
  code := 0x3013
  cfg := true
  grid := true
  chk _ _ r := need (40000 ≤ r.u32 0 && r.u32 0 ≤ 70000)
  op _ f r := ({ f with grid := { f.grid with hostFreq := r.u32 0, hostUntil := some (f.tick.tb + f.grid.cfg.hostAge) } }, some (.ok, 0))

/-- Two register words as a RESULT, the first in [31:0]. -/
def result2 (a b : Word) : Nat := a.toNat + b.toNat * 2 ^ 32

/-- GET_HOLDUP. -/
def getHoldupC : FCmd where
  code := 0x3020
  ro := true
  op v f _ := (f, some (.ok, result2 (BitVec.ofNat 32 f.grid.tte) (f.huStatus v)))

/-- GET_GRID. -/
def getGridC : FCmd where
  code := 0x3021
  ro := true
  grid := true
  op v f _ := (f, some (.ok, result2 (f.gridFreq v) (f.frOut v)))

/-- GET_RESERVE. -/
def getReserveC : FCmd where
  code := 0x3022
  ro := true
  op _ f _ := (f, some (.ok, f.grid.eRes))

namespace Machine

/-- SET_WINDOW (R187). -/
def execSetWindow (r : Request) (s : State) : Out := .next (s.field setWindowC r)
/-- SET_HOLDUP (R201). -/
def execSetHoldup (r : Request) (s : State) : Out := .next (s.field setHoldupC r)
/-- SET_REENTRY (R193). -/
def execSetReentry (r : Request) (s : State) : Out := .next (s.field setReentryC r)
/-- SET_WARN_LEAD (R191). -/
def execSetWarnLead (r : Request) (s : State) : Out := .next (s.field setWarnLeadC r)
/-- SET_CHARGE (R189). -/
def execSetCharge (r : Request) (s : State) : Out := .next (s.field setChargeC r)
/-- SET_RAMP (R194). -/
def execSetRamp (r : Request) (s : State) : Out := .next (s.field setRampC r)
/-- SET_FREQ_RESP (R197). -/
def execSetFreqResp (r : Request) (s : State) : Out := .next (s.field setFreqRespC r)
/-- SET_FREQ_SRC (R195). -/
def execSetFreqSrc (r : Request) (s : State) : Out := .next (s.field setFreqSrcC r)
/-- PUT_HOST_FREQ (R195). -/
def execPutHostFreq (r : Request) (s : State) : Out := .next (s.field putHostFreqC r)
/-- GET_HOLDUP (R200). -/
def execGetHoldup (r : Request) (s : State) : Out := .next (s.field getHoldupC r)
/-- GET_GRID (R200). -/
def execGetGrid (r : Request) (s : State) : Out := .next (s.field getGridC r)
/-- GET_RESERVE (R188). -/
def execGetReserve (r : Request) (s : State) : Out := .next (s.field getReserveC r)

/-- INPUT_RECOVERY (R182): the RECOV count is complete; DIP ends where no batch is pending, LOST ends with a batch at the next edge. -/
def execInputRecovery (s : State) : Out :=
  .next (s.onField (fun f =>
    let g := f.grid
    if g.recovCnt < g.cfg.recov then f
    else if g.inputState = 1 ∧ g.batches = [] then f.setInput 0
    else if g.inputState = 2 then
      let f := f.setInput 3
      { f with grid := { f.grid with batches := [{ start := f.tick.tb + 1, units := [], recovery := true }] } }
    else f))

/-- REENTRY_BATCH_START (R192). -/
def execReentryBatchStart (s : State) : Out := .next (s.onField (FieldDie.batchBegin s.chip.variant))

/-- REENTRY_RELEASE (R192): a release takes the edge, unless a March start was made at it (R290). -/
def execReentryRelease (slot : Fin 96) (s : State) : Out :=
  .next (s.onSlot slot (fun f =>
    if f.releaseDue slot ∧ f.march.startEdge ≠ some f.tick.tb then
      let f := f.modSl slot (fun x => { x with ctx := { x.ctx with held := false } })
      { f with grid := { f.grid with
        releaseEdge := some f.tick.tb, batches := f.grid.batches.map fun b => { b with due := b.due.filter (·.1 ≠ slot.val) } } }
    else f))

/-- HOST_FREQ_EXPIRY (R195). -/
def execHostFreqExpiry (s : State) : Out :=
  .next (s.onField (fun f =>
    match f.grid.hostUntil with
    | some t => if t ≤ f.tick.tb then { f with grid := { f.grid with hostUntil := none } } else f
    | none => f))

end Machine

end Sys2Proof
end

