-- ==== Sys2Proof/Machine/Capping.lean ====
section
/-! DEFINITION. Power capping and load shedding (08_capping_and_shedding R202 to R222): the CAP phase, budgets, throttle requests,
warnings, shed orders, restoring, registers and commands. -/

namespace Sys2Proof

namespace Branch

/-- CLOSING or CLOSED: both conduct (R204). -/
def closed (b : Branch) : Bool := b.state == 3 || b.state == 4

end Branch

namespace FieldDie

/-- The shunt channel of branch `b` (R298). -/
def shunt (f : FieldDie) (b : Nat) : Chan := f.chan (b / 8) (b % 8)

/-- The current of branch `b` in mA (R103, R157): a channel without VALID holds its last valid value. -/
def branchI (f : FieldDie) (b : Nat) : Int := (f.shunt b).branchMa (f.shunt b).avg

/-- The branches that the variant has, by number. -/
def branches (v : Variant) : List Nat := List.range v.branches

/-- The demand D_b of branch `b` (R204, R121). -/
def demandOf (f : FieldDie) (b : Nat) : Int :=
  let x := f.br b
  if ¬ x.closed then 0 else if (f.shunt b).failed then x.cfg.iR else max (f.branchI b) 0

/-- The branches of a list in shed order (R212): higher PRI first, then the higher number. -/
def shedOrder (f : FieldDie) (bs : List Nat) : List Nat :=
  bs.mergeSort (fun a b => (f.br b).cfg.pri < (f.br a).cfg.pri || ((f.br a).cfg.pri == (f.br b).cfg.pri && b ≤ a))

/-- Branches that the shed order ranks (R212). -/
def sheddable (v : Variant) (f : FieldDie) : List Nat :=
  f.shedOrder ((branches v).filter fun b => (f.br b).closed && (f.br b).cfg.shedEn && !(f.br b).pending && !(f.br b).shedOrder)

/-- Pending branches in shed order (R213). -/
def pendingSet (v : Variant) (f : FieldDie) : List Nat := f.shedOrder ((branches v).filter fun b => (f.br b).pending)

/-- SH_WARN of group `g` (R214). -/
def shWarn (v : Variant) (f : FieldDie) (g : Nat) : Bool :=
  (branches v).any fun b => b / 4 == g && (f.br b).pending

/-- The state `cap` changed. -/
def modCap (f : FieldDie) (g : Capping → Capping) : FieldDie := { f with cap := g f.cap }

/-- One priority level of the budgets (R207): what is left of I_ALLOW after it. -/
def budgetLevel (bs : List Nat) (f : FieldDie) (rem : Int) (p : Nat) : FieldDie × Int :=
  let ks := bs.filter fun b => (f.br b).closed && (f.br b).cfg.pri == p
  let n := (ks.map fun b => (f.br b).demand).sum
  if n ≤ rem then (ks.foldl (fun f b => f.modBr b (fun x => { x with bud := x.demand })) f, rem - n)
  else (ks.foldl (fun f b => f.modBr b (fun x => { x with bud := x.demand * rem / n })) f, 0)

/-- The budgets of all branches (R207). -/
def budgets (v : Variant) (f : FieldDie) (allow : Int) : FieldDie :=
  let bs := branches v
  let f := bs.foldl (fun f b => f.modBr b (fun x => { x with bud := 0 })) f
  let (f, rem) := (List.range 8).foldl (fun fr p => budgetLevel bs fr.1 fr.2 p) (f, max allow 0)
  f.modCap (fun c => { c with head := rem })

/-- The throttle requests after a run (R208): a group sets in its second run with a budget below demand. -/
def throttle (v : Variant) (f : FieldDie) : FieldDie :=
  let c := f.cap
  let short (g : Nat) : Bool := decide (0 < c.x) && (branches v).any fun b => b / 4 == g && (f.br b).closed && decide ((f.br b).bud < (f.br b).demand)
  let runs : Tab Nat 8 := c.thrRun.mapIdx fun g n => runUp 2 (short g) n
  let thr : Tab Bool 8 := c.thr.mapIdx fun g on => on || runs.getD g 0 == 2
  let rel := runUp (c.release * 40) (decide (c.iLoad ≤ c.allow - c.allow / 16)) c.relRun
  let f' := { f with cap := { c with thrRun := runs, thr := thr, relRun := rel } }
  if thr ≠ c.thr then f'.vector 37 else f'

/-- DL of R211 in ticks: the DEADLINE of the cap that gives I_ALLOW. -/
def deadline (c : Capping) (cg cd : Int) : Nat :=
  40 * (if cg < cd then c.grid.deadline else if cd < cg then c.deliv.deadline else min c.grid.deadline c.deliv.deadline)

/-- The warnings of R213: branches become pending in shed order until the need is covered. -/
def warnShed (v : Variant) (f : FieldDie) : FieldDie :=
  let need := f.cap.x - ((f.pendingSet v).map fun b => (f.br b).demand).sum
  let step (fn : FieldDie × Int) (b : Nat) : FieldDie × Int :=
    if 0 < fn.2 then
      ((fn.1.modBr b (fun x => { x with pending := true, wAt := f.tick.tb })).vector 37, fn.2 - (f.br b).demand)
    else fn
  ((f.sheddable v).foldl step (f, need)).1

/-- The shed orders of R213: pending branches whose warning has lasted LEAD, until the cut is covered. The sequencer carries them out in
the guard phase (R215). The answer is the cut that is left. -/
def cutShed (v : Variant) (f : FieldDie) : FieldDie × Int :=
  let lead := f.cap.shedLead * 40
  let step (fn : FieldDie × Int) (b : Nat) : FieldDie × Int :=
    let x := f.br b
    if 0 < fn.2 ∧ lead ≤ f.tick.tb - x.wAt then
      (fn.1.modBr b (fun y => { y with pending := false, shedOrder := true, dLast := x.demand }), fn.2 - x.demand)
    else fn
  (f.pendingSet v).foldl step (f, f.cap.x)

/-- Compliance and shedding of a run (R211 to R213, R216), with DL in ticks. -/
def compliance (v : Variant) (f : FieldDie) (dl : Nat) : FieldDie :=
  let c := f.cap
  if ¬ 0 < c.x then f.modCap (fun c => { c with quietRun := runUp 40 true c.quietRun })
  else
    let f := f.modCap (fun c => { c with age := c.age + 1, quietRun := 0 })
    let lead := c.shedLead * 40
    let f := if max (dl - lead) 1 ≤ f.cap.age ∨ c.reached then f.warnShed v else f
    if f.cap.age < dl then f
    else
      let (f, left) := f.cutShed v
      if decide (0 < left) && (f.sheddable v).isEmpty && (f.pendingSet v).isEmpty && !c.violation then
        ((f.modCap (fun c => { c with violation := true })).raise 204 1).vector 37
      else f

/-- CAP_PHASE (R204 to R213): it acts on the bounds that the GRID phase delivered. -/
def capPhase (v : Variant) (f : FieldDie) (iD : Int) (b : Bounds) : FieldDie × Bounds :=
  let rv := rvOf f.disp.vsetEff
  let bs := branches v
  let f := bs.foldl (fun f k => f.modBr k (fun x => { x with current := f.branchI k, demand := f.demandOf k })) f
  let load := satI 32 ((bs.map fun k => (f.br k).demand).sum)
  let c := f.cap
  let b := match c.grid.limit with
    | some p => { b with sMax := min b.sMax (convW rv p), sMin := min b.sMin (min b.sMax (convW rv p)) }
    | none => b
  let b := match c.relMax with
    | some p => if f.grid.inputState = 0 then { b with tMax := min b.tMax (convW rv p) } else b
    | none => b
  let cg : Int := match c.grid.limit with | some p => if f.grid.inputState = 2 then maxS32 else convW rv p | none => maxS32
  let cd : Int := match c.deliv.limit with | some p => convW rv p | none => maxS32
  let allow := min cg cd
  let xU := if cg = maxS32 then 0 else satI 32 (iD - cg - b.tMax)
  let f := { f with cap := { c with
    iLoad := load, allow := allow, x := satI 32 (load - allow), xU := xU, bindG := decide (cg < load), bindD := decide (cd < load)
    unrelieved := decide (0 < xU), xuRun := runUp 40 (decide (0 < xU)) c.xuRun } }
  let f := (f.budgets v allow).throttle v
  (f.compliance v (deadline c cg cd), b)

/-- Whether the CAPPED condition holds (R219). -/
def cappedNow (v : Variant) (f : FieldDie) : Bool :=
  decide (0 < f.cap.x) || f.cap.thr.rows.any id || f.pendingSet v != []

/-- CAPPED_CHANGE at a tick edge (R219): the condition that the last run left, with its events; automatic restore counts from its
clearing (R218). -/
def cappedEdge (v : Variant) (f : FieldDie) : FieldDie :=
  let now := f.cappedNow v
  if now = f.cap.capped then f
  else if now then ((f.modCap (fun c => { c with capped := true })).raise 201 1).vector 37
  else ((f.modCap (fun c => { c with capped := false, restoreRef := f.tick.tb })).raise 201 2).vector 37

/-- The end of an episode (R211). -/
def episodeEnd (v : Variant) (f : FieldDie) : FieldDie :=
  let f := (f.pendingSet v).foldl (fun f b => f.modBr b (fun x => { x with pending := false })) f
  f.modCap (fun c => { c with age := 0, violation := false, reached := false })

/-- A bit set of the branches that satisfy a condition. -/
def branchBits (v : Variant) (f : FieldDie) (p : Branch → Bool) : Nat :=
  (branches v).foldl (fun a b => a + bit (p (f.br b)) * 2 ^ b) 0

/-- CAP_STATUS (Table 08-2). -/
def capStatus (v : Variant) (f : FieldDie) : Word :=
  let c := f.cap
  pack [(31, bit c.capped), (30, bit c.bindG), (29, bit c.bindD), (28, bit c.unrelieved), (27, bit c.violation),
    (16, (List.range 8).foldl (fun a g => a + bit (c.thr.getD g false) * 2 ^ g) 0),
    (8, (List.range 8).foldl (fun a g => a + bit (f.shWarn v g) * 2 ^ g) 0),
    (0, ((branches v).filter fun b => (f.br b).state == 6).length)]

/-- The capping registers of DISP (Tables 08-1 to 08-3). -/
def capReg (v : Variant) (f : FieldDie) (idx : Nat) : Option Word :=
  let c := f.cap
  if idx = 0x20 then some (f.capStatus v)
  else if idx = 0x21 then some (BitVec.ofNat 32 (c.grid.limit.getD 0))
  else if idx = 0x22 then some (BitVec.ofNat 32 (c.deliv.limit.getD 0))
  else if idx = 0x23 then some (BitVec.ofInt 32 c.allow)
  else if idx = 0x24 then some (BitVec.ofInt 32 c.x)
  else if idx = 0x25 then some (BitVec.ofNat 32 (satN 32 c.age))
  else if idx = 0x26 then some (BitVec.ofNat 32 (f.branchBits v (fun b => b.state == 6)))
  else if idx = 0x27 then some (BitVec.ofNat 32 (f.branchBits v (fun b => b.pending)))
  else none

/-- A close request for branch `b` (R287, R308): it enters WAITING, and the insertion delay starts to count. A request made in SHED keeps
that mark (R309). -/
def requestClose (f : FieldDie) (b : Nat) : FieldDie :=
  f.modBr b (fun x => { x with state := 2, closeReq := true, closeShed := x.state == 6 || (x.state == 2 && x.closeShed), winRun := 0, reclosing := false })

end FieldDie

/-- SET_CAP. -/
def setCapC : FCmd where
  code := 0x3801
  cfg := true
  chk _ _ r := need (r.u32 0 ≤ 1 && (r.u32 4 == 0 || (1000 ≤ r.u32 4 && r.u32 4 ≤ 10000000)) && r.u32 8 ≤ 600000 && r.u32 12 ≤ 86400)
  op _ f r :=
    let old := if r.u32 0 = 0 then f.cap.grid else f.cap.deliv
    let lim : Option Nat := if r.u32 4 = 0 then none else some (r.u32 4)
    let new : Cap := { limit := lim, deadline := r.u32 8
                       lapse := if r.u32 12 = 0 ∨ r.u32 4 = 0 then none else some (f.tick.tb + r.u32 12 * 40000) }
    (f.modCap (fun c => if r.u32 0 = 0 then { c with grid := new } else { c with deliv := new }), some (.ok, old.limit.getD 0))

/-- SET_CAP_POLICY. -/
def setCapPolicyC : FCmd where
  code := 0x3802
  cfg := true
  chk _ _ r := need (r.u32 0 ≤ 600000 && 1 ≤ r.u32 4 && r.u32 4 ≤ 60000 && r.u32 8 ≤ 1 && 100 ≤ r.u32 12 && r.u32 12 ≤ 600000
    && (r.u32 16 ≤ 10000000 || r.u32 16 == 0xFFFFFFFF))
  op _ f r := (f.modCap (fun c => { c with
    shedLead := r.u32 0, release := r.u32 4, autoRestore := r.u32 8 == 1, restoreDly := r.u32 12
    relMax := if r.u32 16 = 0xFFFFFFFF then none else some (r.u32 16) }), some (.ok, 0))

/-- SET_BRANCH_CAP (R222). -/
def setBranchCapC : FCmd where
  code := 0x3803
  cfg := true
  unit := .branch
  chk _ _ r := need (r.u32 0 ≤ 7 && r.u32 4 ≤ 1)
  op _ f r := (f.modBr (r.unit - 96) (fun b => { b with
    cfg := { b.cfg with pri := r.u32 0, shedEn := r.u32 4 == 1 }, pending := b.pending && r.u32 4 == 1 }), some (.ok, 0))

/-- RESTORE_BRANCH (R217). -/
def restoreBranchC : FCmd where
  code := 0x3804
  cfg := true
  unit := .branch
  op _ f r :=
    if (f.br (r.unit - 96)).state ≠ 6 then (f, some (.badParam, 0))
    else if f.cap.capped then (f, some (.busy, 0))
    else ((f.requestClose (r.unit - 96)).vector 37, some (.ok, 0))

/-- GET_CAP. -/
def getCapC : FCmd where
  code := 0x3810
  ro := true
  op v f _ := (f, some (.ok, result2 (f.capStatus v) (BitVec.ofInt 32 f.cap.x)))

/-- GET_BUDGET. -/
def getBudgetC : FCmd where
  code := 0x3811
  ro := true
  unit := .branch
  op _ f r :=
    let b := f.br (r.unit - 96)
    (f, some (.ok, result2 (BitVec.ofInt 32 b.bud) (BitVec.ofInt 32 b.demand)))

namespace Machine

/-- SET_CAP (R202). -/
def execSetCap (r : Request) (s : State) : Out := .next (s.field setCapC r)
/-- SET_CAP_POLICY (R221). -/
def execSetCapPolicy (r : Request) (s : State) : Out := .next (s.field setCapPolicyC r)
/-- SET_BRANCH_CAP (R222). -/
def execSetBranchCap (r : Request) (s : State) : Out := .next (s.field setBranchCapC r)
/-- RESTORE_BRANCH (R217). -/
def execRestoreBranch (r : Request) (s : State) : Out := .next (s.field restoreBranchC r)
/-- GET_CAP (R221). -/
def execGetCap (r : Request) (s : State) : Out := .next (s.field getCapC r)
/-- GET_BUDGET (R207). -/
def execGetBudget (r : Request) (s : State) : Out := .next (s.field getBudgetC r)

/-- CAP_EXPIRED (R202): a cap whose lapse has come becomes NONE. -/
def execCapExpired (delivered : Bool) (s : State) : Out :=
  .next (s.onField (fun f =>
    let c := if delivered then f.cap.deliv else f.cap.grid
    match c.lapse with
    | none => f
    | some t =>
      if f.tick.tb < t then f
      else
        let c := { c with limit := none, lapse := none }
        ((f.modCap (fun x => if delivered then { x with deliv := c } else { x with grid := c })).raise 201 3).vector 37))

/-- CAP_UNRELIEVED (R206): after 40 runs with X_U > 0 shed warnings may begin. -/
def execCapUnrelieved (s : State) : Out :=
  .next (s.onField (fun f =>
    if f.cap.xuRun = 40 then (f.modCap (fun c => { c with reached := true, xuRun := 41 })).raise 203 1 else f))

/-- THR_RELEASE (R208): all throttle requests clear together. -/
def execThrRelease (s : State) : Out :=
  .next (s.onField (fun f =>
    if f.cap.release * 40 ≤ f.cap.relRun ∧ f.cap.thr.rows.any id then
      (f.modCap (fun c => { c with thr := Tab.fill 8 false, thrRun := Tab.fill 8 0 })).vector 37
    else f))

/-- CAP_EPISODE_END (R211): X has been at or below 0 for 40 runs. -/
def execCapEpisodeEnd (s : State) : Out :=
  .next (s.onField (fun f => if f.cap.quietRun = 40 then f.episodeEnd s.chip.variant else f))

/-- AUTO_RESTORE (R218): the shed branch that stands last in the shed order is requested where the headroom allows it. -/
def execAutoRestore (s : State) : Out :=
  .next (s.onField (fun f =>
    let c := f.cap
    let shed := f.shedOrder ((FieldDie.branches s.chip.variant).filter fun b => (f.br b).state == 6)
    match shed.getLast? with
    | none => f
    | some b =>
      if c.autoRestore ∧ ¬ c.capped ∧ c.restoreRef + c.restoreDly * 40 ≤ f.tick.tb
          ∧ (f.br b).dLast + c.allow / 16 ≤ c.allow - c.iLoad ∧ f.cfg.loaded ∧ ¬ f.power.winter then
        ((f.requestClose b).modCap (fun c => { c with restoreRef := f.tick.tb })).vector 37
      else f))

end Machine

end Sys2Proof
end

