-- ==== Sys2Proof/Machine/Dispatcher.lean ====
section
/-! DEFINITION. The Dispatcher (06_dispatch_and_sharing R152 to R179): the run with its voltage loop, bounds, fills and references, the
sharing weights, the downlink frame (05_tick_bus R135), the DISP registers and the commands of group 0x20. -/

namespace Sys2Proof

/-- One SUPPLY or STORE unit within a run: its slot, role, pin reason, bounds, coefficients for a level of 0 or more and below 0, and
its allocation. -/
structure UnitLane where
  k : Nat
  role : Role
  pin : Nat
  lo : Int
  hi : Int
  cPos : Nat
  cNeg : Nat
  x : Int
  deriving DecidableEq, Repr

/-- LEN_EXP (R153). -/
def lenExp (v : Variant) : Nat := 788 + 80 * (v.slots / 8) + 38 * (v.branches / 8)

namespace UnitLane

/-- The coefficient for a level (R165). -/
def c (l : UnitLane) (lam : Int) : Nat := if 0 ≤ lam then l.cPos else l.cNeg

/-- x_k at a level (R166). -/
def level (l : UnitLane) (lam : Int) : Int := clampI l.lo l.hi (((l.c lam : Int) * lam + 2 ^ 28) / 2 ^ 29)

/-- Whether a fill of the role moves the unit: pinned units keep their value. -/
def free (r : Role) (l : UnitLane) : Bool := l.role == r && l.pin == 0

end UnitLane

/-- The sum over a group at a level: pinned units count at their pinned value (R167). -/
def groupSum (r : Role) (ls : List UnitLane) (lam : Int) : Int :=
  ls.foldl (fun a l => if l.role = r then a + (if l.pin = 0 then l.level lam else l.x) else a) 0

/-- The bisection of R166. -/
def bisect (r : Role) (ls : List UnitLane) (t : Int) : Nat → Int → Int → Int × Int
  | 0, a, b => (a, b)
  | n + 1, a, b =>
    let m := (a + b) / 2
    if groupSum r ls m ≤ t then bisect r ls t n m b else bisect r ls t n a m

/-- The unit with the largest headroom toward `d`, the lowest slot on a tie (R166). -/
def headroomUnit (r : Role) (ls : List UnitLane) (d : Int) : Option Nat :=
  let room (l : UnitLane) : Int := if 0 < d then l.hi - l.x else l.x - l.lo
  let pick (best : Option (Nat × Int)) (l : UnitLane) : Option (Nat × Int) :=
    if ¬ (l.free r ∧ l.lo < l.x ∧ l.x < l.hi) then best
    else match best with
      | some (_, w) => if w < room l then some (l.k, room l) else best
      | none => some (l.k, room l)
  (ls.foldl pick none).map (·.1)

/-- The fill of a group toward a target (R166): the lanes, the level and the sum returned. -/
def fill (r : Role) (ls : List UnitLane) (t : Int) : List UnitLane × Int × Int :=
  let (a, b) := bisect r ls t 16 (-0x40000000) 0x3FFFFFFF
  let f : Nat := ls.foldl (fun (s : Nat) l => if l.free r ∧ l.lo < l.level a ∧ l.level a < l.hi then s + l.c a else s) 0
  let lam := if f = 0 then a else clampI a b (a + (t - groupSum r ls a) * 2 ^ 29 / f)
  let ls := ls.map fun l => if l.free r then { l with x := l.level lam } else l
  let sum (ls : List UnitLane) : Int := ls.foldl (fun s l => if l.role = r then s + l.x else s) 0
  let d := t - sum ls
  let ls := match (if d = 0 then none else headroomUnit r ls d) with
    | some j => ls.map fun l => if l.k = j then { l with x := l.x + clampI (l.lo - l.x) (l.hi - l.x) d } else l
    | none => ls
  (ls, lam, sum ls)

namespace Slot

/-- The identity of a slot's module from its IDENTITY frame (09 Table 09-8): VENDOR, PRODUCT, SERIAL. -/
def ident (s : Slot) : Option (Nat × Nat × Nat) :=
  s.sess.identity.map fun ts => (bits 31 16 (ts.getD 2 0), bits 15 0 (ts.getD 2 0), (ts.getD 0 0).toNat * 2 ^ 32 + (ts.getD 1 0).toNat)

/-- The current that AVAIL allows (R163). -/
def availI (s : Slot) (i : Nat) : Nat := (i * s.bus.avail + 127) / 255

/-- The limits of R163 before the ramp window. -/
def limits (s : Slot) : Int × Int :=
  let c := s.ctx
  let (lo, hi) : Int × Int :=
    match c.role with
    | .storage =>
      let hi := min c.imax c.dsgLim
      let lo := min c.ichg c.chgLim
      let hi := if 0 ≤ s.bus.iout then min hi (s.availI c.imax) else hi
      let lo := if 0 ≤ s.bus.iout then lo else min lo (s.availI c.ichg)
      (if s.bus.chgInh then 0 else -(lo : Int), if s.bus.dsgInh then 0 else hi)
    | _ => (0, if s.bus.sourceOk ∧ ¬ c.held then s.availI c.imax else 0)
  if s.exclEff then (0, 0) else (lo, hi)

/-- wd of R165. -/
def wDis (s : Slot) : Nat := max 0x8000 (min 0x18000 (0x8000 + s.ctx.soc))

/-- wc of R165. -/
def wChg (s : Slot) : Nat := max 0x8000 (0x18000 - s.ctx.soc)

/-- The lane of a slot (R163, R165). -/
def lane (s : Slot) (k : Nat) (blind bal : Bool) : UnitLane :=
  let c := s.ctx
  let pin := s.pinOf blind
  let cs : Nat × Nat := match c.role with
    | .supply => (c.wgt * c.imax / 2 ^ 16, c.wgt * c.imax / 2 ^ 16)
    | .storage => if bal then (s.wDis * c.imax / 2 ^ 16, s.wChg * c.ichg / 2 ^ 16) else (c.imax, c.ichg)
    | .none => (0, 0)
  let (l, h) := s.limits
  let (lo, hi) : Int × Int :=
    if pin = 1 then (0, 0)
    else if pin = 2 ∨ pin = 4 then (s.bus.iout, s.bus.iout)
    else if pin = 3 then (c.prev, c.prev)
    else if s.exclEff then
      let x := clampI (c.prev - c.rampDn) (c.prev + c.rampUp) 0
      (x, x)
    else (clampI l h (c.prev - c.rampDn), clampI l h (c.prev + c.rampUp))
  { k := k, role := c.role, pin := pin, lo := lo, hi := hi, cPos := cs.1, cNeg := cs.2, x := lo }

end Slot

namespace FieldDie

/-- Whether a run takes place: the image runs with a configuration. WINTER stops the downlinks and not the runs (02 R67). -/
def runs (f : FieldDie) : Bool := f.running && f.cfg.loaded

/-- VLOOP and DEMAND (R158, R159): the bus value, the loop and I_D. -/
def demand (v : Variant) (f : FieldDie) : FieldDie :=
  let d := f.disp
  let c := d.cfg
  let bip := c.busMode == 1
  let ok := f.volt.posOk && (!bip || f.volt.negOk)
  let vbus := if bip then f.volt.pos + f.volt.neg else f.volt.pos
  let vset := if d.vsetEff < c.vsetTgt then min c.vsetTgt (d.vsetEff + c.vslew) else max c.vsetTgt (d.vsetEff - c.vslew)
  let e := satI 32 ((vset : Int) - vbus)
  let p := if ok then satI 32 (c.kp * e / 2 ^ 16) else 0
  let di := satI 32 (c.ki * e / 2 ^ 16)
  let di := if (0 < d.resid ∧ 0 < di) ∨ (d.resid < 0 ∧ di < 0) then 0 else di
  let integ := if ok then clampI (-c.intMax) c.intMax (d.integ + di) else d.integ
  let load : Int :=
    if c.ffSrc then satI 32 (((FieldDie.slots v).map f.sl).foldl (fun a s => if s.ctx.member then a + s.bus.iout else a) 0)
    else satI 32 (((branches v).map f.branchI).sum)
  let iD := satI 32 (satI 32 (c.ffGain * load / 2 ^ 16) + p + integ)
  let far := bip && ok && decide (c.imbLimit * vset < (f.volt.pos - f.volt.neg).natAbs * 2 ^ 16)
  { f with disp := { d with
      vsetEff := vset, vbusUsed := vbus, vbusOk := ok, integ := integ, iDemand := iD
      invalidRun := runUp 40 (!ok) d.invalidRun, validRun := runUp 40 ok d.validRun, imbRun := runUp 40 far d.imbRun } }

/-- Whether the last run left unit `k` strictly inside its bounds (Table 06-9). -/
def freeUnit (f : FieldDie) (k : Nat) : Bool := (f.sl k).ctx.bound == 0 && (f.sl k).ctx.pin == 0

/-- PROBE (R169): the lanes with the probe pinned where it applies, and whether it does. PBASE is taken in the first tick of a
request. -/
def probePhase (f : FieldDie) (ls : List UnitLane) : FieldDie × List UnitLane × Bool :=
  match f.disp.probe with
  | none => ({ f with disp := { f.disp with probeSeen := none } }, ls, false)
  | some q =>
    let f := if f.disp.probeSeen = some q.unit then f
      else f.modSl q.unit (fun s => { s with ctx := { s.ctx with pbase := s.ctx.prev } })
    let f := { f with disp := { f.disp with probeSeen := some q.unit } }
    let s := f.sl q.unit
    let x := s.ctx.pbase + q.step
    let others := f.disp.nFree - bit (f.freeUnit q.unit)
    let fits := ls.any fun l => l.k == q.unit && l.role == .storage && l.pin == 0 && l.lo ≤ x && x ≤ l.hi
    if fits && !s.exclEff && decide (2 ≤ others) then
      (f, ls.map fun l => if l.k = q.unit then { l with pin := 5, lo := x, hi := x, x := x } else l, true)
    else (f, ls, false)

/-- REF of a current (R171). -/
def refOf (x : Int) (inv : Nat) : Int := satI 16 ((x * inv + 2 ^ 24) / 2 ^ 25)

/-- UNIT_FLAGS (Table 06-10). -/
def unitFlags (s : Slot) : Word :=
  let c := s.ctx
  pack [(30, c.role.code), (29, bit c.runSent), (28, bit c.excl), (27, bit c.wovr), (24, c.pin), (22, c.bound), (0, c.weight)]

/-- What OUTPUT and COMMIT write for a unit (R164, R171, Table 06-10); a STORE unit has the weight 1.0 while STORE_BAL is clear (R165).
In BLIND no reference is committed (R161). The unit's registers
show what the run committed until the next one (R177, R178). -/
def commitUnit (f : FieldDie) (lamT : Int) (l : UnitLane) : FieldDie :=
  f.modSl l.k (fun s =>
    let c := s.ctx
    let w := match c.role with
      | .supply => c.wgt
      | .storage => if ¬ f.disp.cfg.storeBal then 0x10000 else if 0 ≤ lamT then s.wDis else s.wChg | .none => 0
    let bound := if l.pin ≠ 0 then 3 else if l.x ≤ l.lo then 1 else if l.hi ≤ l.x then 2 else 0
    let c := { c with pin := l.pin, bound := bound, weight := w, alloc := l.x, prev := if l.pin = 3 then c.prev else l.x }
    let s := if f.disp.blind then { s with ctx := c }
      else
        { s with
          bus := { s.bus with ref := refOf l.x c.inv }
          ctx := { c with probeSent := l.pin == 5, runSent := c.run && !(s.exclEff && l.x == 0) } }
    { s with uAlloc := l.x, uFlags := unitFlags s })

/-- The sums of a running SUPPLY unit over the second (R172). -/
def wearSums (v : Variant) (f : FieldDie) : FieldDie :=
  (FieldDie.slots v).foldl (fun f k => f.modSl k (fun s =>
    if s.ctx.role = .supply ∧ s.ctx.run then
      { s with wear := { s.wear with sumI := s.wear.sumI + s.bus.iout.natAbs, sumT := s.wear.sumT + s.bus.temp, samples := s.wear.samples + 1 } }
    else s)) f

/-- The three fills of R167 on the lanes of a run: the lanes, S_T, S_A of FILL_S, T_T, T_A, S_A, and the levels of FILL_R and FILL_T. -/
structure Fills where
  ls : List UnitLane
  sT : Int
  sA0 : Int
  tT : Int
  tA : Int
  sA : Int
  lamS : Int
  lamT : Int
  deriving DecidableEq, Repr

/-- R167. -/
def fills (ls : List UnitLane) (iD : Int) (b : Bounds) : Fills :=
  let sT := clampI b.sMin b.sMax (satI 32 (iD + b.cReq))
  let (ls, _, sA0) := fill .supply ls sT
  let tT := min (satI 32 (iD - sA0)) b.tMax
  let (ls, lamT, tA) := fill .storage ls tT
  let e := satI 32 (iD - sA0 - tA)
  let (ls, lamS, sA) := fill .supply ls (satI 32 (sA0 + e))
  { ls := ls, sT := sT, sA0 := sA0, tT := tT, tA := tA, sA := sA, lamS := lamS, lamT := lamT }

/-- The results of a run as COMMIT writes them, with the events of R168. -/
def commitRun (v : Variant) (f : FieldDie) (b : Bounds) (r : Fills) (probed : Bool) : FieldDie :=
  let d := f.disp
  let resid := satI 32 (d.iDemand - r.sA - r.tA)
  let ovr : Bool := decide (r.sA < b.sMin) || decide (b.sMax < r.sA)
  let inside := r.ls.filter fun l => l.role != .none && l.pin == 0 && l.lo < l.x && l.x < l.hi
  let pinned := r.ls.filter fun l => 2 ≤ l.pin
  let comp : Option ProbeRec := d.probe.map fun q =>
    { unit := q.unit, step := q.step, base := (f.sl q.unit).ctx.pbase, free := d.nFree - bit (f.freeUnit q.unit), applied := probed, inexact := probed && resid != 0 }
  let f := r.ls.foldl (fun f l => f.commitUnit r.lamT l) f
  let f := { f with disp := { d with
    sAlloc := r.sA, tAlloc := r.tA, resid := resid, lambdaS := r.lamS, lambdaT := r.lamT
    sLimited := decide (r.sA0.natAbs < r.sT.natAbs), tLimited := decide (r.tA.natAbs < r.tT.natAbs), override := ovr, probeOn := probed
    nFree := inside.length, nPinned := pinned.length, overrideCnt := satN 16 (d.overrideCnt + bit ovr)
    shortCnt := satN 16 (d.shortCnt + bit (resid != 0)), posRun := runUp 40 (decide (0 < resid)) d.posRun
    negRun := runUp 40 (decide (resid < 0)) d.negRun, comp := comp }, bat := { f.bat with coord := { f.bat.coord with
      haltRun := if f.bat.coord.halt then runUp 40000 (decide (3 ≤ inside.length)) f.bat.coord.haltRun else 0 } } }
  let f := f.rampCommit v r.sA ovr b
  if ovr && !d.override then f.raise 194 1 else f

/-- G_REF restarts when the Dispatcher enters DRIVING or leaves BLIND (R194). -/
def seedRamp (v : Variant) (f : FieldDie) : FieldDie := { f with grid := { f.grid with gRef := f.supplyIout v * 2 ^ 16 } }

/-- A whole run (Table 06-1), committed after `cycles` cycles (R153, R154, R73). A standby in step runs from cycle 6,400 (14 R363). -/
def dispatch (v : Variant) (f : FieldDie) (cycles : Nat) : FieldDie :=
  let fine := if f.isStandby then 6400 else 5840
  let f := f.atCycle fine
  let f := if f.driving ∧ ¬ f.disp.drove then f.seedRamp v else f
  let f := { f with disp := { f.disp with drove := f.driving } }
  let f := (f.wearSums v).demand v
  let (f, b) := f.gridPhase v f.disp.iDemand f.disp.vbusOk
  let (f, b) := f.capPhase v f.disp.iDemand b
  let ls := (FieldDie.slots v).map fun k => (f.sl k).lane k f.disp.blind f.disp.cfg.storeBal
  let (f, ls, probed) := f.probePhase ls
  let f := f.commitRun v b (fills ls f.disp.iDemand b) probed
  let f := { f with tick := { f.tick with
    dispLast := satN 16 cycles, dispMax := max f.tick.dispMax (satN 16 cycles), repeatRun := 0, ranThisTick := true } }
  if cycles ≠ lenExp v then f.raise 36 1 (satN 16 cycles) else f

/-- The length of a run beyond which its deadline is missed (R73, 14 R363). -/
def runLimit : Nat := 1920

/-- Leaving BLIND (R161). -/
def blindExit (v : Variant) (f : FieldDie) : FieldDie :=
  { f with disp := { f.disp with blind := false, integ := 0, vsetEff := f.disp.cfg.vsetTgt } }.seedRamp v

/-- The units whose weights a policy sets (R174): running SUPPLY units without a pin. -/
def weighed (v : Variant) (f : FieldDie) : List Nat :=
  f.slotsWhere v (fun s => s.ctx.role == .supply && s.ctx.run && s.pinOf f.disp.blind == 0)

/-- The units of the exchange through FC: every quadrant's weights come from the same set (R174). -/
def exchanged (v : Variant) (f : FieldDie) : List Nat := f.slotsWhere v (fun s => s.wear.inSet)

/-- Rated life in equivalent seconds (R173). -/
def lifeS (f : FieldDie) (s : Slot) : Nat := 3600 * (if s.wear.lifeH = 0 then f.disp.cfg.lifeH else s.wear.lifeH)

/-- A weight held in 0.5 to 1.5, Q16. -/
def clampW (w : Int) : Nat := (clampI 0x8000 0x18000 w).toNat

/-- f_k as a fraction with 48 bits (R173), from what the quadrants exchanged (R174). -/
def consumed (f : FieldDie) (s : Slot) : Int := (s.wear.shared * 2 ^ 16 / f.lifeS s : Nat)

/-- EQUALIZE (R174). -/
def equalize (v : Variant) (f : FieldDie) : List (Nat × Nat) :=
  let ks := f.exchanged v
  let fs := ks.map fun k => f.consumed (f.sl k)
  let mean := fs.sum / ks.length
  ks.map fun k => (k, clampW (0x10000 + roundDiv (f.disp.cfg.kw * (mean - f.consumed (f.sl k))) (2 ^ 48)))

/-- STAGGER (R174): remaining times in seconds, ranked, with targets GAP apart. -/
def stagger (v : Variant) (f : FieldDie) : List (Nat × Nat) :=
  let rest (k : Nat) : Int := ((f.lifeS (f.sl k) * 2 ^ 32 : Nat) : Int) - (f.sl k).wear.shared
  let a (k : Nat) : Int := rest k / f.disp.rBar
  let ks := (f.exchanged v).mergeSort (fun i j => a i < a j || (a i == a j && i ≤ j))
  let first : Int := match ks with | k :: _ => a k | [] => 0
  ks.zipIdx.map fun x =>
    let d : Int := first + (x.2 * f.disp.cfg.gap * 86400 : Nat)
    (x.1, clampW (0x10000 + roundDiv (f.disp.cfg.kw * (a x.1 - d)) (max d 86400).toNat))

/-- The weights of the policy (R174). With no stress rate known, the remaining times of STAGGER are not numbers: each weight is a free
value in its range. -/
def policyWeights (v : Variant) (f : FieldDie) : List (Nat × Nat) × FieldDie :=
  let ks := f.exchanged v
  if f.disp.cfg.policy = 1 then (f.equalize v, f)
  else if f.disp.cfg.policy = 2 then
    if f.disp.rBar ≠ 0 then (f.stagger v, f)
    else ks.foldl (fun a k => let (w, g) := a.2.draw 64; (a.1 ++ [(k, 0x8000 + w % 0x10001)], g)) ([], f)
  else (ks.map fun k => (k, 0x10000), f)

/-- exp of a Q40 number as Q32, by halving, a series of 12 terms and squaring. -/
def expQ (x : Int) : Nat :=
  let one : Int := 2 ^ 40
  let y := x / 64
  let s := ((List.range 12).foldl (fun (a : Int × Int) (n : Nat) => let t := a.2 * y / (one * (n + 1)); (a.1 + t, t)) (one, one)).1
  (((List.range 6).foldl (fun a _ => a * a / one) s) / 2 ^ 8).toNat

/-- AF at point `i` of its table (R172), Q32: EA in meV, TREF in 0.01 °C, the points 6 °C apart from −40 °C; 1 ÷ k_B is
11,604.518 K/eV. -/
def afPoint (ea tref i : Nat) : Nat :=
  let tr : Int := 27315 + tref
  let t : Int := 27315 - 4000 + 600 * i
  expQ ((11604518 * ea * (t - tr) * 100 * 2 ^ 40) / (1000 * 1000 * tr * t))

/-- AF of a temperature in °C Q16, linear between the points (R172). -/
def afOf (c : DispCfg) (tq : Int) : Nat :=
  let x := (clampI 0 (192 * 2 ^ 16) (tq + 40 * 2 ^ 16)).toNat
  let i := min 31 (x / (6 * 2 ^ 16))
  let a := afPoint c.ea c.tref i
  let b := afPoint c.ea c.tref (i + 1)
  a + (b - a) * (x - i * 6 * 2 ^ 16) / (6 * 2 ^ 16)

/-- ΔS of a unit's second in Q32.32 s (R172). The means are those of the ticks with a committed run in which the unit had RUN set, and the second
counts as 1 s whatever their number (DESIGN CHOICE, log entry 90). -/
def wearDelta (c : DispCfg) (s : Slot) : Nat :=
  let w := s.wear
  if w.samples = 0 ∨ s.ctx.imax = 0 then 0
  else w.sumI * afOf c (w.sumT * 2 ^ 16 / w.samples) / (w.samples * s.ctx.imax)

/-- WEAR_ACCUMULATE for quadrant `q` (R172). -/
def wearSecond (f : FieldDie) (q : Nat) : FieldDie :=
  (List.range 24).foldl (fun f i => f.modSl (24 * q + i) (fun s =>
    let d := wearDelta f.disp.cfg s
    { s with wear := { s.wear with stress := satN 64 (s.wear.stress + d), rate := d, sumI := 0, sumT := 0, samples := 0 } })) f

/-- The exchange of the quadrant controllers through FC (R174): at the edge of the tick with TB mod 40,000 = 39,999 STRESS and the set that every
quadrant's weights of that second come from, and at the edge after it the set's mean rate, filtered over 3,600 s (DESIGN CHOICE, log entry 90). -/
def wearExchange (v : Variant) (f : FieldDie) : FieldDie :=
  if f.tick.tb % 40000 = 39999 then
    (FieldDie.slots v).foldl (fun f k =>
      let here := (f.weighed v).contains k
      f.modSl k (fun s => { s with wear := { s.wear with shared := s.wear.stress, inSet := here } })) f
  else if f.tick.tb % 40000 = 0 then
    let set := f.exchanged v
    let rate := (set.map fun k => (f.sl k).wear.rate).sum / set.length
    let r : Int := f.disp.rBar
    if set = [] then f else { f with disp := { f.disp with rBar := (r + ((rate : Int) - r) / 3600).toNat } }
  else f

/-- A learned-value record of a slot's module goes toward the partition and into the copy in FC SRAM (17 R449, 13 R348). -/
def writeLearned (f : FieldDie) (r : Learned) : FieldDie :=
  { f with recf := { f.recf with learned := f.recf.learned ++ [r] }
           bat := { f.bat with records := f.bat.records.filter (fun x => !(x.type == r.type && x.vendor == r.vendor &&
             x.product == r.product && x.serial == r.serial)) ++ [r] } }

/-- The STRESS record of a slot's SUPPLY module with a known identity (R173, 17 Table 17-9). -/
def writeStress (f : FieldDie) (k : Nat) : FieldDie :=
  let s := f.sl k
  match s.ident with
  | some (ve, pr, se) =>
    if s.wear.known then
      f.writeLearned { type := 1, vendor := ve, product := pr, serial := se, values := [s.wear.stress, s.wear.lifeH], written := f.bar.wall }
    else f
  | none => f

/-- DISP_CTRL (Table 06-6). -/
def dispCtrl (c : DispCfg) : Word :=
  pack [(31, bit c.lock), (29, c.busMode), (28, bit c.ffSrc), (26, c.policy), (25, bit c.storeBal)]

/-- DISP_STATUS.STATE (Table 06-7); a standby's reads SHADOW (R176). -/
def dispState (f : FieldDie) : Nat :=
  if ¬ f.cfg.loaded then 0 else if f.isStandby then 2 else if f.disp.blind then 3 else if f.driving then 1 else 2

/-- DISP_STATUS (Table 06-7). -/
def dispStatus (f : FieldDie) : Word :=
  let d := f.disp
  pack [(28, f.dispState), (27, bit d.vbusOk), (26, bit d.sLimited), (25, bit d.tLimited), (24, bit d.override), (23, bit d.probeOn),
    (8, d.nFree), (0, d.nPinned)]

/-- DISP_CNT (Table 06-9). -/
def dispCnt (f : FieldDie) : Word := pack [(16, f.disp.overrideCnt), (0, f.disp.shortCnt)]

/-- The DISP registers beyond the header (Tables 06-5, 07-3, 08-1). -/
def dispReg (v : Variant) (f : FieldDie) (idx : Nat) : Option Word :=
  let d := f.disp
  if idx = 0x08 then some (dispCtrl d.cfg)
  else if idx = 0x09 then some f.dispStatus
  else if idx = 0x0A then some (BitVec.ofNat 32 d.vsetEff)
  else if idx = 0x0B then some (BitVec.ofInt 32 d.vbusUsed)
  else if idx = 0x0C then some (BitVec.ofInt 32 d.iDemand)
  else if idx = 0x0D then some (BitVec.ofInt 32 d.integ)
  else if idx = 0x0E then some (BitVec.ofInt 32 d.sAlloc)
  else if idx = 0x0F then some (BitVec.ofInt 32 d.tAlloc)
  else if idx = 0x10 then some (BitVec.ofInt 32 d.resid)
  else if idx = 0x11 then some (BitVec.ofInt 32 d.lambdaS)
  else if idx = 0x12 then some (BitVec.ofInt 32 d.lambdaT)
  else if idx = 0x13 then some (pack [(16, lenExp v), (0, 0x0320)])
  else if idx = 0x14 then some f.dispCnt
  else if 0x18 ≤ idx ∧ idx < 0x20 then f.gridReg v idx
  else if 0x20 ≤ idx ∧ idx < 0x28 then f.capReg v idx
  else if 0x40 ≤ idx ∧ idx < 0xA0 then some (BitVec.ofInt 32 (f.sl (idx - 0x40)).uAlloc)
  else if 0xA0 ≤ idx ∧ idx < 0x100 then some (f.sl (idx - 0xA0)).uFlags
  else none

/-- DISP_CNT cleared by a read. -/
def dispClear (f : FieldDie) (idx : Nat) : FieldDie :=
  if idx = 0x14 then { f with disp := { f.disp with overrideCnt := 0, shortCnt := 0 } } else f

/-- An OP write to DISP_CTRL (R177, R496): reserved codes of BUS_MODE and POLICY are not taken. -/
def dispWrite (f : FieldDie) (idx : Nat) (w : Word) (force : Bool) : FieldDie :=
  let c := f.disp.cfg
  if idx ≠ 0x08 ∨ (c.lock ∧ ¬ force) then f
  else
    let m := bits 30 29 w
    let p := bits 27 26 w
    { f with disp := { f.disp with cfg := { c with
      lock := w.getLsbD 31, busMode := if m < 2 then m else c.busMode, ffSrc := w.getLsbD 28, policy := if p < 3 then p else c.policy
      storeBal := w.getLsbD 25 } } }

/-- A setting of the Dispatcher changed. -/
def modDispCfg (f : FieldDie) (g : DispCfg → DispCfg) : FieldDie := { f with disp := { f.disp with cfg := g f.disp.cfg } }

/-- A downlink entry (Table 05-10): none of a member is all zero; a repeated set keeps what the last committed run gave. -/
def entryWord (s : Slot) (stop : Bool) : Nat :=
  if stop ∨ ¬ s.ctx.member then 0
  else enc 16 s.bus.ref * 2 ^ 8 + s.sess.epoch % 16 * 16 + 8 + bit s.ctx.runSent * 4 + bit s.ctx.probeSent * 2

/-- The downlink frame of bus `n` from its header to its CRC (Tables 05-8 and 05-9, R129): the fields most significant bit first. -/
def downlink (v : Variant) (f : FieldDie) (n : Nat) (stopOnly : Bool) : List Byte :=
  let hdr := 0x1 * 2 ^ 20 + n * 2 ^ 17 + bit f.tick.overran * 2 ^ 16 + bit f.volt.dlStop * 2 ^ 15 + bit (f.power.cond.getLsbD 13) * 2 ^ 14
    + bit (f.power.cond.getLsbD 12) * 2 ^ 13 + bit f.twin.twinB * 2 ^ 12 + f.tick.tb % 256
  let vset := satN 16 ((f.disp.vsetEff + 10) / 20)
  let es := (List.range 12).flatMap fun p => beBytes 3 (if 12 * n + p < v.slots then entryWord (f.sl (12 * n + p)) stopOnly else 0)
  let body := beBytes 3 hdr ++ beBytes 2 vset ++ es
  body ++ beBytes 4 (crc32c body)

/-- The bus that the standby serves in this tick for a DRILL (14 R380): the buses take turns 40 ticks apart on the active device, and the
standby follows what the DRILL packet of the tick names. -/
def drillBus (f : FieldDie) : Option Nat :=
  let h := f.hand
  if ¬ h.drillOn ∨ h.drillKind ≠ 0 ∨ 8 ≤ h.drillStep then none
  else if f.isActive then (if f.tick.tb = h.drillAt + 40 * h.drillStep then some h.drillStep else none)
  else if f.tick.tb = h.drillAt then some h.drillStep else none

/-- The bus that this device serves for a DRILL as a standby: it runs with a configuration, and neither WINTER nor a fault of the bus keeps it from
sending (R127, 14 R380). -/
def drillServes (v : Variant) (f : FieldDie) (n : Nat) : Bool :=
  f.isStandby && f.drillBus == some n && f.running && f.cfg.loaded && !f.power.winter && f.busUp v n

/-- What this device sends on bus `n` in the downlink interval (R135): a frame on a bus that it serves, in BLIND idle symbols or the STOP frame while
DL_STOP is set (R161); nothing on the bus that the peer serves for a DRILL. A standby never sets a downlink flag (04 R111). -/
def downlinkOut (v : Variant) (f : FieldDie) (n : Nat) : List Byte :=
  if f.drillServes v n then ({ f with volt := { f.volt with dlStop := false } }).downlink v n f.disp.blind
  else if ¬ (f.driving ∧ f.busUp v n) ∨ f.drillBus = some n ∨ (f.disp.blind ∧ ¬ f.volt.dlStop) then []
  else f.downlink v n f.disp.blind

/-- DOWNLINK_SEND (R135, R161): the frames of the buses this device serves, and the comparison of the own mark and frame with what came back (R148).
A standby compares the frames that it hears with those that it computed (R151). -/
def downlinkSend (v : Variant) (f : FieldDie) (differs : BitVec 8) : FieldDie :=
  let f := f.atCycle 7840
  let f := (List.range 8).foldl (fun f n =>
    let out := f.downlinkOut v n
    let f := f.modBus n (fun b => { b with sent := out })
    if f.drillServes v n then f.echoResult n (differs.getLsbD n) else f.echoCompare n (differs.getLsbD n)) f
  let heard := f.follows && (List.range 8).any fun n => f.busUp v n && (f.tbus n).markSeen && !f.drillServes v n && differs.getLsbD n
  { f with twin := { f.twin with heardDiff := heard } }

end FieldDie

/-- SET_VSET (R187): the window is checked at the apply tick. -/
def setVsetC : FCmd where
  code := 0x2001
  cfg := true
  chk _ f r := need (f.disp.cfg.vsetMin ≤ r.u32 0 && r.u32 0 ≤ f.disp.cfg.vsetMax && r.u32 4 ≤ 100000)
  op _ f r :=
    let c := f.disp.cfg
    if f.grid.cfg.winLo < r.u32 0 ∧ r.u32 0 < f.grid.cfg.winHi then
      (f.modDispCfg (fun c => { c with vsetTgt := r.u32 0, vslew := if r.u32 4 = 0 then c.vslew else r.u32 4 }), some (.ok, c.vsetTgt))
    else (f, some (.badParam, 0))

/-- SET_LOOP (R179). -/
def setLoopC : FCmd where
  code := 0x2002
  auth _ := true
  cfg := true
  chk _ _ r := need (r.u32 8 ≤ 0x7FFFFFFF && r.u32 12 ≤ 0x20000)
  op _ f r :=
    let f := f.modDispCfg (fun c => { c with kp := r.u32 0, ki := r.u32 4, intMax := r.u32 8, ffGain := r.u32 12 })
    ({ f with disp := { f.disp with integ := clampI (-(r.u32 8)) (r.u32 8) f.disp.integ } }, some (.ok, 0))

/-- SET_SHARING (R174). -/
def setSharingC : FCmd where
  code := 0x2003
  cfg := true
  chk _ _ r := need (r.u32 0 ≤ 2 && r.u32 4 ≤ 100 * 0x10000 && 1 ≤ r.u32 8 && r.u32 8 ≤ 3650 && r.u32 12 ≤ 1)
  op _ f r := (f.modDispCfg (fun c => { c with policy := r.u32 0, kw := r.u32 4, gap := r.u32 8, storeBal := r.u32 12 == 1 }), some (.ok, 0))

/-- SET_UNIT_WEIGHT (R178): RESULT is the previous weight. A weight that is released stays in use until the next bank of weights swaps in (DESIGN
CHOICE, log entry 90). -/
def setUnitWeightC : FCmd where
  code := 0x2004
  cfg := true
  unit := .slot
  chk _ _ r := need (r.u32 0 == 0 || (0x8000 ≤ r.u32 0 && r.u32 0 ≤ 0x18000))
  op _ f r :=
    (f.modSl r.unit (fun s => { s with ctx :=
      (if r.u32 0 = 0 then { s.ctx with wovr := false } else { s.ctx with wovr := true, wgt := r.u32 0 }) }),
     some (.ok, (f.sl r.unit).ctx.wgt))

/-- EXCLUDE_UNIT (R163). -/
def excludeUnitC : FCmd where
  code := 0x2005
  cfg := true
  unit := .slot
  chk _ _ r := need (r.u32 0 ≤ 1)
  op _ f r := (f.modSl r.unit (fun s => { s with ctx := { s.ctx with excl := r.u32 0 == 1 } }), some (.ok, 0))

/-- GET_UNIT (R178): what the last run committed. -/
def getUnitC : FCmd where
  code := 0x2010
  ro := true
  cfg := true
  unit := .slot
  op _ f r := (f, some (.ok, result2 (BitVec.ofInt 32 (f.sl r.unit).uAlloc) (f.sl r.unit).uFlags))

/-- GET_WEAR (R173). -/
def getWearC : FCmd where
  code := 0x2011
  ro := true
  cfg := true
  unit := .slot
  op _ f r := (f, some (.ok, if (f.sl r.unit).ctx.role = .supply then (f.sl r.unit).wear.stress else 0))

/-- GET_DISPATCH. -/
def getDispatchC : FCmd where
  code := 0x2012
  ro := true
  cfg := true
  chk _ _ r := need (r.u32 0 ≤ 2)
  op _ f r :=
    let d := f.disp
    let p : Int × Int := match r.u32 0 with
      | 0 => (d.iDemand, d.resid) | 1 => (d.sAlloc, d.tAlloc) | _ => (d.vsetEff, d.vbusUsed)
    (f, some (.ok, result2 (BitVec.ofInt 32 p.1) (BitVec.ofInt 32 p.2)))

namespace Machine

/-- SET_VSET (R187). -/
def execSetVset (r : Request) (s : State) : Out := .next (s.field setVsetC r)
/-- SET_LOOP (R179). -/
def execSetLoop (r : Request) (s : State) : Out := .next (s.field setLoopC r)
/-- SET_SHARING (R174). -/
def execSetSharing (r : Request) (s : State) : Out := .next (s.field setSharingC r)
/-- SET_UNIT_WEIGHT (R178). -/
def execSetUnitWeight (r : Request) (s : State) : Out := .next (s.field setUnitWeightC r)
/-- EXCLUDE_UNIT (R163). -/
def execExcludeUnit (r : Request) (s : State) : Out := .next (s.field excludeUnitC r)
/-- GET_UNIT (R178). -/
def execGetUnit (r : Request) (s : State) : Out := .next (s.field getUnitC r)
/-- GET_WEAR (R173). -/
def execGetWear (r : Request) (s : State) : Out := .next (s.field getWearC r)
/-- GET_DISPATCH (R178). -/
def execGetDispatch (r : Request) (s : State) : Out := .next (s.field getDispatchC r)

/-- TICK_OVERRUN (R73, R74): no run was committed in this tick; the last references repeat, and its uplinks count all the same (05 R147). -/
def execTickOverrun (s : State) : Out :=
  .next (s.onField (fun f =>
    if f.tick.ranThisTick ∨ f.tick.overran ∨ ¬ f.runs then f
    else
      let f := (f.closeUplinks s.chip.variant).atCycle 7760
      let t := f.tick
      (({ f with tick := { t with
          overran := true, dispLast := 0xFFFF, overrunCnt := satN 16 (t.overrunCnt + 1)
          repeatRun := satN 8 (t.repeatRun + 1) } }.raise 35 1).vector 49)))

/-- DISPATCH_BLIND (R161). -/
def execDispatchBlind (s : State) : Out :=
  .next (s.onField (fun f =>
    if f.disp.invalidRun = 40 ∧ ¬ f.disp.blind then { f with disp := { f.disp with blind := true } }.raise 192 1 else f))

/-- BLIND_EXIT (R161). -/
def execBlindExit (s : State) : Out :=
  .next (s.onField (fun f => if f.disp.validRun = 40 ∧ f.disp.blind then f.blindExit s.chip.variant else f))

/-- POLE_IMBALANCE (R158): raised once when the difference has lasted 40 ticks. -/
def execPoleImbalance (s : State) : Out :=
  .next (s.onField (fun f => if f.disp.imbRun = 40 then { f with disp := { f.disp with imbRun := 41 } }.raise 195 1 else f))

/-- DISPATCH_SHORTFALL (R168). -/
def execDispatchShortfall (s : State) : Out :=
  .next (s.onField (fun f => if f.disp.posRun = 40 then { f with disp := { f.disp with posRun := 41 } }.raise 193 1 else f))

/-- DISPATCH_SURPLUS (R168). -/
def execDispatchSurplus (s : State) : Out :=
  .next (s.onField (fun f => if f.disp.negRun = 40 then { f with disp := { f.disp with negRun := 41 } }.raise 193 2 else f))

/-- WEAR_ACCUMULATE (R172): at the end of each second. -/
def execWearAccumulate (q : Fin 4) (s : State) : Out :=
  .next (s.onField (fun f => if f.tick.tb % 40000 = 39999 ∧ f.runs then f.wearSecond q else f))

/-- WEIGHT_BANK_COMMIT (R175): the quadrant's weights in the tick with TB mod 40,000 = 39,999. -/
def execWeightBankCommit (q : Fin 4) (s : State) : Out :=
  .next (s.onField (fun f =>
    if f.tick.tb % 40000 = 39999 ∧ f.runs then
      let (ws, f) := f.policyWeights s.chip.variant
      let f := ws.foldl (fun f w => if slotQuad w.1 = q.val then f.modSl w.1 (fun x => { x with ctx := { x.ctx with weightNext := w.2 } }) else f) f
      { f with tick := { f.tick with staging := { f.tick.staging with weights := f.tick.staging.weights.set q true } } }
    else f))

/-- STRESS_PERSIST (R173): every 3,600 s the stress of each unit with a known identity is written to the learned values. -/
def execStressPersist (s : State) : Out :=
  .next (s.onField (fun f =>
    if f.tick.tb % 144000000 = 0 ∧ f.running then
      (FieldDie.slots s.chip.variant).foldl (fun f k => f.writeStress k) f
    else f))

/-- DISP_CNT_READ (R177). -/
def execDispCntRead (s : State) : Out :=
  .next ((s.on (fun c => { c with readData := [c.field.dispCnt] })).onField (fun f => f.dispClear 0x14))

end Machine

end Sys2Proof
end

