-- ==== Sys2Proof/Machine/Breakers.lean ====
section
/-! DEFINITION. Branch breakers and early warning (12_branch_breakers R298 to R322): fast trip, curve, states, reclose, gate feedback,
PFW_N, the BRK and BSEQ registers and the commands of group 0x50. -/

namespace Sys2Proof

/-- LOG2 of R305: u32 above 0 to Q16.16. -/
def log2Q (x : Nat) : Nat := let e := Nat.log2 x; e * 2 ^ 16 + x * 2 ^ (31 - e) / 2 ^ 15 % 2 ^ 16

/-- EXP2 of R305. -/
def exp2Q (y : Nat) : Nat := (0x10000 + y % 2 ^ 16) * 2 ^ (y / 2 ^ 16) / 2 ^ 16

/-- Whether 8 points make a defined curve (R304). -/
def curveOk (c : Tab CurvePt 8) : Bool :=
  c.rows.all (fun p => 0x10000 ≤ p.m && p.m ≤ 1000 * 0x10000 && 1 ≤ p.t) &&
    (c.rows.zip c.rows.tail).all fun s => s.1.m < s.2.m && s.2.t ≤ s.1.t && log2Q s.1.m != log2Q s.2.m

/-- Whether a bank may be swapped in (R304): each curve passes its checks, or has points missing and stays undefined. -/
def bankOk (b : Tab (Tab CurvePt 8) 8) : Bool := b.rows.all fun c => curveOk c || c.rows.any (fun p => p.m == 0 || p.t == 0)

/-- A point with its logarithms (R304). -/
def curvePt (m t : Nat) : CurvePt := { m := m, t := t, lm := if m = 0 then 0 else log2Q m, lt := if t = 0 then 0 else log2Q t }

/-- The increment of ACC at a current multiple `m` (R306); none below the curve. -/
def curveStep (c : Tab CurvePt 8) (m : Nat) : Option Nat :=
  let pt (i : Nat) : CurvePt := c.getD i {}
  if m < (pt 0).m then none
  else
    let lt := if (pt 7).m ≤ m then (pt 7).lt
      else
        let i := ((List.range 7).filter fun i => (pt i).m ≤ m).getLast?.getD 0
        let a := pt i
        let b := pt (i + 1)
        let sl := (a.lt - b.lt) * 2 ^ 16 / (b.lm - a.lm)
        a.lt - (log2Q m - a.lm) * sl / 2 ^ 16
    some (exp2Q (32 * 2 ^ 16 - lt))

/-- FT_CODE of a current (R300). -/
def ftCode (i scale : Nat) : Nat := i * scale / 2500000

/-- Whether a code is within the range of R300. -/
def ftOk (c : Nat) : Bool := 16 ≤ c && c ≤ 1023

namespace FieldDie

/-- The breaker settings and lands changed. -/
def modBrk (f : FieldDie) (g : Brk → Brk) : FieldDie := { f with brk := g f.brk }

/-- A branch event of its quadrant with vector 41 (R302, R308, R314). -/
def brkEvent (f : FieldDie) (b k code : Nat) : FieldDie := (f.raiseQ (branchQuad b) k code b).vector 41

/-- Whether the sequencer makes no close for branch `b` (R313): in WINTER and in an isolated quadrant. -/
def closeBarred (f : FieldDie) (b : Nat) : Bool := f.power.winter || f.power.isolated.getD (branchQuad b) false

/-- A branch opens into a state for a cause (R308, R311): BRK_ON is commanded low, warnings and close requests end; BRK_OPENED where it
was closing or closed. -/
def openBranch (f : FieldDie) (b state cause : Nat) : FieldDie :=
  let was := (f.br b).closed
  let f := f.modBr b (fun x => { x with
    state := state, cause := if was then cause else x.cause, onCmd := false, pending := false, shedOrder := false, closeReq := false
    closeShed := false, reclosing := false, startPhase := false, accIn := 0 })
  if was then f.brkEvent b 25 2 else f

/-- What follows a trip (R312): waiting for a reclose, staying in TRIPPED, or LOCKOUT. -/
def tripBranch (f : FieldDie) (b cause : Nat) : FieldDie :=
  let x := f.br b
  let f := f.openBranch b 5 cause
  let f := f.modBr b (fun y => { y with tripAt := f.tick.tb, reclosing := decide (x.recl < x.cfg.reN) })
  if 0 < x.cfg.reN ∧ x.cfg.reN ≤ x.recl then (f.modBr b (fun y => { y with state := 7 })).brkEvent b 26 1 else f

/-- A gate feedback fault (R314): BRK_ON low at once, LOCKOUT. -/
def feedbackFault (f : FieldDie) (b k code : Nat) (fb : Bool) : FieldDie :=
  (((f.openBranch b 7 7).modBr b (fun x => { x with on := false, fb := fb, cause := 7 })).brkEvent b k code)

/-- The March start of a branch (R302, R310): the latch clears, CLOSING begins with ACC_IN at 0; BRK_ON rises at cycle 9,600. -/
def startBranch (f : FieldDie) (b : Nat) : FieldDie :=
  f.modBr b (fun x => { x with
    state := 3, latch := false, latchRead := false, onCmd := true, accIn := 0, startTick := f.tick.tb, closeReq := false, closeShed := false
    startPhase := false, openRun := 0, ownTripAt := none, tripDiff := false })

/-- Whether a waiting branch is eligible (R309), its insertion delay apart. -/
def branchEligible (f : FieldDie) (b : Nat) : Bool :=
  let x := f.br b
  x.state == 2 && (f.shunt b).valid && !x.fb && decide (x.acc ≤ 0x80000000) && !x.cmp && x.testPass && !(x.closeShed && f.cap.capped)
    && !f.closeBarred b

/-- TRIP_LATCH_READ (R302) of one branch: a latch newly set. A standby in step acts on the latch that the input frame shows, and judges its
own under R367. Where a command opened the branch in the same tick, the trip is the cause that is recorded (R311). -/
def latchRead (f : FieldDie) (b : Nat) : FieldDie :=
  let x := f.br b
  let newly : Bool := if f.follows then x.fwdTrip else x.latch && !x.latchRead
  let f := f.modBr b (fun y => { y with latchRead := y.latch, fwdTrip := false, ownTripAt := if x.fwdTrip then none else y.ownTripAt })
  if ¬ newly then f
  else if x.closed then
    ((f.tripBranch b (if x.state = 3 then 4 else 2)).modBr b (fun y => { y with tripCnt := satN 16 (y.tripCnt + 1) })).brkEvent b 24 1
  else
    let f := match x.cmdOpen with
      | some (t, closing) => if t = f.tick.tb then f.modBr b (fun y => { y with cause := if closing then 4 else 2 }) else f
      | none => f
    f.raiseQ (branchQuad b) 29 1 b

/-- STANDBY_TRIP_CLEAR (14 R367): a latch of the standby alone is reported after two ticks and cleared once its comparator is low. -/
def standbyTrip (f : FieldDie) (b : Nat) : FieldDie :=
  let x := f.br b
  match x.ownTripAt with
  | none => f
  | some t =>
    let f := if t < f.tick.tb ∧ ¬ x.tripDiff then (f.modBr b (fun y => { y with tripDiff := true })).raise 227 2 b else f
    if (f.br b).tripDiff ∧ ¬ x.cmp ∧ f.twin.missRun = 0 then
      f.modBr b (fun y => { y with latch := false, latchRead := false, ownTripAt := none, tripDiff := false })
    else f

/-- Cooling of an accumulator (R306). -/
def cool (c acc : Nat) : Nat := acc - acc / 2 ^ c

/-- CURVE_UPDATE of one configured branch (R306, R307, R314). -/
def curveUpdate (f : FieldDie) (b : Nat) : FieldDie :=
  let x := f.br b
  let ch := f.shunt b
  let i := f.branchI b
  let openI : Bool := !x.closed && !ch.failed && decide (2 * x.cfg.iR < 100 * i.natAbs)
  let f := f.modBr b (fun y => { y with curveSusp := ch.failed, openRun := if x.closed then 0 else runUp 40 openI y.openRun })
  let cooled := cool x.cfg.cool x.acc
  if ch.failed then f
  else if ¬ x.closed then f.modBr b (fun y => { y with acc := cooled })
  else
    let m := satN 32 (i.natAbs * x.cfg.invR / 2 ^ 24)
    let closing : Bool := x.state == 3
    let a := if closing then x.accIn else x.acc
    let c := f.brk.curves.getD (if closing then x.cfg.inCurve else x.cfg.curve) (Tab.fill 8 {})
    let a := match curveStep c m with
      | none => cool x.cfg.cool a
      | some d => min (a + d) (2 ^ 33)
    let f := f.modBr b (fun y => if closing then { y with accIn := a, acc := cooled } else { y with acc := a })
    if 2 ^ 32 ≤ a then (f.tripBranch b (if closing then 5 else 3)).brkEvent b 24 2 else f

/-- SHED_ORDER of one branch (08 R215): it opens into SHED unless it tripped in the same tick. -/
def shedBranch (f : FieldDie) (b : Nat) : FieldDie :=
  let x := f.br b
  if ¬ x.shedOrder then f
  else if x.closed ∧ ¬ f.closeBarred b then ((f.openBranch b 6 6).raise 202 1 b).vector 37
  else f.modBr b (fun y => { y with shedOrder := false })

/-- The guard phase of the breaker sequencer on branch `b` (Table 03-2), `fb` the level read on BRK_FB. -/
def seqBranch (f : FieldDie) (fb : BitVec 32) (b : Nat) : FieldDie :=
  let f := f.modBr b (fun x => { x with fb := fb.getLsbD b })
  if (f.br b).state = 0 then f
  else (((f.latchRead b).standbyTrip b).curveUpdate b).shedBranch b

/-- The guard phase of the breaker sequencer. -/
def seqGuard (v : Variant) (f : FieldDie) (fb : BitVec 32) : FieldDie := (branches v).foldl (fun f b => f.seqBranch fb b) f

/-- The comparators' live outputs after a tick (R300): an output falls once every sample of the tick lies below the threshold. -/
def cmpFall (v : Variant) (f : FieldDie) : FieldDie :=
  (branches v).foldl (fun f b =>
    let ch := f.shunt b
    f.modBr b (fun x =>
      let code := if x.state = 3 then x.cfg.ftCodeIn else x.cfg.ftCode
      { x with cmp := x.cmp && decide (code * 32768 * gainOf ch.gain ≤ 10000 * (max ch.max.natAbs ch.min.natAbs)) })) f

/-- Whether PFW_N of group `g` is requested (R318). -/
def pfwWanted (v : Variant) (f : FieldDie) (g : Nat) : Bool :=
  f.grid.warn.getD g false || f.shWarn v g || f.brk.tests.any (fun t => t.group == g)

/-- The breaker lands at cycle 9,600 (R308, R318, 08 R209): BRK_ON, and PFW_N and THROTTLE_N of the groups that the part has. The TEST_PFW
commands whose assertion starts here complete (Table 12-13). -/
def landsOut (v : Variant) (f : FieldDie) : FieldDie :=
  let f := (branches v).foldl (fun f b => f.modBr b (fun x => { x with on := x.onCmd && !x.latch })) f
  let pfw : Tab Bool 8 := f.brk.pfwLand.mapIdx fun g _ => f.driving && decide (g < v.groups) && f.pfwWanted v g
  let thr : Tab Bool 8 := f.brk.thrLand.mapIdx fun g _ => f.driving && decide (g < v.groups) && f.cap.thr.getD g false
  let f' := f.brk.testReq.foldl (fun f r => f.complete r .ok) (f.modBrk (fun k => { k with pfwLand := pfw, thrLand := thr, testReq := [] }))
  if pfw ≠ f.brk.pfwLand then f'.vector 42 else f'

/-- ACTIVE_N is released (14 R354): the conditions of 05 R127 end, and with them PFW_N (R318), THROTTLE_N (08 R209) and what this device sends on
the contract lines (09 R224). -/
def releaseActive (f : FieldDie) : FieldDie :=
  let none : Tab Bool 8 := Tab.fill 8 false
  let f' := { f with
    twin := { f.twin with activeN := false, sampling := false }, brk := { f.brk with pfwLand := none, thrLand := none }
    slot := f.slot.map (fun (s : Slot) => { s with port := { s.port with tx := false } }) }
  if f.brk.pfwLand ≠ none then f'.vector 42 else f'

/-- Both codes of a branch formed from its currents and a SCALE (R300). -/
def formCodes (f : FieldDie) (b scale : Nat) : FieldDie :=
  f.modBr b (fun x => { x with cfg := { x.cfg with ftCode := ftCode x.cfg.ftI scale, ftCodeIn := ftCode x.cfg.ftInI scale } })

/-- Whether a configured branch lets its channel take a SCALE (R300). -/
def scaleOk (f : FieldDie) (b scale : Nat) : Bool :=
  !(f.br b).cfg.configured || (ftOk (ftCode (f.br b).cfg.ftI scale) && ftOk (ftCode (f.br b).cfg.ftInI scale))

/-- A branch of a configuration load that the blob does not configure (R299): UNUSED with CAUSE 8. -/
def unconfigure (f : FieldDie) (b : Nat) : FieldDie :=
  if (f.br b).state = 0 then f
  else
    let c := (f.br b).cfg
    (f.openBranch b 0 8).modBr b (fun x => { x with
      cfg := { pri := c.pri, shedEn := c.shedEn, rank := 96 + b }, armed := false, recl := 0, acc := 0, curveSusp := false })

/-- BR_STAT (Table 12-11). -/
def brStat (f : FieldDie) (b : Nat) : Word :=
  let x := f.br b
  pack [(28, x.state), (24, x.cause), (22, x.recl), (21, bit (decide (0x80000000 < x.acc))), (20, bit x.curveSusp), (19, bit x.fb),
    (18, bit x.testPass), (8, x.cfg.rank), (4, x.cfg.curve), (0, x.cfg.inCurve)]

/-- PFW_STATUS (Table 12-12). -/
def pfwStatus (v : Variant) (f : FieldDie) : Word :=
  let set (p : Nat → Bool) : Nat := (List.range 8).foldl (fun a g => a + bit (p g) * 2 ^ g) 0
  pack [(24, set fun g => f.brk.pfwLand.getD g false), (16, set fun g => f.grid.warn.getD g false), (8, set fun g => f.shWarn v g),
    (0, set fun g => f.brk.tests.any (fun t => t.group == g))]

/-- The BRK registers beyond the header (Tables 12-5 to 12-8). -/
def brkReg (f : FieldDie) (q idx : Nat) : Option Word :=
  let k := f.brk
  if idx = 0x08 then some (pack [(31, bit (k.brkLock.getD q false)), (16, k.fbOff.getD q 10), (8, k.fbOn.getD q 20)])
  else if 0x10 ≤ idx ∧ idx < 0x18 then
    let x := f.br (8 * q + (idx - 0x10))
    some (pack [(20, x.cfg.ftCodeIn), (10, x.cfg.ftCode), (8, x.cfg.filt), (0, bit x.armed)])
  else if 0x18 ≤ idx ∧ idx < 0x20 then
    let x := f.br (8 * q + (idx - 0x18))
    some (pack [(31, bit x.latch), (30, bit x.cmp), (29, bit x.on), (28, bit x.fb), (27, bit x.testPass), (26, bit x.testGated), (0, x.tripCnt)])
  else none

/-- An OP write to a BRK register (R320, R496): fields outside their range are left. -/
def brkWrite (f : FieldDie) (q idx : Nat) (w : Word) (force : Bool) : FieldDie :=
  if f.brk.brkLock.getD q false ∧ ¬ force then f
  else if idx = 0x08 then
    let off := bits 27 16 w
    let on := bits 15 8 w
    f.modBrk (fun k => { k with
      brkLock := k.brkLock.modifyNat q (fun _ => w.getLsbD 31)
      fbOff := k.fbOff.modifyNat q (fun o => if 1 ≤ off ∧ off ≤ 1000 then off else o)
      fbOn := k.fbOn.modifyNat q (fun o => if 1 ≤ on ∧ on ≤ 200 then on else o) })
  else if 0x10 ≤ idx ∧ idx < 0x18 then
    f.modBr (8 * q + (idx - 0x10)) (fun x =>
      let ci := if ftOk (bits 29 20 w) then bits 29 20 w else x.cfg.ftCodeIn
      let c := if ftOk (bits 19 10 w) then bits 19 10 w else x.cfg.ftCode
      let cfg := if c ≤ ci then { x.cfg with ftCode := c, ftCodeIn := ci } else x.cfg
      { x with cfg := { cfg with filt := bits 9 8 w } })
  else f

/-- CURVE_M or CURVE_T at an index (R321): curve, point, and whether it is the time. -/
def curveIdx (idx : Nat) : Nat × Nat × Bool := ((idx - 0x80) / 16, (idx - 0x80) % 16 / 2, idx % 2 == 1)

/-- A value of a point staged (R321). -/
def stagePoint (f : FieldDie) (c p : Nat) (isT : Bool) (val : Nat) : FieldDie :=
  f.modBrk (fun k => { k with staged := k.staged.modifyNat c (fun t => t.modifyNat p (fun x =>
    if isT then curvePt x.m val else curvePt val x.t)) })

/-- A write to CURVE_M or CURVE_T (R321): it goes to the staged bank unless LOCK is set. -/
def curveWrite (f : FieldDie) (idx : Nat) (w : Word) (force : Bool) : FieldDie :=
  let (c, p, isT) := curveIdx idx
  if f.brk.bseqLock ∧ ¬ force then f else f.stagePoint c p isT w.toNat

/-- The BSEQ registers of this chapter (Tables 12-9 to 12-12). -/
def bseqReg (v : Variant) (f : FieldDie) (idx : Nat) : Option Word :=
  if idx = 0x08 then some (pack [(31, bit f.brk.bseqLock), (30, bit f.brk.bank)])
  else if 0x10 ≤ idx ∧ idx < 0x30 then some (f.brStat (idx - 0x10))
  else if 0x30 ≤ idx ∧ idx < 0x50 then some (BitVec.ofNat 32 ((f.br (idx - 0x30)).acc / 2 ^ 16))
  else if idx = 0x50 then some (f.pfwStatus v)
  else if 0x80 ≤ idx ∧ idx < 0x100 then
    let (c, p, isT) := curveIdx idx
    let x := (f.brk.curves.getD c (Tab.fill 8 {})).getD p {}
    some (BitVec.ofNat 32 (if isT then x.t else x.m))
  else none

end FieldDie

/-- SET_BRANCH (R299, R300, R304): curves and codes are judged at the apply tick. -/
def setBranchC : FCmd where
  code := 0x5001
  auth _ := true
  cfg := true
  unit := .branch
  chk _ _ r := need (1000 ≤ r.u32 0 && r.u32 0 ≤ 4000000 && r.u32 4 ≤ r.u32 8 && 1 ≤ r.u32 12 && r.u32 12 ≤ 5000 && r.par 19 1 ≤ 127
    && r.par 18 1 < 8 && r.par 17 1 < 8 && r.par 16 1 / 16 ≤ 3 && 12 ≤ r.u32 20 && r.u32 20 ≤ 26 && 1 ≤ r.par 26 2 && r.par 26 2 ≤ 3600
    && r.par 24 1 ≤ 3 && 100 ≤ r.u32 28 && r.u32 28 ≤ 600000)
  op _ f r :=
    let b := r.unit - 96
    let scale := (f.shunt b).scale
    let bad (c : Nat) : Bool := !curveOk (f.brk.curves.getD c (Tab.fill 8 {}))
    if ¬ ftOk (ftCode (r.u32 4) scale) ∨ ¬ ftOk (ftCode (r.u32 8) scale) ∨ bad (r.par 18 1) ∨ bad (r.par 17 1) then (f, some (.badParam, 0))
    else
      (f.modBr b (fun x => { x with
        cfg := { x.cfg with
          configured := true, iR := r.u32 0, invR := 2 ^ 40 / r.u32 0, ftI := r.u32 4, ftInI := r.u32 8, ftCode := ftCode (r.u32 4) scale
          ftCodeIn := ftCode (r.u32 8) scale, inrushT := r.u32 12, rank := r.par 19 1, curve := r.par 18 1, inCurve := r.par 17 1
          filt := r.par 16 1 / 16, startClosed := r.par 16 1 % 2 == 1, cool := r.u32 20, reReset := r.par 26 2, reN := r.par 24 1
          reDly := r.u32 28 }
        armed := true, testDue := true, state := if x.state = 0 then 1 else x.state }), some (.ok, 0))

/-- SET_CURVE_POINT (R304): on a failed commit the point of the command is not staged. -/
def setCurvePointC : FCmd where
  code := 0x5002
  auth _ := true
  cfg := true
  chk _ _ r := need (r.u32 0 < 8 && r.u32 4 < 8 && 0x10000 ≤ r.u32 8 && r.u32 8 ≤ 1000 * 0x10000 && 1 ≤ r.u32 12 && r.u32 16 ≤ 1)
  op _ f r :=
    let g := (f.stagePoint (r.u32 0) (r.u32 4) false (r.u32 8)).stagePoint (r.u32 0) (r.u32 4) true (r.u32 12)
    if r.u32 16 = 0 then (g, some (.ok, 0))
    else if bankOk g.brk.staged then (g.modBrk (fun k => { k with curves := k.staged, bank := !k.bank }), some (.ok, 0))
    else (f, some (.badParam, 0))

/-- CLOSE_BRANCH (R308, R217). -/
def closeBranchC : FCmd where
  code := 0x5003
  cfg := true
  unit := .branch
  op _ f r :=
    let b := r.unit - 96
    let st := (f.br b).state
    if st = 0 ∨ st = 7 then (f, some (.wrongMode, 0))
    else if 2 ≤ st ∧ st ≤ 4 then (f, some (.ok, 0))
    else if st = 6 ∧ f.cap.capped then (f, some (.busy, 0))
    else (f.requestClose b, some (.ok, 0))

/-- OPEN_BRANCH (R322). -/
def openBranchC : FCmd where
  code := 0x5004
  cfg := true
  unit := .branch
  op _ f r :=
    let b := r.unit - 96
    let st := (f.br b).state
    if st = 0 then (f, some (.wrongMode, 0))
    else if st = 1 ∨ st = 7 then (f, some (.ok, 0))
    else
      let c := if (f.br b).closed then some (f.tick.tb, st == 3) else none
      ((f.openBranch b 1 1).modBr b (fun x => { x with cmdOpen := c }), some (.ok, 0))

/-- CLEAR_LOCKOUT (R312). -/
def clearLockoutC : FCmd where
  code := 0x5005
  auth _ := true
  cfg := true
  unit := .branch
  op _ f r :=
    let b := r.unit - 96
    if (f.br b).state ≠ 7 then (f, some (.badParam, 0))
    else (f.modBr b (fun x => { x with state := 1, recl := 0 }), some (.ok, 0))

/-- TEST_PFW (R318): it completes when the assertion starts. -/
def testPfwC : FCmd where
  code := 0x5006
  auth _ := true
  cfg := true
  chk v _ r :=
    if 256 ≤ r.u32 0 ∨ r.u32 4 = 0 ∨ 10000 < r.u32 4 then some .badParam
    else if 2 ^ (v.branches / 4) ≤ r.u32 0 then some .unitAbsent else none
  op _ f r :=
    let gs := (List.range 8).filter fun g => (r.u32 0).testBit g
    (f.modBrk (fun k => { k with
      tests := k.tests.filter (fun t => !gs.contains t.group) ++ gs.map fun g => { group := g, until_ := f.tick.tb + r.u32 4 * 40 }
      testReq := k.testReq ++ [r] }), none)

/-- GET_BRANCH. -/
def getBranchC : FCmd where
  code := 0x5010
  ro := true
  unit := .branch
  op _ f r := (f, some (.ok, result2 (f.brStat (r.unit - 96)) (BitVec.ofInt 32 (f.branchI (r.unit - 96)))))

/-- GET_ACC (R306). -/
def getAccC : FCmd where
  code := 0x5011
  ro := true
  unit := .branch
  op _ f r := (f, some (.ok, (f.br (r.unit - 96)).acc))

namespace Machine

/-- SET_BRANCH (R300). -/
def execSetBranch (r : Request) (s : State) : Out := .next (s.field setBranchC r)
/-- SET_CURVE_POINT (R304). -/
def execSetCurvePoint (r : Request) (s : State) : Out := .next (s.field setCurvePointC r)
/-- CLOSE_BRANCH (R308). -/
def execCloseBranch (r : Request) (s : State) : Out := .next (s.field closeBranchC r)
/-- OPEN_BRANCH (R322). -/
def execOpenBranch (r : Request) (s : State) : Out := .next (s.field openBranchC r)
/-- CLEAR_LOCKOUT (R312). -/
def execClearLockout (r : Request) (s : State) : Out := .next (s.field clearLockoutC r)
/-- TEST_PFW (R318). -/
def execTestPfw (r : Request) (s : State) : Out := .next (s.field testPfwC r)
/-- GET_BRANCH (R322). -/
def execGetBranch (r : Request) (s : State) : Out := .next (s.field getBranchC r)
/-- GET_ACC (R306). -/
def execGetAcc (r : Request) (s : State) : Out := .next (s.field getAccC r)

/-- FAST_TRIP (R301, R302): the latch of an armed branch sets and pulls BRK_ON low at once. -/
def execFastTrip (branch : Fin 32) (s : State) : Out :=
  .next (s.onBranch branch (fun f =>
    if (f.br branch).armed then
      f.modBr branch (fun x => { x with
        latch := true, cmp := true, on := false
        ownTripAt := if f.follows ∧ ¬ x.latch then some f.tick.tb else x.ownTripAt })
    else f))

/-- FT_SELFTEST (R303): in the branch's tick of each second, and in the first tick after its configuration or a reset of its block. -/
def execFtSelftest (branch : Fin 32) (pass : Bool) (s : State) : Out :=
  .next (s.onBranch branch (fun f =>
    let x := f.br branch
    if ¬ x.armed ∨ ¬ (x.testDue ∨ f.tick.tb % 40000 = 1000 * branch + 500) then f
    else
      let f' := f.modBr branch (fun x => { x with testPass := pass, testDue := false })
      if pass then f' else f'.raiseQ (branchQuad branch) 30 1 branch))

/-- INRUSH_END (R310). -/
def execInrushEnd (branch : Fin 32) (s : State) : Out :=
  .next (s.onBranch branch (fun f =>
    let x := f.br branch
    if x.state = 3 ∧ x.startTick + x.cfg.inrushT * 40 ≤ f.tick.tb then
      (f.modBr branch (fun x => { x with state := 4, accIn := 0, closedAt := f.tick.tb })).brkEvent branch 25 1
    else f))

/-- RECLOSE_DELAY_END (R312). -/
def execRecloseDelayEnd (branch : Fin 32) (s : State) : Out :=
  .next (s.onBranch branch (fun f =>
    let x := f.br branch
    if x.state = 5 ∧ x.reclosing ∧ x.tripAt + x.cfg.reDly * 40 ≤ f.tick.tb ∧ ¬ f.closeBarred branch then
      (f.requestClose branch).modBr branch (fun x => { x with recl := min 3 (x.recl + 1) })
    else f))

/-- RECLOSE_RESET_END (R312). -/
def execRecloseResetEnd (branch : Fin 32) (s : State) : Out :=
  .next (s.onBranch branch (fun f =>
    let x := f.br branch
    if x.state = 4 ∧ x.closedAt + x.cfg.reReset * 40000 ≤ f.tick.tb then f.modBr branch (fun x => { x with recl := 0 }) else f))

/-- GATE_FB_FAIL_OPEN (R314). -/
def execGateFbFailOpen (branch : Fin 32) (s : State) : Out :=
  .next (s.onBranch branch (fun f => if (f.br branch).state ≠ 0 ∧ ¬ (f.br branch).on then f.feedbackFault branch 27 1 true else f))

/-- GATE_FB_FAIL_CLOSE (R314). -/
def execGateFbFailClose (branch : Fin 32) (s : State) : Out :=
  .next (s.onBranch branch (fun f => if (f.br branch).state ≠ 0 ∧ (f.br branch).on then f.feedbackFault branch 28 1 false else f))

/-- GATE_FB_LOST (R314). -/
def execGateFbLost (branch : Fin 32) (s : State) : Out :=
  .next (s.onBranch branch (fun f => if (f.br branch).closed then f.feedbackFault branch 28 2 false else f))

/-- GATE_FB_STUCK (R314). -/
def execGateFbStuck (branch : Fin 32) (s : State) : Out :=
  .next (s.onBranch branch (fun f =>
    if (f.br branch).state ≠ 0 ∧ ¬ (f.br branch).closed then f.feedbackFault branch 28 3 true else f))

/-- BRK_OPEN_CURRENT (R314): an open branch has carried more than 2 % of I_R for 40 ticks. -/
def execBrkOpenCurrent (branch : Fin 32) (s : State) : Out :=
  .next (s.onBranch branch (fun f =>
    if (f.br branch).openRun = 40 then (f.modBr branch (fun x => { x with openRun := 41 })).raiseQ (branchQuad branch) 29 1 branch else f))

/-- TEST_PFW_END (R318). -/
def execTestPfwEnd (group : Fin 8) (s : State) : Out :=
  .next (s.onField (fun f =>
    f.modBrk (fun k => { k with tests := k.tests.filter fun t => !(t.group == group.val && t.until_ ≤ f.tick.tb) })))

/-- CURVE_POINT_WRITE (R321). -/
def execCurvePointWrite (curve : Fin 8) (point : Fin 8) (isT : Bool) (v : Word) (s : State) : Out :=
  .next (s.onField (fun f => if f.brk.bseqLock then f else f.stagePoint curve point isT v.toNat))

end Machine

end Sys2Proof
end

