-- ==== Sys2Proof/Machine/SessOps.lean ====
section
/-! DEFINITION. The operations of the contract sessions (10_contract_sessions R248 to R279) on one slot: frames queued, needs of a STATUS,
presence, soft and hard resets and their failures, removal, the slot circuit's bits. -/

namespace Sys2Proof

namespace CtFrame

/-- Whether the frame is an ACK or a STALE, which R250 sends before any other. -/
def owed (fr : CtFrame) : Bool := fr.type == 0 || fr.type == 5

/-- Whether the sender awaits a reply to the acknowledged frame (R259): GET, GRANT, SWAP. -/
def asks (fr : CtFrame) : Bool := fr.type == 6 || fr.type == 0xA || fr.type == 0xE

/-- WHAT of a GET (Table 09-8). -/
def what (fr : CtFrame) : Nat := bits 31 28 (fr.terms.getD 0 0)

/-- Whether the frame is a GET for a frame type. -/
def isGet (fr : CtFrame) (w : Nat) : Bool := fr.type == 6 && fr.what == w

/-- Whether a host command needs the frame (R250). -/
def forHost (fr : CtFrame) : Bool := fr.host || fr.cmd.isSome

/-- A frame on the line whose exchange has ended: it goes to its end and starts nothing. -/
def stray (fr : CtFrame) : CtFrame := if fr.owed then fr else { fr with once := true, cmd := none, host := false, probe := 0 }

/-- The header of a frame (09 Table 09-6), `orig` set for a module's. -/
def header (fr : CtFrame) (orig : Bool := false) : Nat :=
  fr.type * 2 ^ 12 + fr.msgId * 2 ^ 9 + fr.terms.length * 2 ^ 6 + bit orig * 2 ^ 5 + fr.epoch * 2

/-- The bytes of a frame from its header to its CRC, in transmission order (09 R234). -/
def bytes (fr : CtFrame) (orig : Bool := false) : List Byte :=
  let body := beBytes 2 (fr.header orig) ++ fr.terms.flatMap fun (t : Word) => beBytes 4 t.toNat
  body ++ beBytes 4 (crc32c body)

/-- The frame types that its response timer awaits (R259). -/
def awaits (fr : CtFrame) : List Nat :=
  if fr.type = 6 then [fr.what] else if fr.type = 0xA then [3, 2] else if fr.type = 0xE then [1, 2] else []

end CtFrame

namespace Port

/-- A frame put behind the owed ACK and STALE frames and before every other. -/
def queueFirst (p : Port) (fr : CtFrame) : Port :=
  { p with queue := p.queue.takeWhile CtFrame.owed ++ fr :: p.queue.dropWhile CtFrame.owed }

/-- A frame queued (R250); a new frame other than ACK and STALE takes its MSG_ID when it is first sent (R237). -/
def enqueue (p : Port) (fr : CtFrame) : Port := if fr.owed then p.queueFirst fr else { p with queue := p.queue ++ [fr] }

/-- The frames that the port holds. -/
def frames (p : Port) : List CtFrame := p.queue ++ p.sending.toList ++ p.awaiting.toList

/-- The exchange dropped (R262, R264): only owed frames stay, and what is on the line runs to its end. -/
def flush (p : Port) : Port := { p with queue := p.queue.filter CtFrame.owed, sending := p.sending.map CtFrame.stray, awaiting := none }

/-- CT_LINK (Table 09-13). -/
def linkWord (p : Port) : Word :=
  pack [(30, p.line), (29, bit p.present), (28, bit p.pullup), (27, bit p.tx), (20, p.rxType), (17, p.rxId), (8, p.collCnt), (0, p.presCnt)]

/-- CT_ERR (Table 09-14). -/
def errWord (p : Port) : Word := pack [(24, p.syncFail), (16, p.crc), (8, p.badType), (0, p.staleRx)]

/-- CT_MOIST (Table 09-15). -/
def moistWord (p : Port) : Word := pack [(30, p.mstate), (16, p.vMv), (0, p.rKohm)]

end Port

namespace Sess

/-- Whether the session reports its grant: in GRANTED and CONTRACTED (Table 10-6). -/
def granted (s : Sess) : Bool := s.state == 4 || s.state == 5

/-- SWAP_ACT (Table 10-6): from the ACCEPT on. -/
def swapAct (s : Sess) : Bool := decide (2 ≤ s.swapStage)

/-- SESSION (Table 10-6). -/
def word (s : Sess) : Word :=
  pack [(28, s.state), (24, s.epoch), (22, if s.granted then s.role.code else 0), (21, bit s.auxMod), (20, bit s.swapAct), (18, s.hrFail),
    (8, if s.granted then s.auxGrant else 0), (0, if s.granted then s.rank else 0)]

/-- SESS_CNT (Table 10-7). -/
def cntWord (s : Sess) : Word := pack [(24, s.soft), (16, s.hard), (8, s.respExp), (0, s.retries)]

/-- A field of the held CAPABILITY (Table 09-8): term, high and low bit. -/
def cap (s : Sess) (t hi lo : Nat) : Nat := match s.capability with | some ts => bits hi lo (ts.getD t 0) | none => 0

/-- AUX_SRC, PROBE_OK and SOFTSTART of the CAPABILITY; SOFTSTART in ms. -/
def auxSrc (s : Sess) : Bool := s.cap 0 25 25 == 1
def probeOk (s : Sess) : Bool := s.cap 0 24 24 == 1
def softstart (s : Sess) : Nat := 10 * s.cap 3 31 24

/-- A ramp rate from its code and IMAX_G (Table 09-8). -/
def ramp (s : Sess) (code : Nat) : Nat := max 1 (s.imaxG * (code + 1) / 2 ^ 16)

/-- The exchange and the swap ended: no timer runs and no frame is awaited. -/
def quiet (s : Sess) : Sess := { s with t := {}, outstanding := none, statusWaits := [], swapCmd := none, swapStage := 0, lostNeed := false }

end Sess

namespace Slot

/-- A contract above the default (09 R246). -/
def aboveDefault (s : Slot) : Bool := s.sess.state == 5 && (s.sess.role != .none || decide (150 < s.sess.auxGrant) || s.sess.auxMod)

/-- SRC_N (22 R538); in a swap back the shelf feeds from step 1 of Table 10-5 on. -/
def srcN (s : Slot) : Bool :=
  (s.sess.auxMod && s.sess.swapStage != 2 && s.sess.swapStage != 3) || s.sess.state == 9 || s.sess.swapStage == 5

/-- HIGH (22 R538). -/
def high (s : Slot) : Bool := s.sess.state == 5 && !s.srcN && decide (150 < s.sess.auxGrant)

/-- What leaving CONTRACTED does besides the session (11 Table 11-1, R291, 13 R342). -/
def leave (s : Slot) : Slot :=
  if s.sess.state = 5 then
    { s with ins := { s.ins with state := min 1 s.ins.state, startPhase := false }, bat := { s.bat with cycleOpen := false } }
  else s

/-- A slot whose frames and timers are dropped. -/
def quiet (s : Slot) : Slot := { s with port := s.port.flush, sess := s.sess.quiet }

/-- The share of the auxiliary budget that a slot reserves (R254). -/
def auxShare (s : Slot) : Nat :=
  if s.sess.state = 9 ∨ ¬ s.port.present ∨ s.sess.auxMod then 0 else if s.sess.state = 5 then s.sess.auxGrant else 150

/-- INS_STAT (11 Table 11-2). -/
def insWord (s : Slot) : Word :=
  let i := s.ins
  pack [(28, i.state), (27, bit i.qual), (26, bit i.startPhase), (25, bit i.suspect), (24, bit i.ulSeen), (0, satN 16 (i.qualRuns / 400))]

end Slot

/-- A GET (Table 09-8). -/
def getFrame (what : Nat) (cmd : Option Request := none) (probe : Nat := 0) : CtFrame :=
  { type := 6, terms := [pack [(28, what)]], cmd := cmd, probe := probe }

namespace FieldDie

/-- The port of slot `k` changed. -/
def modPort (f : FieldDie) (k : Nat) (g : Port → Port) : FieldDie := f.modSl k (fun s => { s with port := g s.port })

/-- The session of slot `k` changed. -/
def modSess (f : FieldDie) (k : Nat) (g : Sess → Sess) : FieldDie := f.modSl k (fun s => { s with sess := g s.sess })

/-- Whether this device's sessions advance: it drives, or it follows in step (R277). -/
def sessLive (f : FieldDie) : Bool := f.driving || (f.running && f.cfg.loaded && f.follows)

/-- Whether the port of slot `k` serves its line: its quadrant is in service, neither PORT nor QC is in a live operation (01 R38,
R276), and it has a transceiver that passed its self-test (01 R33). -/
def portUp (f : FieldDie) (k : Nat) : Bool :=
  let q := slotQuad k
  !(f.sl k).port.bad && !((f.qd q).blk.getD 1 {}).failedCells.contains (k % 24) && !f.power.isolated.getD q false &&
    ((f.qd q).blk.getD 0 {}).op.isNone && ((f.qd q).blk.getD 1 {}).op.isNone

/-- Whether the device only listens on the lines (09 R224). -/
def listens (f : FieldDie) : Bool :=
  let t := f.twin
  f.running && !t.activeN && !t.peerActive && (!t.twinB || !t.cfg.pairEn || decide (400 * t.cfg.roleWait ≤ t.waitTicks))

/-- Whether the device's receivers or the input frame feed its ports. -/
def hears (f : FieldDie) : Bool := f.sessLive || f.listens

/-- A session event of a slot with vector 39 (R281): offset of the source and code. -/
def sessEvent (f : FieldDie) (k src code : Nat) (value : Nat := 0) : FieldDie := (f.raiseQ (slotQuad k) src code (value * 0x10000 + k)).vector 39

/-- An insertion event of a slot with vector 40. -/
def insEvent (f : FieldDie) (k src code : Nat) : FieldDie := (f.raiseQ (slotQuad k) src code k).vector 40

/-- A frame of slot `k` queued at its contract epoch. -/
def send (f : FieldDie) (k : Nat) (fr : CtFrame) : FieldDie :=
  let e := (f.sl k).sess.epoch
  f.modPort k (fun p => p.enqueue { fr with epoch := e })

/-- A control frame queued (Table 09-7). -/
def sendCtl (f : FieldDie) (k type : Nat) (cmd : Option Request := none) (re : Nat := 0xF) : FieldDie :=
  f.send k { type := type, cmd := cmd, re := re }

/-- Whether a GET with WHAT 0xB is in progress (R554): from its sending to its STATUS. -/
def statusBusy (s : Slot) : Bool :=
  (s.port.sending.toList ++ s.port.awaiting.toList ++ s.sess.outstanding.toList ++ s.port.queue.filter (0 < ·.sends)).any
    fun fr => fr.isGet 0xB && !fr.once

/-- A need of a STATUS (R554): one GET serves every need; the GET of a probe phase goes before every frame that is not owed. -/
def needStatus (f : FieldDie) (k : Nat) (cmd : Option Request := none) (probe : Nat := 0) : FieldDie :=
  let s := f.sl k
  let f := f.modSess k (fun x => { x with statusWaits := x.statusWaits ++ cmd.toList })
  if probe ≠ 0 then
    let e := s.sess.epoch
    f.modPort k (fun p =>
      { p with queue := p.queue.filter (fun fr => !(fr.isGet 0xB && fr.sends == 0)) }.queueFirst { getFrame 0xB none probe with epoch := e })
  else if statusBusy s || s.port.queue.any (·.isGet 0xB) then f
  else f.send k { getFrame 0xB with host := cmd.isSome }

/-- Every host command that waits on slot `k`'s exchange, a hard reset apart. -/
def slotCmds (s : Slot) : List Request :=
  (s.port.frames ++ s.sess.outstanding.toList).filterMap (·.cmd) ++ s.sess.statusWaits ++ s.sess.swapCmd.toList

/-- Commands that wait on slot `k` complete with ABORTED and its exchange ends (R265, R264). -/
def abandon (f : FieldDie) (k : Nat) : FieldDie :=
  let s := f.sl k
  ((slotCmds s).foldl (fun f r => f.complete r .aborted) f).modSl k Slot.quiet

/-- The device starts a soft reset (R262): the slot takes the default and SOFT_RESET is queued. -/
def softStart (f : FieldDie) (k : Nat) (cmd : Option Request := none) : FieldDie :=
  let f := (f.abandon k).modSl k Slot.leave
  (f.modSess k (fun s => { s with state := 6, auxMod := false })).sendCtl k 4 cmd

/-- A soft reset is complete at an epoch (R262): new epoch, MSG_IDs at 0, QUERY. The module's SOFT_RESET stays the frame executed `last`, so that its
repeat is not executed again (09 R237). -/
def softDone (f : FieldDie) (k epoch : Nat) (last : Option (Nat × Nat) := none) : FieldDie :=
  let f := (f.abandon k).modSl k Slot.leave
  let f := f.modSess k (fun s => { s with
    state := 2, epoch := (epoch + 1) % 16, auxMod := false, softTried := true, soft := satN 8 (s.soft + 1), bcast := false })
  let f := f.modPort k (fun p => { p with nextId := 0, lastExec := last })
  (f.sessEvent k 21 3).send k (getFrame 8)

/-- Entry to DISABLED (Table 10-1, 09 R227): the insertion state stays as leaving CONTRACTED leaves it (11 Table 11-1), and a hard reset
that the device itself is signalling is still signalled to its end. -/
def toDisabled (f : FieldDie) (k : Nat) : FieldDie :=
  (f.abandon k).modSl k (fun s =>
    let s := s.leave
    { s with
      port := { s.port.silence with present := false, queue := [], resetWanted := false }
      sess := { s.sess with state := 9, auxMod := false, softTried := false, hardTried := false }
      ins := { s.ins with startPhase := false } })

/-- The commands that a declared hard reset answers (R265): RESET_SLOT with OK and the new epoch; ENABLE_SLOT with OK as DISABLED is
entered. -/
def answerHard (f : FieldDie) (k : Nat) : FieldDie :=
  let s := f.sl k
  let f := f.modSess k (fun x => { x with hardCmds := [] })
  let f := if s.sess.hardCmds.any (·.opcode == 0x4004) then f.toDisabled k else f
  s.sess.hardCmds.foldl (fun f r => f.complete r .ok (if r.opcode = 0x4002 then s.sess.epoch else 0)) f

/-- A hard reset is declared (R264). In DISABLED, and on a device that only listens, the state stays. -/
def declareHard (f : FieldDie) (k : Nat) : FieldDie :=
  let f := f.modSl k (fun s => { s with
    port := { s.port with line := max 2 s.port.line, resetWanted := false, nextId := 0, lastExec := none, checking := false }
    sess := { s.sess with epoch := (s.sess.epoch + 1) % 16, hard := satN 8 (s.sess.hard + 1) } })
  let f := f.sessEvent k 21 4
  if (f.sl k).sess.state = 9 ∨ ¬ f.sessLive then f
  else
    let f := ((f.abandon k).modSl k Slot.leave).modPort k (fun p => { p.silence with queue := [] })
    let f := f.modSess k (fun s => { s with
      state := 7, auxMod := false, softTried := false, hardTried := true, presSince := false, t := { hardDone := true } })
    f.answerHard k

/-- The device signals a hard reset (R232), as soon as the line is high; the timer of one that stands declared runs on. -/
def hardSignal (f : FieldDie) (k : Nat) : FieldDie :=
  f.modSl k (fun s => { s with
    port := { s.port with resetWanted := true }, sess := { s.sess with t := if 2 ≤ s.port.line then s.sess.t else {} } })

/-- A hard reset has failed (R267): signalled again, at once declared where the line is still low, or DISABLED with CONTRACT_DEAD at the third. -/
def hardFail (f : FieldDie) (k : Nat) : FieldDie :=
  let n := (f.sl k).sess.hrFail + 1
  let f := f.modSess k (fun s => { s with hrFail := min 3 n })
  if 3 ≤ n then
    let cs := (f.sl k).sess.hardCmds
    let f := (f.modSess k (fun s => { s with hardCmds := [] })).toDisabled k
    let f := cs.foldl (fun f r => f.complete r (if r.opcode = 0x4004 then .ok else .aborted)) f
    f.sessEvent k 20 1
  else if 2 ≤ (f.sl k).port.line then f.declareHard k
  else f.hardSignal k

/-- A response expiry, or the loss of R261 (R259, R263, R266): the first ends in a soft reset, one after a soft reset in a hard reset, and
one after a hard reset is its failure. A GET_MODULE_DATA that the lost exchange served completes with TIMEOUT (R265). -/
def exchangeLost (f : FieldDie) (k : Nat) (fr : Option CtFrame) : FieldDie :=
  let s := f.sl k
  let gets := match fr with
    | some x => if x.type = 6 then x.cmd.toList ++ (if x.what = 0xB then s.sess.statusWaits else []) else []
    | none => []
  let drop (y : CtFrame) : CtFrame := if y.type = 6 then { y with cmd := none } else y
  let f := gets.foldl (fun f r => f.complete r .timeout) f
  let f := f.modSl k (fun s => { s with
    port := { s.port with awaiting := s.port.awaiting.map drop, sending := s.port.sending.map drop }
    sess := { s.sess with
      outstanding := s.sess.outstanding.map drop, statusWaits := if gets = [] then s.sess.statusWaits else []
      t := { s.sess.t with response := false, ack := false, retry := false } } })
  if s.sess.hardTried then (f.abandon k).hardFail k
  else if s.sess.softTried ∨ (fr.map (·.type)) = some 4 then (f.abandon k).hardSignal k
  else f.softStart k

/-- A send that failed (R261, R231): the frame is repeated, waits for the hold-off after the third, and is lost after the sixth, which
counts as a response expiry unless it is a SOFT_RESET. After the
third send of a GET that a lost uplink asked for, SUSPECT sets (11 R295). -/
def sendFailed (f : FieldDie) (k : Nat) (fr : CtFrame) : FieldDie :=
  let f := f.modSl k (fun s => { s with port := { s.port with awaiting := none }, sess := { s.sess with t := { s.sess.t with ack := false } } })
  if 6 ≤ fr.sends then
    (f.modSess k (fun s => { s with respExp := if fr.type = 4 then s.respExp else satN 8 (s.respExp + 1) })).exchangeLost k (some fr)
  else
    let f := f.modPort k (fun p => p.queueFirst fr)
    if fr.sends ≠ 3 then f
    else
      let f := f.modSess k (fun s => { s with t := { s.t with retry := true } })
      let s := f.sl k
      if fr.isGet 0xB ∧ s.sess.lostNeed ∧ ¬ s.ins.suspect then
        (f.modSl k (fun s => { s with ins := { s.ins with suspect := true, runDrop := true } })).insEvent k 23 1
      else f

/-- The frame that the device is sending is lost (R276, R278): it counts as a send and is repeated under R261; an owed frame is not. -/
def cutShort (f : FieldDie) (k : Nat) : FieldDie :=
  match (f.sl k).port.sending with
  | none => f
  | some fr =>
    let f := f.modPort k Port.silence
    if fr.owed ∨ fr.once then f else f.sendFailed k fr

/-- The battery record of a slot's STORE module with a known identity (13 R347): profile, LEARN_COUNT, Q_CAP, E_CAP, R_EFF, LAST_LEARN,
THROUGHPUT in Ah. -/
def writeBattery (f : FieldDie) (k : Nat) : FieldDie :=
  let s := f.sl k
  match s.ident with
  | some (ve, pr, se) =>
    let b := s.bat
    if s.ctx.role ≠ .storage then f
    else f.writeLearned { type := 2, vendor := ve, product := pr, serial := se
                          values := [b.profile, b.learnCount, b.qCap, b.eCap, b.rEff, b.lastLearn, satN 32 (b.dis / 3600000000000)]
                          written := f.bar.wall }
  | none => f

/-- The learned values of every module are written, as at an orderly shutdown (06 R173, 13 R348): the RESET command of a scope that takes the
field with it is one (log 90). -/
def shutdown (v : Variant) (f : FieldDie) : FieldDie :=
  (FieldDie.slots v).foldl (fun f k => (f.writeStress k).writeBattery k) f

/-- Entry to EMPTY: PRESENT clears and the session holds no module; its epoch, counters and insertion state stay. -/
def toEmpty (f : FieldDie) (k : Nat) : FieldDie :=
  f.modSl k (fun s => { s with
    port := { s.port.silence with queue := [], awaiting := none, present := false }
    sess := { s.sess.quiet with
      state := 0, capability := none, identity := none, status := none, request := none, softTried := false, hardTried := false, auxMod := false
      bcast := false }
    ins := { s.ins with startPhase := false, ulSeen := false, runDrop := false } })

/-- Removal recognised (11 R295): the learned values are written, the insertion state goes to NONE and MODULE_REMOVED is raised. -/
def removed (f : FieldDie) (k : Nat) : FieldDie :=
  ((((f.writeStress k).writeBattery k).toEmpty k).modSl k (fun s => { s with ins := { s.ins with state := 0, suspect := false } })).insEvent k 22 3

/-- PRESENT sets (09 R227, Table 10-1, 11 R283, R291): the session leaves EMPTY, to COLD where an uplink showed the module (11 R296). In DISABLED
the flag alone sets. -/
def markPresent (f : FieldDie) (k : Nat) (byUplink : Bool := false) : FieldDie :=
  let s := f.sl k
  if s.port.present then f
  else
    let f := f.modSl k (fun s => { s with
      port := { s.port with present := true }
      ins := { s.ins with
        state := if s.ins.state = 0 then 1 else s.ins.state, qualRuns := 0, ulSeen := byUplink
        startPhase := f.march.phaseOn && decide (f.tick.tb < f.march.phaseBegin + 24000) } })
    if s.sess.state ≠ 0 then f
    else if ¬ f.sessLive then f.modSess k (fun x => { x with state := 1 })
    else if byUplink then f.modSess k (fun x => { x with state := 10 })
    else (f.modSess k (fun x => { x with state := 2 })).send k (getFrame 8)

/-- A configuration takes effect on slot `k` (Table 10-1): HELD starts a soft reset, DISABLED opens again, DEFAULT goes to QUERY on the
active device. -/
def configured (f : FieldDie) (k : Nat) : FieldDie :=
  let st := (f.sl k).sess.state
  if st = 8 then f.softStart k
  else if st = 9 then (f.modSess k (fun s => { s with hrFail := 0 })).toEmpty k
  else if st = 1 ∧ f.sessLive then (f.modSess k (fun s => { s with state := 2 })).send k (getFrame 8)
  else f

/-- COLD for every slot with PRESENT (R279); a DISABLED slot stays so (Table 10-1). -/
def coldAll (v : Variant) (f : FieldDie) : FieldDie :=
  let f := (FieldDie.slots v).foldl (fun f k =>
    if ¬ (f.sl k).port.present ∨ (f.sl k).sess.state = 9 then f
    else (f.modSl k (fun s => s.leave.quiet)).modSess k (fun s => { s with state := 10, epoch := 0, auxMod := false })) f
  { f with coldTurn := none }

/-- Whether the turn of a slot has ended (R279). -/
def turnEnded (s : Slot) : Bool :=
  (s.sess.state == 5 && (s.sess.role == .none || s.ctx.runSent)) || s.sess.state == 8 || s.sess.state == 9 || s.sess.state == 0

/-- The turns of the COLD slots (R279), in March order by the policy rank: one at a time. -/
def coldAdvance (v : Variant) (f : FieldDie) : FieldDie :=
  let busy : Bool := match f.coldTurn with | some k => !turnEnded (f.sl k) | none => false
  if ¬ f.sessLive ∨ busy then f
  else
    let cold := f.slotsWhere v (fun s => s.sess.state == 10)
    let cold := cold.filter fun k => !f.power.isolated.getD (slotQuad k) false
    let order := cold.mergeSort (fun a b => (f.sl a).pol.rank < (f.sl b).pol.rank || ((f.sl a).pol.rank == (f.sl b).pol.rank && a ≤ b))
    match order with
    | k :: _ => { f.softStart k with coldTurn := some k }
    | [] => { f with coldTurn := none }

end FieldDie

end Sys2Proof
end

