-- ==== Sys2Proof/Machine/Battery.lean ====
section
/-! DEFINITION. Battery estimation (13_battery_estimation R323 to R352): counting, voltage samples, anchors, the probe and its coordinator,
learning, the estimator bank, the registers and the commands of group 0x60. -/

namespace Sys2Proof

/-- FLOOR and CEIL of R335. -/
def socFloor : Int := 0x07AE
def socCeil : Int := 0xFD71

namespace Bat

/-- QC in nC (R326). -/
def qc (b : Bat) : Nat := b.qCap * 1000

/-- SOC_C (R326). -/
def socC (b : Bat) : Int := satI 32 ((b.qRem * 2 ^ 16).tdiv b.qc)

/-- U (R326). -/
def u (b : Bat) : Nat := min (b.uq * 2 ^ 16 / b.qc) 0x10000

/-- SOC_R (R335). -/
def socR (b : Bat) : Nat := (clampI (if b.empty then 0 else socFloor) (if b.full then 0x10000 else socCeil) b.socC).toNat

/-- Q_REM and UQ at a share of the capacity. -/
def atSoc (b : Bat) (soc unc : Nat) : Bat := { b with qRem := (soc * b.qc / 2 ^ 16 : Nat), uq := unc * b.qc / 2 ^ 16 }

/-- Capacities changed with SOC_C kept (R349, R352). -/
def rescale (b : Bat) (qCap eCap : Nat) : Bat := { b with qRem := (b.qRem * qCap).tdiv b.qCap, qCap := qCap, eCap := eCap }

/-- Whether both conditions of R343 hold: none, or the reason. -/
def cycleBad (b : Bat) (rated : Nat) : Option Nat :=
  if b.cycTicks < b.cycInvalid * 1000 then some 1
  else if 2 * b.qLrn < rated * 1000 ∨ (11 * rated * 1000 : Nat) < 10 * b.qLrn then some 2
  else none

end Bat

namespace Profile

/-- Whether a profile matches an identity (R325). -/
def isFor (p : Profile) (vendor product : Nat) : Bool :=
  p.valid && (p.vendor == 0 || p.vendor == vendor) && (p.product == 0 || p.product == product)

/-- The segment of the open-circuit table that holds a voltage, or the end segment outside it. -/
def seg (p : Profile) (v : Nat) : Nat := ((List.range 16).filter fun j => p.mv.getD j 0 ≤ v).getLast?.getD 0

/-- SOC_V (R336). -/
def socV (p : Profile) (v : Nat) : Nat :=
  let j := p.seg v
  let m0 := p.mv.getD j 0
  let m1 := p.mv.getD (j + 1) 0
  let s0 := p.soc.getD j 0
  let s1 := p.soc.getD (j + 1) 0
  if v ≤ m0 then s0 else if m1 ≤ v then s1 else s0 + (v - m0) * (s1 - s0) / (m1 - m0)

/-- The slope test of R336. -/
def steep (p : Profile) (v slopeMin : Nat) : Bool :=
  let j := p.seg v
  decide (slopeMin * (p.soc.getD (j + 1) 0 - p.soc.getD j 0) ≤ (p.mv.getD (j + 1) 0 - p.mv.getD j 0) * 6554)

end Profile

namespace Slot

/-- Whether the slot holds a STORE contract in its unit context. -/
def stores (s : Slot) : Bool := s.ctx.role == .storage

/-- Probe candidates (R330), the learning unit apart. -/
def probeable (s : Slot) : Bool := s.stores && s.ctx.run && !s.exclEff && s.sess.probeOk

end Slot

namespace FieldDie

/-- The profile of a slot's unit. -/
def profile (f : FieldDie) (k : Nat) : Profile := f.bat.profiles.getD (f.sl k).bat.profile {}

/-- The battery of slot `k` changed. -/
def modBat (f : FieldDie) (k : Nat) (g : Bat → Bat) : FieldDie := f.modSl k (fun s => { s with bat := g s.bat })

/-- The coordinator changed. -/
def modCoord (f : FieldDie) (g : Coord → Coord) : FieldDie := { f with bat := { f.bat with coord := g f.bat.coord } }

/-- A battery event with its vector (R346). -/
def batEvent (f : FieldDie) (src code k vec : Nat) (reason : Nat := 0) : FieldDie := (f.raise src code (reason * 0x10000 + k)).vector vec

/-- The increment of Q_REM's fall for a current (R326), in nC. -/
def dqOf (ce : Nat) (i : Int) : Int := if 0 ≤ i then i * 25 else i * 25 * ce / 2 ^ 16

/-- Counting of `n` ticks at the unit's current (R326), each with a valid uplink or each without. -/
def countTicks (n : Nat) (valid : Bool) (c : BatCfg) (ce : Nat) (s : Slot) : Slot :=
  let b := s.bat
  let i := s.bus.iout
  let dq := dqOf ce i
  let err := (c.gainErr * i.natAbs / 2 ^ 16 + c.offErr * s.ctx.imax / 2 ^ 16) * 25 + (if valid then 0 else s.ctx.imax * 25)
  let b := { b with qRem := b.qRem - n * dq, uq := b.uq + n * err, dis := b.dis + n * dq.toNat }
  { s with bat := if b.cycleOpen then
      { b with qLrn := b.qLrn + n * dq, eLrn := b.eLrn + n * (i * s.bus.vout * 25 + 500).tdiv 1000, cycTicks := b.cycTicks + n
               cycInvalid := b.cycInvalid + n * bit (!valid) }
    else b }

/-- Counting of one tick, with the mean current of R329 while a STATUS is awaited. -/
def countTick (c : BatCfg) (ce : Nat) (s : Slot) : Slot :=
  let wait := s.sess.outstanding.any (·.isGet 0xB)
  let s := countTicks 1 s.bus.valid c ce s
  { s with bat := { s.bat with
      sumI := if wait then s.bat.sumI + s.bus.iout else 0, sumN := if wait then s.bat.sumN + 1 else 0 } }

/-- A warning flag with its event at the set level and its re-arm level (Table 13-5). -/
def warnFlag (on up dn : Bool) : Bool := if on then !dn else up

/-- The flags and events that a slot's count drives (R338, R339, R346), once a STATUS has set it. -/
def batFlags (f : FieldDie) (k : Nat) : FieldDie :=
  let s := f.sl k
  let b := s.bat
  if ¬ b.first then f
  else
    let c := f.bat.cfg
    let soc := b.socC
    let f := if soc ≤ 0 ∧ ¬ b.empty ∧ ¬ b.disTold then
        (f.modBat k (fun b => { b with disagree := true, disTold := true })).batEvent 208 1 k 43 1
      else if 0x10000 ≤ soc ∧ ¬ b.full ∧ ¬ b.disTold then
        (f.modBat k (fun b => { b with disagree := true, disTold := true })).batEvent 208 1 k 43 3
      else f
    let f := f.modBat k (fun b => { b with empty := b.empty && decide (soc < 0x0CCD), full := b.full && decide (0xF852 < soc) })
    let b' := (f.sl k).bat
    let r := b'.socR
    let u := b'.u
    let rn := (f.profile k).rNom
    let low := warnFlag b.warnLow (decide (r ≤ c.warnLow)) (decide (c.warnLow + 0x051F ≤ r))
    let crit := warnFlag b.warnCrit (decide (r ≤ c.warnCrit)) (decide (c.warnCrit + 0x051F ≤ r))
    let unc := warnFlag b.uncertain (decide (c.uncWarn ≤ u)) (decide (10 * u < 8 * c.uncWarn))
    let rh := warnFlag b.rHigh (decide (c.rWarn * rn < b.rEff * 2 ^ 16)) (decide (10 * b.rEff * 2 ^ 16 < 9 * c.rWarn * rn))
    let f := f.modBat k (fun b => { b with warnLow := low, warnCrit := crit, uncertain := unc, rHigh := rh })
    let f := if low ∧ ¬ b.warnLow then f.batEvent 206 1 k 43 else f
    let f := if crit ∧ ¬ b.warnCrit then f.batEvent 206 2 k 43 else f
    let f := if unc ∧ ¬ b.uncertain then f.batEvent 209 1 k 43 else f
    if rh ∧ ¬ b.rHigh then f.batEvent 209 2 k 43 else f

/-- The result of a complete cycle (R343): the capacity is learned or rejected, and the record is written. -/
def cycleDone (f : FieldDie) (k : Nat) : FieldDie :=
  let b := (f.sl k).bat
  let f := f.modBat k (fun b => { b with cycleOpen := false })
  let f := match b.cycleBad (f.profile k).qRated with
    | none =>
      (f.modBat k (fun b => { b with
        qCap := b.qLrn.toNat / 1000, eCap := b.eLrn.toNat / 1000000000, learnCount := satN 16 (b.learnCount + 1), lastLearn := f.bar.wall
        outcome := 1, reason := 0 })).batEvent 211 2 k 44
    | some why => (f.modBat k (fun b => { b with outcome := 2, reason := why })).batEvent 211 3 k 44 why
  f.writeBattery k

/-- The end-of-discharge anchor (R337, R338, R342). -/
def emptyAnchor (f : FieldDie) (k : Nat) : FieldDie :=
  let b := (f.sl k).bat
  let odd : Bool := decide (socFloor < b.socC - b.u)
  let f := f.modBat k (fun b => { b with
    empty := true, disErr := (-b.qRem).tdiv 1000, qRem := 0, uq := 0x028F * b.qc / 2 ^ 16, disagree := odd, disTold := false })
  let f := f.batEvent 207 1 k 43
  let f := if odd then f.batEvent 208 1 k 43 2 else f
  let f := if b.cycleOpen then f.cycleDone k else f
  if f.bat.coord.learnUnit = k ∧ f.bat.coord.learnStep = 2 then
    f.modCoord (fun c => { c with learnStep := 3, sL := 0, req := none, phase := 3, gapAt := f.tick.tb, unit := k, vp := none, vm := none, start := none })
  else f

/-- The end-of-charge anchor (R339, R342). -/
def fullAnchor (f : FieldDie) (k : Nat) : FieldDie :=
  let b := (f.sl k).bat
  let odd : Bool := decide (b.socC + b.u < socCeil)
  let f := f.modBat k (fun b => { b with
    full := true, qRem := b.qc, uq := 0x028F * b.qc / 2 ^ 16, disagree := odd, disTold := false, cycleOpen := true, qLrn := 0, eLrn := 0
    cycTicks := 0, cycInvalid := 0, cycOpenAt := f.tick.tb })
  let f := f.raise 207 2 k
  let f := if odd then f.batEvent 208 1 k 43 4 else f
  if f.bat.coord.learnUnit = k ∧ f.bat.coord.learnStep = 1 then f.modCoord (fun c => { c with learnStep := 2 }) else f

/-- A voltage sample (R329, R337, R339). -/
def voltSample (f : FieldDie) (k : Nat) (vOc : Int) : FieldDie :=
  let p := f.profile k
  let f := f.modBat k (fun b => { b with vOc := vOc.toNat, sampled := true })
  let b := (f.sl k).bat
  if vOc ≤ p.vEod ∧ ¬ b.empty then f.emptyAnchor k
  else if (p.vEoc : Int) ≤ vOc ∧ ¬ b.full then f.fullAnchor k
  else f

/-- The correction of R336. -/
def ocvCorrect (f : FieldDie) (k : Nat) : FieldDie :=
  let p := f.profile k
  let c := f.bat.cfg
  let b := (f.sl k).bat
  if b.empty ∨ b.full ∨ ¬ p.steep b.vOc c.slopeMin then f
  else
    let d : Int := p.socV b.vOc - b.socC
    f.modBat k (fun b => { b with qRem := b.qRem + d * b.qc / 2 ^ 17, uq := max c.uOcv (d.natAbs / 2) * b.qc / 2 ^ 16 })

/-- The quadrants in service (R323). -/
def inService (v : Variant) (f : FieldDie) : List Nat := (List.range v.quads).filter fun q => !f.power.isolated.getD q false

/-- The coordinator's quadrant (R323). -/
def coordOf (v : Variant) (f : FieldDie) : Nat := (f.inService v).headD 0

/-- A count of the coordinator's quadrant: DONE or VOID (Table 13-9). -/
def countVoid (f : FieldDie) : FieldDie :=
  { f with bat := { f.bat with void := f.bat.void.modifyNat f.bat.coord.q (fun n => satN 16 (n + 1)) } }

/-- The probe in progress gives way to GAP. The request goes, but for a learning unit, which a continuous request holds at s_L (R344). -/
def toGap (f : FieldDie) : FieldDie :=
  f.modCoord (fun c => { c with
    phase := 3, gapAt := f.tick.tb, vp := none, vm := none, start := none
    req := if c.learnStep = 1 ∨ c.learnStep = 2 then some { unit := c.learnUnit, step := c.sL } else none })

/-- A probe voided (R331): the request is withdrawn at the next section, and GAP begins. -/
def voidProbe (f : FieldDie) : FieldDie :=
  if f.bat.coord.phase = 1 ∨ f.bat.coord.phase = 2 then f.countVoid.toGap else f

/-- The learning cycle aborted (R345). -/
def abortLearn (f : FieldDie) (reason : Nat) : FieldDie :=
  let k := f.bat.coord.learnUnit
  let f := f.voidProbe
  let f := f.modCoord (fun c => { c with learnUnit := 0xFF, learnStep := 0, sL := 0, req := none })
  (f.modBat k (fun b => { b with outcome := 3, reason := reason })).batEvent 211 4 k 44 reason

/-- HALT set (R333): the probe is void and a learning cycle ends with reason 3. -/
def setHalt (f : FieldDie) : FieldDie :=
  if f.bat.coord.halt then f.voidProbe
  else
    let f := ((f.voidProbe.modCoord (fun c => { c with halt := true, haltRun := 0 })).raise 210 1 1).vector 43
    if 1 ≤ f.bat.coord.learnStep ∧ f.bat.coord.learnStep ≤ 2 then f.abortLearn 3 else f

/-- Why a learning cycle in CHARGE or DISCHARGE must end at this tick (R345), LEARN_MAX and the command apart. -/
def learnStops (f : FieldDie) : Option Nat :=
  let c := f.bat.coord
  let s := f.sl c.learnUnit
  if c.learnStep = 0 ∨ c.learnStep = 3 then none
  else if f.grid.inputState ≠ 0 then some 1
  else if s.sess.state ≠ 5 ∨ s.ctx.excl then some 4
  else if (c.learnStep = 2 ∧ s.bus.dsgInh) ∨ (c.learnStep = 1 ∧ s.bus.chgInh) then some 5
  else none

/-- s_L moves toward its target (R344); a learning unit that is no candidate any more is not held (R331). -/
def learnMove (f : FieldDie) : FieldDie :=
  let c := f.bat.coord
  let s := f.sl c.learnUnit
  if c.learnStep = 0 ∨ c.learnStep = 3 then f
  else if ¬ s.probeable then f.modCoord (fun c => { c with req := none })
  else
    let target : Int := if c.learnStep = 1 then -((f.bat.cfg.lchg * s.ctx.ichg / 2 ^ 16 : Nat) : Int) else (f.bat.cfg.learnI * s.ctx.imax / 2 ^ 16 : Nat)
    let ramp : Int := f.bat.cfg.learnRamp
    let sL := if f.disp.probeSeen = some c.learnUnit then c.sL + clampI (-ramp) ramp (target - s.ctx.pbase - c.sL) else c.sL
    let a := if c.phase = 1 then c.amp else if c.phase = 2 then -c.amp else 0
    f.modCoord (fun c => { c with sL := sL, req := some { unit := c.learnUnit, step := sL + a } })

/-- The compensation record of the last run (R331, R333), `t` the tick it belongs to. -/
def recordCheck (f : FieldDie) (t : Nat) : FieldDie :=
  let c := f.bat.coord
  match f.disp.comp with
  | none => f
  | some r =>
    if r.free < 2 then f.setHalt
    else match c.start with
      | none => f
      | some t0 =>
        if r.unit ≠ c.unit ∨ c.phase = 0 ∨ c.phase = 3 then f
        else
          let good := r.applied && !r.inexact
          f.modCoord (fun c => { c with recOk := if t = t0 ∨ t = t0 + c.half then good else c.recOk && good })

/-- The coordinator's tick (R323, R331, R333, R345). -/
def coordTick (v : Variant) (f : FieldDie) : FieldDie :=
  let q := f.coordOf v
  let f := if q ≠ f.bat.coord.q then
      f.voidProbe.modCoord (fun c => { c with q := q, learnUnit := 0xFF, learnStep := 0, sL := 0, req := none })
    else f
  let f := f.recordCheck (f.tick.tb - 1)
  let c := f.bat.coord
  let f := if (c.phase = 1 ∨ c.phase = 2) ∧ ¬ (f.sl c.unit).probeable then f.voidProbe else f
  let f := match f.learnStops with | some why => f.abortLearn why | none => f
  let c := f.bat.coord
  let f := if c.learnStep = 3 ∧ ¬ (f.sl c.learnUnit).bat.empty then f.modCoord (fun c => { c with learnUnit := 0xFF, learnStep := 0 }) else f
  f.learnMove

/-- ESTIMATOR_TICK (R326, R327): each quadrant counts its STORE units, or counts the tick as missed. -/
def estimatorTick (v : Variant) (f : FieldDie) : FieldDie :=
  (List.range v.quads).foldl (fun f q =>
    if ¬ f.qcUp q then { f with tick := { f.tick with qcMissed := f.tick.qcMissed.modifyNat q (· + 1) } }
    else
      (List.range 24).foldl (fun f i =>
        let k := 24 * q + i
        if (f.sl k).stores then (f.modSl k (countTick f.bat.cfg (f.profile k).ce)).batFlags k else f) f) f

/-- The ticks that a restarted QC missed (R327, R342), each counted as one without a valid uplink. -/
def countMissed (f : FieldDie) (q : Nat) : FieldDie :=
  let n := f.tick.qcMissed.getD q 0
  let f := (List.range 24).foldl (fun f i =>
    let k := 24 * q + i
    if (f.sl k).stores then
      (f.modSl k (countTicks n false f.bat.cfg (f.profile k).ce)).modBat k (fun b => { b with cycleOpen := b.cycleOpen && decide (n ≤ 2000) })
    else f) f
  { f with tick := { f.tick with qcMissed := f.tick.qcMissed.modifyNat q (fun _ => 0) } }

/-- RES (R341). -/
def reserveOf (f : FieldDie) (k : Nat) : Nat :=
  let b := (f.sl k).bat
  if b.empty ∨ ¬ b.first ∨ f.bat.coord.learnUnit = k then 0 else satN 32 ((b.socC - b.u).toNat * b.eCap / 2 ^ 16)

/-- CHG_LIM (R340, Table 13-1). -/
def chgLimOf (f : FieldDie) (k : Nat) : Nat :=
  let s := f.sl k
  let p := f.profile k
  let i := s.ctx.ichg
  let v := s.bat.vOc
  if s.bat.full then 0
  else if ¬ s.bat.sampled ∨ v ≤ p.vEoc - p.taper then i
  else if p.vEoc ≤ v then i / 20
  else (20 * i * p.taper - 19 * i * (v - (p.vEoc - p.taper))) / (20 * p.taper)

/-- The section of a slot as its quadrant controller writes it (03 R76): the contract, and the values of Table 13-1, 0 without a STORE contract. -/
def bankSlot (f : FieldDie) (k : Nat) : FieldDie :=
  let s := f.sl k
  let b : SlotBank := { sess := s.sess, suspect := s.ins.suspect || s.ins.runDrop }
  let b := if s.stores then
      { b with soc := s.bat.socR, dsgLim := if s.bat.empty then 0 else s.ctx.imax, chgLim := f.chgLimOf k, res := f.reserveOf k }
    else b
  f.modSl k (fun s => { s with bank := b })

/-- The banks that the controller of quadrant `q` writes in its task of the tick (03 R76, R78), the coordinator's with the probe request. -/
def bankWrite (f : FieldDie) (q : Nat) : FieldDie :=
  let f := (List.range 24).foldl (fun f i => f.bankSlot (24 * q + i)) f
  if q = f.bat.coord.q then f.modCoord (fun c => { c with reqBank := c.req }) else f

/-- The estimator bank of quadrant `q` swapped in (R324). -/
def batterySwap (f : FieldDie) (q : Nat) : FieldDie :=
  let f := (List.range 24).foldl (fun f i =>
    f.modSl (24 * q + i) (fun s => { s with ctx := { s.ctx with
      soc := s.bank.soc, dsgLim := s.bank.dsgLim, chgLim := s.bank.chgLim, res := s.bank.res } })) f
  if q ≠ f.bat.coord.q then f
  else
    let c := f.bat.coord
    let t := f.tick.tb
    let ended : Bool := match c.start with | some t0 => decide (t0 + 2 * c.half ≤ t) && c.learnUnit != c.unit | none => false
    let f := { f with disp := { f.disp with probe := if ended then none else c.reqBank } }
    if (c.phase = 1) ∧ c.start = none ∧ c.reqBank.isSome then f.modCoord (fun c => { c with start := some t }) else f

/-- The next probe candidate (R330). -/
def nextProbe (v : Variant) (f : FieldDie) : Option Nat :=
  let c := f.bat.coord
  let ks := f.slotsWhere v Slot.probeable
  if c.learnStep = 1 ∨ c.learnStep = 2 then (if ks.contains c.learnUnit then some c.learnUnit else none)
  else match ks.filter (fun k => c.last < k ∧ c.last ≠ 0xFF) with
    | k :: _ => some k
    | [] => ks.head?

/-- The learning conditions of R344 that hold for the device. -/
def learnAllowed (v : Variant) (f : FieldDie) : Bool :=
  let c := f.bat.coord
  c.learnStep == 0 && f.grid.inputState == 0 && !c.halt && f.bar.wall != 0 && decide (3 ≤ (f.slotsWhere v (fun s => s.stores && s.ctx.run)).length)

/-- Whether a candidate qualifies by the reserve that stays (R344). -/
def learnQualifies (f : FieldDie) (k : Nat) : Bool :=
  (f.sl k).probeable && decide (f.grid.cfg.huReserve + f.grid.cfg.huBand + f.reserveOf k ≤ f.grid.eRes)

/-- Seconds by which a unit is overdue (R344): none where it is not due. -/
def overdue (f : FieldDie) (k : Nat) : Option Nat :=
  let b := (f.sl k).bat
  let (since, need) : Nat × Nat :=
    if b.lastLearn = 0 then ((f.tick.tb - b.grantAt) / 40000, 7 * 86400) else (f.bar.wall - b.lastLearn, f.bat.cfg.learnPeriod * 86400)
  if need ≤ since then some (since - need) else none

/-- The start of a learning cycle (R344): a probe of another unit ends void. -/
def learnStart (f : FieldDie) (k : Nat) : FieldDie :=
  let f := f.voidProbe
  (f.modCoord (fun c => { c with learnUnit := k, learnStep := 1, learnAt := f.tick.tb, sL := 0 })).batEvent 211 1 k 44

/-- The record of a slot's module in the copy of the learned values. -/
def learnedFor (f : FieldDie) (k type : Nat) : Option Learned :=
  match (f.sl k).ident with
  | some (ve, pr, se) => f.bat.records.find? (fun r => r.type == type && r.vendor == ve && r.product == pr && r.serial == se)
  | none => none

/-- The values of a battery record taken (R349). -/
def takeRecord (b : Bat) (r : Learned) : Bat :=
  { b with learnCount := r.values.getD 1 0, qCap := r.values.getD 2 0, eCap := r.values.getD 3 0, rEff := r.values.getD 4 0
           lastLearn := r.values.getD 5 0, dis := b.dis + r.values.getD 6 0 * 3600000000000 }

/-- The estimator of a slot at a STORE grant (R325, R349). -/
def batGrant (f : FieldDie) (k : Nat) : FieldDie :=
  let id := (f.sl k).ident.getD (0, 0, 0)
  let n := (f.bat.profiles.rows.findIdx? (fun p => p.isFor id.1 id.2.1)).getD 0
  let p := f.bat.profiles.getD n {}
  let b : Bat := { profile := n, qCap := p.qRated, eCap := p.eRated, rEff := p.rNom, grantAt := f.tick.tb }
  f.modBat k (fun _ => match f.learnedFor k 2 with | some r => takeRecord b r | none => b)

/-- A STATUS of a STORE unit (R328, R329, R349): the first sets the count, and each but those of a probe phase is a sample. -/
def batStatus (f : FieldDie) (k : Nat) (probe : Nat) : FieldDie :=
  let s := f.sl k
  let ts := s.sess.status.getD []
  if ¬ s.stores then f
  else
    let ra := bits 31 16 (ts.getD 1 0)
    let rb := bits 15 0 (ts.getD 1 0)
    let state := bits 31 24 (ts.getD 0 0)
    let c := f.bat.coord
    let i := if s.bat.sumN = 0 then s.bus.iout else s.bat.sumI.tdiv s.bat.sumN
    let first := !s.bat.first
    let f := f.modBat k (fun b =>
      let b := { b with vCell := rb, first := true, sumI := 0, sumN := 0 }
      if first then b.atSoc ra f.bat.cfg.bmsUnc else b)
    let inPhase : Nat := match c.start with
      | some t0 => if f.tick.tb < t0 + c.half then 1 else if f.tick.tb < t0 + 2 * c.half then 2 else 0
      | none => 0
    if probe ≠ 0 then
      if c.unit = k ∧ inPhase = probe ∧ c.phase = probe ∧ c.recOk ∧ state = 2 then
        f.modCoord (fun c => if probe = 1 then { c with vp := some rb } else { c with vm := some rb })
      else f
    else f.voltSample k ((rb : Int) + (i * s.bat.rEff).tdiv 1000000)

/-- PROBE_EVALUATE (R331, R332, R334, R336). -/
def probeEvaluate (f : FieldDie) : FieldDie :=
  let c := f.bat.coord
  let k := c.unit
  let p := f.profile k
  match c.vp, c.vm with
  | some vp, some vm =>
    let rNew : Int := (((vm : Int) - vp) * 1000000).tdiv (2 * c.amp)
    if rNew ≤ 0 ∨ (8 * p.rNom : Nat) < rNew then f.voidProbe
    else
      let r : Int := (f.sl k).bat.rEff
      let rEff := (r + (rNew - r) / 4).toNat
      let vOc : Int := (vp + vm + 1) / 2 + (((f.sl k).ctx.pbase + c.sL) * rEff).tdiv 1000000
      let f := f.modBat k (fun b => { b with rEff := rEff, lastProbe := f.tick.tb, stale := false })
      let f := { f with bat := { f.bat with done := f.bat.done.modifyNat c.q (fun n => satN 16 (n + 1)) } }
      (f.toGap.voltSample k vOc).ocvCorrect k
  | _, _ => f.voidProbe

/-- BAT_PROBE (Table 13-8). -/
def batProbeWord (f : FieldDie) (q : Nat) : Word :=
  let c := f.bat.coord
  pack [(24, if c.phase = 0 then 0xFF else c.unit), (22, c.phase), (21, bit c.halt), (20, bit (q == c.q)), (8, c.learnUnit), (6, c.learnStep)]

/-- BAT_PCNT (Table 13-9). -/
def batPcnt (f : FieldDie) (q : Nat) : Word := pack [(16, f.bat.done.getD q 0), (0, f.bat.void.getD q 0)]

/-- BAT_PCNT cleared by a read. -/
def batPcntClear (f : FieldDie) (q : Nat) : FieldDie :=
  { f with bat := { f.bat with done := f.bat.done.modifyNat q (fun _ => 0), void := f.bat.void.modifyNat q (fun _ => 0) } }

/-- A Q16 share in 0.01 %, rounded down. -/
def percent (x : Nat) : Nat := x * 10000 / 0x10000

/-- BAT_SOC (Table 13-10). -/
def batSocWord (s : Slot) : Word := if s.stores then pack [(16, percent s.bat.socR), (0, percent s.bat.u)] else 0

/-- FALLBACK (R333). -/
def fallback (f : FieldDie) (s : Slot) : Bool := f.bat.coord.halt || !s.sess.probeOk || s.bat.stale

/-- BAT_STAT (Table 13-11). -/
def batStatWord (f : FieldDie) (k : Nat) : Word :=
  let s := f.sl k
  let b := s.bat
  if ¬ s.stores then pack [(0, satN 16 b.rEff)]
  else pack [(31, bit b.empty), (30, bit b.full), (29, bit (f.bat.coord.learnUnit == k)), (28, bit (f.fallback s)), (27, bit b.warnLow),
    (26, bit b.warnCrit), (25, bit b.uncertain), (24, bit b.disagree), (23, bit b.rHigh), (22, bit b.cycleOpen), (20, b.profile), (0, satN 16 b.rEff)]

/-- BAT_OCV (Table 13-12). -/
def batOcvWord (s : Slot) : Word := if s.stores then pack [(16, satN 16 s.bat.vOc), (0, s.bat.vCell)] else 0

/-- BAT_RES (Table 13-13). -/
def batResWord (f : FieldDie) (k : Nat) : Word := if (f.sl k).stores then BitVec.ofNat 32 (f.reserveOf k) else 0

/-- The QC registers beyond the header (Tables 10-6, 10-7, 11-2, 13-7). -/
def qcReg (f : FieldDie) (q idx : Nat) : Option Word :=
  let at_ (base : Nat) : Nat := 24 * q + (idx - base)
  if 0x10 ≤ idx ∧ idx < 0x28 then some (f.sl (at_ 0x10)).sess.word
  else if 0x30 ≤ idx ∧ idx < 0x48 then some (f.sl (at_ 0x30)).sess.cntWord
  else if 0x50 ≤ idx ∧ idx < 0x68 then some (f.sl (at_ 0x50)).insWord
  else if idx = 0x68 then some (f.batProbeWord q)
  else if idx = 0x69 then some (f.batPcnt q)
  else if 0x70 ≤ idx ∧ idx < 0x88 then some (batSocWord (f.sl (at_ 0x70)))
  else if 0x88 ≤ idx ∧ idx < 0xA0 then some (f.batStatWord (at_ 0x88))
  else if 0xA0 ≤ idx ∧ idx < 0xB8 then some (batOcvWord (f.sl (at_ 0xA0)))
  else if 0xB8 ≤ idx ∧ idx < 0xD0 then some (f.batResWord (at_ 0xB8))
  else none

/-- The RC fields of a QC register cleared. -/
def qcClear (f : FieldDie) (q idx : Nat) : FieldDie :=
  if 0x30 ≤ idx ∧ idx < 0x48 then f.modSess (24 * q + (idx - 0x30)) (fun s => { s with soft := 0, hard := 0, respExp := 0, retries := 0 })
  else if idx = 0x69 then f.batPcntClear q
  else f

/-- The battery settings changed. -/
def modBatCfg (f : FieldDie) (g : BatCfg → BatCfg) : FieldDie := { f with bat := { f.bat with cfg := g f.bat.cfg } }

end FieldDie

/-- A command on a slot that needs a STORE contract (R352). -/
def onStore (f : FieldDie) (r : Request) (res : FieldDie × Option (Status × Nat)) : FieldDie × Option (Status × Nat) :=
  if (f.sl r.unit).stores then res else (f, some (.wrongMode, 0))

/-- SET_PROBE. -/
def setProbeC : FCmd where
  code := 0x6001
  cfg := true
  chk _ _ r := need (r.u32 0 ≤ 1 && 655 ≤ r.u32 4 && r.u32 4 ≤ 13107 && 4000 ≤ r.u32 8 && r.u32 8 ≤ 400000 && r.u32 12 ≤ 4000000
    && 60 ≤ r.u32 16 && r.u32 16 ≤ 86400)
  op _ f r := (f.modBatCfg (fun c => { c with
    probeEn := r.u32 0 == 1, amp := r.u32 4, half := r.u32 8, gap := r.u32 12, stale := r.u32 16 }), some (.ok, 0))

/-- SET_COUNTING. -/
def setCountingC : FCmd where
  code := 0x6002
  cfg := true
  chk _ _ r := need (r.u32 0 ≤ 3277 && r.u32 4 ≤ 3277 && 655 ≤ r.u32 8 && r.u32 8 ≤ 13107 && 655 ≤ r.u32 12 && r.u32 12 ≤ 0x8000
    && 100 ≤ r.u32 16 && r.u32 16 ≤ 1000 && r.u32 20 ≤ 1000)
  op _ f r := (f.modBatCfg (fun c => { c with
    gainErr := r.u32 0, offErr := r.u32 4, uOcv := r.u32 8, bmsUnc := r.u32 12, eodPoll := r.u32 16, slopeMin := r.u32 20 }), some (.ok, 0))

/-- SET_BAT_WARN. -/
def setBatWarnC : FCmd where
  code := 0x6003
  cfg := true
  chk _ _ r := need (3277 ≤ r.u32 0 && r.u32 0 ≤ 0x8000 && 655 ≤ r.u32 4 && r.u32 4 ≤ r.u32 0 && 1311 ≤ r.u32 8 && r.u32 8 ≤ 0x8000
    && 0x10000 ≤ r.u32 12 && r.u32 12 ≤ 0x80000)
  op _ f r := (f.modBatCfg (fun c => { c with
    warnLow := r.u32 0, warnCrit := r.u32 4, uncWarn := r.u32 8, rWarn := r.u32 12 }), some (.ok, 0))

/-- SET_LEARNING. -/
def setLearningC : FCmd where
  code := 0x6004
  auth _ := true
  cfg := true
  chk _ _ r := need (r.u32 0 ≤ 1 && 7 ≤ r.u32 4 && r.u32 4 ≤ 3650 && 3277 ≤ r.u32 8 && r.u32 8 ≤ 0x8000 && 6554 ≤ r.u32 12
    && r.u32 12 ≤ 0x10000 && 1 ≤ r.u32 16 && r.u32 16 ≤ 100000 && 1 ≤ r.u32 20 && r.u32 20 ≤ 96)
  op _ f r := (f.modBatCfg (fun c => { c with
    learnEn := r.u32 0 == 1, learnPeriod := r.u32 4, learnI := r.u32 8, lchg := r.u32 12, learnRamp := r.u32 16, learnMax := r.u32 20 }),
    some (.ok, 0))

/-- START_LEARN (R344). -/
def startLearnC : FCmd where
  code := 0x6005
  auth _ := true
  cfg := true
  unit := .slot
  op v f r := onStore f r
    (if f.learnAllowed v ∧ f.learnQualifies r.unit then (f.learnStart r.unit, some (.ok, 0)) else (f, some (.busy, 0)))

/-- ABORT_LEARN (R345): in RECOVER the request is gone already, and nothing changes (DESIGN CHOICE, log entry 61). -/
def abortLearnC : FCmd where
  code := 0x6006
  cfg := true
  unit := .slot
  op _ f r := onStore f r
    (if f.bat.coord.learnUnit ≠ r.unit ∨ f.bat.coord.learnStep = 0 then (f, some (.badParam, 0))
     else if f.bat.coord.learnStep = 3 then (f, some (.ok, 0))
     else (f.abortLearn 2, some (.ok, 0)))

/-- SET_SOC (R326, R342). -/
def setSocC : FCmd where
  code := 0x6007
  auth _ := true
  cfg := true
  unit := .slot
  chk _ _ r := need (r.u32 0 ≤ 0x10000 && 0x028F ≤ r.u32 4 && r.u32 4 ≤ 0x10000)
  op _ f r := onStore f r
    (f.modBat r.unit (fun b => { b.atSoc (r.u32 0) (r.u32 4) with
      empty := false, full := false, disagree := false, disTold := false, cycleOpen := false }), some (.ok, 0))

/-- SET_CAPACITY (R342, R348). -/
def setCapacityC : FCmd where
  code := 0x6008
  auth _ := true
  cfg := true
  unit := .slot
  op _ f r :=
    let q := r.par 0 8
    let rated := (f.profile r.unit).qRated
    onStore f r
      (if rated ≤ 10 * q ∧ q ≤ 2 * rated then
        ((f.modBat r.unit (fun b => { b.rescale q (r.par 8 8) with cycleOpen := false })).writeBattery r.unit, some (.ok, 0))
       else (f, some (.badParam, 0)))

/-- GET_BAT. -/
def getBatC : FCmd where
  code := 0x6010
  ro := true
  unit := .slot
  op _ f r := (f, some (.ok, if (f.sl r.unit).stores then result2 (FieldDie.batSocWord (f.sl r.unit)) (f.batStatWord r.unit) else 0))

/-- GET_BAT_VALUE. -/
def getBatValueC : FCmd where
  code := 0x6011
  ro := true
  unit := .slot
  chk _ _ r := need (r.u32 0 ≤ 4)
  op _ f r :=
    let s := f.sl r.unit
    let x : Nat := match r.u32 0 with
      | 0 => enc 64 (s.bat.qRem.tdiv 1000)
      | 1 => s.bat.qCap
      | 2 => s.bat.eCap
      | 3 => enc 64 s.bat.disErr
      | _ => result2 (FieldDie.batOcvWord s) (f.batResWord r.unit)
    (f, some (.ok, if s.stores then x else 0))

/-- GET_LEARN. -/
def getLearnC : FCmd where
  code := 0x6012
  ro := true
  unit := .slot
  op _ f r :=
    let s := f.sl r.unit
    let b := s.bat
    (f, some (.ok, if s.stores then b.lastLearn + b.learnCount * 2 ^ 48 + b.outcome * 2 ^ 40 + b.reason * 2 ^ 32 else 0))

namespace Machine

/-- SET_PROBE (R330). -/
def execSetProbe (r : Request) (s : State) : Out := .next (s.field setProbeC r)
/-- SET_COUNTING (R326). -/
def execSetCounting (r : Request) (s : State) : Out := .next (s.field setCountingC r)
/-- SET_BAT_WARN (R346). -/
def execSetBatWarn (r : Request) (s : State) : Out := .next (s.field setBatWarnC r)
/-- SET_LEARNING (R344). -/
def execSetLearning (r : Request) (s : State) : Out := .next (s.field setLearningC r)
/-- START_LEARN (R344). -/
def execStartLearn (r : Request) (s : State) : Out := .next (s.field startLearnC r)
/-- ABORT_LEARN (R345). -/
def execAbortLearn (r : Request) (s : State) : Out := .next (s.field abortLearnC r)
/-- SET_SOC (R352). -/
def execSetSoc (r : Request) (s : State) : Out := .next (s.field setSocC r)
/-- SET_CAPACITY (R352). -/
def execSetCapacity (r : Request) (s : State) : Out := .next (s.field setCapacityC r)
/-- GET_BAT (R352). -/
def execGetBat (r : Request) (s : State) : Out := .next (s.field getBatC r)
/-- GET_BAT_VALUE (R352). -/
def execGetBatValue (r : Request) (s : State) : Out := .next (s.field getBatValueC r)
/-- GET_LEARN (R352). -/
def execGetLearn (r : Request) (s : State) : Out := .next (s.field getLearnC r)

/-- PROBE_START (R330): the coordinator takes the next candidate; its section carries the request from the next swap on. -/
def execProbeStart (s : State) : Out :=
  .next (s.onField (fun f =>
    let c := f.bat.coord
    if ¬ f.sessLive ∨ c.phase ≠ 0 ∨ c.halt ∨ (¬ f.bat.cfg.probeEn ∧ c.learnStep ≠ 1 ∧ c.learnStep ≠ 2) then f
    else match f.nextProbe s.chip.variant with
      | none => f
      | some k =>
        let x := f.sl k
        let a : Int := min (f.bat.cfg.amp * x.ctx.imax / 2 ^ 16) (min x.ctx.rampUp x.ctx.rampDn)
        f.modCoord (fun c => { c with
          unit := k, last := k, phase := 1, start := none, half := f.bat.cfg.half, gap := f.bat.cfg.gap, amp := a, vp := none, vm := none
          recOk := true, req := some { unit := k, step := c.sL + a } })))

/-- PROBE_PHASE_GET (R330): in the middle of PLUS and of MINUS. -/
def execProbePhaseGet (s : State) : Out :=
  .next (s.onField (fun f =>
    let c := f.bat.coord
    match c.start with
    | some t0 =>
      if (c.phase = 1 ∧ f.tick.tb = t0 + c.half / 2) ∨ (c.phase = 2 ∧ f.tick.tb = t0 + c.half + c.half / 2) then
        f.needStatus c.unit none c.phase
      else f
    | none => f))

/-- PROBE_PHASE_MINUS (R330): in the last tick of PLUS, so that the section of the next edge carries s_L − A. -/
def execProbePhaseMinus (s : State) : Out :=
  .next (s.onField (fun f =>
    let c := f.bat.coord
    match c.start with
    | some t0 =>
      if c.phase = 1 ∧ t0 + c.half ≤ f.tick.tb + 1 then
        f.modCoord (fun c => { c with phase := 2, req := some { unit := c.unit, step := c.sL - c.amp } })
      else f
    | none => f))

/-- PROBE_EVALUATE (R332). -/
def execProbeEvaluate (s : State) : Out :=
  .next (s.onField (fun f =>
    let c := f.bat.coord
    match c.start with
    | some t0 => if c.phase = 2 ∧ t0 + 2 * c.half ≤ f.tick.tb then f.probeEvaluate else f
    | none => f))

/-- PROBE_GAP_END (R330). -/
def execProbeGapEnd (s : State) : Out :=
  .next (s.onField (fun f =>
    let c := f.bat.coord
    if c.phase = 3 ∧ c.gapAt + c.gap ≤ f.tick.tb then f.modCoord (fun c => { c with phase := 0, unit := 0xFF }) else f))

/-- PROBE_HALT_CLEAR (R333). -/
def execProbeHaltClear (s : State) : Out :=
  .next (s.onField (fun f =>
    if f.bat.coord.halt ∧ 40000 ≤ f.bat.coord.haltRun then
      ((f.modCoord (fun c => { c with halt := false, haltRun := 0 })).raise 210 1).vector 43
    else f))

/-- PROBE_STALE_EXPIRY (R333). -/
def execProbeStaleExpiry (slot : Fin 96) (s : State) : Out :=
  .next (s.onSlot slot (fun f =>
    if (f.sl slot).stores ∧ (f.sl slot).bat.lastProbe + f.bat.cfg.stale * 40000 ≤ f.tick.tb then f.modBat slot (fun b => { b with stale := true })
    else f))

/-- EOD_POLL (R329). -/
def execEodPoll (slot : Fin 96) (s : State) : Out :=
  .next (s.onSlot slot (fun f =>
    let x := f.sl slot
    if f.sessLive ∧ x.stores ∧ x.sess.state = 5 ∧ (f.grid.inputState = 2 ∨ x.bat.socR ≤ f.bat.cfg.warnLow) then f.needStatus slot else f))

/-- LEARN_CHECK (R344): the longest overdue candidate, the lower slot on a tie. -/
def execLearnCheck (s : State) : Out :=
  .next (s.onField (fun f =>
    if ¬ f.bat.cfg.learnEn ∨ ¬ f.learnAllowed s.chip.variant then f
    else
      let pick (best : Option (Nat × Nat)) (k : Nat) : Option (Nat × Nat) :=
        if ¬ f.learnQualifies k then best
        else match f.overdue k, best with
          | some d, some (_, e) => if e < d then some (k, d) else best
          | some d, none => some (k, d)
          | none, _ => best
      match (FieldDie.slots s.chip.variant).foldl pick none with
      | some (k, _) => f.learnStart k
      | none => f))

/-- LEARN_MAX_EXPIRY (R345). -/
def execLearnMaxExpiry (s : State) : Out :=
  .next (s.onField (fun f =>
    let c := f.bat.coord
    if (c.learnStep = 1 ∨ c.learnStep = 2) ∧ c.learnAt + f.bat.cfg.learnMax * 3600 * 40000 ≤ f.tick.tb then f.abortLearn 6 else f))

/-- CYCLE_OPEN_EXPIRY (R342): 72 h without end of discharge. -/
def execCycleOpenExpiry (slot : Fin 96) (s : State) : Out :=
  .next (s.onSlot slot (fun f =>
    let b := (f.sl slot).bat
    if b.cycleOpen ∧ b.cycOpenAt + 72 * 3600 * 40000 < f.tick.tb then f.modBat slot (fun b => { b with cycleOpen := false }) else f))

/-- BAT_RECORD_WRITE (R348): every 3,600 s. -/
def execBatRecordWrite (slot : Fin 96) (s : State) : Out :=
  .next (s.onSlot slot (fun f => if f.running ∧ f.tick.tb % 144000000 = 0 ∧ (f.sl slot).stores then f.writeBattery slot else f))

/-- LEARNED_RECORD_APPLY (R349, 06 R173): a record that came after the grant. Q_REM is rescaled; wear is added to what has been counted. -/
def execLearnedRecordApply (slot : Fin 96) (s : State) : Out :=
  .next (s.onSlot slot (fun f =>
    let x := f.sl slot
    match x.ctx.role with
    | .storage => match f.learnedFor slot 2 with
      | some r => f.modBat slot (fun b => FieldDie.takeRecord (b.rescale (r.values.getD 2 0) (r.values.getD 3 0)) r)
      | none => f
    | .supply => match f.learnedFor slot 1 with
      | some r => f.modSl slot (fun x => { x with wear := { x.wear with stress := satN 64 (x.wear.stress + r.values.getD 0 0) } })
      | none => f
    | .none => f))

/-- BAT_PCNT_READ (R351). -/
def execBatPcntRead (q : Fin 4) (s : State) : Out :=
  .next (s.readRc (q < s.chip.variant.quads) (fun f => f.batPcnt q) (fun f => f.batPcntClear q))

end Machine

end Sys2Proof
end

