-- ==== Sys2Proof/Machine/Sessions.lean ====
section
/-! DEFINITION. Contract sessions (10_contract_sessions R248 to R282): what each frame of the module does, the timers, the auxiliary swap,
the lost uplink of 11 R295, and the commands of group 0x40. -/

namespace Sys2Proof

/-- The frames that a module may send, with their term counts (09 Table 09-7). -/
def moduleTerms : Nat → Option Nat
  | 0 => some 0 | 1 => some 0 | 2 => some 0 | 3 => some 0 | 4 => some 0 | 5 => some 0
  | 8 => some 6 | 9 => some 3 | 0xB => some 2 | 0xC => some 1 | 0xD => some 6 | 0xE => some 1
  | _ => none

/-- The ranges of a CAPABILITY (09 Table 09-8). -/
def capOk (ts : List Word) : Bool :=
  let x (t hi lo : Nat) : Nat := bits hi lo (ts.getD t 0)
  1 ≤ x 0 31 28 && x 0 31 28 ≤ 3 && 1 ≤ x 0 23 16 && x 0 15 8 == 1 && 1000 ≤ x 1 21 0 && x 1 21 0 ≤ 4000000 && 1 ≤ x 2 31 16
    && 1 ≤ x 2 15 0 && x 3 21 0 ≤ x 1 21 0 && (x 0 26 26 == 1 || x 3 21 0 == 0) && decide (x 5 31 20 < x 5 19 8)

/-- Whether a FAULT code is one of Table 09-8. -/
def faultOk (c : Nat) : Bool := decide (c ≤ 7) || decide (0x80 ≤ c)

/-- The role that a code of REQUEST or GRANT names. -/
def roleOf : Nat → Role
  | 1 => .supply | 2 => .storage | _ => .none

/-- The ranges of a REQUEST against the held CAPABILITY (09 Table 09-8); for ROLE NONE the currents are not used (R253). -/
def Sess.reqOk (s : Sess) (ts : List Word) : Bool :=
  let role := bits 31 30 (ts.getD 0 0)
  let i := bits 21 0 (ts.getD 1 0)
  let c := bits 21 0 (ts.getD 2 0)
  role == 0 || (decide (role ≤ 2) && decide (i ≤ s.cap 1 21 0) && decide (c ≤ s.cap 3 21 0) && (role == 2 || c == 0))

/-- Two terms of held data (GET_MODULE_DATA): none where no such frame is held. -/
def Sess.data (s : Sess) (what pair : Nat) : Option Nat :=
  let held : Option (List Word) := match what with | 8 => s.capability | 0xB => s.status | _ => s.identity
  held.map fun (ts : List Word) => result2 (ts.getD (2 * pair) 0) (ts.getD (2 * pair + 1) 0)

namespace FieldDie

/-- A GET_MODULE_DATA answered from the data held (Table 10-8). -/
def answerData (f : FieldDie) (k : Nat) (r : Request) : FieldDie :=
  match (f.sl k).sess.data (r.u32 0) (r.u32 4) with
  | some x => f.complete r .ok x
  | none => f.complete r .notConfigured

/-- What a frame that passes checks 1 to 3 does by itself (09 R227, Table 09-13). -/
def frameHeard (f : FieldDie) (k type id : Nat) : FieldDie := (f.modPort k (fun p => { p with rxType := type, rxId := id })).markPresent k

/-- SUSPECT clears when the module answers (11 R295): the unit returns to QUALIFYING. -/
def answered (f : FieldDie) (k : Nat) : FieldDie :=
  f.modSl k (fun s =>
    if s.ins.suspect then { s with ins := { s.ins with suspect := false, state := if 2 ≤ s.ins.state ∧ s.ins.state ≤ 4 then 1 else s.ins.state } }
    else s)

/-- Whether the session takes part in the exchange of frames: not in EMPTY, DEFAULT, DISABLED. -/
def exchanges (f : FieldDie) (k : Nat) : Bool := f.sessLive && f.portUp k && !([0, 1, 9].contains (f.sl k).sess.state)

/-- Check 6 of Table 09-5 failed: STALE is owed (09 R238), by a session that sends. -/
def staleReply (f : FieldDie) (k id : Nat) : FieldDie :=
  let e := (f.sl k).sess.epoch
  let owes := f.exchanges k
  f.modPort k (fun p =>
    let p := { p with staleRx := satN 8 (p.staleRx + 1) }
    if owes then p.enqueue { type := 5, msgId := id, epoch := e } else p)

/-- A frame of the module that its receiver decoded (09 R235 to R238, R240): the device after the ACK or STALE owed, and whether the frame
is executed. `ok` says that its fields lie in their ranges. -/
def receive (f : FieldDie) (k type id epoch : Nat) (ok : Bool := true) : FieldDie × Bool :=
  if ¬ f.hears ∨ ¬ f.portUp k then (f, false)
  else
    let f := f.frameHeard k type id
    if type ≠ 0 ∧ type ≠ 5 ∧ type ≠ 4 ∧ epoch ≠ (f.sl k).sess.epoch then (f.staleReply k id, false)
    else if ¬ f.exchanges k then (f, false)
    else if type = 0 ∨ type = 5 then (f.answered k, true)
    else
      let f := (f.modPort k (fun p => p.enqueue { type := 0, msgId := id, epoch := epoch, re := type })).answered k
      if (f.sl k).port.lastExec = some (type, id) then (f, false)
      else if ¬ ok then (f.sendCtl k 2 none type, false)
      else (f.modPort k (fun p => { p with lastExec := some (type, id) }), true)

/-- The awaited frame to a GET (R259): the exchange ends, and its host command is answered. `some` GET, where one was outstanding. -/
def getDone (f : FieldDie) (k what : Nat) : FieldDie × Option CtFrame :=
  match (f.sl k).sess.outstanding with
  | some fr =>
    if fr.isGet what then
      let f := f.modSess k (fun s => { s with outstanding := none, t := { s.t with response := false } })
      (fr.cmd.toList.foldl (fun f r => f.answerData k r) f, some fr)
    else (f, none)
  | none => (f, none)

/-- The swap is complete (R272, R281). -/
def swapDone (f : FieldDie) (k : Nat) : FieldDie :=
  let cmd := (f.sl k).sess.swapCmd
  let f := f.modSess k (fun s => { s with auxMod := s.swapMod, swapStage := 0, swapCmd := none, t := { s.t with swap := false } })
  (cmd.toList.foldl (fun f r => f.complete r .ok) f).sessEvent k 21 5

/-- The fields of a GRANT taken into the session (R254, Table 10-6). -/
def takeGrant (s : Sess) (ts : List Word) : Sess :=
  { s with role := roleOf (bits 31 30 (ts.getD 0 0)), auxGrant := bits 31 24 (ts.getD 2 0), rank := bits 15 8 (ts.getD 1 0)
           spacing := bits 31 16 (ts.getD 1 0)
           imaxG := bits 21 0 (ts.getD 2 0), ichgG := bits 21 0 (ts.getD 3 0) }

/-- The ACK of a frame sent (R237, R259, R273). -/
def acked (f : FieldDie) (k : Nat) (fr : CtFrame) : FieldDie :=
  let f := f.modSl k (fun s => { s with port := { s.port with awaiting := none }, sess := { s.sess with t := { s.sess.t with ack := false } } })
  if fr.asks then
    let f := f.modSl k (fun s => { s with
      sess := { s.sess with outstanding := some fr, t := { s.sess.t with response := true, respKinds := fr.awaits } }
      bat := if fr.isGet 0xB then { s.bat with sumI := 0, sumN := 0 } else s.bat })
    if fr.type = 0xA ∧ (f.sl k).sess.state = 3 then f.modSess k (fun s => { takeGrant s fr.terms with state := 4 }) else f
  else if fr.type = 4 then
    let f := f.softDone k fr.epoch
    fr.cmd.toList.foldl (fun f r => f.complete r .ok (f.sl k).sess.epoch) f
  else if fr.type = 1 ∧ (f.sl k).sess.swapStage = 6 then
    f.modSess k (fun s => { s with swapStage := if s.swapMod then 4 else 2, t := { s.t with swap := true } })
  else if fr.type = 3 ∧ (f.sl k).sess.swapStage = 5 then f.swapDone k
  else f

/-- The current shares that all slots reserve of the shelf's auxiliary budget, slot `k` at 150 (R254). -/
def auxReserved (v : Variant) (f : FieldDie) (k : Nat) : Nat :=
  ((FieldDie.slots v).map fun j => if j = k then 150 else (f.sl j).auxShare).sum

/-- The terms of a GRANT to slot `k` for the held REQUEST (R254, 09 R241); a port in moisture FAULT gets at most the default power (09 R246). -/
def grantTerms (v : Variant) (f : FieldDie) (k : Nat) : List Word :=
  let s := f.sl k
  let ts := s.sess.request.getD []
  let role := bits 31 30 (ts.getD 0 0)
  let imax := if role = 0 then 0 else min (bits 21 0 (ts.getD 1 0)) s.pol.imaxCeil
  let ichg := if role = 2 then min (bits 21 0 (ts.getD 2 0)) s.pol.ichgCeil else 0
  let most := if s.port.mstate = 2 then 150 else s.pol.auxMax
  let aux := min (bits 23 16 (ts.getD 0 0)) (min most (150 + (f.cfg.auxBudget - f.auxReserved v k)))
  [pack [(30, role), (27, k / 12), (23, k % 12), (19, k % 12)], pack [(16, f.march.spacing), (8, s.pol.rank)], pack [(24, aux), (0, imax)],
   pack [(0, ichg)]]

/-- Whether R253 or R246 refuses the REQUEST of slot `k`. -/
def refuses (f : FieldDie) (k : Nat) (ts : List Word) : Bool :=
  let s := f.sl k
  let role := bits 31 30 (ts.getD 0 0)
  let offered := role == 0 || s.sess.cap 0 (28 - role) (28 - role) == 1
  let allowed := role == 0 || s.pol.roles.testBit (role - 1)
  let inWindow : Bool := decide (s.sess.cap 5 31 20 * 500 ≤ f.grid.cfg.winLo) && decide (f.grid.cfg.winHi ≤ s.sess.cap 5 19 8 * 500)
  let wet := s.port.mstate == 2 && (role != 0 || decide (150 < bits 23 16 (ts.getD 0 0)))
  !offered || !allowed || (role != 0 && (!inWindow || decide (bits 21 0 (ts.getD 1 0) < 1000))) || wet

/-- A re-grant after a change of policy (R256): sent when only AUX_GRANT, SPACING, RANK and ICHG_G change. -/
def regrant (v : Variant) (f : FieldDie) (k : Nat) : FieldDie :=
  let s := f.sl k
  let ts := f.grantTerms v k
  let n := takeGrant s.sess ts
  let same := n.auxGrant == s.sess.auxGrant && n.rank == s.sess.rank && n.ichgG == s.sess.ichgG && n.spacing == s.sess.spacing
  let roleOk := s.sess.role == .none || s.pol.roles.testBit (s.sess.role.code - 1)
  if s.sess.state = 5 ∧ roleOk ∧ n.imaxG = s.sess.imaxG ∧ ¬ same then f.send k { type := 0xA, terms := ts } else f

/-- READY after a GRANT (R252, R256): CONTRACTED, or the re-grant adopted. -/
def contractReady (f : FieldDie) (k : Nat) (fr : CtFrame) : FieldDie :=
  let f := f.modSess k (fun s => { s with outstanding := none, t := { s.t with response := false } })
  let s := f.sl k
  if s.sess.state = 4 then
    let f := f.modSess k (fun s => { s with state := 5, hrFail := 0, softTried := false, hardTried := false, t := { poll := true } })
    let f := f.sessEvent k 21 2
    if s.sess.role = .none then
      (f.modSl k (fun s => { s with ins := { s.ins with state := 4, startPhase := false } })).insEvent k 22 1
    else if s.sess.role = .storage then f.needStatus k
    else f
  else if s.sess.state = 5 then
    f.modSess k (fun s => let n := takeGrant s fr.terms; { s with auxGrant := n.auxGrant, rank := n.rank, ichgG := n.ichgG, spacing := n.spacing })
  else f

/-- READY of the module (R252, R256, R272). -/
def readyRx (f : FieldDie) (k : Nat) : FieldDie :=
  let s := (f.sl k).sess
  match s.outstanding.filter (·.type == 0xA) with
  | some fr => f.contractReady k fr
  | none =>
    if s.swapStage = 4 then (f.modSess k (fun s => { s with swapStage := 5 })).sendCtl k 3
    else if s.swapStage = 3 then f.swapDone k
    else f

/-- REJECT of the module (R252, R256, R271). -/
def rejectRx (f : FieldDie) (k : Nat) : FieldDie :=
  match (f.sl k).sess.outstanding with
  | some fr =>
    if fr.type ≠ 0xA ∧ fr.type ≠ 0xE then f
    else
      let f := f.modSess k (fun s => { s with outstanding := none, t := { s.t with response := false } })
      if fr.type = 0xE then
        fr.cmd.toList.foldl (fun f r => f.complete r .aborted) (f.modSess k (fun s => { s with swapStage := 0 }))
      else if (f.sl k).sess.state = 4 then
        f.modSl k (fun s => { s with sess := { s.sess with state := 8 }, ins := { s.ins with startPhase := false } })
      else f
  | none => f

/-- ACCEPT of the module (R272, R273). -/
def acceptRx (f : FieldDie) (k : Nat) : FieldDie :=
  match (f.sl k).sess.outstanding.filter (·.type == 0xE) with
  | some fr =>
    let mod := bits 31 30 (fr.terms.getD 0 0) == 1
    f.modSess k (fun s => { s with
      outstanding := none, swapCmd := fr.cmd, swapMod := mod, swapStage := if mod then 4 else 2
      t := { s.t with response := false, swap := true } })
  | none => f

/-- STALE of the module (R268). -/
def staleRx (f : FieldDie) (k id : Nat) : FieldDie :=
  match (f.sl k).port.awaiting with
  | some fr =>
    if fr.msgId ≠ id ∨ fr.type = 4 then f
    else
      let waits := if fr.isGet 0xB then (f.sl k).sess.statusWaits else []
      let f := (fr.cmd.toList ++ waits).foldl (fun f r => f.complete r .staleRole) f
      let f := f.modSl k (fun s => { s with
        port := { s.port with awaiting := none }, sess := { s.sess with statusWaits := if waits = [] then s.sess.statusWaits else [] } })
      f.softStart k
  | none => f

/-- CAPABILITY of the module (R252, R266). -/
def capabilityRx (f : FieldDie) (k : Nat) (ts : List Word) : FieldDie :=
  let f := f.modSess k (fun s => { s with capability := some ts })
  let (f, got) := f.getDone k 8
  if (f.sl k).sess.state = 7 then
    (f.modSess k (fun s => { s with state := 2, t := { s.t with hardDone := false } })).send k (getFrame 0xD)
  else match got with
    | some fr => if (f.sl k).sess.state = 2 ∧ fr.cmd = none then f.send k (getFrame 0xD) else f
    | none => f

/-- IDENTITY of the module (R252). -/
def identityRx (f : FieldDie) (k : Nat) (ts : List Word) : FieldDie :=
  let f := f.modSess k (fun s => { s with identity := some ts })
  let (f, got) := f.getDone k 0xD
  match got with
  | some fr => if (f.sl k).sess.state = 2 ∧ fr.cmd = none then f.modSess k (fun s => { s with state := 3 }) else f
  | none => f

/-- REQUEST of the module (R252 to R254): a GRANT or a REJECT. -/
def requestRx (v : Variant) (f : FieldDie) (k : Nat) (ts : List Word) : FieldDie :=
  if (f.sl k).sess.state ≠ 3 then f
  else
    let f := f.modSess k (fun s => { s with request := some ts, t := { s.t with response := false } })
    if f.refuses k ts then f.sendCtl k 2 none 9 else f.send k { type := 0xA, terms := f.grantTerms v k }

/-- STATUS of the module (R270, R554, R329): it serves every need that waits. -/
def statusRx (f : FieldDie) (k : Nat) (ts : List Word) : FieldDie :=
  let f := f.modSess k (fun s => { s with status := some ts })
  let (f, got) := f.getDone k 0xB
  let waits : List Request := match got with | some _ => (f.sl k).sess.statusWaits | none => []
  let f : FieldDie := waits.foldl (fun f r => f.answerData k r) f
  let f := f.modSess k (fun s => { s with statusWaits := if got.isSome then [] else s.statusWaits, lostNeed := false })
  let f := f.batStatus k ((got.map (·.probe)).getD 0)
  if bits 31 24 (ts.getD 0 0) = 5 then f.sessEvent k 19 1 (bits 7 0 (ts.getD 0 0)) else f

/-- ALERT of the module (R270, 11 R294). RENEG also ends HELD (Table 10-1). -/
def alertRx (f : FieldDie) (k : Nat) (w : Word) : FieldDie :=
  let st := (f.sl k).sess.state
  let f := if w.getLsbD 31 then f.sessEvent k 19 1 (bits 7 0 w) else f
  if st = 8 then (if w.getLsbD 27 then f.softStart k else f)
  else if st ≠ 5 then f
  else
    let f := if w.getLsbD 26 then (f.modSl k (fun s => { s with ins := { s.ins with state := 5 } })).insEvent k 22 2 else f
    if w.getLsbD 27 then f.softStart k
    else if w.getLsbD 28 ∨ w.getLsbD 29 then f.needStatus k
    else f

/-- SWAP of the module (R271 to R274): a crossing request of the device is cancelled with COLLIDED. -/
def swapRx (f : FieldDie) (k : Nat) (w : Word) : FieldDie :=
  let own (fr : CtFrame) : Bool := fr.type == 0xE
  let s := f.sl k
  let mine := (s.port.awaiting.toList ++ s.sess.outstanding.toList ++ s.port.queue.filter (0 < ·.sends)).filter own
  let f := if s.sess.swapStage = 1 ∧ mine ≠ [] then
      let f := (mine.filterMap (·.cmd)).foldl (fun f r => f.complete r .collided) f
      f.modSl k (fun s => { s with
        port := { s.port with
          awaiting := s.port.awaiting.filter (fun fr => !own fr), queue := s.port.queue.filter (fun fr => !(own fr && 0 < fr.sends)) }
        sess := { s.sess with
          swapStage := 0, outstanding := s.sess.outstanding.filter (fun fr => !own fr), t := { s.sess.t with response := false, ack := false } } })
    else f
  let s := (f.sl k).sess
  let mod := bits 31 30 w == 1
  if s.state ≠ 5 ∨ ¬ s.auxSrc ∨ s.swapAct ∨ mod = s.auxMod ∨ (mod ∧ bits 23 16 w < s.auxGrant) then f.sendCtl k 2 none 0xE
  else (f.modSess k (fun s => { s with swapStage := 6, swapMod := mod, swapCmd := none })).sendCtl k 1

/-- An ACK in EMPTY that answers the SOFT_RESET of 11 R296: both ends take the next epoch, and the session goes on as after a presence
pulse. -/
def bcastAck (f : FieldDie) (k epoch : Nat) : FieldDie :=
  let s := (f.sl k).sess
  if s.state = 0 ∧ s.bcast ∧ epoch = s.epoch then
    f.modSl k (fun s => { s with port := { s.port with nextId := 0 }, sess := { s.sess with epoch := (epoch + 1) % 16, bcast := false } })
  else f

/-- ACK of the module (R237, R259). -/
def ackRx (f : FieldDie) (k id epoch : Nat) : FieldDie :=
  let f := if f.sessLive then f.bcastAck k epoch else f
  let (f, go) := f.receive k 0 id epoch
  match (f.sl k).port.awaiting with
  | some fr => if go ∧ fr.msgId = id ∧ fr.epoch = epoch then f.acked k fr else f
  | none => f

/-- Whether a soft reset by command has to wait behind an exchange (R250). -/
def slotBusy (f : FieldDie) (k : Nat) : Bool :=
  let s := f.sl k
  s.port.awaiting.isSome || s.port.sending.any (fun fr => !fr.owed) || s.sess.outstanding.isSome || s.sess.t.response || s.sess.t.retry
    || s.sess.swapStage != 0 || s.sess.state == 6 || s.sess.state == 7 || s.port.queue.any (fun fr => !fr.owed)

end FieldDie

/-- CEPOCH of a command against the slot's epoch (R269). -/
def staleCep (f : FieldDie) (r : Request) : Bool := r.u32 0 != 0xFF && r.u32 0 != (f.sl r.unit).sess.epoch

/-- SET_SLOT_POLICY (R256). -/
def setSlotPolicyC : FCmd where
  code := 0x4001
  cfg := true
  unit := .slot
  chk _ _ r := need (r.u32 0 ≤ 3 && 1000 ≤ r.u32 4 && r.u32 4 ≤ 4000000 && r.u32 8 ≤ 4000000 && 150 ≤ r.u32 12 && r.u32 12 ≤ 255
    && r.u32 16 ≤ 95)
  op v f r :=
    let f := f.modSl r.unit (fun s => { s with pol := {
      roles := r.u32 0, imaxCeil := r.u32 4, ichgCeil := r.u32 8, auxMax := r.u32 12, rank := r.u32 16 } })
    (f.regrant v r.unit, some (.ok, 0))

/-- RESET_SLOT (R262, R264): it completes when the reset is done. -/
def resetSlotC : FCmd where
  code := 0x4002
  auth _ := true
  cfg := true
  unit := .slot
  chk _ _ r := need (r.u32 4 ≤ 1)
  op _ f r :=
    let k := r.unit
    let st := (f.sl k).sess.state
    if staleCep f r then (f, some (.staleRole, 0))
    else if st = 0 ∨ st = 9 then (f, some (.wrongMode, 0))
    else if r.u32 4 = 1 then ((f.modSess k (fun s => { s with hardCmds := s.hardCmds ++ [r] })).hardSignal k, none)
    else if f.slotBusy k then (f.sendCtl k 4 (some r), none)
    else (f.softStart k (some r), none)

/-- SWAP_AUX (R271). -/
def swapAuxC : FCmd where
  code := 0x4003
  cfg := true
  unit := .slot
  chk _ _ r := need (r.u32 4 ≤ 1 && r.u32 8 ≤ 255)
  op _ f r :=
    let s := (f.sl r.unit).sess
    if staleCep f r then (f, some (.staleRole, 0))
    else if s.state ≠ 5 then (f, some (.wrongMode, 0))
    else if ¬ s.auxSrc then (f, some (.badParam, 0))
    else (f.send r.unit { type := 0xE, terms := [pack [(30, r.u32 4), (16, r.u32 8)]], cmd := some r }, none)

/-- ENABLE_SLOT (Table 10-8). -/
def enableSlotC : FCmd where
  code := 0x4004
  auth _ := true
  cfg := true
  unit := .slot
  chk _ _ r := need (r.u32 0 ≤ 1)
  op _ f r :=
    let k := r.unit
    let off := (f.sl k).sess.state == 9
    if r.u32 0 = 1 then
      (if off then (f.modSess k (fun s => { s with hrFail := 0 })).toEmpty k else f, some (.ok, 0))
    else if off then (f, some (.ok, 0))
    else ((f.modSess k (fun s => { s with hardCmds := s.hardCmds ++ [r] })).hardSignal k, none)

/-- GET_SLOT. -/
def getSlotC : FCmd where
  code := 0x4010
  ro := true
  unit := .slot
  op _ f r :=
    let s := (f.sl r.unit).sess
    (f, some (.ok, result2 s.word (BitVec.ofNat 32 (if s.state = 5 then s.imaxG else 0))))

/-- GET_MODULE_DATA (R265, R554): a device that does not drive the lines cannot fetch fresh data. -/
def getModuleDataC : FCmd where
  code := 0x4011
  ro := true
  unit := .slot
  chk _ _ r := need ([8, 0xB, 0xD].contains (r.u32 0) && r.u32 4 ≤ 2 && r.u32 8 ≤ 1)
  op _ f r :=
    let k := r.unit
    let s := (f.sl k).sess
    if r.u32 8 = 0 then
      match s.data (r.u32 0) (r.u32 4) with
      | some x => (f, some (.ok, x))
      | none => (f, some (.notConfigured, 0))
    else if s.state = 0 ∨ s.state = 9 then (f, some (.wrongMode, 0))
    else if ¬ f.driving ∧ ¬ r.peer then (f, some (.notActive, 0))
    else if r.u32 0 = 0xB then (f.needStatus k (some r), none)
    else (f.send k (getFrame (r.u32 0) (some r)), none)

namespace Machine

/-- SET_SLOT_POLICY (R282). -/
def execSetSlotPolicy (r : Request) (s : State) : Out := .next (s.field setSlotPolicyC r)
/-- RESET_SLOT (R282). -/
def execResetSlot (r : Request) (s : State) : Out := .next (s.field resetSlotC r)
/-- SWAP_AUX (R282). -/
def execSwapAux (r : Request) (s : State) : Out := .next (s.field swapAuxC r)
/-- ENABLE_SLOT (R282). -/
def execEnableSlot (r : Request) (s : State) : Out := .next (s.field enableSlotC r)
/-- GET_SLOT (R282). -/
def execGetSlot (r : Request) (s : State) : Out := .next (s.field getSlotC r)
/-- GET_MODULE_DATA (R282). -/
def execGetModuleData (r : Request) (s : State) : Out := .next (s.field getModuleDataC r)

/-- CT_ACK_RX (R237). -/
def execCtAckRx (slot : Fin 96) (id : Fin 8) (epoch : Fin 16) (s : State) : Out := .next (s.onSlot slot (fun f => f.ackRx slot id epoch))

/-- A frame that passes its checks is executed by `g`. -/
def State.frame (s : State) (slot type id epoch : Nat) (ok : Bool) (g : Variant → FieldDie → FieldDie) : State :=
  s.onSlot slot (fun f => let (f, go) := f.receive slot type id epoch ok; if go then g s.chip.variant f else f)

/-- CT_ACCEPT_RX (R272). -/
def execCtAcceptRx (slot : Fin 96) (id : Fin 8) (epoch : Fin 16) (s : State) : Out :=
  .next (s.frame slot 1 id epoch true (fun _ f => f.acceptRx slot))

/-- CT_REJECT_RX (R252). -/
def execCtRejectRx (slot : Fin 96) (id : Fin 8) (epoch : Fin 16) (s : State) : Out :=
  .next (s.frame slot 2 id epoch true (fun _ f => f.rejectRx slot))

/-- CT_READY_RX (R252). -/
def execCtReadyRx (slot : Fin 96) (id : Fin 8) (epoch : Fin 16) (s : State) : Out :=
  .next (s.frame slot 3 id epoch true (fun _ f => f.readyRx slot))

/-- CT_SOFT_RESET_RX (R262). -/
def execCtSoftResetRx (slot : Fin 96) (id : Fin 8) (epoch : Fin 16) (s : State) : Out :=
  .next (s.frame slot 4 id epoch true (fun _ f => f.softDone slot epoch (some (4, id))))

/-- CT_STALE_RX (R268). -/
def execCtStaleRx (slot : Fin 96) (id : Fin 8) (epoch : Fin 16) (s : State) : Out :=
  .next (s.frame slot 5 id epoch true (fun _ f => f.staleRx slot id))

/-- CT_CAPABILITY_RX (R252). -/
def execCtCapabilityRx (slot : Fin 96) (id : Fin 8) (epoch : Fin 16) (terms : Tab Word 6) (s : State) : Out :=
  .next (s.frame slot 8 id epoch (capOk terms.rows) (fun _ f => f.capabilityRx slot terms.rows))

/-- CT_IDENTITY_RX (R252): VENDOR 0 is invalid. -/
def execCtIdentityRx (slot : Fin 96) (id : Fin 8) (epoch : Fin 16) (terms : Tab Word 6) (s : State) : Out :=
  .next (s.frame slot 0xD id epoch (bits 31 16 (terms.rows.getD 2 0) != 0) (fun _ f => f.identityRx slot terms.rows))

/-- CT_REQUEST_RX (R253). -/
def execCtRequestRx (slot : Fin 96) (id : Fin 8) (epoch : Fin 16) (terms : Tab Word 3) (s : State) : Out :=
  .next (s.frame slot 9 id epoch ((s.chip.field.sl slot).sess.reqOk terms.rows) (fun v f => f.requestRx v slot terms.rows))

/-- CT_STATUS_RX (R270). -/
def execCtStatusRx (slot : Fin 96) (id : Fin 8) (epoch : Fin 16) (terms : Tab Word 2) (s : State) : Out :=
  let w := terms.rows.getD 0 0
  .next (s.frame slot 0xB id epoch (decide (bits 31 24 w ≤ 5) && faultOk (bits 7 0 w)) (fun _ f => f.statusRx slot terms.rows))

/-- CT_ALERT_RX (R270). -/
def execCtAlertRx (slot : Fin 96) (id : Fin 8) (epoch : Fin 16) (term : Word) (s : State) : Out :=
  .next (s.frame slot 0xC id epoch (faultOk (bits 7 0 term)) (fun _ f => f.alertRx slot term))

/-- CT_SWAP_RX (R274). -/
def execCtSwapRx (slot : Fin 96) (id : Fin 8) (epoch : Fin 16) (term : Word) (s : State) : Out :=
  .next (s.frame slot 0xE id epoch (decide (bits 31 30 term ≤ 1)) (fun _ f => f.swapRx slot term))

/-- ACK_TIMER_EXPIRY (R261). -/
def execAckTimerExpiry (slot : Fin 96) (s : State) : Out :=
  .next (s.onSlot slot (fun f =>
    match (f.sl slot).port.awaiting with
    | some fr => if (f.sl slot).sess.t.ack then f.sendFailed slot fr else f
    | none => f))

/-- RESPONSE_TIMER_EXPIRY (R259). -/
def execResponseTimerExpiry (slot : Fin 96) (s : State) : Out :=
  .next (s.onSlot slot (fun f =>
    let x := (f.sl slot).sess
    if x.t.response then (f.modSess slot (fun s => { s with respExp := satN 8 (s.respExp + 1) })).exchangeLost slot x.outstanding else f))

/-- SWAP_TIMER_EXPIRY (R273). -/
def execSwapTimerExpiry (slot : Fin 96) (s : State) : Out :=
  .next (s.onSlot slot (fun f =>
    let x := (f.sl slot).sess
    if x.t.swap then
      let f := f.modSess slot (fun s => { s with respExp := satN 8 (s.respExp + 1), swapCmd := none })
      ((x.swapCmd.toList.foldl (fun f r => f.complete r .timeout) f).abandon slot).hardSignal slot
    else f))

/-- HARD_RESET_COMPLETION_EXPIRY (R266, R267). -/
def execHardResetCompletionExpiry (slot : Fin 96) (s : State) : Out :=
  .next (s.onSlot slot (fun f =>
    let x := f.sl slot
    if ¬ x.sess.t.hardDone then f
    else if ¬ x.sess.presSince ∧ x.port.line < 2 then (f.abandon slot).removed slot
    else (f.abandon slot).hardFail slot))

/-- HARD_RESET_GET_REPEAT (R266). -/
def execHardResetGetRepeat (slot : Fin 96) (s : State) : Out :=
  .next (s.onSlot slot (fun f =>
    let x := (f.sl slot).sess
    if x.t.hardDone ∧ x.presSince ∧ x.state = 7 then
      let other (fr : CtFrame) : Bool := !fr.isGet 8
      (f.modSl slot (fun s => { s with
        port := { s.port with
          queue := s.port.queue.filter other, awaiting := s.port.awaiting.filter other
          sending := s.port.sending.map fun fr => if other fr then fr else fr.stray }
        sess := { s.sess with outstanding := s.sess.outstanding.filter other, t := { hardDone := true } } })).send slot (getFrame 8)
    else f))

/-- STATUS_POLL_EXPIRY (R259, R270). -/
def execStatusPollExpiry (slot : Fin 96) (s : State) : Out :=
  .next (s.onSlot slot (fun f => if (f.sl slot).sess.t.poll ∧ (f.sl slot).sess.state = 5 ∧ f.sessLive then f.needStatus slot else f))

/-- RETRY_HOLDOFF_END (R261). -/
def execRetryHoldoffEnd (slot : Fin 96) (s : State) : Out :=
  .next (s.onSlot slot (fun f => f.modSess slot (fun s => { s with t := { s.t with retry := false } })))

/-- SWAP_FEED_READY (22 R538): 2 ms after the latch that cleared SRC_N. -/
def execSwapFeedReady (slot : Fin 96) (s : State) : Out :=
  .next (s.onSlot slot (fun f =>
    let x := f.sl slot
    match x.srcClearedAt with
    | some t =>
      if x.sess.swapStage = 2 ∧ ¬ x.landSrcN ∧ t + 80 ≤ f.tick.tb then (f.modSess slot (fun s => { s with swapStage := 3 })).sendCtl slot 3
      else f
    | none => f))

/-- UPLINK_LOST (05 R147, 11 R295): 8 consecutive ticks without a valid uplink; a unit with RUN set is asked for its STATUS. -/
def execUplinkLost (slot : Fin 96) (s : State) : Out :=
  .next (s.onSlot slot (fun f =>
    let x := f.sl slot
    if x.ctx.member ∧ 8 ≤ x.bus.missRun ∧ ¬ x.bus.lost then
      let f := (f.modSl slot (fun s => { s with bus := { s.bus with lost := true } })).raiseQ (slotQuad slot) 12 1 slot
      if x.ctx.runSent ∧ f.sessLive then (f.modSess slot (fun s => { s with lostNeed := true })).needStatus slot else f
    else f))

/-- SESS_CNT_READ (R280). -/
def execSessCntRead (slot : Fin 96) (s : State) : Out :=
  .next (s.readRc (slot < s.chip.variant.slots) (fun f => (f.sl slot).sess.cntWord) (fun f => f.qcClear (slotQuad slot) (0x30 + slot.val % 24)))

end Machine

end Sys2Proof
end

