-- ==== Sys2Proof/Machine/ContractLine.lean ====
section
/-! DEFINITION. The contract line (09_contract_line R223 to R247): presence, glitches and resets on the wire, collisions, the sending of frames,
receiver checks, the moisture check, and the PORT registers. -/

namespace Sys2Proof

namespace CtRaw

/-- The header (Table 09-6): its first two bytes, the most significant first. -/
def header (raw : CtRaw) : Nat := ofLe (slice 0 2 raw.bytes).reverse

/-- The fields of the header. -/
def type (raw : CtRaw) : Nat := raw.header / 2 ^ 12
def msgId (raw : CtRaw) : Nat := raw.header / 2 ^ 9 % 8
def terms (raw : CtRaw) : Nat := raw.header / 2 ^ 6 % 8
def fromModule (raw : CtRaw) : Bool := raw.header.testBit 5
def epoch (raw : CtRaw) : Nat := raw.header / 2 % 16

/-- The bit count of R234: 48 + 32n for the n of the header. -/
def countOk (raw : CtRaw) : Bool := raw.loose == 0 && raw.bytes.length == 6 + 4 * raw.terms

/-- The CRC-32C over header and terms (R234). -/
def crcOk (raw : CtRaw) : Bool :=
  let n := raw.bytes.length - 4
  ofLe (raw.bytes.drop n).reverse == crc32c (raw.bytes.take n)

end CtRaw

namespace FieldDie

/-- Whether a queued frame may be sent now (R231, 10 R250, R261, R271); a GET of WHAT 0xB waits for the end of another (R554), and the old
source's READY for its feed to be off (Table 10-5). -/
def sendable (s : Slot) (fr : CtFrame) : Bool :=
  let t := s.sess.t
  fr.owed || (!s.port.holdoff && s.port.awaiting.isNone && !t.retry
    && !((fr.asks || fr.type == 4) && (t.response || s.sess.outstanding.isSome))
    && !(fr.type == 0xE && s.sess.swapStage != 0)
    && !(fr.type == 4 && (s.sess.swapAct || s.sess.state == 7))
    && !(fr.isGet 0xB && fr.sends == 0 && statusBusy s)
    && !(fr.type == 3 && s.sess.swapStage == 5 && !s.landSrcN))

/-- The frame that goes next: the first that may be sent, but no host command's before an earlier one's (10 R250). -/
def pick (s : Slot) : List CtFrame → Bool → Option CtFrame
  | [], _ => none
  | fr :: rest, held => if sendable s fr && !(held && fr.forHost) then some fr else pick s rest (held || fr.forHost)

/-- A frame leaves the queue for the line (R230, R234): a new one takes its MSG_ID (R237), each repeat counts (10 R261). -/
def startFrame (f : FieldDie) (k : Nat) (fr : CtFrame) : FieldDie :=
  let tx := f.driving
  let probe := if fr.probe = f.bat.coord.phase then fr.probe else 0
  f.modSl k (fun s =>
   let new : Bool := fr.sends == 0 && !fr.owed
   let out := { fr with sends := fr.sends + 1, probe := probe, msgId := if new then s.port.nextId else fr.msgId }
   { s with
    port := { s.port with
      queue := s.port.queue.erase fr, sending := some out, line := 1, tx := tx, sent := out.bytes
      nextId := if new then (s.port.nextId + 1) % 8 else s.port.nextId }
    sess := { s.sess with
      retries := if fr.sends = 0 then s.sess.retries else satN 8 (s.sess.retries + 1)
      swapStage := if fr.type = 0xE then 1 else s.sess.swapStage } })

/-- CT_FRAME_TX_START: a hard reset first, then the first frame that may be sent. The SOFT_RESET of a command that waited begins its soft
reset here. -/
def txStart (f : FieldDie) (k : Nat) : FieldDie :=
  let s := f.sl k
  let p := s.port
  if ¬ f.sessLive ∨ ¬ f.portUp k ∨ p.line ≠ 0 ∨ p.lowByUs ∨ p.sending.isSome ∨ p.checking then f
  else if p.resetWanted then f.modPort k (fun p => { p with resetWanted := false, lowByUs := true, tx := f.driving })
  else match pick s p.queue false with
    | none => f
    | some fr =>
      if fr.type = 4 ∧ ¬ fr.once ∧ s.sess.state ≠ 6 then
        let f := (f.modPort k (fun p => { p with queue := p.queue.erase fr })).softStart k fr.cmd
        match (f.sl k).port.queue.find? (fun x => x.type == 4) with
        | some fr => f.startFrame k fr
        | none => f
      else f.startFrame k fr

/-- CT_FRAME_TX_END (10 R259): the timers that the end of a frame starts. -/
def txEnd (f : FieldDie) (k : Nat) : FieldDie :=
  match (f.sl k).port.sending with
  | none => f
  | some fr =>
    let f := f.modPort k (fun p => { p with sending := none, tx := false, line := if p.line = 1 then 0 else p.line })
    let wait9 : Bool := (f.sl k).sess.state == 3 && ((fr.type == 0 && fr.re == 0xD) || (fr.type == 2 && fr.re == 9))
    let f := if wait9 then f.modSess k (fun s => { s with t := { s.t with response := true, respKinds := [9] } }) else f
    if fr.owed ∨ fr.once then f
    else f.modSl k (fun s => { s with port := { s.port with awaiting := some fr }, sess := { s.sess with t := { s.sess.t with ack := true } } })

/-- CT_COLLISION (R231). -/
def collision (f : FieldDie) (k : Nat) : FieldDie :=
  match (f.sl k).port.sending with
  | none => f
  | some fr =>
    let f := f.modPort k (fun p => { p with
      sending := none, tx := false, line := if p.line = 1 then 0 else p.line, holdoff := true, collCnt := satN 8 (p.collCnt + 1) })
    let f := f.raiseQ (slotQuad k) 15 2 k
    if fr.owed ∨ fr.once then f
    else if fr.type = 0xE then fr.cmd.toList.foldl (fun f r => f.complete r .collided) (f.modSess k (fun s => { s with swapStage := 0 }))
    else f.sendFailed k fr

/-- A frame against the checks of Table 09-5, and the consequence of the first that fails. A port that is out of service receives none (01 R33,
10 R276). -/
def frameDiscard (f : FieldDie) (k : Nat) (raw : CtRaw) : FieldDie :=
  if ¬ f.hears ∨ ¬ f.portUp k then f
  else if ¬ raw.sync ∨ ¬ raw.clean ∨ ¬ raw.countOk then f.modPort k (fun p => { p with syncFail := satN 8 (p.syncFail + 1) })
  else if ¬ raw.crcOk then f.modPort k (fun p => { p with crc := satN 8 (p.crc + 1) })
  else if ¬ raw.fromModule then f.modPort k (fun p => { p with rxType := raw.type, rxId := raw.msgId })
  else
    let f := f.frameHeard k raw.type raw.msgId
    if moduleTerms raw.type ≠ some raw.terms then
      (f.modPort k (fun p => { p with badType := satN 8 (p.badType + 1) })).raiseQ (slotQuad k) 15 1 k
    else if ([0, 4, 5].contains raw.type) ∨ raw.epoch = (f.sl k).sess.epoch then f
    else f.staleReply k raw.msgId

/-- A presence pulse (R227, 10 R266). -/
def presence (f : FieldDie) (k : Nat) : FieldDie :=
  if ¬ f.hears ∨ (f.sl k).sess.state = 9 then f
  else
    let f := (f.modPort k (fun p => { p with presCnt := satN 8 (p.presCnt + 1) })).insEvent k 21 1
    let s := (f.sl k).sess
    let f := if s.state = 7 ∧ ¬ s.presSince then (f.modSess k (fun s => { s with presSince := true })).send k (getFrame 8) else f
    f.markPresent k

/-- The moisture state after a result (Table 09-10); the first result of a block makes the port DRY. -/
def moistNext (st : Nat) (hist : List Nat) : Nat :=
  let st := if st = 3 then 0 else st
  let last (n : Nat) (p : Nat → Bool) : Bool := n ≤ hist.length && (hist.take n).all p
  if st ≠ 2 ∧ last 2 (· < 100) then 2
  else if st = 0 ∧ last 2 (· < 500) then 1
  else if st ≠ 0 ∧ last 3 (550 ≤ ·) then 0
  else if st = 2 ∧ last 3 (110 ≤ ·) ∧ hist.headD 0 < 550 then 1
  else st

/-- A voided check (R244): no result, and a repeat after 100 ms. -/
def moistVoid (f : FieldDie) (k : Nat) : FieldDie :=
  f.modPort k (fun p => { p with checking := false, pullup := f.driving, moistRetry := some (f.tick.tb + 4000) })

/-- The ports of a quadrant that moisture checks go round: those that are not DISABLED (R242). -/
def moistPorts (f : FieldDie) (q : Nat) : List Nat := (List.range 24).filter fun i => (f.sl (24 * q + i)).sess.state != 9

/-- Whether the round has come to port `k` (R242): it is the next of its quadrant in port order, and its time has come. -/
def moistTurn (f : FieldDie) (k : Nat) : Bool :=
  let x := f.qd (slotQuad k)
  let on := f.moistPorts (slotQuad k)
  k % 24 == ((on.filter (fun i => decide (x.moistPort ≤ i))) ++ on).headD 0 && decide (x.moistAt ≤ f.tick.tb)

/-- Whether a moisture check is due at port `k` (R242, R244): its turn, or one that was deferred or voided, on a device that drives, with no other
port of the quadrant in its check. -/
def moistDue (f : FieldDie) (k : Nat) : Bool :=
  let again : Bool := match (f.sl k).port.moistRetry with | some t => decide (t ≤ f.tick.tb) | none => false
  f.driving && (f.qd (slotQuad k)).moistEn && (f.sl k).sess.state != 9 && (f.moistTurn k || again)
    && !(List.range 24).any fun i => (f.sl (24 * slotQuad k + i)).port.checking

/-- Whether the line is free for a check (R242): idle, with no frame waiting, no reset to signal, and nothing of the module awaited. -/
def moistFree (s : Slot) : Bool :=
  s.port.line == 0 && !s.port.lowByUs && s.port.frames.isEmpty && !s.port.resetWanted && !s.sess.t.response && s.sess.outstanding.isNone
    && s.sess.swapStage != 3 && s.sess.swapStage != 4

/-- A moisture check falls to port `k` (R242), at even spacing over the enabled ports. One that may not start is deferred by 100 ms. -/
def moistStart (f : FieldDie) (k : Nat) : FieldDie :=
  if ¬ f.moistDue k then f
  else
    let s := f.sl k
    let f := if f.moistTurn k then f.modQd (slotQuad k) (fun x => { x with
        moistPort := (k % 24 + 1) % 24, moistAt := f.tick.tb + x.moistPeriod * 40000 / (f.moistPorts (slotQuad k)).length }) else f
    if ¬ moistFree s then
      f.modPort k (fun p => { p with deferred := satN 32 (p.deferred + 1), moistRetry := some (f.tick.tb + 4000) })
    else f.modPort k (fun p => { p with checking := true, pullup := false, moistRetry := none })

/-- A result of the moisture check (R245, R246): the mean in mV. A port that enters FAULT above the default is soft reset. -/
def moistResult (f : FieldDie) (k mv : Nat) : FieldDie :=
  let p := (f.sl k).port
  let r := if 3100 ≤ mv then 0xFFFF else mv / 5
  let hist := (r :: p.moist).take 3
  let st := moistNext p.mstate hist
  let f := f.modPort k (fun p => { p with vMv := mv, rKohm := r, moist := hist, mstate := st, checking := false })
  if st = p.mstate ∨ (p.mstate = 3 ∧ st = 0) then f
  else
    let f := f.vector 52
    let f := if st = 1 then f.raiseQ (slotQuad k) 17 1 k else if st = 2 then f.raiseQ (slotQuad k) 18 1 k else f
    if st = 2 ∧ (f.sl k).aboveDefault then f.softStart k else f

/-- The PORT registers beyond the header (Table 09-11). -/
def portReg (f : FieldDie) (q idx : Nat) : Option Word :=
  let x := f.qd q
  if idx = 0x08 then some (pack [(31, bit x.portLock), (30, bit x.moistEn), (16, x.moistPeriod)])
  else if 0x10 ≤ idx ∧ idx < 0x28 then some (f.sl (24 * q + (idx - 0x10))).port.linkWord
  else if 0x30 ≤ idx ∧ idx < 0x48 then some (f.sl (24 * q + (idx - 0x30))).port.errWord
  else if 0x50 ≤ idx ∧ idx < 0x68 then some (f.sl (24 * q + (idx - 0x50))).port.moistWord
  else none

/-- The RC fields of a PORT register cleared. -/
def portClear (f : FieldDie) (q idx : Nat) : FieldDie :=
  if 0x10 ≤ idx ∧ idx < 0x28 then f.modPort (24 * q + (idx - 0x10)) (fun p => { p with collCnt := 0, presCnt := 0 })
  else if 0x30 ≤ idx ∧ idx < 0x48 then
    f.modPort (24 * q + (idx - 0x30)) (fun p => { p with syncFail := 0, crc := 0, badType := 0, staleRx := 0 })
  else f

/-- An OP write to PORT_CTRL (Table 09-12). -/
def portWrite (f : FieldDie) (q idx : Nat) (w : Word) (force : Bool) : FieldDie :=
  if idx ≠ 0x08 ∨ ((f.qd q).portLock ∧ ¬ force) then f
  else
    let n := bits 23 16 w
    f.modQd q (fun x => { x with
      portLock := w.getLsbD 31, moistEn := w.getLsbD 30, moistPeriod := if 1 ≤ n ∧ n ≤ 60 then n else x.moistPeriod })

/-- The pull-ups of the slots that the part has, at a tick edge (R224, 00 R4). -/
def pullups (v : Variant) (f : FieldDie) : FieldDie :=
  let on := f.driving || f.listens
  { f with slot := f.slot.mapIdx (fun k (s : Slot) => { s with port := { s.port with pullup := on && decide (k < v.slots) && !s.port.checking } }) }

end FieldDie

namespace Machine

/-- CT_PRESENCE (R227). -/
def execCtPresence (slot : Fin 96) (s : State) : Out := .next (s.onSlot slot (fun f => f.presence slot))

/-- CT_GLITCH (R225). -/
def execCtGlitch (slot : Fin 96) (s : State) : Out :=
  .next (s.onSlot slot (fun f => if f.hears then f.modPort slot (fun p => { p with syncFail := satN 8 (p.syncFail + 1) }) else f))

/-- CT_HARD_RESET_DECLARED (10 R264): one low interval declares one hard reset. -/
def execCtHardResetDeclared (slot : Fin 96) (s : State) : Out :=
  .next (s.onSlot slot (fun f => if f.hears ∧ (f.sl slot).port.line < 2 then f.declareHard slot else f))

/-- CT_STUCK_LOW (R225). -/
def execCtStuckLow (slot : Fin 96) (s : State) : Out :=
  .next (s.onSlot slot (fun f =>
    if f.hears ∧ (f.sl slot).port.line = 2 then (f.modPort slot (fun p => { p with line := 3 })).raiseQ (slotQuad slot) 16 1 slot else f))

/-- CT_LINE_RELEASED (R232, 10 R266). -/
def execCtLineReleased (slot : Fin 96) (s : State) : Out :=
  .next (s.onSlot slot (fun f =>
    if 2 ≤ (f.sl slot).port.line then f.modPort slot (fun p => { p with line := 0, lowByUs := false, tx := false }) else f))

/-- CT_COLLISION (R231). -/
def execCtCollision (slot : Fin 96) (s : State) : Out := .next (s.onSlot slot (fun f => if f.sessLive then f.collision slot else f))

/-- COLLISION_HOLDOFF_END (R231). -/
def execCollisionHoldoffEnd (slot : Fin 96) (s : State) : Out :=
  .next (s.onSlot slot (fun f => f.modPort slot (fun p => { p with holdoff := false })))

/-- CT_FRAME_DISCARD (R235). -/
def execCtFrameDiscard (slot : Fin 96) (raw : CtRaw) (s : State) : Out := .next (s.onSlot slot (fun f => f.frameDiscard slot raw))

/-- CT_FRAME_TX_START (R230). -/
def execCtFrameTxStart (slot : Fin 96) (s : State) : Out := .next (s.onSlot slot (fun f => f.txStart slot))

/-- CT_FRAME_TX_END (10 R259). -/
def execCtFrameTxEnd (slot : Fin 96) (s : State) : Out := .next (s.onSlot slot (fun f => if f.sessLive then f.txEnd slot else f))

/-- MOISTURE_CHECK_START (R242): the check starts on an idle line, or is deferred. -/
def execMoistureCheckStart (slot : Fin 96) (s : State) : Out := .next (s.onSlot slot (fun f => f.moistStart slot))

/-- MOISTURE_CHECK_END (R243 to R245): samples in mV; a spread above 100 mV or a line below VIH at 1,520 µs voids the check. -/
def execMoistureCheckEnd (slot : Fin 96) (samples : Tab Nat 8) (lineHigh : Bool) (s : State) : Out :=
  .next (s.onSlot slot (fun f =>
    if ¬ (f.sl slot).port.checking then f
    else
      let xs := samples.rows
      if ¬ lineHigh ∨ xs.foldl min 3300 + 100 < xs.foldl max 0 then f.moistVoid slot
      else (f.modPort slot (fun p => { p with pullup := f.driving })).moistResult slot (satN 12 (xs.sum / 8))))

/-- MOISTURE_CHECK_VOID (R244). -/
def execMoistureCheckVoid (slot : Fin 96) (s : State) : Out :=
  .next (s.onSlot slot (fun f =>
    if (f.sl slot).port.checking then f.moistVoid slot else f))

/-- CT_LINK_READ (R247). -/
def execCtLinkRead (slot : Fin 96) (s : State) : Out :=
  .next (s.readRc (slot < s.chip.variant.slots) (fun f => (f.sl slot).port.linkWord)
    (fun f => f.portClear (slotQuad slot) (0x10 + slot.val % 24)))

/-- CT_ERR_READ (R247). -/
def execCtErrRead (slot : Fin 96) (s : State) : Out :=
  .next (s.readRc (slot < s.chip.variant.slots) (fun f => (f.sl slot).port.errWord)
    (fun f => f.portClear (slotQuad slot) (0x30 + slot.val % 24)))

end Machine

end Sys2Proof
end

