-- ==== Sys2Proof/Machine/March.lean ====
section
/-! DEFINITION. Hot insertion and the March (11_insertion_and_the_march R283 to R297): qualification, the window, March starts, the start
phase, the contract bank that fills the unit contexts (10 R255), what an uplink without a member shows, and the March registers. -/

namespace Sys2Proof

namespace Slot

/-- The unit context at the edge that takes the slot to CONTRACTED (10 R255), from the section in the bank: a command's settings of the slot stay
(06 R178). -/
def contractCtx (s : Slot) : UnitCtx :=
  let x := s.bank.sess
  { role := x.role, member := true, imax := x.imaxG, ichg := x.ichgG, rampUp := x.ramp (x.cap 4 31 16), rampDn := x.ramp (x.cap 4 15 0)
    iLsb := x.iLsb, vLsb := x.vLsb, inv := 2 ^ 40 / x.imaxG, excl := s.ctx.excl, wovr := s.ctx.wovr, wgt := s.ctx.wgt, weightNext := s.ctx.weightNext }

/-- The unit context without a contract (10 R249). -/
def emptyCtx (s : Slot) : UnitCtx := { excl := s.ctx.excl, wovr := s.ctx.wovr, wgt := s.ctx.wgt, weightNext := s.ctx.weightNext }

end Slot

namespace FieldDie

/-- Wear at a grant (06 R172, R173): restored for a known identity, 0 for an unknown one. -/
def wearGrant (f : FieldDie) (k : Nat) : FieldDie :=
  let life := match (f.sl k).sess.identity with | some ts => (ts.getD 4 0).toNat | none => 0
  let stress := match f.learnedFor k 1 with | some r => r.values.getD 0 0 | none => 0
  f.modSl k (fun s => { s with wear := { stress := stress, lifeH := life, known := s.sess.identity.isSome } })

/-- The contract bank of slot `k` swapped in (10 R249, R255, 11 R288, R295). -/
def contractSlot (f : FieldDie) (k : Nat) : FieldDie :=
  let s := f.sl k
  let x := s.bank.sess
  if x.state = 5 ∧ ¬ s.ctx.member then
    let f := f.modSl k (fun s => { s with
      ctx := s.contractCtx, ins := { s.ins with ulRun := 0 }
      bus := { s.bus with
        ref := 0, valid := false, stale := false, lost := false, missRun := 0, status := 0, echo := 0, iout := 0, vout := 0, avail := 0, temp := 0 } })
    match x.role with
    | .supply => f.wearGrant k
    | .storage => f.batGrant k
    | .none => f
  else if x.state = 5 then
    f.modSl k (fun s => { s with
      ctx := { s.ctx with ichg := if s.ctx.role = .storage then x.ichgG else s.ctx.ichg, run := s.ctx.run && !s.bank.suspect }
      ins := { s.ins with runDrop := s.ins.runDrop && !s.bank.suspect } })
  else if s.ctx.member then
    f.modSl k (fun s => { s with
      ctx := s.emptyCtx, bus := { s.bus with ref := 0, valid := false, stale := false, lost := false, missRun := 0 } })
  else f

/-- The contract bank of quadrant `q`. -/
def contractSwap (f : FieldDie) (q : Nat) : FieldDie := (List.range 24).foldl (fun f i => f.contractSlot (24 * q + i)) f

/-- The March changed. -/
def modMarch (f : FieldDie) (g : March → March) : FieldDie := { f with march := g f.march }

/-- Whether slot `k` meets R286. -/
def meetsR286 (f : FieldDie) (k : Nat) : Bool :=
  let s := f.sl k
  s.sess.state == 5 && s.ctx.member && s.ctx.role != .none && !s.ins.suspect && !s.ctx.excl && s.ins.state != 5
    && decide (400 * f.march.insMod ≤ s.ins.qualRuns) && decide (40 ≤ s.ins.ulRun)

/-- Whether the March is paused (R290). -/
def marchPaused (f : FieldDie) : Bool :=
  decide (2 ≤ f.grid.inputState) || f.volt.dlStop || f.volt.stopLatched || f.disp.blind || !f.sessLive

/-- What each run counts for insertion and the March (R284, R285, R287): the condition, QUAL_TIME, valid uplinks, BUS_UP, the window of each
branch. -/
def qualPhase (v : Variant) (f : FieldDie) : FieldDie :=
  let d := f.disp
  let g := f.grid.cfg
  let lo : Bool := decide ((g.winLo : Int) ≤ d.vbusUsed)
  let hi : Bool := decide (d.vbusUsed ≤ g.winHi)
  let met := d.vbusOk && hi && (!f.march.busUp || lo)
  let inside := d.vbusOk && hi && lo
  let f := { f with slot := f.slot.map (fun (s : Slot) =>
    if s.port.present then
      { s with ins := { s.ins with
        qual := met, qualRuns := if met then satN 32 (s.ins.qualRuns + 1) else 0, ulRun := if s.bus.valid then min 40 (s.ins.ulRun + 1) else 0
        state := if s.ins.state = 2 ∧ ¬ met then 1 else s.ins.state } }
    else s) }
  let f := { f with branch := f.branch.map (fun (b : Branch) =>
    if b.state = 2 then { b with winRun := runUp (400 * f.march.insBr) inside b.winRun } else b) }
  let anyRun := (FieldDie.slots v).any fun k => (f.sl k).ctx.runSent
  f.modMarch (fun m =>
    let n := runUp 40 (d.vbusOk && lo) m.busUpRun
    { m with paused := f.marchPaused, busUp := m.busUp && anyRun, busUpRun := if n = 40 ∧ ¬ anyRun then 0 else n })

/-- Units whose RUN the last run cleared by an exclusion (R283, R289), judged before the commands of the edge can lift the exclusion. -/
def exclEdge (v : Variant) (f : FieldDie) : FieldDie :=
  (FieldDie.slots v).foldl (fun f k =>
    let s := f.sl k
    if s.ctx.run ∧ s.exclEff ∧ ¬ s.ctx.runSent ∧ 3 ≤ s.ins.state then
      f.modSl k (fun s => { s with ctx := { s.ctx with run := false }, ins := { s.ins with state := if s.ins.state = 5 then 5 else 1 } })
    else f) f

/-- WAITING units that no longer qualify at a tick edge (R286). -/
def insEdge (v : Variant) (f : FieldDie) : FieldDie :=
  (FieldDie.slots v).foldl (fun f k =>
    if (f.sl k).ins.state = 2 ∧ ¬ f.meetsR286 k then f.modSl k (fun s => { s with ins := { s.ins with state := 1 } }) else f) f

/-- Branches that the configuration closes at start join the start phase (R291). -/
def startBranches (v : Variant) (f : FieldDie) : FieldDie :=
  (branches v).foldl (fun f b =>
    let x := f.br b
    if x.cfg.configured ∧ x.cfg.startClosed ∧ x.state = 1 then (f.requestClose b).modBr b (fun x => { x with startPhase := true }) else f) f

/-- START_PHASE_BEGIN (R291). -/
def startPhaseBegin (v : Variant) (f : FieldDie) : FieldDie :=
  if f.power.phase ≠ .spring ∨ ¬ f.cfg.loaded ∨ f.march.phaseOn ∨ f.march.phaseDone then f
  else
    let f := f.modMarch (fun m => { m with phaseOn := true, phaseBegin := f.tick.tb, firstReleased := false })
    let f := { f with slot := f.slot.map (fun (s : Slot) => { s with ins := { s.ins with startPhase := s.port.present } }) }
    f.startBranches v

/-- Units in the start phase (R291). -/
def phaseSlots (v : Variant) (f : FieldDie) : List Nat := f.slotsWhere v (·.ins.startPhase)

/-- The start phase ends (R291): SPRING ends under 02 R50. -/
def phaseEnd (f : FieldDie) : FieldDie :=
  let f := f.modMarch (fun m => { m with phaseOn := false, phaseDone := true })
  { f with
    slot := f.slot.map (fun (s : Slot) => { s with ins := { s.ins with startPhase := false } })
    branch := f.branch.map (fun (b : Branch) => { b with startPhase := false })
    power := { f.power with phase := if f.power.phase = .spring then .running else f.power.phase } }

/-- Branches that wait in the March (R287): qualified, and eligible under 12 R309. -/
def waitingBranches (v : Variant) (f : FieldDie) : List Nat :=
  (branches v).filter fun b => f.branchEligible b && decide (400 * f.march.insBr < (f.br b).winRun)

/-- Units that wait in the March, by March key and unit ID (R289). -/
def marchList (v : Variant) (f : FieldDie) : List (Nat × Nat) :=
  let ms := (f.slotsWhere v (·.ins.state == 2)).map fun k => ((f.sl k).sess.rank, k)
  let bs := (f.waitingBranches v).map fun b => ((f.br b).cfg.rank, 96 + b)
  (ms ++ bs).mergeSort (fun a b => a.1 < b.1 || (a.1 == b.1 && a.2 ≤ b.2))

/-- A March start of a unit (R289): the next start waits for the gap. -/
def marchStart (f : FieldDie) (u : Nat) : FieldDie :=
  let t := f.tick.tb
  let gap := if u < 96 then max f.march.spacing (f.sl u).sess.softstart else f.march.brSpacing
  let f := if u < 96 then
      f.modSl u (fun s => { s with ctx := { s.ctx with run := true }, ins := { s.ins with state := 3, startTick := t, startPhase := false } })
    else f.startBranch (u - 96)
  f.modMarch (fun m => { m with nextOk := t + 40 * gap, lastUnit := u, starts := (m.starts + 1) % 256, startEdge := some t })

/-- An uplink in a slot (05 R146, 11 R296), at the end of the slot's cycles (03 Table 03-1): of a member, or of a module that runs on its own during
the first 40 driving ticks. -/
def uplinkFrame (f : FieldDie) (k : Nat) (fr : UplinkFrame) : FieldDie :=
  if ¬ f.running then f
  else
   let f := f.atCycle (559 + 480 * (k % 12))
   if (f.sl k).ctx.member then f.uplinkMember k fr
  else
    let seen : Bool := (fr.check (k % 12) 0).getD 4 == 4
    if f.driving && decide (f.march.driveTicks < 40) && !f.march.coldDone && seen then f.markPresent k true else f

/-- Whether a re-entry release falls due at this edge (R290). -/
def anyRelease (v : Variant) (f : FieldDie) : Bool := (FieldDie.slots v).any fun k => f.releaseDue k

/-- MARCH_CTRL to MARCH_NEXT (Tables 11-3 to 11-6). -/
def marchReg (v : Variant) (f : FieldDie) (idx : Nat) : Option Word :=
  let m := f.march
  let waiting := (f.slotsWhere v (·.ins.state == 2)).length + (f.waitingBranches v).length
  if idx = 0x60 then some (pack [(31, bit m.lock), (16, m.brSpacing), (0, m.spacing)])
  else if idx = 0x61 then some (pack [(16, m.insMod), (0, m.insBr)])
  else if idx = 0x62 then some (pack [(31, bit m.phaseOn), (30, bit m.paused), (29, bit m.busUp), (16, waiting), (8, m.lastUnit), (0, m.starts)])
  else if idx = 0x63 then some (BitVec.ofNat 32 (satN 32 (m.nextOk - f.tick.tb)))
  else none

/-- An OP write to MARCH_CTRL or MARCH_DLY (R297): a field outside its range is left. -/
def marchWrite (f : FieldDie) (idx : Nat) (w : Word) (force : Bool) : FieldDie :=
  if f.march.lock ∧ ¬ force then f
  else if idx = 0x60 then
    let b := bits 28 16 w
    let s := bits 15 0 w
    f.modMarch (fun m => { m with
      lock := w.getLsbD 31, brSpacing := if 10 ≤ b ∧ b ≤ 5000 then b else m.brSpacing, spacing := if 10 ≤ s ∧ s ≤ 5000 then s else m.spacing })
  else if idx = 0x61 then
    let i := bits 31 16 w
    let b := bits 15 0 w
    f.modMarch (fun m => { m with
      insMod := if 1 ≤ i ∧ i ≤ 1000 then i else m.insMod, insBr := if 1 ≤ b ∧ b ≤ 1000 then b else m.insBr })
  else f

end FieldDie

namespace Machine

/-- UPLINK_FRAME_RX (05 R146). -/
def execUplinkFrameRx (slot : Fin 96) (frame : UplinkFrame) (s : State) : Out := .next (s.onSlot slot (fun f => f.uplinkFrame slot frame))

/-- DISPATCH_RUN (06 R153): one run in a tick, unless its deadline has passed. -/
def execDispatchRun (cycles : Nat) (s : State) : Out :=
  let v := s.chip.variant
  .next (s.onField (fun f =>
    if f.runs ∧ ¬ f.tick.ranThisTick ∧ ¬ f.tick.overran ∧ cycles ≤ FieldDie.runLimit then ((f.closeUplinks v).dispatch v cycles).qualPhase v
    else f))

/-- QUALIFIED (R286). -/
def execQualified (slot : Fin 96) (s : State) : Out :=
  .next (s.onSlot slot (fun f =>
    if (f.sl slot).ins.state = 1 ∧ f.meetsR286 slot then f.modSl slot (fun x => { x with ins := { x.ins with state := 2 } }) else f))

/-- BRANCH_QUALIFIED (R287): the window has held for INS_BR since the request. -/
def execBranchQualified (branch : Fin 32) (s : State) : Out :=
  .next (s.onBranch branch (fun f =>
    if (f.br branch).state = 2 ∧ 400 * f.march.insBr ≤ (f.br branch).winRun then
      f.modBr branch (fun x => { x with winRun := 400 * f.march.insBr + 1 })
    else f))

/-- BUS_UP (R285). -/
def execBusUp (s : State) : Out :=
  .next (s.onField (fun f => if 40 ≤ f.march.busUpRun then f.modMarch (fun m => { m with busUp := true }) else f))

/-- MARCH_START (R289, R290): one start at an edge, and none at the edge of a release. -/
def execMarchStart (s : State) : Out :=
  let v := s.chip.variant
  .next (s.onField (fun f =>
    let m := f.march
    let gathering := m.phaseOn && !m.firstReleased
    if f.marchPaused ∨ gathering ∨ f.tick.tb < m.nextOk ∨ m.startEdge = some f.tick.tb ∨ f.grid.releaseEdge = some f.tick.tb ∨ f.anyRelease v then f
    else match f.marchList v with
      | (_, u) :: _ => f.marchStart u
      | [] => f))

/-- FIRST_START_RELEASE (R291). -/
def execFirstStartRelease (s : State) : Out :=
  let v := s.chip.variant
  .next (s.onField (fun f =>
    let m := f.march
    let ready := (f.phaseSlots v).all fun k => (f.sl k).ins.state == 2
    if m.phaseOn ∧ ¬ m.firstReleased ∧ ((m.phaseBegin + 24000 ≤ f.tick.tb ∧ ready) ∨ m.phaseBegin + 80000 ≤ f.tick.tb) then
      f.modMarch (fun m => { m with firstReleased := true })
    else f))

/-- MARCH_COMPLETE (R291). -/
def execMarchComplete (s : State) : Out :=
  let v := s.chip.variant
  .next (s.onField (fun f =>
    if f.march.phaseOn ∧ f.march.phaseBegin + 24000 ≤ f.tick.tb ∧ f.phaseSlots v = [] ∧ ¬ (FieldDie.branches v).any (fun b => (f.br b).startPhase)
    then f.phaseEnd else f))

/-- MARCH_LATE (R291). -/
def execMarchLate (s : State) : Out :=
  .next (s.onField (fun f =>
    if f.march.phaseOn ∧ f.march.phaseBegin + 40000 * f.march.startLimit ≤ f.tick.tb then f.phaseEnd.raise 205 1 else f))

/-- SOFTSTART_END (R283): SOFTSTART has passed since the start, at least 1 tick. -/
def execSoftstartEnd (slot : Fin 96) (s : State) : Out :=
  .next (s.onSlot slot (fun f =>
    let x := f.sl slot
    if x.ins.state = 3 ∧ x.ins.startTick + max 1 (40 * x.sess.softstart) ≤ f.tick.tb then
      (f.modSl slot (fun x => { x with ins := { x.ins with state := 4 } })).insEvent slot 22 1
    else f))

/-- COLD_SOFT_RESET_BROADCAST (R296). -/
def execColdSoftResetBroadcast (s : State) : Out :=
  .next (s.onField (fun f =>
    if ¬ f.driving ∨ f.march.driveTicks < 40 ∨ f.march.coldDone then f
    else
      let f := (FieldDie.slots s.chip.variant).foldl (fun f k =>
        if (f.sl k).sess.state = 0 ∧ ¬ (f.sl k).port.present then
          (f.send k { type := 4, once := true }).modSess k (fun x => { x with bcast := true })
        else f) f
      f.modMarch (fun m => { m with coldDone := true })))

end Machine

end Sys2Proof
end

