-- ==== Sys2Proof/Machine/TwoWire.lean ====
section
/-! DEFINITION. Two-wire buses (20_two_wire R502 to R517): controller and target roles, polling of legacy devices, registers,
and the commands of group 0xE0. Wire timing below a transaction stays with the rows that report it. -/

namespace Sys2Proof

/-- What a bus operation gives besides its new state. -/
inductive TwOut where
  | event (code : Nat)
  | done (r : Request) (st : Status) (result : Nat) (data : List Byte)
  | polled (device reading : Nat) (result : TwResult)
  deriving DecidableEq, Repr

/-- STATUS of an outcome (Table 19-14). -/
def twStatus (outcome : Nat) : Status :=
  if outcome = 0 then .ok else if outcome = 4 ∨ outcome = 5 then .timeout else .aborted

namespace TwBus

/-- Commands waiting (TW_STATUS.QUEUED): polls do not count (R500, R515). -/
def queued (b : TwBus) : Nat :=
  (b.queue.filter (fun j => match j with | .poll _ _ => false | _ => true)).length

/-- Whether nothing runs or waits on the bus. -/
def idle (b : TwBus) : Bool := !b.busy && !b.tgtAct && b.job.isNone && b.queue.isEmpty

/-- TW_STATUS (Table 20-6). -/
def status (b : TwBus) : Word :=
  pack [(31, bit b.busy), (30, bit b.ctrlAct), (29, bit b.tgtAct), (28, bit b.sda), (27, bit b.scl), (23, b.queued),
    (12, b.stuckCnt), (8, b.toutCnt), (4, b.protoCnt), (0, b.pecCnt)]

/-- TW_CTRL (Table 20-5). -/
def ctrl (b : TwBus) : Word :=
  pack [(31, bit b.lock), (29, b.role), (27, b.speed), (26, bit b.pecEn), (8, b.taddr)]

/-- The RC counters cleared by the read that returns them. -/
def clearCounts (b : TwBus) : TwBus := { b with stuckCnt := 0, toutCnt := 0, protoCnt := 0, pecCnt := 0 }

/-- A target address that R509 refuses. -/
def badAddr (a : Nat) : Bool := a ≤ 7 || 0x78 ≤ a

/-- TW_SET_BUS acts (19 Table 19-13). -/
def setBus (b : TwBus) (r : Request) : TwBus := { b with speed := r.u32 4, role := r.u32 8, taddr := r.u32 12 }

/-- A job's end: the bus is free again. -/
def release (b : TwBus) : TwBus := { b with busy := false, ctrlAct := false, job := none, tries := 0 }

/-- What a finished job gives: the completion of a TW_XFER (R501) or the value of a poll. -/
def jobOut (b : TwBus) (res : TwResult) : List TwOut :=
  match b.job with
  | some (.xfer r) =>
    [.done r (twStatus res.outcome) (res.outcome.val + 2 ^ 8 * res.acked.val + 2 ^ 16 * (res.data.length % 2 ^ 16)) res.data]
  | some (.setBus r) => [.done r .ok 0 []]
  | some (.poll d k) => [.polled d k res]
  | none => []

/-- The next waiting job starts (R505, R506, R508): a TW_SET_BUS acts at once; a transfer runs after the stuck-bus check. -/
def start (b : TwBus) (found : TwStart) : TwBus × List TwOut :=
  if b.tgtAct ∨ b.job.isSome then (b, [])
  else match b.queue with
    | [] => (b, [])
    | .setBus r :: rest => ({ b.setBus r with queue := rest }, [.done r .ok 0 []])
    | j :: rest =>
      if found.sdaLow ∧ ¬ found.freed then
        ({ b with queue := rest, job := some j, tries := 1, sda := false, busy := true, stuckCnt := satN 4 (b.stuckCnt + 1) }, [.event 1])
      else ({ b with queue := rest, job := some j, tries := 0, sda := true, busy := true, ctrlAct := true }, [])

/-- The bus recovery tried again (R508): after the third further failure the job ends with outcome 4. After a block reset it is tried without a
job, the first time and up to 3 more. -/
def retry (b : TwBus) (stillLow : Bool) : TwBus × List TwOut :=
  if b.tries = 0 then (b, [])
  else if b.job.isNone then
    if stillLow then
      ({ b with sda := false, stuckCnt := satN 4 (b.stuckCnt + 1), tries := if 4 ≤ b.tries then 0 else b.tries + 1 }, [.event 1])
    else ({ b with tries := 0, sda := true }, [])
  else if stillLow then
    let b' := { b with stuckCnt := satN 4 (b.stuckCnt + 1), tries := b.tries + 1 }
    if 4 ≤ b'.tries then (b'.release, .event 1 :: b.jobOut ⟨4, 0, []⟩) else (b', [.event 1])
  else ({ b with tries := 0, sda := true, ctrlAct := true }, [])

/-- A controller transaction ends with STOP (R505). -/
def finish (b : TwBus) (res : TwResult) : TwBus × List TwOut :=
  if b.job.isNone ∨ ¬ b.ctrlAct then (b, [])
  else
    let b' := if res.outcome = 6 then { b with pecCnt := satN 4 (b.pecCnt + 1) } else b
    (b'.release, b.jobOut res)

/-- A target stretches too long (R504): STOP and outcome 5. -/
def ctrlTimeout (b : TwBus) : TwBus × List TwOut :=
  if b.job.isNone ∨ ¬ b.ctrlAct then (b, [])
  else ({ b with toutCnt := satN 4 (b.toutCnt + 1) }.release, b.jobOut ⟨5, 0, []⟩)

/-- Arbitration is lost (R507): outcome 3; a device in both roles that is addressed turns target in the same byte. -/
def lost (b : TwBus) (inAddr : Bool) (winning : BitVec 8) : TwBus × List TwOut :=
  if b.job.isNone ∨ ¬ b.ctrlAct then (b, [])
  else
    let mine := inAddr && b.role == 2 && winning.toNat / 2 == b.taddr
    ({ b.release with busy := true, tgtAct := mine, tgtRead := mine && winning.getLsbD 0 }, b.jobOut ⟨3, 0, []⟩)

/-- A write to TW_CTRL (R517, R496): fields that cannot take the value keep the old one. `host` tells MB from FTW. -/
def writeCtrl (b : TwBus) (host : Bool) (w : Word) (force : Bool) : TwBus :=
  if b.lock ∧ ¬ force then b
  else
    let role := bits 30 29 w
    { b with lock := w.getLsbD 31
             role := if role = 3 ∨ (¬ host ∧ role ≠ 0) then b.role else role
             speed := if bits 28 27 w = 3 then b.speed else bits 28 27 w
             pecEn := w.getLsbD 26
             taddr := if host ∧ badAddr (bits 14 8 w) then b.taddr else bits 14 8 w }

/-- A block reset (01 R552, 20 R516): LOCK and the RC counters clear, both lands are released, and what ran or waited ends with
ABORTED. The check for a stuck bus is still to come (R508). -/
def blockReset (b : TwBus) : TwBus × List TwOut :=
  let reqs := (b.job.toList ++ b.queue).filterMap fun j => match j with | .xfer r => some r | .setBus r => some r | .poll _ _ => none
  ({ b.clearCounts.release with lock := false, queue := [], tgtAct := false, sda := true, scl := true, tries := 1 },
    reqs.map fun r => .done r .aborted 0 [])

/-- The parameter ranges of TW_XFER (Table 19-13, R501). -/
def xferOk (r : Request) : Bool :=
  r.u32 4 < 128 && r.u32 8 ≤ 32 && r.u32 12 ≤ 256 && r.u32 16 < 4 &&
    !((r.u32 16).testBit 0 && r.u32 8 + r.u32 12 == 0)

/-- The parameter ranges of TW_SET_BUS (Table 19-13, R509). -/
def setOk (host : Bool) (r : Request) : Bool :=
  r.u32 4 < 3 && r.u32 8 < 3 && r.u32 12 < 128 && (host || r.u32 8 == 0) && !(host && badAddr (r.u32 12))

/-- TW_XFER joins the bus's queue of at most 8 (R500). -/
def xfer (b : TwBus) (r : Request) : TwBus × Option (Status × Nat) :=
  if 8 ≤ b.queued then (b, some (.full, 0))
  else ({ b with queue := b.queue ++ [.xfer r] }, none)

/-- TW_SET_BUS acts once the bus is idle (Table 19-13). -/
def set (b : TwBus) (r : Request) : TwBus × Option (Status × Nat) :=
  if b.idle then (b.setBus r, some (.ok, 0))
  else if 8 ≤ b.queued then (b, some (.full, 0))
  else ({ b with queue := b.queue ++ [.setBus r] }, none)

end TwBus

/-- Y × 2^N times a unit, rounded to nearest with ties away from zero (20 R515). -/
def linear (y n : Int) (unit : Nat) : Int :=
  if 0 ≤ n then y * unit * 2 ^ n.toNat else roundDiv (y * unit) (2 ^ (-n).toNat)

/-- A LINEAR11 word in a unit. -/
def linear11 (w unit : Nat) : Int := linear (sext 11 w) (sext 5 (w / 2048)) unit

/-- A LINEAR16 word with the exponent of VOUT_MODE. -/
def linear16 (w mode unit : Nat) : Int := linear w (sext 5 mode) unit

/-- The readings of one round over a device (R515): PAGE where the entry names one, VOUT_MODE, STATUS_WORD, then VIN to POUT.
Readings 0 to 6 are those of POLL_VAL; 7 is VOUT_MODE, 8 STATUS_WORD, 9 PAGE. -/
def pollRound (d : Nat) (dev : Legacy) : List TwJob :=
  if dev.addr = 0 then []
  else (if dev.page = 0xFF then [] else [TwJob.poll d 9]) ++ [.poll d 7, .poll d 8] ++ (List.range 7).map (TwJob.poll d)

/-- The scale of a reading (Table 20-4): mV, mA, mV, mA, 0.01 °C, rpm, W. -/
def pollUnit : Nat → Nat
  | 0 => 1000 | 1 => 1000 | 2 => 1000 | 3 => 1000 | 4 => 100 | _ => 1

/-- A value of the poll that fits no s32 is a free value. -/
def fit32 (f : FieldDie) (x : Int) : Int × FieldDie :=
  if satI 32 x = x then (x, f) else let (n, f) := f.draw 32; (sext 32 n, f)

/-- One reading of a polled device ends (R515, Table 20-7). -/
def FieldDie.polled (f : FieldDie) (q d k : Nat) (res : TwResult) : FieldDie :=
  let setDev (f : FieldDie) (g : Legacy → Legacy) : FieldDie :=
    f.modQd q (fun x => { x with ftw := { x.ftw with devs := x.ftw.devs.modifyNat d g } })
  let dev := (f.qd q).ftw.devs.getD d {}
  if res.outcome = 1 then
    -- the device does not acknowledge: its remaining reads of the round are skipped
    (setDev f (fun x => { x with nack := true, valid := false })).modQd q (fun x =>
      { x with ftw := { x.ftw with bus := { x.ftw.bus with
          queue := x.ftw.bus.queue.filter (fun j => match j with | .poll d' _ => d' != d | _ => true) } } })
  else if res.outcome = 6 then setDev f (fun x => { x with pecErr := true, valid := false })
  else if res.outcome ≠ 0 then setDev f (fun x => { x with valid := false })
  else
    let w := rd 2 0 res.data
    if k = 7 then setDev f (fun x => { x with mode := w % 256 })
    else if k = 8 then setDev f (fun x => { x with status := w })
    else if k = 9 then f
    else
      let raw := if k = 2 then linear16 w dev.mode 1000 else linear11 w (pollUnit k)
      let (y, f) := fit32 f raw
      setDev f (fun x => { x with values := x.values.modifyNat k (fun _ => y)
                                  valid := if k = 6 then !x.nack && !x.pecErr else x.valid })

/-- What a field bus operation gives, carried out. -/
def FieldDie.twOut (f : FieldDie) (q : Nat) : TwOut → FieldDie
  | .event c => f.raise 212 c q
  | .done r st res data => f.complete r st res (r.par 24 8) data
  | .polled d k res => f.polled q d k res

/-- What a host bus operation gives, carried out. -/
def HostDie.twOut (h : HostDie) (b : Nat) : TwOut → HostDie
  | .event c => h.raise 11 c b
  | .done r st res data => (if data.isEmpty then h else h.bufWrite (r.par 24 8) data).complete r st res
  | .polled _ _ _ => h

/-- Host bus `b` changed, with what the change gives. -/
def HostDie.onBus (h : HostDie) (b : Nat) (g : TwBus → TwBus × List TwOut) : HostDie :=
  let (x, outs) := g (h.mb.getD b {})
  outs.foldl (fun h o => h.twOut b o) { h with mb := h.mb.modifyNat b (fun _ => x) }

/-- The field bus of quadrant `q` changed, with what the change gives. -/
def FieldDie.onFtw (f : FieldDie) (q : Nat) (g : TwBus → TwBus × List TwOut) : FieldDie :=
  let (x, outs) := g (f.qd q).ftw.bus
  outs.foldl (fun f o => f.twOut q o) (f.modQd q (fun y => { y with ftw := { y.ftw with bus := x } }))

/-- The registers of an FTW block beyond TW_CTRL and TW_STATUS (Table 20-7). -/
def FtwQ.pollReg (t : FtwQ) (idx : Nat) : Word :=
  if 0x10 ≤ idx ∧ idx < 0x18 then
    let d := t.devs.getD (idx - 0x10) {}
    if d.addr = 0 then 0 else pack [(31, bit d.valid), (30, bit d.nack), (29, bit d.pecErr), (16, d.addr), (0, d.status)]
  else if 0x20 ≤ idx ∧ idx < 0x60 then
    let d := t.devs.getD ((idx - 0x20) / 8) {}
    if d.addr = 0 then 0 else BitVec.ofInt 32 (d.values.getD (idx % 8) 0)
  else 0

/-- The bytes a target write carries: pointer and data, with the PEC checked where PEC_EN asks for one (R510, R512). The answer
is none where the PEC is wrong. -/
def TwBus.targetData (b : TwBus) (bytes : List Byte) : Option (List Byte) :=
  let body := bytes.drop 2
  if b.pecEn ∧ ¬ body.isEmpty then
    let data := body.dropLast
    if pec (BitVec.ofNat 8 (2 * b.taddr) :: (bytes.take 2 ++ data)) = (body.getLastD 0).toNat then some (data.take 32) else none
  else some (body.take 32)

/-- A write in the target role that goes wrong is discarded whole (R511): BUS_PROTO_ERR. -/
def HostDie.protoErr (h : HostDie) (b : Nat) (pecBad : Bool) : HostDie :=
  h.onBus b (fun x =>
    if ¬ x.tgtAct ∨ x.tgtRead then (x, [])
    else ({ x with protoCnt := satN 4 (x.protoCnt + 1), pecCnt := if pecBad then satN 4 (x.pecCnt + 1) else x.pecCnt
                   tgtAct := false, busy := false }, [.event 2]))

/-- A target write commits all its bytes in one step (R510): data within one aligned 32-byte page, into the message area only;
the pointer then stands after the last byte written. -/
def HostDie.targetWrite (h : HostDie) (b : Nat) (bytes : List Byte) : HostDie :=
  let x := h.mb.getD b {}
  if ¬ x.tgtAct ∨ x.tgtRead then h
  else match x.targetData bytes with
    | none => h.protoErr b true
    | some data =>
      let done (h : HostDie) (p : Nat) : HostDie :=
        h.onBus b (fun y => ({ y with pointer := p, tgtAct := false, busy := false }, []))
      if bytes.length < 2 then done h x.pointer
      else
        let p := (bytes.getD 0 0).toNat * 256 + (bytes.getD 1 0).toNat
        let at_ (i : Nat) : Nat := p / 32 * 32 + (p + i) % 32
        let inArea := 0x0800 ≤ p && p < 0x1000
        let h1 := if inArea then
            { h with area := (data.zipIdx).foldl (fun m d => memWrite m (at_ d.2 - 0x0800) d.1) h.area } else h
        let h2 := if inArea ∧ ¬ data.isEmpty then h1.vector 53 else h1
        done h2 (if data.isEmpty then p else at_ data.length)

namespace Machine

/-- An operation on two-wire bus `n` of R502, on the die that has it; a bus of an absent quadrant does not exist. -/
def State.onTw (n : Nat) (g : TwBus → TwBus × List TwOut) (s : State) : State :=
  if n < 2 then s.onHost (fun h => h.onBus n g)
  else if n - 2 < s.chip.variant.quads then s.onField (fun f => f.onFtw (n - 2) g) else s

/-- Whether a bus of the host side lies still because the side sleeps or is off (02 R61). -/
def State.busSleeps (n : Nat) (s : State) : Bool := decide (n < 2) && !s.chip.host.listens

/-- TW_TRANSACTION_START (R506, R508). -/
def execTwTransactionStart (bus : Fin 6) (found : TwStart) (s : State) : Out :=
  .next (if s.busSleeps bus then s else s.onTw bus (fun b => b.start found))

/-- TW_TRANSACTION_END (R505). -/
def execTwTransactionEnd (bus : Fin 6) (result : TwResult) (s : State) : Out := .next (s.onTw bus (fun b => b.finish result))

/-- TW_STUCK_RETRY (R508). -/
def execTwStuckRetry (bus : Fin 6) (stillLow : Bool) (s : State) : Out := .next (s.onTw bus (fun b => b.retry stillLow))

/-- TW_CONTROLLER_TIMEOUT (R504). -/
def execTwControllerTimeout (bus : Fin 6) (s : State) : Out := .next (s.onTw bus (fun b => b.ctrlTimeout))

/-- TW_ARBITRATION_LOST (R507); in sleep no address is recognised (02 R61). -/
def execTwArbitrationLost (bus : Fin 6) (inAddr : Bool) (winning : BitVec 8) (s : State) : Out :=
  .next (s.onTw bus (fun b => b.lost (inAddr && !s.busSleeps bus) winning))

/-- TW_TARGET_ADDRESSED (R509): only TADDR is answered, only in a target role, and never asleep (02 R61). -/
def execTwTargetAddressed (bus : Fin 2) (addr : BitVec 7) (read : Bool) (s : State) : Out :=
  .next (s.onHost (fun h =>
    if ¬ h.listens then h
    else h.onBus bus (fun b =>
      if b.role ≠ 0 ∧ b.taddr = addr.toNat then ({ b with busy := true, tgtAct := true, tgtRead := read }, []) else (b, []))))

/-- TW_TARGET_WRITE_COMMIT (R510, R512). -/
def execTwTargetWriteCommit (bus : Fin 2) (bytes : List Byte) (s : State) : Out :=
  .next (s.onHost (fun h => h.targetWrite bus bytes))

/-- TW_PROTO_ERR (R511). -/
def execTwProtoErr (bus : Fin 2) (pecBad : Bool) (s : State) : Out := .next (s.onHost (fun h => h.protoErr bus pecBad))

/-- TW_TARGET_TIMEOUT (R513): the lines are released, nothing uncommitted is kept, BUS_TIMEOUT. -/
def execTwTargetTimeout (bus : Fin 2) (s : State) : Out :=
  .next (s.onHost (fun h => h.onBus bus (fun b =>
    if b.tgtAct then ({ b with tgtAct := false, busy := true, scl := true, sda := true, toutCnt := satN 4 (b.toutCnt + 1) }, [.event 3])
    else (b, []))))

/-- TW_STATUS_READ (R517): the read returns the counters and clears them. -/
def execTwStatusRead (bus : Fin 6) (s : State) : Out :=
  let v := if bus.val < 2 then (s.chip.host.mb.getD bus {}).status else (s.chip.field.qd (bus.val - 2)).ftw.bus.status
  .next ((s.onTw bus (fun b => (b.clearCounts, []))).on (fun c => { c with readData := [v] }))

/-- LEGACY_POLL (R515): a round of reads over the quadrant's list joins the bus's queue, unless the quadrant is isolated or its
block does not run (R516). Only the active device drives the bus (19 R500). -/
def execLegacyPoll (q : Fin 4) (s : State) : Out :=
  .next (s.onField (fun f =>
    let x := f.qd q
    if ¬ f.isActive ∨ s.chip.variant.quads ≤ q ∨ f.power.isolated.getD q false ∨ (x.blk.getD 6 {}).state ≠ 1 then f
    else f.modQd q (fun x => { x with ftw := { x.ftw with
      devs := x.ftw.devs.map (fun d => { d with nack := false, pecErr := false })
      bus := { x.ftw.bus with queue := x.ftw.bus.queue ++ (x.ftw.devs.indexed.flatMap (fun d => pollRound d.1 d.2)) } } })))

end Machine

end Sys2Proof
end

