-- ==== Sys2Proof/Machine/HostIf.lean ====
section
/-! DEFINITION. The host interface (18_host R454 to R475): the register map, the QSPI window, queues, vectors, and the target
window of the two-wire buses. The mailbox engine, which runs commands, is in Mailbox.lean. -/

namespace Sys2Proof

/-- CAP0 (00 Table 00-2). -/
def Variant.cap0 (v : Variant) : Word :=
  pack [(24, v.partCode), (16, 0xB0), (12, v.quadMask), (11, bit v.pcie), (10, bit v.grid), (9, 1)]

/-- CAP1 (00 Table 00-3): FW 3.2, CFG 12, HF 7. -/
def cap1 : Word := pack [(24, 3), (16, 2), (8, 0x0C), (0, 7)]

/-- DEV_ID: the first 8 bytes of the SHA-256 of the identity public key (18 Table 18-11). -/
def devId : Nat := ofLe (slice 0 8 (Hash.sha256 Config.identityKey))

namespace QPair

/-- Completions written and not yet released by CQ_HEAD. -/
def unreleased (q : QPair) : Nat := (q.cqTail + 2 ^ q.cqLog2 - q.cqHead) % 2 ^ q.cqLog2

/-- Whether the completion ring has room for one more entry. -/
def room (q : QPair) : Bool := q.unreleased < 2 ^ q.cqLog2 - 1

/-- Descriptors waiting in the command ring (R462). -/
def depth (q : QPair) : Nat := (q.sqTail + 2 ^ q.sqLog2 - q.sqHead) % 2 ^ q.sqLog2

/-- IDLE (Table 18-8). -/
def idle (q : QPair) : Bool := !q.en && q.qcnt == 0

/-- QCFG (Table 18-8). -/
def cfgWord (q : QPair) : Word :=
  pack [(31, bit q.en), (30, bit q.ordered), (29, bit q.error), (28, bit q.idle), (20, q.cqLog2), (16, q.sqLog2), (8, q.errCode)]

/-- A write of QCFG (R461, Table 18-8). `rangeOk` says whether the rings lie where they may (R458). -/
def writeCfg (q : QPair) (rangeOk : QPair → Bool) (w : Word) : QPair :=
  if q.en then
    if w.getLsbD 31 then { q with ordered := w.getLsbD 30 }
    else { q with en := false, ordered := w.getLsbD 30, error := false, errCode := 0 }
  else
    let size (x old : Nat) : Nat := if 4 ≤ x ∧ x ≤ 12 then x else old
    let q1 := { q with ordered := w.getLsbD 30, cqLog2 := size (bits 23 20 w) q.cqLog2, sqLog2 := size (bits 19 16 w) q.sqLog2 }
    if w.getLsbD 31 ∧ q1.idle then
      let q2 := { q1 with en := true, sqHead := 0, sqTail := 0, cqTail := 0, cqHead := 0, phase := true }
      if rangeOk q2 then q2 else { q2 with error := true, errCode := 1 }
    else q1

end QPair

/-- The 16 bytes of a completion with its PHASE (Table 18-9). -/
def Completion.bytes (c : Completion) (phase : Bool) : List Byte :=
  leBytes 2 c.tag ++ leBytes 1 c.status.code ++ leBytes 1 (128 * bit phase + c.queue.val) ++ leBytes 2 c.epoch ++
    leBytes 1 (bit c.peer + 2 * bit c.held) ++ [0] ++ leBytes 8 c.result

namespace HostDie

/-- Queue `q`. -/
def q (h : HostDie) (i : Nat) : QPair := h.hif.queues.getD i {}

/-- Queue `i` changed. -/
def modQ (h : HostDie) (i : Nat) (g : QPair → QPair) : HostDie :=
  { h with hif := { h.hif with queues := h.hif.queues.modifyNat i g } }

/-- Whether a queue's rings lie where the link lets them (R458). -/
def ringsOk (h : HostDie) (q : QPair) : Bool :=
  match h.power.link with
  | .pcie => true
  | .qspi => 0x080000 ≤ q.sqBase && q.sqBase + 64 * 2 ^ q.sqLog2 ≤ 0x140000 &&
             0x080000 ≤ q.cqBase && q.cqBase + 16 * 2 ^ q.cqLog2 ≤ 0x140000

/-- A queue enters ERROR (R465): its completion vector is raised. -/
def queueError (h : HostDie) (i code : Nat) : HostDie :=
  (h.modQ i (fun x => { x with error := true, errCode := code })).vector i

/-- Any block of region H outside RUNNING and OFF: the SERVICE condition of 01 R19 on this side. -/
def service (h : HostDie) : Bool := h.blk.rows.any fun b => 2 ≤ b.state && b.state ≤ 6

/-- MODE_STATUS as region H shows it (02 Table 02-1): the mode it reports, the field's condition bits, and its own bits. -/
def modeStatus (h : HostDie) : Word :=
  let w := h.mode.word
  pack [(28, h.mode.mode), (24, h.mode.prevMode), (16, h.mode.changes), (14, bit (w.getLsbD 14)), (13, bit (w.getLsbD 13)),
    (12, bit (w.getLsbD 12)), (11, bit (w.getLsbD 11)), (10, bit (w.getLsbD 10 || h.service)), (7, bit (w.getLsbD 7)),
    (6, bit (w.getLsbD 6)), (5, bit (w.getLsbD 5)), (4, bit (w.getLsbD 4)), (3, bit h.mode.hostLost), (2, bit h.mode.fieldLost),
    (1, bit h.mode.notConfigured)]

/-- RST_CAUSE (02 Table 02-5). -/
def rstCause (h : HostDie) : Word := pack [(24, h.mode.cause), (21, h.mode.scope), (0, h.mode.chipResets)]

/-- HIF_CTRL (Table 18-4). -/
def ctrlWord (h : HostDie) : Word :=
  pack [(31, bit h.hif.lock), (2, bit h.hif.irqPulse), (1, bit h.hif.evqEn), (0, bit h.hif.mboxEn)]

/-- EVQ_CFG (Table 18-5). -/
def evqCfg (h : HostDie) : Word := pack [(31, bit h.hif.ovf), (16, h.hif.evqLog2), (0, h.hif.lost)]

/-- The low or high word of a 64-bit value. -/
def half (n : Nat) (high : Bool) : Word := BitVec.ofNat 32 (if high then n / 2 ^ 32 else n)

/-- Word `w` put into the low or high half of a 64-bit value. -/
def putHalf (n : Nat) (high : Bool) (w : Word) : Nat :=
  if high then n % 2 ^ 32 + 2 ^ 32 * w.toNat else n / 2 ^ 32 * 2 ^ 32 + w.toNat

/-- The host register at a window offset (Table 18-2) as one reader sees it, without the effects of the read. -/
def reg (v : Variant) (h : HostDie) (off : Nat) (reader : Nat := 0) : Word :=
  if 0x1000 ≤ off ∧ off < 0x1400 then
    let x := h.q ((off - 0x1000) / 0x20)
    match off % 0x20 with
    | 0x00 => x.cfgWord
    | 0x04 => half x.sqBase false
    | 0x08 => half x.sqBase true
    | 0x0C => half x.cqBase false
    | 0x10 => half x.cqBase true
    | 0x14 => BitVec.ofNat 32 x.sqHead
    | 0x18 => pack [(16, bit x.phase), (0, x.cqTail)]
    | 0x1C => pack [(16, satN 16 x.qcnt)]
    | _ => 0
  else if 0x2000 ≤ off ∧ off < 0x2400 then
    match h.power.link with
    | .qspi => 0
    | .pcie =>
      let e := h.hif.msix.getD ((off - 0x2000) / 16) {}
      match off % 16 with
      | 0 => half e.addr false
      | 4 => half e.addr true
      | 8 => e.data
      | _ => pack [(0, bit e.masked)]
  else if off = 0x2400 ∨ off = 0x2404 then
    match h.power.link with
    | .qspi => 0
    | .pcie => half h.hif.vecPend.toNat (off = 0x2404)
  else if 0x0080 ≤ off ∧ off < 0x00A0 then
    pack ((List.range 8).map fun i => (4 * i, h.hif.irqMap.getD ((off - 0x80) / 4 * 8 + i) 0))
  else match off with
    | 0x0000 => pack [(16, 0x6480), (8, 0xB0), (0, match h.power.link with | .pcie => 1 | .qspi => 2)]
    | 0x0004 => v.cap0
    | 0x0008 => cap1
    | 0x000C => h.modeStatus
    | 0x0010 => h.rstCause
    | 0x0014 => BitVec.ofNat 32 h.mode.epoch
    | 0x0018 => half h.htb false
    | 0x001C => BitVec.ofNat 32 (h.htbHi.getD reader 0)
    | 0x0020 => h.ctrlWord
    | 0x0028 => half h.sec.nonce false
    | 0x002C => BitVec.ofNat 32 (h.sec.nonceHi.getD reader 0)
    | 0x0030 => half devId false
    | 0x0034 => half devId true
    | 0x0040 => half h.hif.evqBase false
    | 0x0044 => half h.hif.evqBase true
    | 0x0048 => h.evqCfg
    | 0x004C => BitVec.ofNat 32 h.hif.evqTail
    | 0x0050 => BitVec.ofNat 32 h.hif.evqHead
    | 0x0060 => half h.hif.vecEn.toNat false
    | 0x0064 => half h.hif.vecEn.toNat true
    | 0x0068 => half h.hif.vecPend.toNat false
    | 0x006C => half h.hif.vecPend.toNat true
    | 0x0070 => match h.power.link with | .pcie => 0 | .qspi => half h.hif.vecMask.toNat false
    | 0x0074 => match h.power.link with | .pcie => 0 | .qspi => half h.hif.vecMask.toNat true
    | _ => 0

/-- The latches that a read of a register sets for its reader (03 R83, R84): HTB_HI and AUTH_NONCE_HI. -/
def latch (h : HostDie) (off : Nat) (reader : Nat := 0) : HostDie :=
  match off with
  | 0x0018 => { h with htbHi := h.htbHi.modifyNat reader (fun _ => h.htb / 2 ^ 32 % 2 ^ 32) }
  | 0x0028 => { h with sec := { h.sec with nonceHi := h.sec.nonceHi.modifyNat reader (fun _ => h.sec.nonce / 2 ^ 32 % 2 ^ 32) } }
  | _ => h

/-- The RC fields that a read through the host interface clears: MODE_STATUS.HOST_LOST and EVQ_CFG.LOST. -/
def readClear (h : HostDie) (off : Nat) : HostDie :=
  match off with
  | 0x000C => { h with mode := { h.mode with hostLost := false } }
  | 0x0048 => { h with hif := { h.hif with lost := 0 } }
  | _ => h

/-- A read of a host register through the host interface: its value, and the die after the read. -/
def regRead (v : Variant) (h : HostDie) (off : Nat) : Word × HostDie := (h.reg v off, (h.latch off).readClear off)

/-- Whether vector `i` is masked (R470): by its MSI-X entry or the function mask under PCIe, by VEC_MASK under QSPI. -/
def masked (h : HostDie) (i : Nat) : Bool :=
  match h.power.link with
  | .pcie => h.hif.functionMask || (h.hif.msix.getD i {}).masked
  | .qspi => h.hif.vecMask.getLsbD i

/-- A pending vector is signalled (R470). Under PCIe its message is sent and its pending bit clears; under QSPI a routed vector
pulses its line in pulse mode, and otherwise holds it by its pending bit. -/
def signal (h : HostDie) (i : Nat) : HostDie :=
  if ¬ h.hif.vecPend.getLsbD i ∨ h.masked i then h
  else match h.power.link with
    | .pcie =>
      if h.power.linkUp then
        let e := h.hif.msix.getD i {}
        { h with hif := { h.hif with lastMsi := some (e.addr, e.data), vecPend := h.hif.vecPend &&& ~~~ (BitVec.twoPow 64 i) } }
      else h
    | .qspi =>
      let m := h.hif.irqMap.getD i 0
      if h.hif.irqPulse ∧ 8 ≤ m then { h with hif := { h.hif with pulses := h.hif.pulses.modifyNat (m % 8) (· + 1) } } else h

/-- The level on IRQ_N line `l` in level mode (R470): asserted while a vector routed to it is pending and unmasked. -/
def irqLand (h : HostDie) (l : Nat) : Bool :=
  h.power.link == .qspi && !h.hif.irqPulse &&
    (List.range 64).any fun i => h.hif.vecPend.getLsbD i && !h.masked i && h.hif.irqMap.getD i 0 == 8 + l

/-- Vectors whose mask a write lifted are signalled (R470). -/
def signalLifted (h : HostDie) (old : BitVec 64) : HostDie :=
  (List.range 64).foldl (fun h i => if old.getLsbD i ∧ ¬ h.hif.vecMask.getLsbD i then h.signal i else h) h

/-- The SQ_TAIL doorbell (R461, R462, R465). -/
def sqTail (h : HostDie) (i : Nat) (w : Word) : HostDie :=
  let x := h.q i
  let t := bits 15 0 w
  if ¬ x.en ∨ x.error then h
  else if 2 ^ x.sqLog2 ≤ t then h.queueError i 1
  else h.modQ i (fun x => { x with sqTail := t })

/-- The CQ_HEAD doorbell (R463, R465). -/
def cqHead (h : HostDie) (i : Nat) (w : Word) : HostDie :=
  let x := h.q i
  let t := bits 15 0 w
  if ¬ x.en ∨ x.error then h
  else if 2 ^ x.cqLog2 ≤ t then h.queueError i 1
  else h.modQ i (fun x => { x with cqHead := t })

/-- A doorbell write by its window offset. -/
def doorbell (h : HostDie) (off : Nat) (w : Word) : HostDie :=
  if (off - 0x3000) / 4 % 2 = 0 then h.sqTail ((off - 0x3000) / 8) w else h.cqHead ((off - 0x3000) / 8) w

/-- A write of QCFG of queue `i`; a base out of range puts the queue in ERROR at once (R461, R465). -/
def writeQcfg (h : HostDie) (i : Nat) (w : Word) : HostDie :=
  let h' := h.modQ i (fun x => x.writeCfg h.ringsOk w)
  if (h'.q i).error ∧ ¬ (h.q i).error then h'.vector i else h'

/-- A write of HIF_CTRL (Table 18-4). -/
def writeCtrl (h : HostDie) (w : Word) : HostDie :=
  { h with hif := { h.hif with
      evqEn := w.getLsbD 1, mboxEn := w.getLsbD 0
      irqPulse := if h.hif.lock then h.hif.irqPulse else w.getLsbD 2
      lock := h.hif.lock || w.getLsbD 31 } }

/-- A write of EVQ_HEAD, taken modulo the ring size. -/
def writeEvqHead (h : HostDie) (w : Word) : HostDie :=
  { h with hif := { h.hif with evqHead := bits 15 0 w % 2 ^ h.hif.evqLog2 } }

/-- W1C of VEC_PEND. -/
def clearPend (h : HostDie) (high : Bool) (w : Word) : HostDie :=
  { h with hif := { h.hif with vecPend := h.hif.vecPend &&& ~~~ (BitVec.ofNat 64 (w.toNat * if high then 2 ^ 32 else 1)) } }

/-- A write to a host register at a window offset (Table 18-2). RO registers and offsets that are not listed ignore it. -/
def regWrite (h : HostDie) (off : Nat) (w : Word) : HostDie :=
  if 0x1000 ≤ off ∧ off < 0x1400 then
    let i := (off - 0x1000) / 0x20
    let r := off % 0x20
    if r = 0 then h.writeQcfg i w
    else if (h.q i).en then h
    else if r = 0x04 then h.modQ i (fun x => { x with sqBase := putHalf x.sqBase false (w &&& 0xFFFFFFC0) })
    else if r = 0x08 then h.modQ i (fun x => { x with sqBase := putHalf x.sqBase true w })
    else if r = 0x0C then h.modQ i (fun x => { x with cqBase := putHalf x.cqBase false (w &&& 0xFFFFFFF0) })
    else if r = 0x10 then h.modQ i (fun x => { x with cqBase := putHalf x.cqBase true w })
    else h
  else if 0x2000 ≤ off ∧ off < 0x2400 then
    match h.power.link with
    | .qspi => h
    | .pcie =>
      let i := (off - 0x2000) / 16
      let set (g : MsixEntry → MsixEntry) : HostDie := { h with hif := { h.hif with msix := h.hif.msix.modifyNat i g } }
      match off % 16 with
      | 0 => set (fun e => { e with addr := putHalf e.addr false w })
      | 4 => set (fun e => { e with addr := putHalf e.addr true w })
      | 8 => set (fun e => { e with data := w })
      | _ => (set (fun e => { e with masked := w.getLsbD 0 })).signal i
  else if 0x3000 ≤ off ∧ off < 0x3100 then h.doorbell off w
  else if 0x0080 ≤ off ∧ off < 0x00A0 then
    if h.hif.lock then h
    else { h with hif := { h.hif with irqMap := h.hif.irqMap.mapIdx (fun i m =>
      if i / 8 = (off - 0x80) / 4 then bits (4 * (i % 8) + 3) (4 * (i % 8)) w else m) } }
  else match off with
    | 0x0020 => h.writeCtrl w
    | 0x0040 => { h with hif := { h.hif with evqBase := putHalf h.hif.evqBase false (w &&& 0xFFFFFFF0) } }
    | 0x0044 => { h with hif := { h.hif with evqBase := putHalf h.hif.evqBase true w } }
    | 0x0048 => { h with hif := { h.hif with
        ovf := h.hif.ovf && !w.getLsbD 31
        evqLog2 := if ¬ h.hif.evqEn ∧ 6 ≤ bits 19 16 w then bits 19 16 w else h.hif.evqLog2 } }
    | 0x0050 => h.writeEvqHead w
    | 0x0060 => { h with hif := { h.hif with vecEn := BitVec.ofNat 64 (putHalf h.hif.vecEn.toNat false w) } }
    | 0x0064 => { h with hif := { h.hif with vecEn := BitVec.ofNat 64 (putHalf h.hif.vecEn.toNat true w) } }
    | 0x0068 => h.clearPend false w
    | 0x006C => h.clearPend true w
    | 0x0070 => match h.power.link with
      | .pcie => h
      | .qspi => { h with hif := { h.hif with vecMask := BitVec.ofNat 64 (putHalf h.hif.vecMask.toNat false w) } }.signalLifted h.hif.vecMask
    | 0x0074 => match h.power.link with
      | .pcie => h
      | .qspi => { h with hif := { h.hif with vecMask := BitVec.ofNat 64 (putHalf h.hif.vecMask.toNat true w) } }.signalLifted h.hif.vecMask
    | _ => h

/-- How many of the four bytes from `a` up lie in the shared area (R458). -/
def areaBytes (a : Nat) : Nat := if 0x080000 ≤ a then min 4 (0x140000 - a) else 0

/-- A word of the QSPI window read (R458). An offset between two registers is none of the map, and reads 0 (R460; log entry 5). -/
def windowRead (v : Variant) (h : HostDie) (a : Nat) : Word × HostDie :=
  if a < 0x010000 then (if a % 4 = 0 then h.regRead v a else (0, h))
  else (BitVec.ofNat 32 (ofLe (memReadAll h.hif.mem a (areaBytes a))), h)

/-- A word of the QSPI window written (R458); a doorbell waits for CS_N (R459). -/
def windowWrite (h : HostDie) (a : Nat) (w : Word) : HostDie :=
  if a < 0x010000 then
    if a % 4 ≠ 0 then h
    else if 0x3000 ≤ a ∧ a < 0x3100 then { h with hif := { h.hif with doorbells := h.hif.doorbells ++ [(a, w)] } }
    else h.regWrite a w
  else { h with hif := { h.hif with mem := memWriteAll h.hif.mem a ((leBytes 4 w.toNat).take (areaBytes a)) } }

/-- CS_N rises: the doorbells written in the transaction take effect, in order. -/
def csRise (h : HostDie) : HostDie :=
  h.hif.doorbells.foldl (fun h d => h.doorbell d.1 d.2) { h with hif := { h.hif with doorbells := [] } }

/-- `n` words read from a window address up, one access each (R457, R459). -/
def burstRead (v : Variant) : Nat → Nat → HostDie → List Word × HostDie
  | _, 0, h => ([], h)
  | a, n + 1, h =>
    let (w, h1) := h.windowRead v a
    let (ws, h2) := burstRead v (a + 4) n h1
    (w :: ws, h2)

/-- Words written from a window address up. -/
def burstWrite : Nat → List Word → HostDie → HostDie
  | _, [], h => h
  | a, w :: ws, h => burstWrite (a + 4) ws (h.windowWrite a w)

/-- The byte of the two-wire target window at a pointer, and the die after the read (20 Table 20-3): the first byte of a host
register latches its word, and no RC field is cleared. -/
def targetByte (v : Variant) (h : HostDie) (b p : Nat) : Byte × HostDie :=
  if p < 0x0100 then
    let h := if p % 4 = 0 then
        let w := h.reg v p (b + 1)
        (h.latch p (b + 1)).onBus b (fun x => ({ x with latch := w }, []))
      else h
    (BitVec.ofNat 8 ((h.mb.getD b {}).latch.toNat / 256 ^ (p % 4)), h)
  else if 0x0800 ≤ p ∧ p < 0x1000 then (memRead h.area (p - 0x0800), h)
  else (0, h)

/-- `n` bytes read by the other end, the pointer moving on and wrapping (20 R509). -/
def targetRead (v : Variant) (b : Nat) : Nat → HostDie → List Byte × HostDie
  | 0, h => ([], h)
  | n + 1, h =>
    let p := (h.mb.getD b {}).pointer
    let (x, h1) := h.targetByte v b p
    let h2 := h1.onBus b (fun y => ({ y with pointer := (p + 1) % 2 ^ 16 }, []))
    let (xs, h3) := targetRead v b n h2
    (x :: xs, h3)

/-- The queue's next completion meets the ring (R463, R465): written with the present phase, dropped by a queue that is off or
in ERROR, and left to wait while the ring has no room. -/
def writeCompletion (h : HostDie) (i : Nat) (ok : Bool) : HostDie :=
  let x := h.q i
  match x.waiting with
  | [] => h
  | c :: rest =>
    if ¬ x.en ∨ x.error ∨ (h.power.link = .pcie ∧ ¬ h.power.linkUp) then
      -- a PEER completion waits until its queue is enabled (R473)
      h.modQ i (fun x => { x with
        waiting := x.waiting.eraseP (fun (c : Completion) => !c.peer)
        qcnt := match x.waiting.find? (fun (c : Completion) => !c.peer) with
          | some c => if c.held then x.qcnt else x.qcnt - 1
          | none => x.qcnt })
    else if ¬ x.room then h
    else if ¬ ok then (h.modQ i (fun x => { x with waiting := rest, qcnt := x.qcnt - 1 })).queueError i 3
    else
      let h := { h with hif := { h.hif with mem := memWriteAll h.hif.mem (x.cqBase + 16 * x.cqTail) (c.bytes x.phase) } }
      let t := (x.cqTail + 1) % 2 ^ x.cqLog2
      (h.modQ i (fun x => { x with
        waiting := rest, qcnt := if c.held ∨ c.peer then x.qcnt else x.qcnt - 1, cqTail := t, phase := if t = 0 then !x.phase else x.phase })).vector i

/-- Held completions of a queue go before its others, once MBOX_EN and the queue are set again (R466). -/
def bringHeld (h : HostDie) (queue : Fin 32) : HostDie :=
  let mine := h.held.filter (fun c => c.queue == queue)
  if ¬ h.hif.mboxEn ∨ ¬ (h.q queue).en ∨ mine.isEmpty then h
  else { h with held := h.held.filter (fun c => c.queue != queue) }.modQ queue (fun x =>
    { x with waiting := mine.map (fun (c : Completion) => { c with held := true }) ++ x.waiting })

/-- The host-executed commands in progress end without a completion, whatever they wait for (R456). -/
def silence (h : HostDie) : HostDie :=
  let still (r : Request) : Request := { r with silent := true }
  let job : TwJob → TwJob
    | .xfer r => .xfer (still r)
    | .setBus r => .setBus (still r)
    | j => j
  let op : NandOp → NandOp
    | .config (some r) => .config (some (still r))
    | .staging r => .staging (still r)
    | o => o
  { h with
    rech := { h.rech with flushCmds := h.rech.flushCmds.map still, clearCmds := h.rech.clearCmds.map still }
    stor := { h.stor with scrubCmds := h.stor.scrubCmds.map still, updCmds := h.stor.updCmds.map still, ops := h.stor.ops.map op, current := h.stor.current.map op }
    mb := h.mb.map (fun b => { b with queue := b.queue.map job, job := b.job.map job })
    blk := h.blk.map (fun b => { b with op := b.op.map (fun (o : BlkOp) => { o with waits := o.waits.map still }) }) }

end HostDie

/-- Every opcode of Table 19-1. -/
def opcodes : List Nat :=
  [0x0001, 0x0002, 0x0003, 0x0004, 0x0005, 0x1001, 0x1002, 0x1010, 0x1011, 0x2001, 0x2002, 0x2003, 0x2004, 0x2005, 0x2010, 0x2011,
   0x2012, 0x3001, 0x3002, 0x3003, 0x3004, 0x3005, 0x3010, 0x3011, 0x3012, 0x3013, 0x3020, 0x3021, 0x3022, 0x3801, 0x3802, 0x3803,
   0x3804, 0x3810, 0x3811, 0x4001, 0x4002, 0x4003, 0x4004, 0x4010, 0x4011, 0x5001, 0x5002, 0x5003, 0x5004, 0x5005, 0x5006] ++
  [0x5010, 0x5011, 0x6001, 0x6002, 0x6003, 0x6004, 0x6005, 0x6006, 0x6007, 0x6008, 0x6010, 0x6011, 0x6012, 0x7001, 0x7002, 0x7003,
   0x7004, 0x7005, 0x7006, 0x7010, 0x8001, 0x8002, 0x8003, 0x8004, 0x8005, 0x8006, 0x9001, 0x9002, 0x9003, 0x9004, 0x9005, 0x9010,
   0x9011, 0x9012, 0x9013, 0x9014, 0x9020, 0x9021, 0x9022, 0x9023] ++
  [0xA001, 0xA002, 0xA003, 0xA004, 0xA005, 0xA006, 0xA007, 0xA008, 0xA010, 0xA011, 0xB001, 0xB002, 0xB003, 0xB004, 0xB005, 0xB006,
   0xB007, 0xB010, 0xC001, 0xC002, 0xC010, 0xC011, 0xC012, 0xD001, 0xD002, 0xD003, 0xD010, 0xE001, 0xE002, 0xE010]

namespace Machine

/-- A read of the host interface whose words go to the reader; a host side that is off or asleep answers nothing (02 R60). -/
def State.hostRead (g : Variant → HostDie → List Word × HostDie) (s : State) : State :=
  if ¬ s.chip.host.listens then s
  else
    let (ws, h) := g s.chip.variant s.chip.host
    { s with chip := { s.chip with host := h, readData := ws } }

/-- An access of the host interface, which a host side that is off or asleep does not take (02 R60). -/
def State.hostAccess (g : HostDie → HostDie) (s : State) : State := if s.chip.host.listens then s.onHost g else s

/-- A transaction of the QSPI target, served only when QSPI is the selected link (R454). -/
def qspiRead (addr words : Nat) (s : State) : Out :=
  match s.chip.host.power.link with
  | .pcie => .next s
  | .qspi => .next (s.hostRead (fun v h => h.burstRead v addr words))

/-- As `qspiRead`, for a write; its doorbells take effect when CS_N rises. -/
def qspiWrite (addr : Nat) (data : List Word) (s : State) : Out :=
  match s.chip.host.power.link with
  | .pcie => .next s
  | .qspi => .next (s.hostAccess (fun h => (h.burstWrite addr data).csRise))

/-- QSPI_READ (R457, 1-1-1). -/
def execQspiRead (addr words : Nat) (s : State) : Out := qspiRead addr words s

/-- QSPI_QREAD (R457, 1-4-4). -/
def execQspiQread (addr words : Nat) (s : State) : Out := qspiRead addr words s

/-- QSPI_WRITE (R457, 1-1-1). -/
def execQspiWrite (addr : Nat) (data : List Word) (s : State) : Out := qspiWrite addr data s

/-- QSPI_QWRITE (R457, 1-4-4). -/
def execQspiQwrite (addr : Nat) (data : List Word) (s : State) : Out := qspiWrite addr data s

/-- QSPI_BAD_INSTRUCTION (R459): an instruction of Table 18-1 is none; any other is ignored and raises HIF_ERR code 3. -/
def execQspiBadInstruction (instruction : BitVec 8) (s : State) : Out :=
  .next (s.hostAccess (fun h =>
    if h.power.link = .qspi ∧ instruction ∉ [0x0B, 0xEB, 0x02, 0x38] then h.raise 6 3 else h))

/-- QSPI_CS_ABORT (R459): the words already complete stand, the broken one is discarded. -/
def execQspiCsAbort (addr : Nat) (data : List Word) (write : Bool) (s : State) : Out :=
  if write then qspiWrite addr data s else qspiRead addr data.length s

/-- PCIE_LINK_DOWN (R456): queues stop fetching, completions of commands already forwarded are discarded, HIF_ERR code 1. -/
def execPcieLinkDown (s : State) : Out :=
  .next (s.hostAccess (fun h =>
    match h.power.link with
    | .qspi => h
    | .pcie => { h with power := { h.power with linkUp := false } }.raise 6 1))

/-- PCIE_AER_ERROR (R456): one transfer alone, HIF_ERR code 2. -/
def execPcieAerError (s : State) : Out :=
  .next (s.hostAccess (fun h => match h.power.link with | .qspi => h | .pcie => h.raise 6 2))

/-- PCIE_FLR (R456): PCIE and MBOX reset, every QCFG.EN clears, host-executed commands in progress end without a completion,
and what was forwarded goes on. HIF_CTRL.LOCK stands until a reset of region H (Table 18-4). -/
def execPcieFlr (s : State) : Out :=
  .next (s.hostAccess (fun h =>
    match h.power.link with
    | .qspi => h
    | .pcie =>
      let reset (b : Blk) : Blk := { b with lastOp := 1, resetCnt := satN 16 (b.resetCnt + 1) }
      let h := ((h.modBlk 1 reset).modBlk 3 reset).silence
      { h with
        power := { h.power with linkUp := true }
        hif := { h.hif with
          queues := h.hif.queues.map (fun q => { q with en := false, error := false, errCode := 0, waiting := [], qcnt := 0 })
          check := [], ready := [], lost := 0, msix := Tab.fill 64 {}, functionMask := false } }))

/-- SQ_TAIL_DOORBELL (R462). -/
def execSqTailDoorbell (queue : Fin 32) (v : Word) (s : State) : Out := .next (s.hostAccess (fun h => h.sqTail queue v))

/-- CQ_HEAD_DOORBELL (R463). -/
def execCqHeadDoorbell (queue : Fin 32) (v : Word) (s : State) : Out := .next (s.hostAccess (fun h => h.cqHead queue v))

/-- QCFG_WRITE (R461). -/
def execQcfgWrite (queue : Fin 32) (v : Word) (s : State) : Out := .next (s.hostAccess (fun h => h.writeQcfg queue v))

/-- HIF_CTRL_WRITE (R466, Table 18-4). -/
def execHifCtrlWrite (v : Word) (s : State) : Out := .next (s.hostAccess (fun h => h.writeCtrl v))

/-- EVQ_HEAD_WRITE (R468). -/
def execEvqHeadWrite (v : Word) (s : State) : Out := .next (s.hostAccess (fun h => h.writeEvqHead v))

/-- EVQ_CFG_READ (R460): LOST is returned and cleared. -/
def execEvqCfgRead (s : State) : Out :=
  .next (s.hostRead (fun v h => let (w, h) := h.regRead v 0x0048; ([w], h)))

/-- EVQ_OVF_CLEAR (R460). -/
def execEvqOvfClear (s : State) : Out := .next (s.hostAccess (fun h => { h with hif := { h.hif with ovf := false } }))

/-- VEC_PEND_CLEAR (R470). -/
def execVecPendClear (high : Bool) (v : Word) (s : State) : Out := .next (s.hostAccess (fun h => h.clearPend high v))

/-- MSIX_UNMASK (R470): the vector's entry is unmasked, and a pending message is sent. -/
def execMsixUnmask (vec : Fin 64) (s : State) : Out :=
  .next (s.hostAccess (fun h =>
    match h.power.link with
    | .qspi => h
    | .pcie => ({ h with hif := { h.hif with msix := h.hif.msix.modify vec (fun e => { e with masked := false }) } }).signal vec))

/-- VECTOR_SIGNAL (R470). -/
def execVectorSignal (vec : Fin 64) (s : State) : Out := .next (s.hostAccess (fun h => h.signal vec))

/-- COMPLETION_WRITE (R463): held completions of the queue come first (R466). -/
def execCompletionWrite (queue : Fin 32) (ok : Bool) (s : State) : Out :=
  .next (s.hostAccess (fun h => (h.bringHeld queue).writeCompletion queue ok))

/-- HELD_COMPLETION_WRITE (R466): once MBOX_EN and the queue are set again, its held completions come before any other. -/
def execHeldCompletionWrite (queue : Fin 32) (s : State) : Out :=
  .next (s.hostAccess (fun h => h.bringHeld queue))

/-- HELD_COMPLETION_DISCARD (R466): 10 s after the host heartbeat returned. -/
def execHeldCompletionDiscard (s : State) : Out :=
  .next (s.onHost (fun h =>
    match h.heldSince with
    | some t => if 400000 ≤ h.htb - t then { h with held := [] } else h
    | none => h))

/-- AUTH_LOCKOUT_END (R475): 1 s after the sixteenth failure in a row. -/
def execAuthLockoutEnd (s : State) : Out :=
  .next (s.onHost (fun h => if h.sec.lockout ∧ 40000 ≤ h.htb - h.sec.lockedAt then { h with sec := { h.sec with lockout := false, failures := 0 } } else h))

/-- UNDEFINED_OPCODE (R476): a command whose opcode Table 19-1 does not list. -/
def execUndefinedOpcode (r : Request) (s : State) : Out :=
  .next (s.hostAccess (fun h => if opcodes.contains r.opcode then h else h.complete r .badOpcode))

/-- HTB_LO_READ (03 R84). -/
def execHtbLoRead (s : State) : Out := .next (s.hostRead (fun v h => let (w, h) := h.regRead v 0x0018; ([w], h)))

/-- AUTH_NONCE_READ (03 R83). -/
def execAuthNonceRead (s : State) : Out := .next (s.hostRead (fun v h => let (w, h) := h.regRead v 0x0028; ([w], h)))

/-- MODE_STATUS_READ (02 Table 02-1): a read through the host interface clears HOST_LOST. -/
def execModeStatusRead (s : State) : Out := .next (s.hostRead (fun v h => let (w, h) := h.regRead v 0x000C; ([w], h)))

/-- TW_TARGET_STOP (20 R509, R514): the STOP of a read; the bytes read and the pointer after them. -/
def execTwTargetStop (bus : Fin 2) (bytesRead : Nat) (s : State) : Out :=
  .next (
    let x := s.chip.host.mb.getD bus {}
    let (bs, h) := if x.tgtAct ∧ x.tgtRead then s.chip.host.targetRead s.chip.variant bus bytesRead else ([], s.chip.host)
    { s with chip := { s.chip with
      readData := bs.map (fun b => b.setWidth 32)
      host := h.onBus bus (fun y => ({ y with tgtAct := false, busy := y.ctrlAct }, [])) } })

end Machine

end Sys2Proof
end

