-- ==== Sys2Proof/Machine/Twin.lean ====
section
/-! DEFINITION. Twin operation (14_twin_operation R353 to R385): roles, the link, in-step execution, joining, takeover, handover, revert,
DRILL, the TWIN registers and group 0x70. What the input frame delivers is in Frames.lean. -/

namespace Sys2Proof

namespace PeerBeat

/-- Whether a bit of the health word of the peer is set (Table 14-16). -/
def health1 (b : PeerBeat) (i : Nat) : Bool := b.health.getLsbD i

/-- FW_MAJOR and FW_MINOR of the peer (CAP1). -/
def fw (b : PeerBeat) : Nat := bits 31 16 b.cap1

/-- HF_FORMAT of the peer. -/
def hf (b : PeerBeat) : Nat := bits 7 0 b.cap1

/-- The 24 bytes of a HEARTBEAT (Table 14-16). -/
def payload (b : PeerBeat) : List Byte :=
  leBytes 4 b.tb ++ leBytes 2 b.epoch ++ leBytes 1 (16 * b.role + b.state) ++ leBytes 1 (bit b.twinB) ++ leBytes 1 b.part ++ leBytes 3 0
    ++ leBytes 4 b.cap1.toNat ++ leBytes 4 b.health.toNat ++ leBytes 4 0

end PeerBeat

/-- The 24 bytes of a ROLE message (R360): the message's code and what it carries. -/
def RoleMsg.payload (code : Nat) (m : RoleMsg) : List Byte :=
  leBytes 1 code ++ leBytes 1 0 ++ leBytes 2 m.newEpoch ++ leBytes 8 m.stamp ++ leBytes 8 m.switchEdge ++ leBytes 4 0

/-- A packet of the twin link after its K28.5 (R359): class, length, payload, and the CRC-32C over them. -/
def twinPacket (cls : Nat) (payload : List Byte) : List Byte :=
  let body := leBytes 1 cls ++ leBytes 2 payload.length ++ payload
  body ++ leBytes 4 (crc32c body)

namespace FieldDie

/-- Twin state changed. -/
def modTwin (f : FieldDie) (g : Twin → Twin) : FieldDie := { f with twin := g f.twin }

/-- Handover state changed. -/
def modHand (f : FieldDie) (g : Handover → Handover) : FieldDie := { f with hand := g f.hand }

/-- LINK_UP (R359). -/
def linkUp (f : FieldDie) : Bool := f.twin.cfg.pairEn && f.twin.lanes.rows.all (·.up)

/-- Whether a property holds of the peer's last heartbeat. -/
def peerIs (f : FieldDie) (g : PeerBeat → Bool) : Bool := match f.twin.beat with | some b => g b | none => false

/-- Whether heartbeats arrive. -/
def beatFresh (f : FieldDie) : Bool := f.twin.beat.isSome && f.twin.missRun == 0

/-- HF_MATCH and PART_MATCH (Table 14-9). -/
def hfMatch (f : FieldDie) : Bool := f.peerIs fun b => b.hf == bits 7 0 cap1
def partMatch (v : Variant) (f : FieldDie) : Bool := f.peerIs fun b => b.part == v.partCode

/-- MIXED_VERSION (R382). -/
def mixed (f : FieldDie) : Bool := f.hfMatch && f.peerIs fun b => b.fw != bits 31 16 cap1

/-- The HOLD_UP and RIDE_THROUGH conditions (07 R183). -/
def holdUp (f : FieldDie) : Bool := f.power.cond.getLsbD 13
def rideThrough (f : FieldDie) : Bool := f.power.cond.getLsbD 12

/-- REVERT_HOLD (R379): versions differ, twin A reports LATENT, or SET_REVERT holds it. -/
def revertHold (f : FieldDie) : Bool :=
  f.mixed || f.hand.hold || (if f.twin.twinB then f.peerIs (·.health1 6) else f.twin.latent)

/-- TWIN_STATUS.STATE (Table 14-9). -/
def twinState (f : FieldDie) : Nat :=
  let t := f.twin
  if f.power.winter then 6
  else if t.role = 0 then 1
  else if t.role = 2 then (if t.cfg.pairEn then 2 else 0)
  else if t.inStep then 5
  else if t.join ≠ 0 then 4 else 3

/-- A role change is reported (R378). -/
def roleVector (f : FieldDie) : FieldDie := f.vector 34

/-- The device asserts ACTIVE_N at this edge (R355, R372): the pull-ups go on (09 R224), and it sends the marks of the edge (05 R130). -/
def assertActive (v : Variant) (f : FieldDie) : FieldDie :=
  ((f.modTwin (fun t => { t with role := 2, activeN := true, sampling := true })).pullups v).markLate v

/-- The device takes the active role without in-step state (R358, R371, R383): every module is COLD (10 R279). -/
def takeRole (v : Variant) (f : FieldDie) : FieldDie :=
  ((f.modTwin (fun t => { t with join := 0, inStep := false, twinned := false })).assertActive v).coldAll v

/-- The pair goes out of step on this device. -/
def outOfStep (f : FieldDie) : FieldDie :=
  f.modTwin (fun t => { t with inStep := false, twinned := false, join := 0, parts := [], diffRun := 0, leftAt := f.tick.tb })

/-- A standby leaves step (R366). -/
def leaveStep (f : FieldDie) : FieldDie :=
  if f.isStandby ∧ f.twin.inStep then (f.outOfStep.raise 228 1).vector 34 else f

/-- The device becomes a standby that is not in step, its ACTIVE_N released. -/
def toStandbyOut (f : FieldDie) : FieldDie :=
  f.outOfStep.releaseActive.modTwin (fun t => { t with role := 1, tookOver := false })

/-- A join starts (R369). -/
def joinBegin (f : FieldDie) : FieldDie :=
  f.modTwin (fun t => { t with
    join := 1, joinTicks := 0, joinBeats := 0, joinDigests := 0, parts := [], joinTimes := t.joinTimes ++ [f.tick.tb] })

/-- A failed condition ends the join (R369, R370): after the third failed attempt in 3,600 s no automatic join follows. -/
def joinFail (f : FieldDie) : FieldDie :=
  let t := f.twin
  let f := f.modTwin (fun t => { t with join := 0, parts := [], leftAt := f.tick.tb })
  if 3 ≤ (t.joinTimes.filter (fun x => decide (f.tick.tb < x + 144000000))).length ∧ ¬ t.noAuto then
    (f.modTwin (fun t => { t with noAuto := true })).raise 228 2
  else f

/-- The commands JOIN that wait complete. -/
def joinDone (f : FieldDie) (st : Status) (pick : Nat → Bool) : FieldDie :=
  let due := f.twin.joinReqs.filter (fun x => pick x.1)
  let f := f.modTwin (fun t => { t with joinReqs := t.joinReqs.filter (fun x => !pick x.1) })
  due.foldl (fun f x => f.complete x.2 st) f

/-- ROLE_DECISION (R357, R358, Table 14-1). -/
def roleDecision (v : Variant) (f : FieldDie) : FieldDie :=
  let t := f.twin
  let ok := f.cfg.loaded
  let standby (f : FieldDie) : FieldDie := f.modTwin (fun t => { t with role := 1, leftAt := f.tick.tb })
  if t.role ≠ 0 ∨ ¬ f.running ∨ f.power.winter then f
  else if ¬ t.cfg.pairEn then
    if t.peerActive then (if t.linkTold then f else (f.modTwin (fun t => { t with linkTold := true })).raise 226 1)
    else if ok then takeRole v f else f
  else if t.peerActive then
    if f.linkUp then (standby f).joinBegin else (standby f).raise 225 2
  else if f.beatFresh ∧ f.peerIs (·.role == 1) then (standby f).joinBegin
  else if f.beatFresh ∧ ok ∧ f.peerIs (·.health1 5) then takeRole v f
  else if f.beatFresh ∧ ok ∧ ¬ t.twinB ∧ f.peerIs (·.role == 0) then takeRole v f
  else if ¬ f.beatFresh ∧ ok ∧ 400 * t.cfg.roleWait ≤ t.waitTicks then takeRole v f
  else f

/-- The TB of a heartbeat of the peer: the difference that an adoption would make (03 R80), its higher part kept where it agrees. -/
def peerTb (f : FieldDie) (tb : Nat) : FieldDie :=
  let now : Int := f.tick.tb
  if (now + f.twin.tbDelta).toNat % 2 ^ 32 = tb % 2 ^ 32 then f
  else f.modTwin (fun t => { t with tbDelta := sext 32 (enc 32 (tb - now)) })

/-- TWIN_HEARTBEAT_RX (R360, R369, R366, R382); two parts of different PART_CODE never work in step (00 R11). -/
def heartbeat (v : Variant) (f : FieldDie) (b : PeerBeat) : FieldDie :=
  if ¬ f.twin.cfg.pairEn ∨ ¬ f.running then f
  else
    let was := f.twin.inStep
    let f := (f.modTwin (fun t => { t with
      hbSeen := true, missRun := 0, waitTicks := 0, beat := some b, joinBeats := t.joinBeats + 1
      gaveUp := t.gaveUp && b.role != 1 })).peerTb b.tb
    let f := if f.mixed ∧ ¬ f.twin.mixedTold then (f.modTwin (fun t => { t with mixedTold := true })).raise 234 1
      else f.modTwin (fun t => { t with mixedTold := f.mixed })
    if f.isActive ∧ b.state = 5 ∧ b.part = v.partCode ∧ ¬ was then
      ((f.modTwin (fun t => { t with inStep := true, twinned := true, diffRun := 0 })).raise 229 1).vector 34
    else if f.isActive ∧ (b.state ≠ 5 ∨ b.part ≠ v.partCode) then f.modTwin (fun t => { t with inStep := false, twinned := false })
    else f

/-- The handover, or the DRILL's round trip, has ended without a switch: the DRILL fails (R381). -/
def drillWord (f : FieldDie) : Word :=
  let h := f.hand
  pack [(24, h.tbusFail), (23, bit h.portFail), (22, bit h.readbackFail), (21, bit h.roundFail), (0, h.drills)]

/-- A failure of the DRILL is raised (R380): its value is DRILL_STAT [31:21]. -/
def drillFailed (f : FieldDie) (g : Handover → Handover) : FieldDie :=
  let f := f.modHand (fun h => { g h with drillFail := true })
  f.raise 231 1 (bits 31 21 f.drillWord)

/-- The DRILL ends (R380, R381). -/
def drillEnd (f : FieldDie) (st : Status) : FieldDie :=
  let r := f.hand.drillReq
  let f := f.modHand (fun h => { h with drillOn := false, drillReq := none, drillBack := false, drills := satN 16 (h.drills + 1) })
  match r with
  | some r => f.complete r st f.drillWord.toNat
  | none => f

/-- PREPARE is sent (R376, Table 14-6). -/
def handStart (f : FieldDie) (stamp : Nat) : FieldDie :=
  let tb := f.tick.tb
  let m : RoleMsg := { newEpoch := (f.twin.epoch + 1) % 65536, stamp := stamp, switchEdge := tb + 4 }
  f.modHand (fun h => { h with
    phase := 1, stamp := stamp, newEpoch := m.newEpoch, switchEdge := m.switchEdge, asking := true, acked := false, released := false
    tries := 0, condFrom := some (tb + 1), out := some (1, m) })

/-- The request with the lowest stamp that waits (R375). -/
def handNext (f : FieldDie) : FieldDie :=
  match f.hand.wait.map (·.1) with
  | [] => f
  | x :: xs => if f.isActive then f.handStart (xs.foldl min x) else f

/-- A handover has ended (R375, R377, R378): requests with its stamp complete alike, later ones with STALE_ROLE after a switch; after any
other end the next one in stamp order runs. -/
def handEnd (f : FieldDie) (outcome : Nat) (st : Status) (moved : Bool) : FieldDie :=
  let h := f.hand
  let mine := h.wait.filter (fun x => x.1 == h.stamp || moved)
  let rest := h.wait.filter (fun x => !(x.1 == h.stamp || moved))
  let f := f.modHand (fun h => { h with
    phase := if outcome = 1 then 5 else 0, outcome := outcome, wait := rest, asking := false, out := none, lastStamp := some h.stamp
    handovers := if outcome = 1 then satN 16 (h.handovers + 1) else h.handovers
    cond := h.cond && outcome == 1, condFrom := none })
  let f := mine.foldl (fun f x => match x.2 with
    | some r => if x.1 = h.stamp then f.complete r st (if st = .ok then f.twin.epoch else 0) else f.complete r .staleRole
    | none => f) f
  let f := if h.drillOn ∧ h.drillKind = 1 ∧ outcome ≠ 1 then (f.drillFailed (fun h => { h with roundFail := true })).drillEnd .aborted else f
  if moved then f else f.handNext

/-- The active device has given the role away at the switch edge (R376). -/
def handGave (f : FieldDie) : FieldDie :=
  let f := f.releaseActive.modTwin (fun t => { t with
    role := 1, tookOver := false, epoch := f.hand.newEpoch, leftAt := f.tick.tb })
  let f := (f.handEnd 1 .ok true).roleVector
  if f.hand.drillOn ∧ f.hand.drillKind = 1 then f.modHand (fun h => { h with drillAt := f.tick.tb }) else f

/-- The standby has taken the role at the switch edge (R376): a DRILL that began here has come back. -/
def handTook (v : Variant) (f : FieldDie) : FieldDie :=
  let f := (f.modTwin (fun t => { t with peerActive := false })).assertActive v
  let f := (f.handEnd 1 .ok true).roleVector
  if f.hand.drillOn ∧ f.hand.drillBack then f.drillEnd .ok else f

/-- HANDOVER_SWITCH_EDGE (R376 to R378); a device in WINTER takes no part (02 R69). -/
def switchEdge (v : Variant) (f : FieldDie) (peerReleased : Bool) : FieldDie :=
  let h := f.hand
  if h.phase = 0 ∨ h.phase = 5 ∨ f.tick.tb < h.switchEdge ∨ f.power.winter then f
  else if h.asking then (if h.acked then f.handGave else f.handEnd 2 .aborted false)
  else if h.phase ≠ 4 then f.handEnd 2 .aborted false
  else if 3 ≤ h.tries then f
  else
    let f := f.modTwin (fun t => { t with epoch := h.newEpoch })
    if peerReleased then f.handTook v
    else (f.modTwin (fun t => { t with peerActive := true })).modHand (fun h => { h with tries := h.tries + 1 })

/-- A role message of the phases (R376). -/
def roleMsg (f : FieldDie) (code : Nat) (m : RoleMsg) : FieldDie :=
  let h := f.hand
  let paired := f.running && f.twin.cfg.pairEn && !f.power.winter
  let mine : Bool := m.stamp == h.stamp && m.newEpoch == h.newEpoch
  match code with
  | 1 =>
    if ¬ f.running ∨ ¬ f.twin.cfg.pairEn ∨ ¬ f.isStandby then f
    else if ¬ f.twin.inStep ∨ (f.twin.twinB ∧ ¬ f.tick.locked) ∨ f.power.winter then
      ((f.modHand (fun h => { h with stamp := m.stamp })).handEnd 3 .wrongMode false).modHand (fun h => { h with out := some (3, m) })
    else f.modHand (fun h => { h with
      phase := 2, stamp := m.stamp, newEpoch := m.newEpoch, switchEdge := m.switchEdge, asking := false, acked := false, tries := 0
      condFrom := some (f.tick.tb + 1), out := some (2, m) })
  | 2 => if paired ∧ h.asking ∧ h.phase = 1 ∧ mine then f.modHand (fun h => { h with phase := 3, out := some (4, m) }) else f
  | 3 => if paired ∧ h.asking ∧ h.phase = 1 ∧ mine then f.handEnd 3 .wrongMode false else f
  | 4 => if paired ∧ ¬ h.asking ∧ h.phase = 2 ∧ mine then f.modHand (fun h => { h with phase := 4, out := some (5, m) }) else f
  | 5 => if paired ∧ h.asking ∧ h.phase = 3 ∧ mine then f.modHand (fun h => { h with phase := 4, acked := true }) else f
  | _ =>
    if ¬ paired ∨ ¬ f.isActive ∨ h.lastStamp = some m.stamp then f
    else
      let f := f.modHand (fun h => { h with wait := h.wait ++ [(m.stamp, none)] })
      if h.phase = 0 ∨ h.phase = 5 then f.handNext else f

/-- HANDOVER_RELEASE (R376, R383): at cycle 9,900 the active device releases ACTIVE_N, for a handover or for a COLD_SWAP. -/
def handRelease (f : FieldDie) : FieldDie :=
  match f.hand.cold with
  | some r =>
    let f := (f.toStandbyOut.modTwin (fun t => { t with gaveUp := true })).modHand (fun h => { h with cold := none })
    (f.complete r .ok).roleVector
  | none =>
    if f.hand.asking ∧ f.hand.acked ∧ f.hand.switchEdge = f.tick.tb + 1 then
      f.releaseActive.modHand (fun h => { h with released := true })
    else f

/-- Outputs at the edge at which a standby in step takes over (10 R278): frames cut short are repeated, and a hard reset that was not
yet declared is signalled afresh. -/
def resume (v : Variant) (f : FieldDie) : FieldDie :=
  (FieldDie.slots v).foldl (fun f k =>
    let p := (f.sl k).port
    let f := f.cutShort k
    if p.lowByUs ∧ p.line < 2 then f.modPort k (fun p => { p with lowByUs := false, resetWanted := true }) else f) f

/-- The kept completions of the last 400 ticks are written with PEER (18 R473). -/
def writeKept (f : FieldDie) : FieldDie :=
  let mine := f.twin.kept.filter (fun x => decide (f.tick.tb ≤ x.1 + 400))
  { f with
    twin := { f.twin with kept := [] }
    bar := { f.bar with completions := f.bar.completions ++ mine.map (fun x => { x.2 with peer := true }) } }

/-- A takeover (R371, R373): the role epoch increments, ACTIVE_N is asserted, and the device drives from this edge. -/
def takeover (v : Variant) (f : FieldDie) : FieldDie :=
  let followed := f.twin.inStep
  let f := if f.hand.phase = 0 ∨ f.hand.phase = 5 then f else f.handEnd 2 .aborted true
  let f := (f.modTwin (fun t => { t with epoch := (t.epoch + 1) % 65536, tookOver := true })).assertActive v
  let f := ((f.modHand (fun h => { h with takeovers := satN 8 (h.takeovers + 1) })).raise 224 1).vector 34
  let f := if followed then resume v (f.modTwin (fun t => { t with inStep := false, twinned := false, join := 0 })) else takeRole v f
  f.writeKept

/-- TWIN_TAKEOVER (R371, R383). -/
def twinTakeover (v : Variant) (f : FieldDie) : FieldDie :=
  let t := f.twin
  let cold : Bool := f.beatFresh && f.peerIs (·.role == 2) && !t.gaveUp
  if ¬ f.running ∨ ¬ t.cfg.pairEn ∨ ¬ f.isStandby ∨ f.power.winter ∨ ¬ (2 ≤ t.missRun ∨ (cold = true ∧ ¬ t.peerActive)) then f
  else if t.peerActive then
    let f := if t.linkTold then f else (f.modTwin (fun t => { t with linkTold := true })).raise 225 2
    f.leaveStep
  else if ¬ f.cfg.loaded then f
  else takeover v f

/-- HEARTBEAT_MISSED (R360, R371, R374): no heartbeat in this tick by cycle 9,600. -/
def heartbeatMissed (f : FieldDie) : FieldDie :=
  if ¬ f.twin.cfg.pairEn ∨ ¬ f.running ∨ f.twin.hbSeen then f
  else f.modTwin (fun t => { t with hbMiss := satN 8 (t.hbMiss + 1), missRun := t.missRun + 1 })

/-- TWIN_PEER_LOST (R374, R377). -/
def peerLost (f : FieldDie) : FieldDie :=
  if f.isActive ∧ 2 ≤ f.twin.missRun ∧ (f.twin.inStep ∨ f.twin.twinned) then
    let f := ((f.modTwin (fun t => { t with inStep := false, twinned := false, diffRun := 0 })).raise 225 1).vector 34
    let f := if f.hand.asking ∧ ¬ f.hand.acked then f.handEnd 2 .aborted false else f
    if f.hand.drillOn then f.drillEnd .aborted else f
  else f

/-- PEER_ACTIVE_SAMPLE (R355). -/
def peerSample (f : FieldDie) (asserted : Bool) : FieldDie :=
  let was := f.twin.sampling
  let f := f.modTwin (fun t => { t with peerActive := asserted, sampling := false, linkTold := t.linkTold && asserted })
  if was ∧ asserted ∧ f.twin.twinB then f.toStandbyOut.raise 226 1 else f

/-- Whether SNAPSHOT or REPLAY has run out of time, or REPLAY has more frames to run than the standby stores, one for each tick (R369). -/
def joinLate (f : FieldDie) : Bool :=
  let t := f.twin
  (t.join == 4 || t.join == 5) && (decide (310 < t.joinTicks) || (t.join == 5 && decide (600 < t.snapTicks + t.joinTicks)))

/-- The end of a join step (R369, Table 14-4). -/
def joinStep (v : Variant) (f : FieldDie) (out : StepEnd) : FieldDie :=
  let t := f.twin
  let next (f : FieldDie) : FieldDie := f.modTwin (fun t => { t with join := t.join + 1, joinTicks := 0 })
  if ¬ f.isStandby ∨ t.join = 0 ∨ ¬ f.running then f
  else match out with
    | .failed => f.joinFail
    | .done =>
      match t.join with
      | 1 => if f.linkUp ∧ 40 ≤ t.joinBeats then next f else f
      | 2 =>
        if ¬ f.partMatch v then (f.joinFail).raise 232 1
        else if ¬ f.hfMatch then (f.joinFail).raise 232 2
        else if f.peerIs (fun b => b.role == 1 && !b.health1 0) then next f else f.joinFail
      | 3 =>
        if f.tick.locked ∨ ¬ t.twinB then next (f.modTwin (fun t => { t with adopt := true })) else f
      | 4 => if t.parts.contains 1 then next (f.modTwin (fun t => { t with snapTicks := t.joinTicks })) else f
      | 5 => next f
      | _ =>
        if t.joinDigests < 400 then f
        else
          let f := f.modTwin (fun t => { t with
            join := 0, inStep := true, twinned := true, diffRun := 0, epoch := match t.beat with | some b => b.epoch | none => t.epoch })
          ((f.raise 229 1).vector 34).joinDone .ok (fun _ => true)

/-- A part of the snapshot of the active device replaces what the standby holds (R369). -/
def applyPart (f : FieldDie) (p : StatePart) : FieldDie :=
  if f.twin.join ≠ 4 ∨ ¬ f.running then f
  else
    let f := p.slots.foldl (fun f x => f.modSl x.1 (fun _ => x.2)) f
    let f := p.branches.foldl (fun f x => f.modBr x.1 (fun y => { x.2 with latch := y.latch, on := y.on, fb := y.fb, cmp := y.cmp })) f
    let f := { f with
      disp := p.disp.getD f.disp, grid := p.grid.getD f.grid, cap := p.cap.getD f.cap, march := p.march.getD f.march
      brk := { p.brk.getD f.brk with testReq := f.brk.testReq }, bat := p.battery.getD f.bat, cfg := p.config.getD f.cfg
      tick := { f.tick with schedule := f.tick.schedule ++ p.schedule }
      fcol := { f.fcol with sources := p.sources.foldl (fun (t : Tab Source 256) (x : Fin 256 × Source) => t.modify x.1 (fun _ => x.2)) f.fcol.sources } }
    let ep := match f.twin.beat with | some b => b.epoch | none => f.twin.epoch
    f.modTwin (fun t => { t with parts := t.parts ++ [if p.last then 1 else 0], epoch := ep })

/-- A frame of a contract line as the digest covers it. -/
def frameNats (fr : CtFrame) : List Nat := [fr.type, fr.msgId, fr.epoch] ++ fr.terms.map (·.toNat)

/-- What the output record covers (R366). -/
def outputs (v : Variant) (f : FieldDie) : List Nat :=
  let g := { f with twin := { f.twin with twinB := false } }
  (List.range 8).flatMap (fun n => (g.downlink v n f.disp.blind).map (·.toNat))
    ++ f.branch.rows.flatMap (fun b => [b.state, bit b.shedOrder]) ++ [f.march.starts, f.march.lastUnit]
    ++ (List.range 8).flatMap (fun g => [bit (f.pfwWanted v g), bit (f.cap.thr.getD g false)])
    ++ f.slot.rows.flatMap (fun s => s.port.queue.flatMap frameNats) ++ [f.power.pendReset.getD 0, bit f.power.pendWinter.isSome]
    ++ f.power.pendIsolate.map (·.1) ++ f.power.pendBlocks.flatMap (fun x => [x.1, x.2.1, x.2.2])

/-- What the state record covers (R366): what COMMIT writes (06 R171) and the estimator bank. -/
def stateNats (f : FieldDie) : List Nat :=
  [enc 64 f.disp.integ, f.disp.vsetEff] ++ f.slot.rows.flatMap (fun s =>
    [enc 32 s.ctx.prev, enc 32 s.ctx.alloc, enc 32 s.ctx.pbase, s.bank.soc, s.bank.dsgLim, s.bank.chgLim, s.bank.res])

/-- DIGEST (R366). -/
def digest (v : Variant) (f : FieldDie) : BitVec 64 :=
  BitVec.ofNat 64 (crc32c (Config.outputRecord (f.outputs v)) * 2 ^ 32 + crc32c (Config.stateRecord f.stateNats))

/-- DIGEST_COMPARE (R366, R382): the peer's digest of this tick, once both are formed; a downlink that a standby heard otherwise than it computed it
is a difference too (05 R151). -/
def digestCompare (v : Variant) (f : FieldDie) : FieldDie :=
  match f.twin.peerDigest with
  | none => f
  | some d =>
    let f := f.modTwin (fun t => { t with peerDigest := none })
    if ¬ (f.twin.inStep ∨ f.twin.join = 6) then f
    else if d = f.digest v ∧ ¬ f.twin.heardDiff then f.modTwin (fun t => { t with diffRun := 0, joinDigests := t.joinDigests + bit (t.join == 6) })
    else
      let f := f.modTwin (fun t => { t with digMism := satN 16 (t.digMism + 1), joinDigests := 0 })
      if f.mixed ∨ ¬ f.twin.inStep then f
      else
        let f := (f.modTwin (fun t => { t with diffRun := t.diffRun + 1 })).raise 227 1
        if f.isStandby ∧ f.twin.cfg.divergeN ≤ f.twin.diffRun then f.leaveStep else f

/-- INPUT_SECTION_DEADLINE (R365): what the device heard itself serves the tick; with heartbeats the standby then leaves step. -/
def sectionMissed (f : FieldDie) (sec : Nat) : FieldDie :=
  if ¬ f.follows ∨ f.twin.sections.contains sec then f
  else
    let f := if sec ≠ 3 then f else (List.range 96).foldl (fun f k =>
      match (f.sl k).bus.heard with
      | some p => if (f.sl k).bus.got then f else f.uplinkGood k p
      | none => f) f
    if f.twin.missRun = 0 then (if f.twin.inStep then f.leaveStep else f.joinFail) else f

/-- Whether the count of REVERT_DLY runs (R379). -/
def reverting (f : FieldDie) : Bool :=
  f.twin.twinB && f.isActive && f.twin.inStep && f.twin.cfg.revertEn && !f.revertHold && !f.hand.drillOn
    && f.peerIs (fun b => !(b.health1 0 || b.health1 1 || b.health1 2 || b.health1 3 || b.health1 4 || b.health1 5 || b.health1 6))
    && !f.holdUp && !f.rideThrough && f.power.phase != .spring

/-- A lane over a tick (R359). -/
def laneTick (l : Lane) : Lane :=
  if l.hit then { l with hit := false, good := 0, bad := min 4 (l.bad + 1) } else { l with good := min 40 (l.good + 1), bad := 0 }

/-- What an edge does for the pair: an adopted TB, the HANDOVER condition, the counts of waits, lanes, the revert, kept completions, and the
JOIN commands that run out of time (R356, R376, R379, R385, 18 R473). -/
def twinEdge (f : FieldDie) : FieldDie :=
  let t := f.twin
  let f := if t.adopt then
      let tb := ((f.tick.tb : Int) + t.tbDelta).toNat
      ({ f with tick := { f.tick with tb := tb } }).modTwin (fun t => { t with adopt := false, tbDelta := 0 })
    else f
  let tb := f.tick.tb
  let f := f.modTwin (fun t => { t with
    hbSeen := false, sections := [], peerDigest := none, evq := t.evq - 2, waitTicks := t.waitTicks + 1
    joinTicks := if t.join = 0 then 0 else t.joinTicks + 1
    lanes := if t.cfg.pairEn then t.lanes.map laneTick else Tab.fill 2 {}
    kept := t.kept.filter (fun x => decide (tb ≤ x.1 + 400)) })
  let on := f.reverting
  let f := f.modHand (fun (h : Handover) =>
    let h : Handover := match h.condFrom with
      | some c => if c ≤ tb then { h with cond := true, condFrom := none } else h
      | none => h
    let h : Handover := if h.phase = 5 ∧ h.switchEdge < tb then { h with phase := 0, cond := false } else h
    { h with revTicks := if on then h.revTicks + 1 else 0 })
  let f := if f.joinLate then f.joinFail else f
  f.joinDone .timeout (fun at_ => decide (at_ + 40000 ≤ tb))

/-- TWIN_STATUS (Table 14-9); with PAIR_EN clear only STATE shows. -/
def twinStatus (v : Variant) (f : FieldDie) : Word :=
  let t := f.twin
  if ¬ t.cfg.pairEn then pack [(28, f.twinState)]
  else pack [(28, f.twinState), (27, bit t.twinB), (26, bit t.activeN), (25, bit t.peerActive), (24, bit f.linkUp), (23, bit t.inStep),
    (22, bit f.mixed), (21, bit f.revertHold), (20, bit t.latent), (19, bit f.hfMatch), (18, bit (f.partMatch v)),
    (17, bit (t.lanes.getD 1 {}).up), (16, bit (t.lanes.getD 0 {}).up), (0, match t.beat with | some b => b.fw | none => 0)]

/-- REVERT_LEFT (Table 14-13). -/
def revertLeft (f : FieldDie) : Nat :=
  if f.reverting then f.twin.cfg.revertDly - f.hand.revTicks / 40000 else 0xFFFFFFFF

/-- TWIN_CNT (Table 14-10). -/
def twinCnt (f : FieldDie) : Word := pack [(16, f.twin.digMism), (8, f.twin.linkErr), (0, f.twin.hbMiss)]

/-- TWIN_CNT cleared by a read. -/
def clearTwinCnt (f : FieldDie) : FieldDie := f.modTwin (fun t => { t with digMism := 0, linkErr := 0, hbMiss := 0 })

/-- The TWIN registers beyond the header (Table 14-7). -/
def twinReg (v : Variant) (f : FieldDie) (idx : Nat) : Option Word :=
  let t := f.twin
  let h := f.hand
  let on (w : Word) : Word := if t.cfg.pairEn then w else 0
  match idx with
  | 0x08 => some (pack [(31, bit t.cfg.lock), (30, bit t.cfg.pairEn), (29, bit t.cfg.revertEn), (24, t.cfg.divergeN), (12, t.cfg.roleWait),
      (0, t.cfg.revertDly)])
  | 0x09 => some (f.twinStatus v)
  | 0x0A => some (pack [(0, t.epoch)])
  | 0x0B => some (on f.twinCnt)
  | 0x0C => some (on (pack [(28, h.phase), (24, h.outcome), (16, h.takeovers), (0, h.handovers)]))
  | 0x0D => some (on f.drillWord)
  | 0x0E => some (on (BitVec.ofNat 32 f.revertLeft))
  | _ => none

/-- An OP write of a TWIN register (R496): each field in its range. -/
def twinWrite (f : FieldDie) (idx : Nat) (w : Word) (force : Bool) : FieldDie :=
  if idx ≠ 0x08 ∨ (f.twin.cfg.lock ∧ ¬ force) then f
  else
    let inR (x lo hi old : Nat) : Nat := if lo ≤ x ∧ x ≤ hi then x else old
    f.modTwin (fun t => { t with cfg := {
      lock := w.getLsbD 31, pairEn := w.getLsbD 30, revertEn := w.getLsbD 29
      divergeN := inR (bits 28 24 w) 1 31 t.cfg.divergeN, roleWait := inR (bits 23 12 w) 1 1000 t.cfg.roleWait
      revertDly := inR (bits 11 0 w) 10 3600 t.cfg.revertDly } })

/-- DRILL_STEP (R380) on the active device: the buses in turn, then the contract lines, then the readback. -/
def drillNext (f : FieldDie) (ok : Bool) : FieldDie :=
  let h := f.hand
  if ¬ h.drillOn ∨ h.drillKind ≠ 0 ∨ ¬ f.isActive then f
  else if h.drillStep < 8 ∧ f.tick.tb < h.drillAt + 40 * h.drillStep then f
  else
    let f := if ok then f else f.drillFailed (fun h =>
      if h.drillStep < 8 then { h with tbusFail := Nat.lor h.tbusFail (2 ^ h.drillStep) }
      else if h.drillStep = 8 then { h with portFail := true } else { h with readbackFail := true })
    let f := f.modHand (fun h => { h with drillStep := h.drillStep + 1 })
    if f.hand.drillStep = 10 then f.drillEnd .ok else f

/-- TWIN_DRILL_RX (R380): the active device takes the peer's outcome; the standby follows the step, and reports LATENT from a failure to a
DRILL that passes. -/
def drillRx (f : FieldDie) (step port : Nat) (ok : Bool) : FieldDie :=
  if ¬ f.running ∨ ¬ f.twin.cfg.pairEn ∨ f.power.winter then f
  else
    let fails (h : Handover) : Handover :=
      if step = 1 then { h with tbusFail := Nat.lor h.tbusFail (2 ^ port % 256) }
      else if step = 2 then { h with portFail := true } else { h with readbackFail := true }
    if f.isActive then (if f.hand.drillOn ∧ ¬ ok then f.drillFailed fails else f)
    else if ¬ f.isStandby then f
    else
      let fresh := !f.hand.drillOn
      let f := f.modHand (fun h => { h with
        drillOn := step != 3, drillKind := 0, drillAt := f.tick.tb, drillStep := if step = 1 then port else 8
        drillFail := h.drillFail && !fresh, tbusFail := if fresh then 0 else h.tbusFail, portFail := h.portFail && !fresh
        readbackFail := h.readbackFail && !fresh })
      let f := if ok then f else (f.drillFailed fails).modTwin (fun t => { t with latent := true })
      if step = 3 ∧ ¬ f.hand.drillFail then f.modTwin (fun t => { t with latent := false }) else f

/-- A standby's failed echo in a DRILL (R380). -/
def drillEcho (f : FieldDie) (differs : BitVec 8) : FieldDie :=
  match f.drillBus with
  | some n =>
    if f.isStandby ∧ differs.getLsbD n then
      (f.drillFailed (fun h => { h with tbusFail := Nat.lor h.tbusFail (2 ^ n) })).modTwin (fun t => { t with latent := true })
    else f
  | none => f

/-- GET_TWIN (Table 14-14). -/
def twinGet (v : Variant) (f : FieldDie) : Nat :=
  (f.twinStatus v).toNat + 2 ^ 32 * f.twin.epoch + 2 ^ 48 * (if f.twin.cfg.pairEn then f.twin.digMism else 0)

end FieldDie

/-- A command of group 0x70 completes with WRONG_MODE without PAIR_EN (R385). -/
def paired (f : FieldDie) (g : FieldDie × Option (Status × Nat)) : FieldDie × Option (Status × Nat) :=
  if f.twin.cfg.pairEn then g else (f, some (.wrongMode, 0))

/-- HANDOVER (R375): a standby that hears no peer has none to ask (DESIGN CHOICE, log entry 64). -/
def handoverC : FCmd where
  code := 0x7001
  auth _ := true
  op _ f r := paired f <|
    if ¬ f.hfMatch ∨ f.twin.role = 0 ∨ (f.isStandby ∧ ¬ f.beatFresh) then (f, some (.wrongMode, 0))
    else
      let h := f.hand
      if f.isStandby then
        (f.modHand (fun h => { h with
          wait := h.wait ++ [(r.arrival, some r)]
          swap := some { newEpoch := f.twin.epoch, stamp := r.arrival, switchEdge := 0 } }), none)
      else if h.lastStamp = some r.arrival ∧ (h.phase = 0 ∨ h.phase = 5) then
        (f, some (if h.outcome = 1 then (.ok, f.twin.epoch) else if h.outcome = 3 then (.wrongMode, 0) else (.aborted, 0)))
      else
        let f := f.modHand (fun h => { h with wait := h.wait ++ [(r.arrival, some r)] })
        (if h.phase = 0 ∨ h.phase = 5 then f.handNext else f, none)

/-- SET_REVERT (R379). -/
def setRevertC : FCmd where
  code := 0x7002
  chk _ _ r := need (r.u32 0 ≤ 1 && 10 ≤ r.u32 4 && r.u32 4 ≤ 3600 && r.u32 8 ≤ 1)
  op _ f r := paired f
    (((f.modTwin (fun t => { t with cfg := { t.cfg with revertEn := r.u32 0 == 1, revertDly := r.u32 4 } })).modHand
      (fun h => { h with hold := r.u32 8 == 1 })), some (.ok, 0))

/-- DRILL (R380, R381). -/
def drillC : FCmd where
  code := 0x7003
  auth _ := true
  chk _ _ r := need (r.u32 0 ≤ 1 && (r.u32 0 == 0 || (1000 ≤ r.u32 4 && r.u32 4 ≤ 600000)))
  op _ f r := paired f <|
    if ¬ f.isActive ∨ ¬ f.twin.inStep ∨ f.hand.drillOn then (f, some (.wrongMode, 0))
    else
      let f := f.modHand (fun h => { h with
        drillOn := true, drillKind := r.u32 0, drillStep := 0, drillHold := 40 * r.u32 4, drillBack := false, drillAt := f.tick.tb + 1
        drillFail := false, drillReq := some r, tbusFail := 0, portFail := false, readbackFail := false, roundFail := false })
      if r.u32 0 = 0 then (f, none)
      else
        let f := f.modHand (fun h => { h with wait := h.wait ++ [(r.arrival, none)] })
        (if f.hand.phase = 0 ∨ f.hand.phase = 5 then f.handNext else f, none)

/-- LEAVE_STEP (Table 14-14). -/
def leaveStepC : FCmd where
  code := 0x7004
  op _ f _ := paired f <|
    if ¬ f.isStandby then (f, some (.wrongMode, 0))
    else
      let f := f.leaveStep
      (f.modTwin (fun t => { t with noAuto := true, join := 0, parts := [] }), some (.ok, 0))

/-- JOIN (Table 14-14). -/
def joinC : FCmd where
  code := 0x7005
  op _ f r := paired f <|
    if ¬ f.isStandby then (f, some (.wrongMode, 0))
    else if f.twin.inStep then (f, some (.ok, 0))
    else
      let f := f.modTwin (fun t => { t with noAuto := false, joinTimes := [], joinReqs := t.joinReqs ++ [(f.tick.tb, r)] })
      (if f.twin.join = 0 then f.joinBegin else f, none)

/-- COLD_SWAP (R383). -/
def coldSwapC : FCmd where
  code := 0x7006
  auth _ := true
  op _ f r := paired f <|
    if ¬ f.isActive ∨ ¬ f.beatFresh ∨ f.hand.cold.isSome ∨ ¬ f.peerIs (fun b => b.role == 2 && !b.health1 0 && !b.health1 5) then
      (f, some (.wrongMode, 0))
    else (f.modHand (fun h => { h with cold := some r }), none)

/-- GET_TWIN (Table 14-14). -/
def getTwinC : FCmd where
  code := 0x7010
  ro := true
  op v f _ := (f, some (.ok, f.twinGet v))

namespace Machine

/-- HANDOVER (R375). -/
def execHandover (r : Request) (s : State) : Out := .next (s.field handoverC r)
/-- SET_REVERT (R379). -/
def execSetRevert (r : Request) (s : State) : Out := .next (s.field setRevertC r)
/-- DRILL (R380). -/
def execDrill (r : Request) (s : State) : Out := .next (s.field drillC r)
/-- LEAVE_STEP (R385). -/
def execLeaveStep (r : Request) (s : State) : Out := .next (s.field leaveStepC r)
/-- JOIN (R369). -/
def execJoin (r : Request) (s : State) : Out := .next (s.field joinC r)
/-- COLD_SWAP (R383). -/
def execColdSwap (r : Request) (s : State) : Out := .next (s.field coldSwapC r)
/-- GET_TWIN (R385). -/
def execGetTwin (r : Request) (s : State) : Out := .next (s.field getTwinC r)

/-- TWIN_HEARTBEAT_RX (R360). -/
def execTwinHeartbeatRx (_lane : Fin 2) (beat : PeerBeat) (s : State) : Out := .next (s.onField (fun f => f.heartbeat s.chip.variant beat))

/-- TWIN_DIGEST_RX (R366): the comparison waits for the guard phase of the tick where it has not begun. -/
def execTwinDigestRx (digest : BitVec 64) (s : State) : Out :=
  .next (s.onField (fun f =>
    if ¬ f.running ∨ ¬ f.twin.cfg.pairEn then f
    else
      let f := f.modTwin (fun t => { t with peerDigest := some digest })
      if 9376 ≤ f.tick.fine then f.digestCompare s.chip.variant else f))

/-- TWIN_PREPARE_RX (R376). -/
def execTwinPrepareRx (msg : RoleMsg) (s : State) : Out := .next (s.onField (fun f => f.roleMsg 1 msg))
/-- TWIN_PREP_ACK_RX (R376). -/
def execTwinPrepAckRx (msg : RoleMsg) (s : State) : Out := .next (s.onField (fun f => f.roleMsg 2 msg))
/-- TWIN_PREP_NAK_RX (R376, R377). -/
def execTwinPrepNakRx (msg : RoleMsg) (s : State) : Out := .next (s.onField (fun f => f.roleMsg 3 msg))
/-- TWIN_COMMIT_RX (R376). -/
def execTwinCommitRx (msg : RoleMsg) (s : State) : Out := .next (s.onField (fun f => f.roleMsg 4 msg))
/-- TWIN_COMMIT_ACK_RX (R376). -/
def execTwinCommitAckRx (msg : RoleMsg) (s : State) : Out := .next (s.onField (fun f => f.roleMsg 5 msg))
/-- TWIN_SWAP_REQ_RX (R375). -/
def execTwinSwapReqRx (msg : RoleMsg) (s : State) : Out := .next (s.onField (fun f => f.roleMsg 6 msg))
/-- TWIN_STATE_RX (R369). -/
def execTwinStateRx (part : StatePart) (s : State) : Out := .next (s.onField (fun f => f.applyPart part))
/-- TWIN_DRILL_RX (R380). -/
def execTwinDrillRx (step port : Fin 256) (outcome : Bool) (s : State) : Out := .next (s.onField (fun f => f.drillRx step port outcome))

/-- TWIN_PACKET_DISCARD (R359): the lanes of a device without PAIR_EN stay in reset. -/
def execTwinPacketDiscard (lane : Fin 2) (s : State) : Out :=
  .next (s.onField (fun f =>
    if ¬ f.twin.cfg.pairEn ∨ ¬ f.running then f
    else f.modTwin (fun t => { t with
      linkErr := satN 8 (t.linkErr + 1), lanes := t.lanes.modify lane (fun (l : Lane) => { l with hit := true }) })))

/-- LANE_UP (R359): 40 ticks without a discarded packet. -/
def execLaneUp (lane : Fin 2) (s : State) : Out :=
  .next (s.onField (fun f => f.modTwin (fun t => { t with
    lanes := t.lanes.modify lane (fun (l : Lane) => if 40 ≤ l.good then { l with up := true } else l) })))

/-- LANE_DOWN (R359): 4 ticks with one. -/
def execLaneDown (lane : Fin 2) (s : State) : Out :=
  .next (s.onField (fun f => f.modTwin (fun t => { t with
    lanes := t.lanes.modify lane (fun (l : Lane) => if 4 ≤ l.bad then { l with up := false } else l) })))

/-- ROLE_DECISION (R358). -/
def execRoleDecision (s : State) : Out := .next (s.onField (fun f => f.roleDecision s.chip.variant))
/-- HEARTBEAT_MISSED (R371). -/
def execHeartbeatMissed (s : State) : Out := .next (s.onField FieldDie.heartbeatMissed)
/-- TWIN_TAKEOVER (R371). -/
def execTwinTakeover (s : State) : Out := .next (s.onField (fun f => f.twinTakeover s.chip.variant))
/-- TWIN_PEER_LOST (R374). -/
def execTwinPeerLost (s : State) : Out := .next (s.onField FieldDie.peerLost)
/-- PEER_ACTIVE_SAMPLE (R355). -/
def execPeerActiveSample (asserted : Bool) (s : State) : Out := .next (s.onField (fun f => f.peerSample asserted))

/-- TWIN_INTERLOCK (R355): both lines asserted for more than 1 µs outside the sampling. -/
def execTwinInterlock (s : State) : Out :=
  .next (s.onField (fun f => if f.twin.activeN ∧ f.twin.peerActive ∧ ¬ f.twin.sampling then f.raise 226 1 else f))

/-- INPUT_SECTION_DEADLINE (R365). -/
def execInputSectionDeadline (sec : Fin 6) (s : State) : Out := .next (s.onField (fun f => f.sectionMissed sec))

/-- JOIN_START (R370): 1 s after it left step, a standby whose link is up joins, at most 3 times in 3,600 s. -/
def execJoinStart (s : State) : Out :=
  .next (s.onField (fun f =>
    let t := f.twin
    let tb := f.tick.tb
    if f.isStandby ∧ f.running ∧ ¬ f.power.winter ∧ f.linkUp ∧ t.join = 0 ∧ ¬ t.inStep ∧ ¬ t.noAuto ∧ t.leftAt + 40000 ≤ tb
        ∧ (t.joinTimes.filter (fun x => decide (tb < x + 144000000))).length < 3 then
      (f.modTwin (fun t => { t with joinTimes := t.joinTimes.filter (fun x => decide (tb < x + 144000000)) })).joinBegin
    else f))

/-- JOIN_STEP_END (R369). -/
def execJoinStepEnd (outcome : StepEnd) (s : State) : Out := .next (s.onField (fun f => f.joinStep s.chip.variant outcome))
/-- HANDOVER_RELEASE (R376). -/
def execHandoverRelease (s : State) : Out := .next (s.onField FieldDie.handRelease)
/-- HANDOVER_SWITCH_EDGE (R376). -/
def execHandoverSwitchEdge (peerReleased : Bool) (s : State) : Out := .next (s.onField (fun f => f.switchEdge s.chip.variant peerReleased))

/-- HANDOVER_ASSERT_FAIL (R377): PEER_ACTIVE_N asserted at the switch edge and the next 2. -/
def execHandoverAssertFail (s : State) : Out :=
  .next (s.onField (fun f =>
    if f.hand.phase = 4 ∧ ¬ f.hand.asking ∧ 3 ≤ f.hand.tries then (f.raise 230 1).handEnd 4 .aborted true else f))

/-- REVERT_EXPIRY (R379). -/
def execRevertExpiry (s : State) : Out :=
  .next (s.onField (fun f =>
    if f.reverting ∧ 40000 * f.twin.cfg.revertDly ≤ f.hand.revTicks then
      let f := (f.raise 229 2).modHand (fun h => { h with wait := h.wait ++ [(f.tick.tb, none)], revTicks := 0 })
      if f.hand.phase = 0 ∨ f.hand.phase = 5 then f.handNext else f
    else f))

/-- DRILL_STEP (R380). -/
def execDrillStep (outcome : Bool) (s : State) : Out := .next (s.onField (fun f => f.drillNext outcome))

/-- DRILL_HOLD_END (R381): the handover back starts, by a SWAP_REQ to the device that holds the role now. -/
def execDrillHoldEnd (s : State) : Out :=
  .next (s.onField (fun f =>
    let h := f.hand
    if h.drillOn ∧ h.drillKind = 1 ∧ ¬ h.drillBack ∧ f.isStandby ∧ h.drillAt + h.drillHold ≤ f.tick.tb then
      f.modHand (fun h => { h with
        drillBack := true, swap := some { newEpoch := f.twin.epoch, stamp := f.tick.tb, switchEdge := 0 } })
    else f))

/-- TWIN_CNT_READ (R384). -/
def execTwinCntRead (s : State) : Out :=
  .next ((s.on (fun c => { c with readData := [(c.field.twinReg c.variant 0x0B).getD 0] })).onField FieldDie.clearTwinCnt)

end Machine

end Sys2Proof
end

