-- ==== Sys2Proof/Machine/Flags.lean ====
section
/-! DEFINITION. The status words: the conditions and the mode of MODE_STATUS (02_modes_power_and_reset R48 to R52), the health words of the
barrier (01_architecture R25), and the state of a block as it reads (R18, R19). -/

namespace Sys2Proof

/-- Whether a block reports one of the states of R19. -/
def Blk.inService (b : Blk) : Bool := 2 ≤ b.state && b.state ≤ 6

namespace FieldDie

/-- Block `b` of region `r` of the field, where it exists (Tables 01-2 and 01-3). -/
def blkAt (v : Variant) (f : FieldDie) (r b : Nat) : Option Blk :=
  if r = 1 then f.blk.rows[b]?
  else if 4 ≤ r ∧ r < 4 + v.quads then (f.qd (r - 4)).blk.rows[b]?
  else none

/-- The power domain of block `b` of region `r` (Table 02-3): TBASE is in F_AON, the measurement and breaker front ends apart. -/
def blkDomain (f : FieldDie) (r b : Nat) : Domain :=
  f.power.dom.getD (if r = 1 then (if b = 6 then 0 else 1) else [3, 4, 6, 7].getD (r - 4) 3) .off

/-- A block of the field changed. -/
def modBlk (f : FieldDie) (r b : Nat) (g : Blk → Blk) : FieldDie := if r = 1 then f.modFBlk b g else f.modQBlk (r - 4) b g

/-- The SERVICE condition (R19). -/
def service (v : Variant) (f : FieldDie) : Bool :=
  f.blk.rows.any Blk.inService || (List.range v.quads).any fun q => (f.qd q).blk.rows.any Blk.inService

/-- The conditions of MODE_STATUS [14:10] (Table 02-1). -/
def conditions (v : Variant) (f : FieldDie) : Word :=
  pack [(14, bit f.hand.cond), (13, bit (f.grid.inputState == 2)), (12, bit (f.grid.inputState == 1 || f.grid.inputState == 3)),
    (11, bit f.cap.capped), (10, bit (f.service v))]

/-- The mode that R50 selects. -/
def modeOf (f : FieldDie) : Nat :=
  let c (i : Nat) : Bool := f.power.cond.getLsbD i
  if f.power.winter then 11
  else if ¬ f.running then 1
  else if f.power.phase = .spring then 3
  else if f.isStandby then (if c 14 then 10 else 5)
  else if c 14 then 10
  else if c 13 then 6
  else if c 12 then 7
  else if c 11 then 8
  else if c 10 then 9
  else 4

/-- MODE_STATUS as the field side computes it (Table 02-1). -/
def modeStatus (f : FieldDie) : Word :=
  let p := f.power
  pack [(28, p.mode), (24, p.prevMode), (16, p.changes), (7, bit f.isActive), (6, bit f.twin.twinned), (5, bit (f.twin.cfg.pairEn && f.mixed)),
    (4, bit (f.twin.cfg.pairEn && f.revertHold)), (1, bit (!f.cfg.loaded))] ||| p.cond

/-- MODE_CHANGE (R50, R51): the conditions of the edge, the mode that they give, and the recorder's MODE trigger (16 R411), whose context is
MODE_STATUS before the change. -/
def modeEdge (v : Variant) (f : FieldDie) : FieldDie :=
  let before := f.modeStatus
  let f := { f with power := { f.power with cond := f.conditions v } }
  let m := f.modeOf
  if m = f.power.mode then f
  else
    let t := f.trig 0x100
    let g := { f with power := { f.power with mode := m, prevMode := f.power.mode, changes := (f.power.changes + 1) % 256 } }
    if t.cond = 1 then g.trigger { kind := 2, list := t.list, trace := t.trace, context := [(4, before.toNat)] } else g

/-- HOST_LOST_SEEN (Table 01-15): the 40 ticks that follow the one in which the episode ended. -/
def hostLostSeen (f : FieldDie) : Bool := decide (0 < f.bar.seenLeft) && decide (f.bar.seenLeft ≤ 40)

/-- The field health word (Table 01-15). -/
def health (f : FieldDie) : Word :=
  pack [(31, bit f.running), (30, bit f.power.winter), (29, bit (!f.cfg.loaded)), (28, bit (f.fcol.faultPend false)),
    (24, (List.range 4).foldl (fun a q => a + bit (f.power.isolated.getD q false) * 2 ^ q) 0), (23, bit f.bar.timerVec),
    (22, bit f.hostLostSeen), (0, f.twin.epoch)]

/-- The health word of a twin heartbeat (Table 14-16). -/
def twinHealth (f : FieldDie) : Word :=
  pack [(0, bit f.power.winter), (1, bit (f.power.cond.getLsbD 10)), (2, bit (f.power.cond.getLsbD 13)), (3, bit (f.power.cond.getLsbD 12)),
    (4, bit (f.power.phase == .spring)), (5, bit (!f.cfg.loaded)), (6, bit f.twin.latent), (7, bit f.tick.locked)]

/-- The heartbeat that this device sends its peer in the tick (14 R360), none in WINTER (02 R67) or without PAIR_EN. -/
def ownBeat (v : Variant) (f : FieldDie) : Option PeerBeat :=
  if ¬ f.running ∨ f.power.winter ∨ ¬ f.twin.cfg.pairEn then none
  else some {
    tb := f.tick.tb % 2 ^ 32, epoch := f.twin.epoch, role := if f.twin.role = 0 then 0 else 3 - f.twin.role, state := f.twinState
    twinB := f.twin.twinB, part := v.partCode, cap1 := cap1, health := f.twinHealth }

end FieldDie

namespace HostDie

/-- The mode that region H reports (R48, R50, Table 02-2): WINTER of a field that is heard, BOOT until its firmware runs and while it loads the
field, the field's mode while that is heard, and HOST_ONLY otherwise. A block of region H in service makes ACTIVE SERVICE (01 R19). -/
def modeOf (h : HostDie) : Nat :=
  let heard : Bool := h.mode.fieldRunning && !h.mode.fieldLost
  let m := bits 31 28 h.mode.word
  if heard ∧ h.mode.winter then 11
  else if ¬ h.booted then 2
  else if heard then (if m = 4 ∧ h.service then 9 else m)
  else if h.stor.loading then 2
  else 1

/-- MODE_CHANGE on region H (R51): PREV_MODE, CHANGES and vector 55. -/
def reportMode (h : HostDie) : HostDie :=
  let m := h.modeOf
  if m = h.mode.mode then h
  else { h with mode := { h.mode with mode := m, prevMode := h.mode.mode, changes := (h.mode.changes + 1) % 256 } }.vector 55

/-- The host health word (Table 01-16). -/
def health (h : HostDie) : Word := pack [(31, bit h.booted), (30, bit h.stor.recovery), (0, h.mode.epoch)]

/-- The power domain of block `b` of region H (Table 02-3). -/
def blkDomain (h : HostDie) (b : Nat) : Domain :=
  h.power.dom.getD (if b = 1 ∨ b = 2 then 2 else if b = 4 then 3 else if b = 12 then 0 else 1) .off

end HostDie

end Sys2Proof
end

