-- ==== Sys2Proof/Machine/Recorder.lean ====
section
/-! DEFINITION. The black-box recorder (16_recorder R410 to R429). The OP reads that a snapshot latches come in as a function, so
that the register map can stand above this file. -/

namespace Sys2Proof

/-- VALID, 96 bits (Table 16-2). -/
def Record.valid (r : Record) : Nat :=
  (r.values.take 96).zipIdx.foldl (fun a x => a + (if x.1.isSome then 2 ^ x.2 else 0)) 0

/-- The 512 bytes of a record (Tables 16-2, 16-3): header, context, values or, in a LIST record, the OP numbers, and the CRC over
all but itself. -/
def Record.bytes (r : Record) : List Byte :=
  let head := leBytes 1 r.type ++ leBytes 1 r.kind ++ leBytes 1 r.list ++ leBytes 1 (min 96 r.ops.length) ++ leBytes 4 r.seq ++
    leBytes 8 r.tb ++ leBytes 2 r.fine ++ leBytes 2 r.listGen ++ leBytes 4 r.wall ++ leBytes 4 r.modeStatus.toNat ++
    leBytes 2 r.roleEpoch ++
    leBytes 1 (bit r.twinId + 2 * bit r.active + 4 * bit r.hLate + 8 * bit r.traceLost + 16 * bit r.hostOnly) ++ [0] ++
    leBytes 2 r.traceId ++ leBytes 2 r.missed ++ leBytes 2 r.ledgerUsed ++ [0, 0] ++ leBytes 12 r.valid ++ leBytes 8 r.hTb
  let ctx := slice 0 16 (match r.entry with | some e => e.bytes | none => []) ++
    slice 0 48 (r.context.flatMap fun x => leBytes x.1 x.2)
  let body := slice 0 384 (if r.type = 3 then r.ops.flatMap (leBytes 2) else r.values.flatMap fun w => leBytes 4 (w.getD 0).toNat)
  head ++ leBytes 4 (crc32c (head ++ ctx ++ body)) ++ ctx ++ body

/-- The bytes of a capture (Table 16-4). -/
def Trace.bytes (t : Trace) : List Byte :=
  leBytes 2 t.id ++ leBytes 2 t.pre ++ leBytes 2 t.firstValid ++ [0, 0] ++ leBytes 8 t.tbTrig ++ t.ops.flatMap (leBytes 2) ++
    t.shifts.flatMap (leBytes 1) ++ t.rows.flatMap fun row => row.flatMap (leBytes 2)

/-- The bytes of a capture in all (R423). -/
def traceSize : Nat := 131136

/-- A region H OP (R414). -/
def isHostOp (op : Nat) : Bool := op / 8192 == 0

namespace FieldDie

/-- The order of trigger kinds within a tick (R412): WINTER, CALIB, SPARE, EVENT, MODE, LEVEL, MANUAL. -/
def kindOrder : List Nat := [7, 6, 5, 1, 2, 4, 3]

/-- The triggers of the tick in the order of R412, each kind in the order in which they came. -/
def orderHits (hs : List TrigHit) : List TrigHit := kindOrder.flatMap fun k => hs.filter (·.kind == k)

/-- What a snapshot of list `l` holds: field OPs are latched now; region H OPs are read when the record arrives (R414). `peek` answers none for an
OP of a block that is absent. -/
def snapshot (f : FieldDie) (peek : Nat → Option Word) (l : Nat) : List (Option Word) :=
  (f.recf.lists.getD l {}).ops.map fun op => if isHostOp op then none else peek op

/-- A trigger missed (R412, R416). A REC_TRIGGER that made none completes with 0xFFFF_FFFF. -/
def missHit (f : FieldDie) (h : TrigHit) : FieldDie :=
  let f := { f with recf := { f.recf with missed := satN 16 (f.recf.missed + 1) } }
  match h.req with
  | some r => f.complete r .ok 0xFFFFFFFF
  | none => f

/-- Whether a buffer other than the ring is free (R422). -/
def freeBuffer (f : FieldDie) : Bool := f.recf.held.length < 7

/-- A trigger with TRACE set (R422): it joins a capture in its post-trigger phase, starts one, or finds no buffer. The answer is
the TRACE_ID and whether the trace was lost. A frozen recorder starts none (R424). -/
def traceTrigger (f : FieldDie) : FieldDie × Nat × Bool :=
  let r := f.recf
  if r.post.isSome then (f, r.postId, false)
  else if r.frozen then (f, 0xFFFF, false)
  else if f.freeBuffer then
    ({ f with recf := { r with
        post := some (f.tick.tb + 4095 - r.pre), postTrig := f.tick.tb, postPre := r.pre, postId := r.nextId
        nextId := (r.nextId + 1) % 2 ^ 16 } }, r.nextId, false)
  else ({ f with recf := { r with trMissed := satN 16 (r.trMissed + 1) } }, 0xFFFF, true)

/-- The reported MODE_STATUS word goes into each record; its source stands in Flags. -/
def makeRecord (f : FieldDie) (peek : Nat → Option Word) (status : Word) (h : TrigHit) : FieldDie :=
  if 64 ≤ f.recf.queue.length then f.missHit h
  else
    let (f, id, lost) := if h.trace then f.traceTrigger else (f, 0xFFFF, false)
    let l := f.recf.lists.getD h.list {}
    let rec_ : Record :=
      { type := 1, kind := h.kind, list := h.list, values := f.snapshot peek h.list, ops := l.ops, tb := f.tick.tb, fine := h.fine
        listGen := l.gen, wall := f.bar.wall, modeStatus := status, roleEpoch := f.twin.epoch, twinId := f.twin.twinB
        active := f.isActive, traceLost := lost, traceId := id, missed := f.recf.missed, entry := h.entry, context := h.context, req := h.req }
    { f with recf := { f.recf with queue := f.recf.queue ++ [rec_], missed := 0 } }

/-- The 16-bit sample of trace channel `c` (R420). -/
def sample (f : FieldDie) (peek : Nat → Option Word) (c : Nat) : Nat :=
  let op := f.recf.chOp.getD c 0xFFFF
  if op = 0xFFFF then 0 else ((peek op).getD 0).toNat / 2 ^ (f.recf.chShift.getD c 0) % 2 ^ 16

/-- A level comparator at one sample (R421): whether it fires, and its state after. -/
def levelStep (c : LevelCmp) (x : Int) : Bool × LevelCmp :=
  let back : Bool := if c.dir = 1 then decide (x < c.level) else decide (c.level < x)
  let was : Bool := match c.prev with
    | some p => if c.dir = 1 then decide (p < c.level) else decide (c.level < p)
    | none => false
  if c.dir = 0 then (false, { c with prev := some x })
  else if c.armed ∧ was ∧ ¬ back then (true, { c with armed := false, backRun := 0, prev := some x })
  else
    let run := if back then c.backRun + 1 else 0
    (false, { c with armed := c.armed || 40 ≤ run, backRun := run, prev := some x })

/-- The level comparators at the tick's row of samples (R421). -/
def levels (f : FieldDie) (row : List Nat) : FieldDie :=
  (List.range 4).foldl (fun f j =>
    let c := f.recf.levels.getD j {}
    let x := sext 16 (row.getD c.ch 0)
    let (fires, c') := levelStep c x
    let f := { f with recf := { f.recf with levels := f.recf.levels.modifyNat j (fun _ => c') } }
    if fires then f.trigger { kind := 4, list := c.list, trace := c.trace
                              context := [(1, j), (1, c.ch), (2, enc 16 c.level), (2, enc 16 x)] } else f) f

/-- The recorder's part of the guard phase (R410 to R422): the row of samples, the level comparators, and up to 8 records. -/
def recordTick (f : FieldDie) (peek : Nat → Option Word) (status : Word) : FieldDie :=
  let row := (List.range 16).map (f.sample peek)
  let f := f.levels row
  let hs := orderHits f.recf.hits
  let f := (hs.take 8).foldl (fun f h => f.makeRecord peek status h) f
  let f := (hs.drop 8).foldl missHit f
  let rows := f.recf.rows ++ [row]
  let late := match f.recf.post with | some e => f.tick.tb - e | none => 0
  { f with recf := { f.recf with hits := [], rows := rows.drop (rows.length - (4096 + late)), rowAt := f.tick.tb } }

/-- The lowest buffer that is neither the ring nor held. -/
def nextRing (r : Recf) : Nat :=
  ((List.range 8).find? fun b => b != r.ring && !(r.held.any fun x => x.1 == b)).getD r.ring

/-- The ring is frozen as a capture once it holds the row of its end tick (R422): rows that it had not written are zero, and the rows of later
ticks go to the new ring. -/
def freezeTrace (f : FieldDie) : FieldDie :=
  let r := f.recf
  match r.post with
  | some e =>
    if r.rows.isEmpty ∨ r.rowAt < e then f
    else
      let mine := r.rows.take (r.rows.length - (r.rowAt - e))
      let n := min 4096 mine.length
      let t : Trace :=
        { id := r.postId, pre := r.postPre, firstValid := 4096 - n, tbTrig := r.postTrig, ops := r.chOp.rows, shifts := r.chShift.rows
          rows := List.replicate (4096 - n) (List.replicate 16 0) ++ mine.drop (mine.length - n) }
      { f with recf := { r with
          held := r.held ++ [(r.ring, t)], ring := nextRing r, rows := r.rows.drop (r.rows.length - (r.rowAt - e)), post := none } }
  | none => f

/-- A LIST record (R413). -/
def listRecord (f : FieldDie) (status : Word) (l : Nat) : FieldDie :=
  if 64 ≤ f.recf.queue.length then { f with recf := { f.recf with missed := satN 16 (f.recf.missed + 1) } }
  else
    let x := f.recf.lists.getD l {}
    let rec_ : Record :=
      { type := 3, list := l, ops := x.ops, listGen := x.gen, tb := f.tick.tb, wall := f.bar.wall, modeStatus := status
        roleEpoch := f.twin.epoch, twinId := f.twin.twinB, active := f.isActive }
    { f with recf := { f.recf with queue := f.recf.queue ++ [rec_] } }

/-- The RECF registers beyond the header (Table 16-6). -/
def recfReg (f : FieldDie) (idx : Nat) : Option Word :=
  let r := f.recf
  if idx = 0x08 then
    some (pack ([(29, r.ring), (28, bit r.post.isSome), (0, r.pre)] ++ (List.range 8).map fun b => (20 + b, bit (r.held.any fun x => x.1 == b))))
  else if idx = 0x09 then some (pack [(16, r.trMissed), (0, r.nextId)])
  else if 0x10 ≤ idx ∧ idx < 0x20 then some (pack [(16, r.chShift.getD (idx - 0x10) 0), (0, r.chOp.getD (idx - 0x10) 0xFFFF)])
  else none

end FieldDie

/-- REC_SET_TRIGGER (R411, Table 16-7). -/
def cmdRecSetTrigger : FCmd where
  code := 0x9001
  chk _ _ r := need ((r.u32 0 ≤ 0x102 || r.u32 0 == 0xFFFFFFFF) && (r.u32 4 < 2 || (r.u32 4 < 4 && (r.u32 0 < 0x100 || r.u32 0 == 0xFFFFFFFF))) &&
    r.u32 8 < 4 && r.u32 12 < 2)
  op _ f r :=
    let t : Trig := { cond := r.u32 4, list := r.u32 8, trace := r.u32 12 == 1 }
    let ts := f.recf.trig.mapIdx fun i x => if i = r.u32 0 ∨ (r.u32 0 = 0xFFFFFFFF ∧ i < 256) then t else x
    ({ f with recf := { f.recf with trig := ts } }, some (.ok, 0))

/-- REC_SET_LIST without the LIST record, which carries the mode of the moment (R413, Table 16-7). -/
def setList (f : FieldDie) (r : Request) : FieldDie × Bool :=
  let l := r.par 0 2
  let first := r.par 2 1
  let n := r.par 3 1 % 32
  let commit := (r.par 3 1).testBit 7
  let put (xs : List Nat) : List Nat :=
    (List.range (max xs.length (first + n))).map fun i => if first ≤ i ∧ i < first + n then r.par (4 + 2 * (i - first)) 2 else xs.getD i 0
  ({ f with recf := { f.recf with lists := f.recf.lists.modifyNat l (fun x =>
      let s := put x.staged
      if commit then { x with staged := s, ops := s.take (first + n), gen := (x.gen + 1) % 2 ^ 16 } else { x with staged := s }) } }, commit)

/-- REC_SET_TRACE (R420). -/
def cmdRecSetTrace : FCmd where
  code := 0x9003
  chk _ _ r := need (r.u32 0 < 16 && r.u32 4 < 0x10000 && r.u32 8 ≤ 16 && (r.u32 12 ≤ 4095 || r.u32 12 == 0xFFFFFFFF))
  op _ f r :=
    if f.recf.post.isSome then (f, some (.busy, 0))
    else ({ f with recf := { f.recf with
        chOp := f.recf.chOp.modifyNat (r.u32 0) (fun _ => r.u32 4), chShift := f.recf.chShift.modifyNat (r.u32 0) (fun _ => r.u32 8)
        pre := if r.u32 12 = 0xFFFFFFFF then f.recf.pre else r.u32 12 } }, some (.ok, 0))

/-- REC_SET_LEVEL (R421). -/
def cmdRecSetLevel : FCmd where
  code := 0x9004
  chk _ _ r := need (r.u32 0 < 4 && r.u32 4 < 16 && -32768 ≤ r.s32 8 && r.s32 8 ≤ 32767 && r.u32 12 < 3 && r.u32 16 < 4 && r.u32 20 < 2)
  op _ f r :=
    ({ f with recf := { f.recf with levels := f.recf.levels.modifyNat (r.u32 0) (fun _ =>
        { ch := r.u32 4, level := r.s32 8, dir := r.u32 12, list := r.u32 16, trace := r.u32 20 == 1 }) } }, some (.ok, 0))

/-- REC_TRIGGER (R412): it completes when RECH gives its record a SEQ, or at once when it is missed. -/
def cmdRecTrigger : FCmd where
  code := 0x9005
  chk _ _ r := need (r.u32 0 < 4 && r.u32 4 < 2)
  op _ f r :=
    (f.trigger { kind := 3, list := r.u32 0, trace := r.u32 4 == 1, context := [(4, r.u32 8), (1, r.queue.val)], req := some r }, none)

/-- The blocks that hold logical blocks `lo` up to `hi` of a partition are erased, and free again (17 R432, R435). -/
def Stor.erasePart (s : Stor) (part lo hi : Nat) : Stor :=
  { s with blocks := s.blocks.map (fun (b : NandBlock) =>
      if b.part = part ∧ lo ≤ b.logical ∧ b.logical < hi ∧ ¬ b.retired then { phys := b.phys, erases := satN 24 (b.erases + 1) } else b) }

namespace HostDie

/-- Slots of a page (17 Table 17-1): 4 of 512 bytes in 2 KiB, 8 in 4 KiB. -/
def pageRecords (h : HostDie) : Nat := if h.stor.hdr.geometry.getLsbD 27 then 8 else 4

/-- The priority of a page operation (17 R437), 1 first; classes 7 and 8 of the rule are 8 and 9 here, because traces come after other
recorder pages. -/
def nandClass (urgent : Bool) : NandOp → Nat
  | .records _ => if urgent then 1 else 6
  | .ledger => 2
  | .header => 3
  | .learned => 4
  | .config _ => 5
  | .trace => 7
  | .staging _ => 8
  | .scrub _ | .level _ => 9

/-- The conditions under which every open page is written at once (R416). -/
def urgentNow (h : HostDie) : Bool := h.mode.word.getLsbD 13 || h.mode.winter || h.power.asleep

/-- The operations that the memory port may take now: staging, scrub and levelling wait while HOLD_UP or WINTER is reported (17
R437). -/
def nandReady (h : HostDie) (o : NandOp) : Bool := nandClass false o < 8 || !(h.mode.word.getLsbD 13 || h.mode.winter)

/-- The first operation of the best class among those in a list. -/
def nandBest (urgent : Bool) : List NandOp → Option NandOp
  | [] => none
  | o :: os =>
    match nandBest urgent os with
    | some p => if nandClass urgent p < nandClass urgent o then some p else some o
    | none => some o

/-- An idle memory port takes the next operation by priority (17 R437). -/
def nandNext (h : HostDie) : HostDie :=
  if h.stor.current.isSome then h
  else match nandBest (h.rech.urgent || h.urgentNow) (h.stor.ops.filter h.nandReady) with
    | some o => { h with stor := { h.stor with current := some o, ops := h.stor.ops.erase o } }
    | none => h

/-- A page operation joins the storage manager's queue. -/
def nandOp (h : HostDie) (o : NandOp) : HostDie := { h with stor := { h.stor with ops := h.stor.ops ++ [o] } }.nandNext

/-- A trigger missed on the host side (R416, R418): REC_MISSED at the first one since a record reached the log, never while the log
is full. -/
def missRecord (h : HostDie) (n : Nat) : HostDie :=
  let h := { h with rech := { h.rech with missCnt := satN 16 (h.rech.missCnt + n), missedSince := satN 16 (h.rech.missedSince + n) } }
  if h.rech.missRaised ∨ h.rech.full ∨ n = 0 then h else { h with rech := { h.rech with missRaised := true } }.raise 240 2

/-- The buffered records that the storage manager does not have yet are handed to it. -/
def handAll (h : HostDie) : HostDie :=
  let n := h.rech.buffer.length - h.rech.handed
  if n = 0 then h else { h with rech := { h.rech with handed := h.rech.buffer.length, openAt := none } }.nandOp (.records n)

/-- A record in the buffer with its SEQ (R416): a full page goes to the storage manager, and so does every page in an urgent
condition. -/
def storeRecord (h : HostDie) (r : Record) : HostDie :=
  let h := { h with rech := { h.rech with
      buffer := h.rech.buffer ++ [r], nextSeq := (r.seq + 1) % 2 ^ 32, missedSince := 0
      openAt := match h.rech.openAt with | some t => some t | none => some h.htb } }
  if h.pageRecords ≤ h.rech.buffer.length - h.rech.handed ∨ h.urgentNow then h.handAll else h

/-- A record arrives at RECH (R414, R416, R418, R424): it takes the next SEQ and region H OPs are read now; while the recorder is
frozen, the log is full or the buffer is full it is missed. -/
def recordArrives (h : HostDie) (peek : Nat → Option Word) (r : Record) : HostDie :=
  let done (h : HostDie) (n : Nat) : HostDie := match r.req with | some q => h.complete q .ok n | none => h
  let h := if r.type = 3 then { h with rech := { h.rech with lists := h.rech.lists.modifyNat r.list (fun _ => (r.listGen, r.ops)) } } else h
  let h := if r.missed = 0 then h else h.missRecord r.missed
  if h.rech.frozen ∨ h.rech.full ∨ 1024 ≤ h.rech.buffer.length then done (h.missRecord 1) 0xFFFFFFFF
  else
    let late := r.type == 1 && r.ops.any isHostOp
    let r := { r with
      seq := h.rech.nextSeq, missed := h.rech.missedSince, ledgerUsed := h.rech.ledger.length, hLate := late
      values := if late then (r.values.zip r.ops).map (fun (x : Option Word × Nat) => if isHostOp x.2 then peek x.2 else x.1) else r.values
      hTb := if late then h.htb else 0 }
    done (h.storeRecord { r with req := none }) r.seq

/-- The START record of R417: it carries RST_CAUSE, the entry of the reaction that F_AON kept, and the records lost. -/
def startRecord (h : HostDie) (cause : Option Entry) (lost : Nat) : HostDie :=
  h.recordArrives (fun _ => none)
    { type := 1, kind := 8, hostOnly := true, tb := h.htb, modeStatus := h.modeStatus, roleEpoch := h.mode.epoch, wall := h.wall
      twinId := h.power.twinB, active := h.mode.word.getLsbD 7
      entry := cause, context := [(4, h.rstCause.toNat), (1, satN 8 lost)] }

/-- The flush commands that wait end (R416). -/
def flushEnds (h : HostDie) (st : Status) : HostDie :=
  h.rech.flushCmds.foldl (fun h q => h.complete q st) { h with rech := { h.rech with flushCmds := [], urgent := false } }

/-- The record log is full (R418): REC_FULL with vector 45, once per log. -/
def logFull (h : HostDie) : HostDie :=
  let h' := { h with rech := { h.rech with full := true, fullRaised := true } }
  if h.rech.fullRaised then h' else (h'.raise 240 1).vector 45

/-- Pages that `n` records fill, by the records in each (R416): slots of a page that is written before it is full stay erased. -/
def pageFill (n per : Nat) : List Nat := List.replicate (n / per) per ++ if n % per = 0 then [] else [n % per]

/-- REC_FREE: unwritten slots in the log (Table 16-5); those left erased in a written page are none. -/
def recFree (h : HostDie) : Nat := h.rech.capacity - h.rech.pages.length * h.pageRecords

/-- Records that could not be written, because the log is full or the storage manager has no block left (R418, 17 R435): they stay in the buffer, and a
flush ends without them. -/
def recordsStay (h : HostDie) (n : Nat) : HostDie :=
  ({ h with rech := { h.rech with handed := h.rech.handed - n } }.logFull).flushEnds .mediaError

/-- Records that the NAND has taken (R416, R418): the first `n` of the buffer move to the log. -/
def recordsWritten (h : HostDie) (n : Nat) : HostDie :=
  let r := h.rech
  let pages := pageFill n h.pageRecords
  if h.recFree < pages.length * h.pageRecords then h.recordsStay n
  else
    let h := { h with rech := { r with
        log := r.log ++ r.buffer.take n, pages := r.pages ++ pages, buffer := r.buffer.drop n, handed := r.handed - n
        missRaised := if 0 < n then false else r.missRaised } }
    let h := if h.recFree = 0 then h.logFull else h
    if h.rech.buffer.isEmpty then h.flushEnds .ok else h

/-- REC_STATUS (Table 16-5). -/
def recStatus (h : HostDie) : Word :=
  let r := h.rech
  pack [(31, bit r.frozen), (30, bit r.full), (29, bit r.trFull), (28, bit (r.urgent || h.urgentNow)), (16, r.ledger.length), (0, r.missCnt)]

/-- The RECH registers beyond the header (Table 16-5). -/
def rechReg (h : HostDie) (idx : Nat) : Option Word :=
  match idx with
  | 0x08 => some h.recStatus
  | 0x09 => some (BitVec.ofNat 32 h.rech.nextSeq)
  | 0x0A => some (BitVec.ofNat 32 h.recFree)
  | _ => none

/-- The records that a read may return: those in the log and the buffer, up to END while frozen (R424). -/
def readable (h : HostDie) : List Record :=
  (h.rech.log ++ h.rech.buffer).filter fun r => !h.rech.frozen || r.seq ≤ h.rech.endSeq

/-- TR_FULL: the traces partition has no place for the capture that arrived, which stays held; REC_FULL is raised once (R423). -/
def tracesFull (h : HostDie) : HostDie :=
  let h' := { h with rech := { h.rech with trFull := true, trFullRaised := true } }
  if h.rech.trFullRaised then h' else (h'.raise 240 1).vector 45

/-- A capture that has arrived whole goes to the storage manager, while the traces partition has a place for it (R423). -/
def storeTrace (h : HostDie) : HostDie :=
  if h.rech.incoming.length < traceSize then h
  else if h.rech.traceCapacity ≤ h.rech.traces.length then h.tracesFull
  else if h.stor.ops.contains .trace then h
  else h.nandOp .trace

/-- A part of a capture arrives (R423). -/
def traceArrives (h : HostDie) (bs : List Byte) : HostDie :=
  { h with rech := { h.rech with incoming := (h.rech.incoming ++ bs).take traceSize } }.storeTrace

/-- The TRACE_ID of the next capture as the NAND gives it (Table 16-6): after the last one stored, or 0 (R422). -/
def nextTrace (h : HostDie) : Nat :=
  match h.rech.traces.getLast? with | some t => (t.1 + 1) % 2 ^ 16 | none => 0

/-- The recorder thaws (R424). -/
def thaw (h : HostDie) : HostDie :=
  if h.rech.frozen then { h with rech := { h.rech with frozen := false, thawAt := some h.htb } } else h

/-- The blocks that hold logical blocks `lo` up to `hi` of a partition are erased, and free again (17 R432, R435). -/
def erasePart (h : HostDie) (part lo hi : Nat) : HostDie := { h with stor := h.stor.erasePart part lo hi }

/-- The clear's steps 2 to 4 (R426): log, traces or both are erased, the CLEAR record takes SEQ 0, and each list gets its LIST
record. A clear of the records alone leaves the TRACE_IDs running, one of the traces alone the SEQ numbers. -/
def clearLog (h : HostDie) (l : Ledger) : HostDie :=
  let recs := l.what.testBit 0
  let tr := l.what.testBit 1
  let r := h.rech
  let keep := r.nextSeq
  let h := { h with rech := { r with
      log := if recs then [] else r.log, pages := if recs then [] else r.pages, buffer := if recs then [] else r.buffer
      handed := if recs then 0 else r.handed, clears := if tr then r.clears + 1 else r.clears
      full := r.full && !recs, fullRaised := r.fullRaised && !recs, missCnt := if recs then 0 else r.missCnt
      missRaised := r.missRaised && !recs, nextSeq := 0
      traces := if tr then [] else r.traces, trFull := r.trFull && !tr, trFullRaised := r.trFullRaised && !tr } }
  let h := { h with stor := { h.stor with ops := if recs then h.stor.ops.filter (fun o => match o with | .records _ => false | _ => true) else h.stor.ops } }
  let h := if recs then h.erasePart 6 2 4096 else h
  let h := if tr then (h.erasePart 7 0 4096).storeTrace else h
  let h := h.storeRecord
    { type := 2, twinId := h.power.twinB, active := h.mode.word.getLsbD 7, seq := 0, tb := h.htb, wall := h.wall, modeStatus := h.modeStatus, roleEpoch := h.mode.epoch
      ledgerUsed := h.rech.ledger.length, context := [(2, l.index), (1, l.what), (1, l.keySlot), (4, l.lastSeq), (2, l.lastTrace)] }
  let h := if recs then h else { h with rech := { h.rech with nextSeq := keep } }
  let h := (List.range 4).foldl (fun h i =>
    let x := h.rech.lists.getD i (0, [])
    h.storeRecord { type := 3, list := i, ops := x.2, listGen := x.1, twinId := h.power.twinB, active := h.mode.word.getLsbD 7, seq := h.rech.nextSeq, tb := h.htb, wall := h.wall
                    modeStatus := h.modeStatus, roleEpoch := h.mode.epoch, ledgerUsed := h.rech.ledger.length }) h
  { h with rech := { h.rech with ledger := h.rech.ledger.map (fun x => if x.index = l.index then { x with cleared := true } else x) } }

/-- The clears whose ledger entry stands without its CLEAR record are carried through (R426), and their commands complete with REC_CLEARED. -/
def finishClears (h : HostDie) : HostDie :=
  let h := (h.rech.ledger.filter (fun l => !l.cleared)).foldl clearLog h
  h.rech.clearCmds.foldl (fun h r => ((h.complete r .ok).raise 241 1).vector 45) { h with rech := { h.rech with clearCmds := [] } }

/-- The clears whose ledger entry could not be written are undone, and their commands fail (17 R435). -/
def dropClears (h : HostDie) : HostDie :=
  h.rech.clearCmds.foldl (fun h r => h.complete r .mediaError)
    { h with rech := { h.rech with clearCmds := [], ledger := h.rech.ledger.filter (·.cleared) } }

/-- The fields of a ledger entry in the order of R425, its CRC left to the layout. -/
def ledgerFields (l : Ledger) : List Nat := [l.index, l.what, l.keySlot, l.tb, l.wall, l.lastSeq, l.lastTrace]

end HostDie

/-- REC_FREEZE (R424): BUSY while frozen or within 1 s of a thaw. -/
def cmdRecFreeze : HCmd where
  code := 0x9010
  op _ h _ :=
    let soon : Bool := match h.rech.thawAt with | some t => decide (h.htb - t < 40000) | none => false
    if h.rech.frozen ∨ soon then (h, some (.busy, 0))
    else
      let e := (h.rech.nextSeq + 2 ^ 32 - 1) % 2 ^ 32
      ({ h with rech := { h.rech with frozen := true, endSeq := e, frozenAt := h.htb } }, some (.ok, e))

/-- REC_THAW (R424). -/
def cmdRecThaw : HCmd where
  code := 0x9011
  op _ h _ := (h.thaw, some (.ok, 0))

/-- REC_FLUSH (R416): OK once every buffered record is on the NAND. -/
def cmdRecFlush : HCmd where
  code := 0x9012
  op _ h r :=
    if h.rech.buffer.isEmpty then (h, some (.ok, 0))
    else ({ h with rech := { h.rech with urgent := true, flushCmds := h.rech.flushCmds ++ [r] } }.handAll, none)

/-- REC_CLEAR (R425, R426): the ledger entry is written, the rest follows it. -/
def cmdRecClear : HCmd where
  code := 0x9013
  auth _ _ := true
  chk _ _ r := need (1 ≤ r.u32 0 && r.u32 0 ≤ 3)
  op _ h r :=
    if h.mode.winter then (h, some (.wrongMode, 0))
    else if h.rech.frozen then (h, some (.busy, 0))
    else if 256 ≤ h.rech.ledger.length then (h, some (.full, 0))
    else
      let last := (h.rech.traces.getLast?.map (·.1)).getD 0xFFFF
      let l : Ledger := { index := h.rech.ledger.length, what := r.u32 0, keySlot := r.keySlot, tb := h.htb, wall := h.wall
                          lastSeq := (h.rech.nextSeq + 2 ^ 32 - 1) % 2 ^ 32, lastTrace := last, cleared := false }
      ({ h with rech := { h.rech with ledger := h.rech.ledger ++ [l], clearCmds := h.rech.clearCmds ++ [r] } }.nandOp .ledger, none)

/-- REC_SET_FLUSH (R416). -/
def cmdRecSetFlush : HCmd where
  code := 0x9014
  chk _ _ r := need (10 ≤ r.u32 0 && r.u32 0 ≤ 10000)
  op _ h r := ({ h with rech := { h.rech with flushDly := r.u32 0 } }, some (.ok, 0))

/-- REC_STATUS (Table 16-7). -/
def cmdRecStatus : HCmd where
  code := 0x9023
  ro := true
  op _ h _ := (h, some (.ok, h.recStatus.toNat + 2 ^ 32 * h.rech.nextSeq))

namespace Machine

/-- REC_SET_TRIGGER (R411). -/
def execRecSetTrigger (r : Request) (s : State) : Out := .next (s.field cmdRecSetTrigger r)
/-- REC_SET_TRACE (R420). -/
def execRecSetTrace (r : Request) (s : State) : Out := .next (s.field cmdRecSetTrace r)
/-- REC_SET_LEVEL (R421). -/
def execRecSetLevel (r : Request) (s : State) : Out := .next (s.field cmdRecSetLevel r)
/-- REC_TRIGGER (R412). -/
def execRecTrigger (r : Request) (s : State) : Out := .next (s.field cmdRecTrigger r)
/-- REC_FREEZE (R424). -/
def execRecFreeze (r : Request) (s : State) : Out := .next (s.host cmdRecFreeze r)
/-- REC_THAW (R424). -/
def execRecThaw (r : Request) (s : State) : Out := .next (s.host cmdRecThaw r)
/-- REC_FLUSH (R416). -/
def execRecFlush (r : Request) (s : State) : Out := .next (s.host cmdRecFlush r)
/-- REC_CLEAR (R426). -/
def execRecClear (r : Request) (s : State) : Out := .next (s.host cmdRecClear r)
/-- REC_SET_FLUSH (R416). -/
def execRecSetFlush (r : Request) (s : State) : Out := .next (s.host cmdRecSetFlush r)
/-- REC_STATUS (R429). -/
def execRecStatus (r : Request) (s : State) : Out := .next (s.host cmdRecStatus r)

/-- REC_PAGE_FLUSH (R416): FLUSH_DLY has passed since the open page took its first record, or an urgent condition holds. -/
def execRecPageFlush (s : State) : Out :=
  .next (s.onHost (fun h =>
    match h.rech.openAt with
    | some t => if h.urgentNow ∨ 40 * h.rech.flushDly ≤ h.htb - t then h.handAll else h
    | none => h))

/-- REC_AUTO_THAW (R424): 10 s after the freeze. -/
def execRecAutoThaw (s : State) : Out :=
  .next (s.onHost (fun h => if h.rech.frozen ∧ 400000 ≤ h.htb - h.rech.frozenAt then h.thaw else h))

/-- TRACE_FREEZE (R422). -/
def execTraceFreeze (s : State) : Out := .next (s.onField FieldDie.freezeTrace)

/-- REC_STATUS_READ (R428): an OP read of REC_STATUS clears MISS_CNT. -/
def execRecStatusRead (s : State) : Out :=
  .next (s.hostRead (fun _ h => ([h.recStatus], { h with rech := { h.rech with missCnt := 0 } })))

/-- TR_CNT_READ (R428): an OP read of TR_CNT clears TR_MISSED. -/
def execTrCntRead (s : State) : Out :=
  .next ((s.on (fun c => { c with readData := [pack [(16, c.field.recf.trMissed), (0, c.field.recf.nextId)]] })).onField
    (fun f => { f with recf := { f.recf with trMissed := 0 } }))

end Machine

end Sys2Proof
end

