-- ==== Sys2Proof/Machine/Storage.lean ====
section
/-! DEFINITION. The storage manager (17_storage R430 to R453): blocks of the NAND, page operations, scrub, images and their
checks, and the commands of group 0xA0 that need no field load. -/

namespace Sys2Proof

namespace Stor

/-- Bytes of a page (Table 17-5, GEOMETRY bit 27). -/
def pageBytes (s : Stor) : Nat := if s.hdr.geometry.getLsbD 27 then 4096 else 2048

/-- Bytes of a block: 64 pages (Table 17-1). -/
def blockBytes (s : Stor) : Nat := 64 * s.pageBytes

/-- Blocks of the device: 1 Gbit of data doubled per density step (Table 17-5). -/
def total (s : Stor) : Nat := 2 ^ 27 * 2 ^ bits 31 28 s.hdr.geometry / s.blockBytes

/-- Blocks that hold data, or are retired. -/
def taken (b : NandBlock) : Bool := b.retired || b.part != 0xF

/-- Free blocks in the spare pool (R435): good blocks outside partition 0, physical blocks 0 to 2, that hold no data. -/
def spareFree (s : Stor) : Nat := s.total - 3 - (s.blocks.filter taken).length

/-- The block of a partition's logical block. -/
def find (s : Stor) (part logical : Nat) : Option NandBlock :=
  s.blocks.find? fun b => b.part == part && b.logical == logical && !b.retired

/-- Whether a physical block has never been used. -/
def fresh (s : Stor) (p : Nat) : Bool := 3 ≤ p && !(s.blocks.any fun b => b.phys == p)

/-- The free block with the lowest ERASES (R436, dynamic levelling): one never used, or else the first of the lowest. -/
def pick (s : Stor) : Option NandBlock :=
  match (List.range s.total).find? s.fresh with
  | some p => some { phys := p }
  | none => (s.blocks.filter (fun b => !taken b)).foldl (fun a b =>
      match a with
      | some x => if b.erases < x.erases then some b else a
      | none => some b) none

/-- A block of the list replaced, or added. -/
def put (s : Stor) (b : NandBlock) : Stor := { s with blocks := s.blocks.filter (fun x => x.phys != b.phys) ++ [b] }

/-- A block erased and returned to the pool. -/
def erase (s : Stor) (b : NandBlock) : Stor :=
  s.put { phys := b.phys, erases := satN 24 (b.erases + 1) }

/-- A logical block takes a free block for its data; none where the pool is empty (R435). -/
def give (s : Stor) (part logical gen day : Nat) : Option Stor :=
  (s.pick).map fun b => s.put { b with part := part, logical := logical, gen := gen, day := day }

/-- Blocks that `n` bytes need, rounded up. -/
def blocksOf (s : Stor) (n : Nat) : Nat := (n + s.blockBytes - 1) / s.blockBytes

/-- The logical blocks that `n` bytes from an offset lie in. -/
def span (s : Stor) (off n : Nat) : List Nat :=
  (List.range (s.blocksOf (off % s.blockBytes + n))).map (off / s.blockBytes + ·)

/-- A partition erased, and `n` logical blocks of it given blocks for new data; none where the pool does not suffice (R435). -/
def refill (s : Stor) (part n day : Nat) : Option Stor :=
  (List.range n).foldl (fun (a : Option Stor) l => a.bind (fun s => s.give part l 0 day)) (some (s.erasePart part 0 4096))

/-- STOR_STATUS.STATE (Table 17-12). -/
def state (s : Stor) : Nat :=
  if s.recovery then 4 else if ¬ s.formatted then 0 else if s.scrubbing then 2 else if s.spareFree = 0 then 3 else 1

end Stor

namespace HostDie

/-- The storage manager changed. -/
def modStor (h : HostDie) (g : Stor → Stor) : HostDie := { h with stor := g h.stor }

/-- DAY of a program (R432): days from 2000-01-01, 0 while no wall clock was received. -/
def day (h : HostDie) : Nat := if h.wallSet then h.wall / 86400 else 0

/-- STOR_SPARE_LOW when the pool falls below 1 % of the device's blocks, rounded up (R435). -/
def checkSpare (h : HostDie) : HostDie :=
  let low : Bool := decide (h.stor.spareFree < (h.stor.total + 99) / 100)
  let h' := h.modStor (fun s => { s with spareLow := low })
  if low ∧ ¬ h.stor.spareLow then (h'.raise 243 1).vector 46 else h'

/-- A logical block has a physical block before its data are written; the answer says whether it has. -/
def ensure (h : HostDie) (part logical : Nat) : HostDie × Bool :=
  if (h.stor.find part logical).isSome then (h, true)
  else match h.stor.give part logical 0 h.day with
    | some s => ({ h with stor := s }.checkSpare, true)
    | none => (h, false)

/-- As `ensure` for each of a list of logical blocks. -/
def ensureAll (h : HostDie) (part : Nat) (ls : List Nat) : HostDie × Bool :=
  ls.foldl (fun (a : HostDie × Bool) l => let (h, ok) := a.1.ensure part l; (h, a.2 && ok)) (h, true)

/-- The boot header is rewritten: GEN rises by 1 (R439). -/
def rewriteHeader (h : HostDie) (g : BootHeader → BootHeader) : HostDie :=
  (h.modStor (fun s => { s with hdr := { g s.hdr with gen := (s.hdr.gen + 1) % 2 ^ 32 } })).nandOp .header

/-- The data of a block move to a fresh block (R433, R436); the old block is erased, or retired. A move within SLOT_A, SLOT_B or
STAGING rewrites the boot header (R439). Blocks 0 to 2 never move, and a block without data has nothing to move. -/
def moveBlock (h : HostDie) (b : NandBlock) (retire : Bool) : HostDie :=
  if b.phys < 3 ∨ b.part = 0xF then h else
  match h.stor.give b.part b.logical ((b.gen + 1) % 256) h.day with
  | none => h
  | some s =>
    let s := if retire then s.put { b with retired := true } else s.erase b
    let h := { h with stor := s }.checkSpare
    if 1 ≤ b.part ∧ b.part ≤ 3 then h.rewriteHeader id else h

/-- A physical block by number. -/
def block (h : HostDie) (p : Nat) : NandBlock := (h.stor.blocks.find? (fun b => b.phys == p)).getD { phys := p }

/-- A read of block `p` is judged by its worst codeword (Table 17-4a); the answer says whether data came back. -/
def judgeRead (h : HostDie) (p : Nat) (res : NandResult) : HostDie × Bool :=
  match res with
  | .corrected n =>
    if n ≤ 12 ∨ (n ≤ 16 ∧ p < 3) then (h, true)
    else if n ≤ 16 then ((h.moveBlock (h.block p) true).raise 242 1 p, true)
    else (((h.modStor (fun s => { s with ueCnt := satN 8 (s.ueCnt + 1) })).raise 244 1 p).moveBlock (h.block p) true, false)
  | .uncorrectable =>
    (((h.modStor (fun s => { s with ueCnt := satN 8 (s.ueCnt + 1) })).raise 244 1 p).moveBlock (h.block p) true, false)
  | _ => (h, true)

/-- A command's read of logical block `l` of a partition, judged by what the NAND answered. -/
def readBlock (h : HostDie) (part l : Nat) (res : NandResult) : HostDie × Bool :=
  match h.stor.find part l with
  | some b => h.judgeRead b.phys res
  | none => (h, true)

/-- The generation of the newest stored copy (R448). -/
def topCopy (h : HostDie) : Nat := (h.stor.copies.map (·.1)).foldl max 0

/-- Where a page operation writes: its partition and its logical blocks; the boot header has its own, and records find none once the log is full. -/
def opBlocks (h : HostDie) : NandOp → Nat × List Nat
  | .records n =>
    let k := (pageFill n h.pageRecords).length
    (6, if h.recFree < k * h.pageRecords then []
      else (List.range ((h.rech.pages.length % 64 + k + 63) / 64)).map (2 + h.rech.pages.length / 64 + ·))
  | .ledger => (6, [0, 1])
  | .header | .scrub _ | .level _ => (0, [])
  | .learned => (5, [(h.stor.learnedUsed - 1) * 64 / h.stor.blockBytes])
  | .config _ => (4, h.stor.span ((h.topCopy + 1) % 2 * 2 ^ 20) ((h.cfg.blob.map List.length).getD 0))
  | .trace => (7, h.stor.span (h.rech.traces.length * traceSize) traceSize)
  | .staging r => (3, h.stor.span (r.u32 4 + (if r.u32 0 = 1 then 8 * 2 ^ 20 else 0)) (r.u32 8))

/-- The stored copy with the older generation gives way to the running blob (R448). -/
def storeCopy (h : HostDie) : HostDie :=
  match h.cfg.blob with
  | none => h
  | some b =>
    h.modStor (fun s => { s with copies := (s.copies.filter (fun c => c.1 == h.topCopy)).take 1 ++ [(h.topCopy + 1, b)] })

/-- What follows when a page operation has ended, well or with MEDIA_ERROR. -/
def opEnded (h : HostDie) (ok : Bool) : NandOp → HostDie
  | .records n => if ok then h.recordsWritten n else h.recordsStay n
  | .ledger => if ok then h.finishClears else h.dropClears
  | .header | .learned => h
  | .config none => if ok then h.storeCopy else h
  | .config (some r) =>
    if r.opcode = 0x1001 then
      if ok then h.storeCopy.complete r .ok (h.cfg.gen + 2 ^ 32) else (h.complete r .ok h.cfg.gen).raise 244 1
    else if ok then h.storeCopy.complete r .ok else h.complete r .mediaError
  | .trace =>
    if ok then
      let bs := h.rech.incoming
      { h with rech := { h.rech with traces := h.rech.traces ++ [(rd 2 0 bs, bs)], incoming := [] } }
    else h.tracesFull
  | .staging r =>
    if ok then h.complete r .ok
    else
      let off := r.u32 4
      (h.modStor (fun s => if r.u32 0 = 1 then { s with stagedCfg := s.stagedCfg.take off } else { s with stagedImg := s.stagedImg.take off })).complete
        r .mediaError
  | .scrub _ | .level _ => h

/-- The scrub goes on with the next written block, or ends (R436). -/
def scrubNext (h : HostDie) : HostDie :=
  match h.stor.scrubLeft with
  | p :: rest => (h.modStor (fun s => { s with scrubLeft := rest })).nandOp (.scrub p)
  | [] =>
    let n := h.stor.rewritten
    let cmds := h.stor.scrubCmds
    let h := h.modStor (fun s => { s with scrubbing := false, rewritten := 0, scrubCmds := [], scrubDay := h.day })
    cmds.foldl (fun h r => h.complete r .ok) (h.raise 242 2 n)

/-- A scrub of every written page begins (R436), unless one is running. The firmware's storage manager does it, on a NAND that has power. -/
def startScrub (h : HostDie) : HostDie :=
  if h.stor.scrubbing ∨ ¬ h.stor.formatted ∨ ¬ h.booted ∨ ¬ h.listens then h
  else (h.modStor (fun s => { s with
      scrubbing := true, rewritten := 0
      scrubLeft := [0, 1, 2] ++ (s.blocks.filter (fun b => taken' b)).map (·.phys) })).scrubNext
where
  /-- Blocks with written pages. -/
  taken' (b : NandBlock) : Bool := !b.retired && b.part != 0xF

/-- Whether a block's data are too old (R436): DAY behind the wall clock by more than REFRESH_AGE, or not known. -/
def stale (h : HostDie) (b : NandBlock) : Bool :=
  h.wallSet && (b.day == 0 || b.day + h.stor.refreshAge < h.day)

/-- One block read by the scrub (R436): a worn or stale one is rewritten, which for 13 corrected bits and more is the move of R433. Blocks 0 to 2 are
rewritten in place, from another copy where their own cannot be read (R439). -/
def scrubbed (h : HostDie) (p : Nat) (res : NandResult) : HostDie :=
  let b := h.block p
  let (worn, moved) : Bool × Bool := match res with | .corrected n => (decide (8 ≤ n ∧ n ≤ 16), decide (13 ≤ n)) | _ => (false, false)
  let again (h : HostDie) : HostDie := h.modStor (fun s => { s with rewritten := s.rewritten + 1 })
  let (h', good) := h.judgeRead p res
  if p < 3 then (if worn ∨ ¬ good then again h' else h').scrubNext
  else if ¬ good then h'.scrubNext
  else if worn ∧ moved then (again h').scrubNext
  else if worn ∨ h.stale b then (again (h'.moveBlock b false)).scrubNext
  else h'.scrubNext

/-- Static levelling (R436): the block holding data with the lowest ERASES, when the highest ERASES exceeds it by more than
WL_SPREAD. -/
def levelCandidate (h : HostDie) : Option NandBlock :=
  let top := (h.stor.blocks.map (·.erases)).foldl max 0
  let data := h.stor.blocks.filter (fun b => 3 ≤ b.phys && !b.retired && b.part != 0xF)
  data.find? (fun b => b.erases + h.stor.wlSpread < top && data.all (fun x => b.erases ≤ x.erases))

/-- Levelling is asked for where a block needs it and none waits. -/
def wantLevel (h : HostDie) : HostDie :=
  match h.levelCandidate with
  | some b => if h.stor.ops.contains (.level b.phys) ∨ h.stor.current = some (.level b.phys) then h else h.nandOp (.level b.phys)
  | none => h

/-- A page operation completes and the next is served (R433, R434, R437). A program or an erase that fails retires its block, and the
operation is repeated in a fresh one; with the pool empty it fails. -/
def nandDone (h : HostDie) (res : NandResult) : HostDie :=
  match h.stor.current with
  | none => h.nandNext
  | some o =>
    let h := h.modStor (fun s => { s with current := none })
    let done : HostDie :=
      match o with
      | .scrub p => h.scrubbed p res
      | .level p => h.moveBlock (h.block p) false
      | o =>
        let (part, ls) := h.opBlocks o
        let (h, room) := h.ensureAll part ls
        match res with
        | .programFail | .eraseFail =>
          if ¬ room then h.opEnded false o
          else
            let b := ((ls.head?.bind (h.stor.find part)).getD { phys := 0 })
            let h := if b.phys < 3 then h else h.modStor (fun s => s.put { b with retired := true })
            let (h, again) := h.ensureAll part ls
            if again then h.modStor (fun s => { s with current := some o }) else h.opEnded false o
        | _ => h.opEnded room o
    done.wantLevel.nandNext

/-- UPD_STATUS (Table 17-11). -/
def updStatus (h : HostDie) : Word :=
  let s := h.stor
  pack [(31, bit s.hdr.manifest), (30, bit s.hdr.slotB), (29, bit s.hdr.pending), (28, bit s.hdr.cfgPending), (27, bit s.hdr.trial),
    (26, bit s.fieldStale), (16, s.hdr.lastResult), (0, s.rollback % 2 ^ 16)]

/-- STOR_STATUS (Table 17-12). -/
def storStatus (h : HostDie) : Word :=
  let s := h.stor
  pack [(29, s.state), (28, bits 26 26 s.hdr.geometry), (26, bits 29 28 s.hdr.geometry), (25, bits 27 27 s.hdr.geometry),
    (24, bit s.spareLow), (16, s.ueCnt), (0, if s.formatted then satN 16 s.spareFree else 0)]

/-- The STOR registers beyond the header (Table 17-10). -/
def storReg (h : HostDie) (idx : Nat) : Option Word :=
  if idx = 0x08 then some h.updStatus else if idx = 0x09 then some h.storStatus else none

/-- Learned-value records appended (R449). -/
def appendLearned (h : HostDie) (rs : List Learned) : HostDie :=
  if rs.isEmpty then h
  else (h.modStor (fun s => { s with learned := s.learned ++ rs, learnedUsed := s.learnedUsed + rs.length })).nandOp .learned

/-- Records that LEARNED holds at most. -/
def learnedCapacity (h : HostDie) : Nat := h.stor.hdr.sizes.getD 4 0 * h.stor.blockBytes / 64

end HostDie

/-- Whether two learned records are of one identity and type. -/
def Learned.same (a b : Learned) : Bool :=
  a.type == b.type && a.vendor == b.vendor && a.product == b.product && a.serial == b.serial

/-- The records in force (R449): for each identity and type the one with the latest WRITTEN, the later one of equals. -/
def inForce : List Learned → List Learned
  | [] => []
  | x :: xs => if xs.any (fun y => y.same x && x.written ≤ y.written) then inForce xs
      else x :: (inForce xs).filter (fun y => !y.same x)

/-- Insertion by WRITTEN, newest first. -/
def insertNewest (x : Learned) : List Learned → List Learned
  | [] => [x]
  | y :: ys => if y.written ≤ x.written then x :: y :: ys else y :: insertNewest x ys

/-- Records with the newest WRITTEN first. -/
def newest (xs : List Learned) : List Learned := xs.foldr insertNewest []

/-- Compaction of LEARNED (R449): the records in force, the oldest beyond 75 % of capacity dropped. -/
def HostDie.compact (h : HostDie) : HostDie :=
  let cap := h.learnedCapacity
  if h.stor.learnedUsed * 4 ≤ cap * 3 then h
  else
    let keep := (newest (inForce h.stor.learned)).take (cap * 3 / 4)
    { h with stor := { h.stor.erasePart 5 0 4096 with learned := keep, learnedUsed := keep.length } }.nandOp .learned

/-- PART_MASK bit of the variant (Table 17-6). -/
def Variant.partBit : Variant → Nat
  | .fls6480 => 2
  | .fls6440 => 1
  | .fls6420 => 0

/-- Entry `i` of an image header: type, flags, offset, length, digest (Table 17-6). -/
def imageEntry (img : List Byte) (i : Nat) : Nat × Nat × Nat × Nat × List Byte :=
  let o := 0x60 + 44 * i
  (rd 1 o img, rd 1 (o + 1) img, rd 4 (o + 4) img, rd 4 (o + 8) img, slice (o + 12) 32 img)

/-- Bytes of a part in an image: KEEP parts of a manifest follow the image in the slot, in entry order (R443, step 4). -/
def imagePart (img : List Byte) (i : Nat) : List Byte :=
  let (_, fl, off, len, _) := imageEntry img i
  if fl % 2 = 1 then
    let base := 512 + rd 4 0x10 img
    let before := ((List.range i).map fun j => let (_, g, _, n, _) := imageEntry img j; if g % 2 = 1 then n else 0).sum
    slice (base + before) len img
  else slice (512 + off) len img

/-- The part of a type in a slot, with its digest as the slot's header lists it. -/
def slotPart (img : List Byte) (ty : Nat) : Option (List Byte × List Byte) :=
  ((List.range 8).find? fun i => (imageEntry img i).1 == ty).map fun i => (imagePart img i, (imageEntry img i).2.2.2.2)

/-- Whether a header's key is accepted (R441). -/
def keyOk (sec : Sec) (img : List Byte) : Bool :=
  let k := sec.fwKeys.getD (rd 1 6 img) {}
  rd 1 6 img < 4 && k.programmed && !k.revoked && k.hash == Hash.sha256 (slice 0x20 64 img)

/-- Whether a header's signature holds over its payload (R441). -/
def signatureOk (img : List Byte) : Bool :=
  Config.ecdsaOk (slice 0x20 64 img) (slice 0x1C0 64 img) (slice 0 0x1C0 img ++ slice 512 (rd 4 0x10 img) img)

/-- Codes 3 to 6 of Table 17-8 for a header. -/
def headerCheck (v : Variant) (h : HostDie) (img : List Byte) : Nat :=
  if ¬ (rd 1 7 img).testBit v.partBit then 3
  else if ¬ keyOk h.sec img then 4
  else if rd 4 0x0C img < h.stor.otpFloor then 5
  else if ¬ signatureOk img then 6
  else 0

/-- Check 7 for one entry: RELOAD parts by digest; NEW parts by digest and by their own header; KEEP parts by a part of that type and
digest in the active slot. -/
def entryOk (v : Variant) (h : HostDie) (active img : List Byte) (i : Nat) : Bool :=
  let (ty, fl, _, _, dig) := imageEntry img i
  if ty = 0 then true
  else if rd 1 4 img = 2 ∧ fl % 2 = 1 then
    match slotPart active ty with
    | some (_, d) => d == dig
    | none => false
  else
    let p := imagePart img i
    Hash.sha256 p == dig &&
      (rd 1 4 img == 1 || (rd 4 0 p == 0x64801A6E && rd 1 4 p == 3 && rd 1 5 p == ty && headerCheck v h p == 0))

/-- The checks of R441 and R442 on an image of a staged length, in the order of Table 17-8: 0 or the first code that fails. -/
def checkImage (v : Variant) (h : HostDie) (active img : List Byte) (staged : Nat) : Nat :=
  let kind := rd 1 4 img
  if rd 4 0 img ≠ 0x64801A6E ∨ ¬ (kind = 1 ∨ kind = 2) ∨ 8 * 2 ^ 20 - 512 < rd 4 0x10 img ∨ staged ≠ 512 + rd 4 0x10 img then 2
  else
    let c := headerCheck v h img
    if c ≠ 0 then c
    else if ¬ (List.range 8).all (entryOk v h active img) then 7
    else if (kind == 2) != h.stor.hdr.manifest then 11
    else 0

/-- The check of a slot before it runs (R443, step 5): as R441, its KEEP parts taken from the slot itself. -/
def checkSlot (v : Variant) (h : HostDie) (img : List Byte) : Nat :=
  let kind := rd 1 4 img
  if rd 4 0 img ≠ 0x64801A6E ∨ ¬ (kind = 1 ∨ kind = 2) ∨ 8 * 2 ^ 20 - 512 < rd 4 0x10 img then 2
  else
    let c := headerCheck v h img
    if c ≠ 0 then c
    else if ¬ (List.range 8).all (fun i => (imageEntry img i).1 == 0 || Hash.sha256 (imagePart img i) == (imageEntry img i).2.2.2.2) then 7
    else 0

/-- What a staged image leaves in the slot (R443, step 4): the image, then the KEEP parts from the active slot. -/
def activated (active img : List Byte) : List Byte :=
  img ++ (List.range 8).flatMap fun i =>
    let (ty, fl, _, _, _) := imageEntry img i
    if ty ≠ 0 ∧ rd 1 4 img = 2 ∧ fl % 2 = 1 then ((slotPart active ty).map (·.1)).getD [] else []

/-- The image that region H runs. -/
def Stor.running (s : Stor) : List Byte := if s.hdr.slotB then s.slotB else s.slotA

/-- The field parts of an image, QC, DISP and FCTAB in that order (R446). -/
def fieldParts (img : List Byte) : List Byte :=
  [2, 3, 4].flatMap fun t => ((slotPart img t).map (·.1)).getD []

/-- The messages of a field load (R447): the load header, then the parts in blocks of 512 bytes. -/
def Stor.loadBlocks (s : Stor) : List (List Byte) :=
  let bs := fieldParts s.running
  Config.loadHeader s.running :: (List.range ((bs.length + 511) / 512)).map (fun i => slice (512 * i) 512 bs)

/-- The field digest of an image (R446): the SHA-256 of the ENTRIES records of its field parts, as a number. -/
def fieldDigest (img : List Byte) : Nat :=
  ofLe (Hash.sha256 ([2, 3, 4].flatMap fun t =>
    match (List.range 8).find? (fun i => (imageEntry img i).1 == t) with
    | some i => slice (0x60 + 44 * i) 44 img
    | none => []))

/-- Whether HOLD_UP is reported among the conditions (R453). -/
def HostDie.holdUp (h : HostDie) : Bool := h.mode.word.getLsbD 13

/-- Staged bytes of a kind: the image, or the configuration. -/
def Stor.staged (s : Stor) (kind : Nat) : List Byte := if kind = 1 then s.stagedCfg else s.stagedImg

/-- IMG_STAGE (R450). -/
def cmdImgStage : HCmd where
  code := 0xA001
  chk _ h r :=
    let area := if r.u32 0 = 1 then 2 * 2 ^ 20 else 8 * 2 ^ 20
    need (r.u32 0 < 2 && 1 ≤ r.u32 8 && r.u32 8 ≤ 65536 && (r.u32 4 == 0 || r.u32 4 == (h.stor.staged (r.u32 0)).length) &&
      r.u32 4 + r.u32 8 ≤ area && h.bufOk (r.par 16 8) (r.u32 8))
  op _ h r :=
    if h.holdUp then (h, some (.busy, 0))
    else
      let k := r.u32 0
      let bs := h.bufRead r (r.par 16 8) (r.u32 8)
      let first := r.u32 4 = 0
      let keep := if first then [] else h.stor.staged k
      let was := if k = 1 then h.stor.hdr.cfgPending else h.stor.hdr.pending
      let h := h.modStor (fun s => if k = 1 then { s with stagedCfg := keep ++ bs } else { s with stagedImg := keep ++ bs })
      let mid := h.stor.blocksOf (8 * 2 ^ 20)
      let h := if ¬ first then h else if k = 1 then h.erasePart 3 mid 4096 else h.erasePart 3 0 mid
      let h := if first ∧ was then
          h.rewriteHeader (fun d => if k = 1 then { d with cfgPending := false } else { d with pending := false }) else h
      (h.nandOp (.staging r), none)

/-- IMG_COMMIT (R450). -/
def cmdImgCommit : HCmd where
  code := 0xA002
  auth _ _ := true
  chk _ h r := need (r.u32 0 < 2 && 0 < r.u32 4 && r.u32 4 == (h.stor.staged (r.u32 0)).length)
  op _ h r :=
    let h := h.rewriteHeader (fun d =>
      if r.u32 0 = 1 then { d with cfgPending := true, cfgLen := r.u32 4 } else { d with pending := true, stagedLen := r.u32 4 })
    ((h.raise 246 1).vector 47, some (.ok, 0))

/-- STAGE_CANCEL (R453). -/
def cmdStageCancel : HCmd where
  code := 0xA003
  chk _ _ r := need (r.u32 0 < 2)
  op _ h r := (h.rewriteHeader (fun d => if r.u32 0 = 1 then { d with cfgPending := false } else { d with pending := false }), some (.ok, 0))

/-- SET_UPDATE_MODE (R442): a committed image of the other kind is cancelled. -/
def cmdSetUpdateMode : HCmd where
  code := 0xA004
  auth _ _ := true
  chk _ _ r := need (r.u32 0 < 2 && 5 ≤ r.u32 4 && r.u32 4 ≤ 600)
  op _ h r :=
    let other := rd 1 4 h.stor.stagedImg ≠ r.u32 0 + 1
    (h.rewriteHeader (fun d => { d with manifest := r.u32 0 == 1, confirmT := r.u32 4, pending := d.pending && !decide other }), some (.ok, 0))

/-- SET_ROLLBACK_FLOOR (R453): the OTP floor rises and never falls. -/
def cmdSetRollbackFloor : HCmd where
  code := 0xA006
  auth _ _ := true
  chk _ h r := need (r.u32 0 ≤ h.stor.rollback)
  op _ h r :=
    let n := max h.stor.otpFloor (r.u32 0)
    ((h.modStor (fun s => { s with otpFloor := n })).rewriteHeader (fun d => { d with floor := n }), some (.ok, 0))

/-- The partition sizes of STOR_FORMAT in blocks, partitions 1 to 7 (Table 17-4). -/
def partSizes (s : Stor) (r : Request) : List Nat :=
  [8, 8, 10, 2, r.u32 4].map (fun m => s.blocksOf (m * 2 ^ 20)) ++ [2 + s.blocksOf (r.u32 8 * 2 ^ 20), s.blocksOf (r.u32 12 * 2 ^ 20)]

/-- STOR_FORMAT (R431, R438): in recovery only; the clear ledger is kept, and blocks found bad stay retired (R434). -/
def cmdStorFormat : HCmd where
  code := 0xA007
  auth _ _ := true
  chk _ h r :=
    let g := BitVec.ofNat 32 (r.u32 0)
    let s := { h.stor with hdr := { h.stor.hdr with geometry := g } }
    need (bits 31 28 g < 4 && bits 25 24 g < 3 && bits 23 0 g == 0 && bits 31 27 g == bits 31 27 h.stor.device &&
      1 ≤ r.u32 4 && r.u32 4 ≤ 16 && 4 ≤ r.u32 8 && r.u32 8 ≤ 256 && r.u32 12 ≤ 256 &&
      (s.total * 4 + 99) / 100 + (partSizes s r).sum + 3 ≤ s.total)
  op _ h r :=
    if ¬ h.stor.recovery then (h, some (.wrongMode, 0))
    else
      let g := BitVec.ofNat 32 (r.u32 0)
      let s := { h.stor with hdr := { h.stor.hdr with geometry := g } }
      let hdr : BootHeader := { gen := 1, geometry := g, sizes := partSizes s r, floor := h.stor.otpFloor }
      let blocks := h.stor.blocks.map (fun (b : NandBlock) =>
        if b.retired ∨ b.part = 0xF ∨ (b.part = 6 ∧ b.logical < 2) then b else { phys := b.phys, erases := satN 24 (b.erases + 1) })
      let h := h.modStor (fun s => { s with
        formatted := true, hdr := hdr, slotA := [], slotB := [], stagedImg := [], stagedCfg := [], copies := [], learned := []
        learnedUsed := 0, blocks := blocks })
      ({ h with rech := { h.rech with
          log := [], pages := [], traces := [], capacity := r.u32 8 * 2 ^ 20 / 512, traceCapacity := r.u32 12 * 2 ^ 20 / traceSize
          full := false, trFull := false, fullRaised := false, trFullRaised := false, nextSeq := 0 } }.nandOp .header, some (.ok, 0))

/-- STOR_SCRUB_NOW (R436, R453). -/
def cmdStorScrubNow : HCmd where
  code := 0xA008
  op _ h r :=
    if h.holdUp then (h, some (.busy, 0))
    else if ¬ h.stor.formatted then (h, some (.mediaError, 0))
    else ((h.modStor (fun s => { s with scrubCmds := s.scrubCmds ++ [r] })).startScrub, none)

/-- GET_UPDATE (Table 17-13). -/
def cmdGetUpdate : HCmd where
  code := 0xA010
  ro := true
  op _ h _ := (h, some (.ok, h.updStatus.toNat + 2 ^ 32 * h.stor.otpFloor))

/-- GET_STORAGE (Table 17-13); like every read it clears the RC field that it returns (19 R476). -/
def cmdGetStorage : HCmd where
  code := 0xA011
  ro := true
  chk _ _ r := need (1 ≤ r.u32 0 && r.u32 0 ≤ 7)
  op _ h r :=
    let used := (h.stor.blocks.filter (fun b => b.part == r.u32 0 && !b.retired)).length
    let top := (h.stor.blocks.map (·.erases)).foldl max 0
    (h.modStor (fun s => { s with ueCnt := 0 }), some (.ok, h.storStatus.toNat + 2 ^ 32 * satN 16 used + 2 ^ 48 * satN 16 (top / 16)))

/-- The page of the log that holds its record `i`, by the records in each page. -/
def pageOf : List Nat → Nat → Nat
  | [], _ => 0
  | n :: ns, i => if i < n then 0 else 1 + pageOf ns (i - n)

/-- REC_READ (Table 16-7): up to COUNT records from SEQ on, into the host buffer. -/
def cmdRecRead : HCmd where
  code := 0x9020
  ro := true
  chk _ h r := need (1 ≤ r.u32 4 && r.u32 4 ≤ 64 && h.bufOk (r.par 8 8) (512 * r.u32 4))
  op _ h r :=
    let i := h.rech.log.findIdx (fun x => r.u32 0 ≤ x.seq)
    let (h, good) := if i < h.rech.log.length then h.readBlock 6 (2 + pageOf h.rech.pages i / 64) r.media else (h, true)
    if ¬ good then (h, some (.mediaError, 0)) else
    let rs := (h.readable.filter (fun x => r.u32 0 ≤ x.seq)).take (r.u32 4)
    let next := match rs.getLast? with | some x => (x.seq + 1) % 2 ^ 32 | none => r.u32 0
    (h.bufWrite (r.par 8 8) (rs.flatMap Record.bytes), some (.ok, rs.length + 2 ^ 32 * next))

/-- REC_READ_TRACE (Table 16-7). -/
def cmdRecReadTrace : HCmd where
  code := 0x9021
  ro := true
  chk _ h r := need (1 ≤ r.u32 16 && r.u32 16 ≤ 65536 && r.u32 4 + r.u32 16 ≤ traceSize && h.bufOk (r.par 8 8) (r.u32 16))
  op _ h r :=
    match h.rech.traces.find? (fun t => t.1 == r.u32 0) with
    | some t =>
      let (h, good) := h.readBlock 7 (r.u32 4 / h.stor.blockBytes) r.media
      if good then (h.bufWrite (r.par 8 8) (slice (r.u32 4) (r.u32 16) t.2), some (.ok, 0)) else (h, some (.mediaError, 0))
    | none => (h, some (.badParam, 0))

/-- REC_READ_LEDGER (R425). -/
def cmdRecReadLedger : HCmd where
  code := 0x9022
  ro := true
  chk _ h r := need (r.u32 0 < 256 && h.bufOk (r.par 8 8) 32)
  op _ h r :=
    match h.rech.ledger.find? (fun l => l.index == r.u32 0) with
    | some l =>
      let (h, good) := h.readBlock 6 0 r.media
      if good then (h.bufWrite (r.par 8 8) (slice 0 32 (Config.ledgerLayout (HostDie.ledgerFields l))), some (.ok, 0))
      else (h, some (.mediaError, 0))
    | none => (h, some (.badParam, 0))

namespace Machine

/-- REC_READ (R429). -/
def execRecRead (r : Request) (s : State) : Out := .next (s.host cmdRecRead r)
/-- REC_READ_TRACE (R429). -/
def execRecReadTrace (r : Request) (s : State) : Out := .next (s.host cmdRecReadTrace r)
/-- REC_READ_LEDGER (R425). -/
def execRecReadLedger (r : Request) (s : State) : Out := .next (s.host cmdRecReadLedger r)
/-- IMG_STAGE (R450). -/
def execImgStage (r : Request) (s : State) : Out := .next (s.host cmdImgStage r)
/-- IMG_COMMIT (R450). -/
def execImgCommit (r : Request) (s : State) : Out := .next (s.host cmdImgCommit r)
/-- STAGE_CANCEL (R453). -/
def execStageCancel (r : Request) (s : State) : Out := .next (s.host cmdStageCancel r)
/-- SET_UPDATE_MODE (R442). -/
def execSetUpdateMode (r : Request) (s : State) : Out := .next (s.host cmdSetUpdateMode r)
/-- SET_ROLLBACK_FLOOR (R453). -/
def execSetRollbackFloor (r : Request) (s : State) : Out := .next (s.host cmdSetRollbackFloor r)
/-- STOR_FORMAT (R438). -/
def execStorFormat (r : Request) (s : State) : Out := .next (s.host cmdStorFormat r)
/-- STOR_SCRUB_NOW (R436). -/
def execStorScrubNow (r : Request) (s : State) : Out := .next (s.host cmdStorScrubNow r)
/-- GET_UPDATE (R453). -/
def execGetUpdate (r : Request) (s : State) : Out := .next (s.host cmdGetUpdate r)
/-- GET_STORAGE (R453). -/
def execGetStorage (r : Request) (s : State) : Out := .next (s.host cmdGetStorage r)

/-- NAND_OP_DONE (R437). -/
def execNandOpDone (result : NandResult) (s : State) : Out := .next (s.onHost (fun h => h.nandDone result))

/-- SCRUB_PERIOD (R436): SCRUB_PERIOD days after the end of the last scrub, as far as the days are known. -/
def execScrubPeriod (s : State) : Out :=
  .next (s.onHost (fun h => if h.wallSet ∧ h.day < h.stor.scrubDay + h.stor.scrubPeriod then h else h.startScrub))

/-- LEARNED_COMPACTION (R449). -/
def execLearnedCompaction (s : State) : Out := .next (s.onHost (fun h => if h.booted ∧ h.listens then h.compact else h))

/-- STOR_STATUS_READ (R452): an OP read of STOR_STATUS returns UE_CNT and clears it. -/
def execStorStatusRead (s : State) : Out :=
  .next (s.hostRead (fun _ h => ([h.storStatus], h.modStor (fun x => { x with ueCnt := 0 }))))

end Machine

end Sys2Proof
end

