-- ==== Sys2Proof/Machine/HostCmds.lean ====
section
/-! DEFINITION. Host-executed commands of the command reference (19 R482 to R494) that need no other die, and the timer and two-wire
commands on the side of their target (R498, R500). -/

namespace Sys2Proof

/-- IDENTIFY (00 R5, Table 19-4). -/
def cmdIdentify : HCmd where
  code := 0x0001
  ro := true
  op v h _ := (h, some (.ok, v.cap0.toNat + 2 ^ 32 * cap1.toNat))

/-- ECHO (Table 19-4). -/
def cmdEcho : HCmd where
  code := 0x0005
  ro := true
  op _ h r := (h, some (.ok, r.par 0 8))

/-- SLEEP (02 R60): only in HOST_ONLY; H_HIF and H_STO go off and every open page of the recorder is written (16 R416). -/
def cmdSleep : HCmd where
  code := 0x0003
  op _ h _ :=
    if h.mode.mode ≠ 1 then (h, some (.wrongMode, 0))
    else
      let h := h.handAll
      ({ h with power := { h.power with
          asleep := true, linkUp := false, dom := (h.power.dom.modifyNat 2 (fun _ => .off)).modifyNat 3 (fun _ => .off) } }, some (.ok, 0))

/-- SET_WALL_CLOCK (R484): RESULT is the previous value, 0 when none was set. -/
def cmdSetWallClock : HCmd where
  code := 0x0004
  op _ h r := ({ h with wall := r.u32 0, wallSet := true, wallTicks := 0 }, some (.ok, if h.wallSet then h.wall else 0))

/-- CFG_SAVE (R489): OK when the running blob is the newest copy. -/
def cmdCfgSave : HCmd where
  code := 0x1002
  auth _ _ := true
  op _ h r :=
    if h.cfg.blob.isNone then (h, some (.notConfigured, 0)) else (h.nandOp (.config (some r)), none)

/-- GEN and CRC of the configuration that the field side runs, as its telemetry set says (R492). -/
def HostDie.fieldCfg (h : HostDie) : Nat × Nat := (rd 4 0x2C h.bar.telemetry, rd 4 0x30 h.bar.telemetry)

/-- CFG_READ (R489): on a standby only a blob that is the one its field side runs (R492). -/
def cmdCfgRead : HCmd where
  code := 0x1010
  ro := true
  chk _ h r := need (1 ≤ r.u32 4 && r.u32 4 ≤ 65536 && h.bufOk (r.par 8 8) (r.u32 4))
  op _ h r :=
    match h.cfg.blob with
    | none => (h, some (.notConfigured, 0))
    | some b =>
      if h.mode.notConfigured ∨ (h.standby ∧ h.fieldCfg ≠ (h.cfg.gen, h.cfg.crc)) then (h, some (.notConfigured, 0))
      else (h.bufWrite (r.par 8 8) ((b.drop (r.u32 0)).take (r.u32 4)), some (.ok, b.length))

/-- CFG_INFO (R489): CRC and GEN of the running blob; on a standby what the telemetry set says of it (R492). -/
def cmdCfgInfo : HCmd where
  code := 0x1011
  ro := true
  op _ h _ :=
    if h.mode.notConfigured then (h, some (.notConfigured, 0))
    else if h.standby then (h, some (.ok, h.fieldCfg.2 + 2 ^ 32 * h.fieldCfg.1))
    else if h.cfg.blob.isNone then (h, some (.notConfigured, 0))
    else (h, some (.ok, h.cfg.crc + 2 ^ 32 * h.cfg.gen))

/-- Whether AUTH key slot `k` is filled. -/
def Sec.filled (s : Sec) (k : Nat) : Bool := (s.authKeys.getD k none).isSome

/-- SEC_SET_AUTH_KEY (Table 19-9). -/
def cmdSecSetAuthKey : HCmd where
  code := 0xB001
  auth h _ := (List.range 4).any h.sec.filled
  chk _ h r := need (r.u32 0 < 4 && h.bufOk (r.par 8 8) 32)
  op _ h r :=
    ({ h with sec := { h.sec with authKeys := h.sec.authKeys.modifyNat (r.u32 0) (fun _ => some (h.bufRead r (r.par 8 8) 32)) } }, some (.ok, 0))

/-- SEC_CLEAR_AUTH_KEY (Table 19-9): never the slot of its own token, an empty slot, or the last filled one. -/
def cmdSecClearAuthKey : HCmd where
  code := 0xB002
  auth _ _ := true
  chk _ h r := need (r.u32 0 < 4 && r.keySlot != r.u32 0 && h.sec.filled (r.u32 0) && 1 < ((List.range 4).filter h.sec.filled).length)
  op _ h r := ({ h with sec := { h.sec with authKeys := h.sec.authKeys.modifyNat (r.u32 0) (fun _ => none) } }, some (.ok, 0))

/-- SEC_ADD_FW_KEY (Table 19-9). -/
def cmdSecAddFwKey : HCmd where
  code := 0xB003
  auth _ _ := true
  chk _ h r := need (r.u32 0 < 4 && h.bufOk (r.par 8 8) 32 && !(h.sec.fwKeys.getD (r.u32 0) {}).programmed)
  op _ h r :=
    let key : FwKey := { programmed := true, hash := h.bufRead r (r.par 8 8) 32 }
    ({ h with sec := { h.sec with fwKeys := h.sec.fwKeys.modifyNat (r.u32 0) (fun _ => key) } }, some (.ok, 0))

/-- SEC_REVOKE_FW_KEY (Table 19-9). -/
def cmdSecRevokeFwKey : HCmd where
  code := 0xB004
  auth _ _ := true
  chk _ h r :=
    let k := h.sec.fwKeys.getD (r.u32 0) {}
    let live := (h.sec.fwKeys.rows.filter (fun x => x.programmed && !x.revoked)).length
    need (r.u32 0 < 4 && k.programmed && !k.revoked && !(!h.stor.running.isEmpty && h.stor.key == r.u32 0) && 1 < live)
  op _ h r :=
    ({ h with sec := { h.sec with fwKeys := h.sec.fwKeys.modifyNat (r.u32 0) (fun x => { x with revoked := true }) } }.raise 250 1 (r.u32 0),
      some (.ok, 0))

/-- SEC_GET_IDENTITY (Table 19-9). -/
def cmdSecGetIdentity : HCmd where
  code := 0xB005
  ro := true
  chk _ h r := need (h.bufOk (r.par 8 8) 64)
  op _ h r := (h.bufWrite (r.par 8 8) (slice 0 64 Config.identityKey), some (.ok, devId))

/-- SEC_ATTEST (R494): the challenge, CAP0, CAP1 and HTB signed; the signature follows the challenge in the buffer. -/
def cmdSecAttest : HCmd where
  code := 0xB006
  chk _ h r := need (h.bufOk (r.par 8 8) 96)
  op v h r :=
    let msg := h.bufRead r (r.par 8 8) 32 ++ leBytes 4 v.cap0.toNat ++ leBytes 4 cap1.toNat ++ leBytes 8 h.htb
    (h.bufWrite (r.par 8 8 + 32) (slice 0 64 (Config.ecdsaSign msg)), some (.ok, h.htb))

/-- SEC_RANDOM (Table 19-9). -/
def cmdSecRandom : HCmd where
  code := 0xB007
  chk _ h r := need (1 ≤ r.u32 0 && r.u32 0 ≤ 256 && h.bufOk (r.par 8 8) (r.u32 0))
  op _ h r :=
    let n := h.sec.draws
    let h := { h with sec := { h.sec with draws := n + r.u32 0 } }
    if Config.rngHealthy n then (h.bufWrite (r.par 8 8) ((List.range (r.u32 0)).map fun i => Config.random (n + i)), some (.ok, 0))
    else (h.raise 251 1, some (.aborted, 0))

/-- SEC_GET_KEYS (Table 19-9). -/
def cmdSecGetKeys : HCmd where
  code := 0xB010
  ro := true
  op _ h _ :=
    (h, some (.ok, (pack ((List.range 4).flatMap fun k =>
      let x := h.sec.fwKeys.getD k {}
      [(k, bit (h.sec.filled k)), (8 + k, bit x.programmed), (12 + k, bit x.revoked)])).toNat + 2 ^ 16 * (h.stor.key % 4)))

/-- What region H puts on land HTn_OUT while H_CORE runs (R519). -/
def HostDie.timerLand (h : HostDie) (k : Nat) : Option Bool :=
  if h.listens ∧ h.power.dom.getD 1 .off = .good then some (h.htim.get k).level else none

/-- A timer command on HTIM (R498). -/
def hTimer (code : Nat) (ro : Bool) (ok : Request → Bool) (g : TimerBlk 8 → Nat → Request → TimerBlk 8 × Nat) : HCmd where
  code := code
  ro := ro
  chk _ _ r := need (ok r)
  op _ h r :=
    let (t, x) := g h.htim (r.u32 0) r
    ({ h with htim := t }, some (.ok, x))

/-- A timer command on the FTIM block of its channel's quadrant (R498, R499). -/
def fTimer (code : Nat) (ro : Bool) (ok : Request → Bool) (g : TimerBlk 4 → Nat → Request → TimerBlk 4 × Nat) : FCmd where
  code := code
  ro := ro
  chk v _ r := if 24 ≤ r.u32 0 ∨ r.u32 0 < 8 then some .badParam else if v.quads ≤ (r.u32 0 - 8) / 4 then some .unitAbsent else need (ok r)
  op _ f r :=
    let q := (r.u32 0 - 8) / 4
    if ¬ ro ∧ f.fixedTimer (r.u32 0) then (f, some (.wrongMode, 0))
    else
      let (t, x) := g (f.qd q).ftim ((r.u32 0 - 8) % 4) r
      (f.modQd q (fun y => { y with ftim := t }), some (.ok, x))

/-- TMR_SET on HTIM. -/
def cmdTmrSetH : HCmd := hTimer 0xD001 false tmrSetOk TimerBlk.tmrSet
/-- TMR_SET on FTIM. -/
def cmdTmrSet : FCmd := fTimer 0xD001 false tmrSetOk TimerBlk.tmrSet
/-- TMR_COMPARE on HTIM. -/
def cmdTmrCompareH : HCmd := hTimer 0xD002 false tmrCompareOk TimerBlk.tmrCompare
/-- TMR_COMPARE on FTIM. -/
def cmdTmrCompare : FCmd := fTimer 0xD002 false tmrCompareOk TimerBlk.tmrCompare
/-- TMR_SNAPSHOT on HTIM. -/
def cmdTmrSnapshotH : HCmd := hTimer 0xD003 false tmrSnapshotOk TimerBlk.tmrSnapshot
/-- TMR_SNAPSHOT on FTIM. -/
def cmdTmrSnapshot : FCmd := fTimer 0xD003 false tmrSnapshotOk TimerBlk.tmrSnapshot
/-- TMR_GET on HTIM. -/
def cmdTmrGetH : HCmd := hTimer 0xD010 true tmrGetOk TimerBlk.tmrGet
/-- TMR_GET on FTIM. -/
def cmdTmrGet : FCmd := fTimer 0xD010 true tmrGetOk TimerBlk.tmrGet

/-- Whether a timer command names an HTIM channel. -/
def timerHost (r : Request) : Bool := r.u32 0 < 8

/-- The check of BUS and of a command's other parameters on the field side (R500). -/
def busCheck (v : Variant) (r : Request) (ok : Bool) : Option Status :=
  if r.u32 0 < 2 ∨ 6 ≤ r.u32 0 then some .badParam else if v.quads ≤ r.u32 0 - 2 then some .unitAbsent else need ok

/-- A command on the bus of its quadrant; one that is isolated takes none (20 R516). -/
def onBusOf (f : FieldDie) (r : Request) (g : TwBus → TwBus × Option (Status × Nat)) : FieldDie × Option (Status × Nat) :=
  let q := r.u32 0 - 2
  if f.power.isolated.getD q false then (f, some (.wrongMode, 0))
  else
    let (b, res) := g (f.qd q).ftw.bus
    (f.modQd q (fun x => { x with ftw := { x.ftw with bus := b } }), res)

/-- Whether a two-wire command names MB0 or MB1. -/
def busHost (r : Request) : Bool := r.u32 0 < 2

/-- TW_XFER on a host bus (R501): the bytes to write are read from the buffer before the check (18 R467). -/
def cmdTwXferH : HCmd where
  code := 0xE001
  chk _ h r := need (TwBus.xferOk r && h.bufOk (r.par 24 8) (max (r.u32 8) (r.u32 12)))
  op _ h r :=
    let (b, res) := (h.mb.getD (r.u32 0) {}).xfer { r with data := h.bufRead r (r.par 24 8) (r.u32 8) }
    ({ h with mb := h.mb.modifyNat (r.u32 0) (fun _ => b) }, res)

/-- TW_XFER on a field bus. -/
def cmdTwXfer : FCmd where
  code := 0xE001
  chk v _ r := busCheck v r (TwBus.xferOk r)
  op _ f r := onBusOf f r (fun b => b.xfer r)

/-- TW_SET_BUS on a host bus. -/
def cmdTwSetBusH : HCmd where
  code := 0xE002
  chk _ _ r := need (TwBus.setOk true r)
  op _ h r :=
    let (b, res) := (h.mb.getD (r.u32 0) {}).set r
    ({ h with mb := h.mb.modifyNat (r.u32 0) (fun _ => b) }, res)

/-- TW_SET_BUS on a field bus. -/
def cmdTwSetBus : FCmd where
  code := 0xE002
  chk v _ r := busCheck v r (TwBus.setOk false r)
  op _ f r := onBusOf f r (fun b => b.set r)

/-- TW_GET_BUS on a host bus: the status register, its counters cleared (20 R517). -/
def cmdTwGetBusH : HCmd where
  code := 0xE010
  ro := true
  op _ h r :=
    let b := h.mb.getD (r.u32 0) {}
    ({ h with mb := h.mb.modifyNat (r.u32 0) (fun _ => b.clearCounts) }, some (.ok, b.status.toNat))

/-- TW_GET_BUS on a field bus. -/
def cmdTwGetBus : FCmd where
  code := 0xE010
  ro := true
  chk v _ r := busCheck v r true
  op _ f r := onBusOf f r (fun b => (b.clearCounts, some (.ok, b.status.toNat)))

namespace Machine

/-- A command of side T on the side of its target (R481). -/
def State.byTarget (host : Request → Bool) (ch : HCmd) (cf : FCmd) (r : Request) (s : State) : State :=
  if host r then s.host ch r else s.field cf r

/-- IDENTIFY (R5). -/
def execIdentify (r : Request) (s : State) : Out := .next (s.host cmdIdentify r)
/-- ECHO (R482). -/
def execEcho (r : Request) (s : State) : Out := .next (s.host cmdEcho r)
/-- SLEEP (R60). -/
def execSleep (r : Request) (s : State) : Out := .next (s.host cmdSleep r)
/-- SET_WALL_CLOCK (R484). -/
def execSetWallClock (r : Request) (s : State) : Out := .next (s.host cmdSetWallClock r)
/-- CFG_SAVE (R489). -/
def execCfgSave (r : Request) (s : State) : Out := .next (s.host cmdCfgSave r)
/-- CFG_READ (R489). -/
def execCfgRead (r : Request) (s : State) : Out := .next (s.host cmdCfgRead r)
/-- CFG_INFO (R489). -/
def execCfgInfo (r : Request) (s : State) : Out := .next (s.host cmdCfgInfo r)
/-- SEC_SET_AUTH_KEY (R493). -/
def execSecSetAuthKey (r : Request) (s : State) : Out := .next (s.host cmdSecSetAuthKey r)
/-- SEC_CLEAR_AUTH_KEY (R493). -/
def execSecClearAuthKey (r : Request) (s : State) : Out := .next (s.host cmdSecClearAuthKey r)
/-- SEC_ADD_FW_KEY (R493). -/
def execSecAddFwKey (r : Request) (s : State) : Out := .next (s.host cmdSecAddFwKey r)
/-- SEC_REVOKE_FW_KEY (R493). -/
def execSecRevokeFwKey (r : Request) (s : State) : Out := .next (s.host cmdSecRevokeFwKey r)
/-- SEC_GET_IDENTITY (R493). -/
def execSecGetIdentity (r : Request) (s : State) : Out := .next (s.host cmdSecGetIdentity r)
/-- SEC_ATTEST (R494). -/
def execSecAttest (r : Request) (s : State) : Out := .next (s.host cmdSecAttest r)
/-- SEC_RANDOM (R493). -/
def execSecRandom (r : Request) (s : State) : Out := .next (s.host cmdSecRandom r)
/-- SEC_GET_KEYS (R493). -/
def execSecGetKeys (r : Request) (s : State) : Out := .next (s.host cmdSecGetKeys r)
/-- TMR_SET (R498). -/
def execTmrSet (r : Request) (s : State) : Out := .next (s.byTarget timerHost cmdTmrSetH cmdTmrSet r)
/-- TMR_COMPARE (R499). -/
def execTmrCompare (r : Request) (s : State) : Out := .next (s.byTarget timerHost cmdTmrCompareH cmdTmrCompare r)
/-- TMR_SNAPSHOT (R526). -/
def execTmrSnapshot (r : Request) (s : State) : Out := .next (s.byTarget timerHost cmdTmrSnapshotH cmdTmrSnapshot r)
/-- TMR_GET (R498). -/
def execTmrGet (r : Request) (s : State) : Out := .next (s.byTarget timerHost cmdTmrGetH cmdTmrGet r)
/-- TW_XFER (R501). -/
def execTwXfer (r : Request) (s : State) : Out := .next (s.byTarget busHost cmdTwXferH cmdTwXfer r)
/-- TW_SET_BUS (R500). -/
def execTwSetBus (r : Request) (s : State) : Out := .next (s.byTarget busHost cmdTwSetBusH cmdTwSetBus r)
/-- TW_GET_BUS (R500). -/
def execTwGetBus (r : Request) (s : State) : Out := .next (s.byTarget busHost cmdTwGetBusH cmdTwGetBus r)

end Machine

end Sys2Proof
end

