-- ==== Sys2Proof/Machine/Registers.lean ====
section
/-! DEFINITION. The observable registers by their OP numbers (00_scope R15, 19_command_reference R495, R496): what each reads as, what a read
clears or latches, and what a write changes. -/

namespace Sys2Proof

/-- Region, block and index of an OP number (R15). -/
def opRegion (op : Nat) : Nat := op / 8192 % 8
def opBlk (op : Nat) : Nat := op / 256 % 32
def opIndex (op : Nat) : Nat := op % 256

/-- Cell positions and spare cells of a quadrant's block (01 Tables 01-3, 01-11). -/
def cellsOf (b : Nat) : Nat := [0, 24, 2, 16].getD b 0
def sparesOf (b : Nat) : Nat := [0, 4, 1, 2].getD b 0

/-- BLK_INFO (Table 01-4). -/
def infoWord (r b cells free : Nat) : Word :=
  pack [(29, r), (24, b), (16, (Config.blkVersion r b).toNat), (8, cells), (0, free)]

/-- BLK_STATE (Table 01-5); OFF while the block's power domain is off. -/
def Blk.stateWord (x : Blk) (d : Domain) : Word :=
  pack [(28, if d = .good then x.state else 0), (24, x.lastOp), (0, x.resetCnt)]

/-- The memories of Table 01-13 by region and block: base address and size in bytes, as the processor of the region sees them (R41). -/
def sramMap (region block : Nat) : Option (Nat × Nat) :=
  if region = 0 then (if block = 0 then some (0, 4 * 2 ^ 20) else if block = 6 then some (0x00400000, 512 * 2 ^ 10) else none)
  else if region = 1 then (if block = 8 then some (0x20000000, 2 ^ 20) else if block = 5 then some (0x20100000, 2 ^ 20) else none)
  else if 4 ≤ region ∧ block = 0 then some (0x30000000, 512 * 2 ^ 10) else none

/-- The blocks that hold SRAM (R18, Table 01-13). -/
def hasSram (region block : Nat) : Bool := (sramMap region block).isSome

/-- Whether a block's memory has a 64-bit word at an address (R41, R42). -/
def sramWord (region block addr : Nat) : Bool :=
  match sramMap region block with
  | some (base, size) => decide (base ≤ addr) && decide (addr < base + size) && addr % 8 == 0
  | none => false

/-- Corrected errors of a row group within 24 h (R34). -/
def Blk.recentErrs (b : Blk) (row t : Nat) : List Nat :=
  match b.rowErrs.find? (fun (x : Nat × List Nat) => x.1 == row) with
  | some x => x.2.filter (fun s => decide (t < s + 3456000000))
  | none => []

/-- A corrected error of a row group counted. -/
def Blk.countErr (b : Blk) (row t : Nat) : Blk :=
  { b with rowErrs := b.rowErrs.filter (fun (x : Nat × List Nat) => x.1 != row) ++ [(row, b.recentErrs row t ++ [t])] }

/-- A row group takes the next spare row group (R34); without one it is a failed cell (R33). -/
def Blk.repair (b : Blk) (region block row : Nat) : Blk :=
  if (Config.rowGroups region block).toNat ≤ b.rowsUsed then { b with failedCells := b.failedCells.filter (· != row) ++ [row] }
  else { b with rowsUsed := b.rowsUsed + 1, rowMap := b.rowMap.filter (fun (x : Nat × Nat) => x.1 != row) ++ [(row, b.rowsUsed)]
                rowErrs := b.rowErrs.filter (fun (x : Nat × List Nat) => x.1 != row) }

/-- A row group with three corrected errors within 24 h moves to a spare row group (R34), where one is left. -/
def Blk.moveRow (b : Blk) (region block row t : Nat) : Blk :=
  if (b.recentErrs row t).length < 3 then b else b.repair region block row

/-- SPARE_MAP of a memory block (R18): row groups in total and in use. -/
def Blk.rowsWord (x : Blk) (r b : Nat) : Word := pack [(16, (Config.rowGroups r b).toNat), (0, x.rowsUsed)]

/-- A value written under a mask over an old one. -/
def merge (old w mask : Word) : Word := (old &&& ~~~ mask) ||| (w &&& mask)

namespace FieldDie

/-- Spares in permanent use, as SPARE_MAP shows them. -/
def sparesUsed (f : FieldDie) (q b : Nat) : Nat :=
  ((List.range 4).filter fun k => (f.spareMap q b).getLsbD (8 * k + 7)).length

/-- The common header of block `b` of region `r` (R18). A memory block reads 0 in CELLS and SPARES_FREE: its row groups show in SPARE_MAP alone
(DESIGN CHOICE, log entry 37). -/
def headReg (f : FieldDie) (r b : Nat) (x : Blk) (idx : Nat) : Option Word :=
  let c := if 4 ≤ r then cellsOf b else 0
  match idx with
  | 0 => some (infoWord r b c (if c = 0 then 0 else sparesOf b - f.sparesUsed (r - 4) b))
  | 1 => some (x.stateWord (f.blkDomain r b))
  | 2 => some (if (r = 1 ∧ (b = 5 ∨ b = 8)) ∨ (4 ≤ r ∧ b = 0) then x.rowsWord r b else if 4 ≤ r then f.spareMap (r - 4) b else 0)
  | _ => none

/-- The TBASE registers (03 Tables 03-3 to 03-9) as initiator `i` reads them. -/
def tbaseReg (f : FieldDie) (i idx : Nat) : Option Word :=
  let t := f.tick
  let s := t.shadows.getD i {}
  match idx with
  | 0x08 => some (HostDie.half t.tb false)
  | 0x09 => some (BitVec.ofNat 32 s.hi)
  | 0x0A => some (pack [(16, s.fine), (0, t.fine)])
  | 0x0B => some (pack [(16, t.overrunCnt), (8, t.repeatRun), (0, t.lateBanks)])
  | 0x0C => some (pack [(16, t.dispMax), (0, t.dispLast)])
  | 0x0D => some (pack [(31, bit t.locked), (30, bit t.following), (16, enc 8 t.trim), (0, enc 16 t.phaseErr)])
  | 0x0E => some (pack [(0, t.lossCnt)])
  | _ => none

/-- TB_LO read by initiator `i` (R82): its shadows latch. -/
def latchTb (f : FieldDie) (i : Nat) : FieldDie :=
  { f with tick := { f.tick with
      shadows := f.tick.shadows.modifyNat i (fun _ => { hi := f.tick.tb / 2 ^ 32 % 2 ^ 32, fine := f.tick.fine }) } }

/-- DISP_MAX cleared by a read (Table 03-7). -/
def clearDispMax (f : FieldDie) : FieldDie := { f with tick := { f.tick with dispMax := 0 } }

/-- The registers of an FTW block beyond the header (20 Tables 20-5 to 20-7). -/
def ftwReg (f : FieldDie) (q idx : Nat) : Option Word :=
  let t := (f.qd q).ftw
  if idx = 0x08 then some t.bus.ctrl
  else if idx = 0x09 then some t.bus.status
  else if (0x10 ≤ idx ∧ idx < 0x18) ∨ (0x20 ≤ idx ∧ idx < 0x60) then some (t.pollReg idx)
  else none

/-- A field register without the effects of a read (16 R414); none where no register has the OP number, or its block is absent (00 R10). -/
def peek (v : Variant) (f : FieldDie) (op : Nat) : Option Word :=
  let r := opRegion op
  let b := opBlk op
  let idx := opIndex op
  match f.blkAt v r b with
  | none => none
  | some x =>
    if idx < 8 then f.headReg r b x idx
    else if r = 1 then
      match b with
      | 0 => f.dispReg v idx
      | 1 => if 0x60 ≤ idx ∧ idx < 0x80 then f.marchReg v idx else f.bseqReg v idx
      | 2 => f.fcol.reg f.power.winter f.faultSeen idx
      | 3 => f.twinReg v idx
      | 5 => f.recfReg idx
      | 6 => f.tbaseReg 6 idx
      | 7 => if idx = 0x10 then some (BitVec.ofNat 32 f.volt.ovLimit) else if idx = 0x11 then some f.ovStatus else none
      | _ => none
    else
      let q := r - 4
      match b with
      | 0 => f.qcReg q idx
      | 1 => f.portReg q idx
      | 2 => f.tbeReg q idx
      | 3 => f.measReg q idx
      | 4 => f.brkReg q idx
      | 5 => ((f.qd q).ftim.opRead idx false).1
      | _ => f.ftwReg q idx

/-- What a snapshot captures of an OP (16 R414): nothing of a block that is absent; an OP without a register reads 0. -/
def captured (v : Variant) (f : FieldDie) (op : Nat) : Option Word :=
  if (f.blkAt v (opRegion op) (opBlk op)).isSome then some ((f.peek v op).getD 0) else none

/-- What an OP read does besides returning the value (R495): RC fields clear and shadows latch. -/
def touch (v : Variant) (f : FieldDie) (op : Nat) : FieldDie :=
  let r := opRegion op
  let b := opBlk op
  let idx := opIndex op
  if (f.blkAt v r b).isNone then f
  else if r = 1 then
    match b with
    | 0 => f.dispClear idx
    | 3 => if idx = 0x0B then f.clearTwinCnt else f
    | 5 => if idx = 0x09 then { f with recf := { f.recf with trMissed := 0 } } else f
    | 6 => if idx = 0x08 then f.latchTb 6 else if idx = 0x0C then f.clearDispMax else f
    | _ => f
  else
    let q := r - 4
    match b with
    | 0 => f.qcClear q idx
    | 1 => f.portClear q idx
    | 2 => f.tbeClear q idx
    | 5 => f.modQd q (fun x => { x with ftim := (x.ftim.opRead idx true).2 })
    | 6 => if idx = 0x09 then f.modQd q (fun x => { x with ftw := { x.ftw with bus := x.ftw.bus.clearCounts } }) else f
    | _ => f

/-- An OP write to CH_CFG: a SCALE that a configured branch refuses keeps the old one, and a new one forms the branch's codes (12 R300). -/
def measOpWrite (f : FieldDie) (q idx : Nat) (w : Word) (force : Bool) : FieldDie :=
  let c := idx % 16
  if idx / 16 = 1 ∧ c < 8 then
    let old := (f.chan q c).scale
    let w := if f.scaleOk (8 * q + c) (bits 31 16 w) then w else merge w (pack [(16, old)]) 0xFFFF0000
    let f := f.measWrite q idx w force
    let new := (f.chan q c).scale
    if new ≠ old ∧ (f.br (8 * q + c)).cfg.configured then f.formCodes (8 * q + c) new else f
  else f.measWrite q idx w force

/-- The staged value of a curve register, over which a masked write is laid (12 R321). -/
def stagedCurve (f : FieldDie) (idx : Nat) : Word :=
  let (c, p, isT) := curveIdx idx
  let x := (f.brk.staged.getD c (Tab.fill 8 {})).getD p {}
  BitVec.ofNat 32 (if isT then x.t else x.m)

/-- An OP write under a mask (R496): `force` writes RWL fields whatever LOCK holds (R491). -/
def poke (v : Variant) (f : FieldDie) (op : Nat) (value mask : Word) (force : Bool := false) : FieldDie :=
  let r := opRegion op
  let b := opBlk op
  let idx := opIndex op
  match f.peek v op with
  | none => f
  | some old =>
    let w := merge old value mask
    let set := value &&& mask
    if idx < 8 then f
    else if r = 1 then
      match b with
      | 0 => f.dispWrite idx w force
      | 1 =>
        if 0x80 ≤ idx then f.curveWrite idx (merge (f.stagedCurve idx) value mask) force
        else if 0x60 ≤ idx then f.marchWrite idx w force
        else if idx = 0x08 ∧ (¬ f.brk.bseqLock ∨ force) then f.modBrk (fun k => { k with bseqLock := w.getLsbD 31 })
        else f
      | 2 => if idx = 0x09 then { f with fcol := { f.fcol with sel := bits 7 0 w } } else f
      | 3 => f.twinWrite idx w force
      | 7 =>
        if idx = 0x10 then f.writeOvLimit v w.toNat force
        else if idx = 0x11 then
          let f := if set.getLsbD 18 then f.clearStop else f
          { f with volt := { f.volt with ovLock := f.volt.ovLock || set.getLsbD 17 } }
        else f
      | _ => f
    else
      let q := r - 4
      match b with
      | 1 => f.portWrite q idx w force
      | 2 => f.tbeWrite q idx w force
      | 3 => f.measOpWrite q idx w force
      | 4 => f.brkWrite q idx w force
      | 5 => f.modQd q (fun x => { x with ftim := if q = 0 then (x.ftim.opWrite idx w mask force).lines else x.ftim.opWrite idx w mask force })
      | 6 => if idx = 0x08 then f.modQd q (fun x => { x with ftw := { x.ftw with bus := x.ftw.bus.writeCtrl false w force } }) else f
      | _ => f

end FieldDie

namespace HostDie

/-- The header of block `b` of region H; CELLS and SPARES_FREE read 0, those of the memory blocks too (DESIGN CHOICE, log entry 37). -/
def headReg (h : HostDie) (b : Nat) (x : Blk) (idx : Nat) : Option Word :=
  match idx with
  | 0 => some (infoWord 0 b 0 0)
  | 1 => some (x.stateWord (h.blkDomain b))
  | 2 => some (if b = 0 ∨ b = 6 then x.rowsWord 0 b else 0)
  | _ => none

/-- Block `b` of region H, where the variant has it: PCIE stands on parts with CAP0.PCIE alone (00 R2, R10). -/
def blkAt (v : Variant) (h : HostDie) (b : Nat) : Option Blk := if b = 1 ∧ ¬ v.pcie then none else h.blk.rows[b]?

/-- A register of region H by its OP number, without the effects of a read; none where no register has it, or its block is absent. -/
def peek (v : Variant) (h : HostDie) (op : Nat) : Option Word :=
  let b := opBlk op
  let idx := opIndex op
  match h.blkAt v b with
  | none => none
  | some x =>
    if idx < 8 then h.headReg b x idx
    else match b with
      | 4 => h.storReg idx
      | 6 => h.rechReg idx
      | 7 => if idx = 0x08 then some (h.mb.getD 0 {}).ctrl else if idx = 0x09 then some (h.mb.getD 0 {}).status else none
      | 8 => if idx = 0x08 then some (h.mb.getD 1 {}).ctrl else if idx = 0x09 then some (h.mb.getD 1 {}).status else none
      | 9 => (h.htim.opRead idx false).1
      | 11 => h.fcm.reg h.mode.winter h.faultLand idx
      | 12 => if idx = 0x08 then some h.modeStatus else if idx = 0x09 then some h.rstCause else none
      | _ => none

/-- What RECH captures of a region H OP (16 R414), as `FieldDie.captured`. -/
def captured (v : Variant) (h : HostDie) (op : Nat) : Option Word :=
  if (h.blkAt v (opBlk op)).isSome then some ((h.peek v op).getD 0) else none

/-- What an OP read on region H does besides; MODE_STATUS is read without clearing HOST_LOST (02 Table 02-1). -/
def touch (h : HostDie) (op : Nat) : HostDie :=
  let idx := opIndex op
  match opBlk op with
  | 4 => if idx = 0x09 then h.modStor (fun x => { x with ueCnt := 0 }) else h
  | 6 => if idx = 0x08 then { h with rech := { h.rech with missCnt := 0 } } else h
  | 7 => if idx = 0x09 then { h with mb := h.mb.modifyNat 0 TwBus.clearCounts } else h
  | 8 => if idx = 0x09 then { h with mb := h.mb.modifyNat 1 TwBus.clearCounts } else h
  | 9 => { h with htim := (h.htim.opRead idx true).2 }
  | _ => h

/-- An OP write on region H. -/
def poke (v : Variant) (h : HostDie) (op : Nat) (value mask : Word) (force : Bool := false) : HostDie :=
  let idx := opIndex op
  match h.peek v op with
  | none => h
  | some old =>
    let w := merge old value mask
    match opBlk op with
    | 7 => if idx = 0x08 then { h with mb := h.mb.modifyNat 0 (fun b => b.writeCtrl true w force) } else h
    | 8 => if idx = 0x08 then { h with mb := h.mb.modifyNat 1 (fun b => b.writeCtrl true w force) } else h
    | 9 => { h with htim := h.htim.opWrite idx w mask force }
    | 11 => if idx = 0x09 then { h with fcm := { h.fcm with sel := bits 7 0 w } } else h
    | _ => h

end HostDie

/-- Whether OP_READ's operands are in range (R496): the range stays within one block, and COUNT above 1 needs an address. -/
def opReadOk (r : Request) : Bool :=
  r.u32 0 < 0x10000 && 1 ≤ r.u32 4 && r.u32 4 ≤ 256 && r.u32 0 % 256 + r.u32 4 ≤ 256 && (r.par 8 8 != 0 || r.u32 4 == 1)

/-- Values read in turn, each read acting before the next. -/
def readRange {D : Type} (peek : D → Nat → Option Word) (touch : D → Nat → D) : Nat → Nat → D → List (Option Word) × D
  | _, 0, d => ([], d)
  | op, n + 1, d =>
    let (ws, d') := readRange peek touch (op + 1) n (touch d op)
    (peek d op :: ws, d')

/-- RESULT of an OP_READ without a buffer (Table 19-10): the value, and bit 32 when the OP exists. -/
def opResult (w : Option Word) : Nat := match w with | some x => x.toNat + 2 ^ 32 | none => 0

/-- Little-endian bytes of the words read; a register that does not exist reads 0. -/
def wordBytes (ws : List (Option Word)) : List Byte := ws.flatMap fun w => leBytes 4 ((w.getD 0).toNat)

/-- OP_READ on the field side. -/
def opReadC : FCmd where
  code := 0xC010
  ro := true
  chk _ _ r := need (opReadOk r)
  op v f r :=
    let (ws, f) := readRange (FieldDie.peek v) (FieldDie.touch v) (r.u32 0) (r.u32 4) f
    if r.par 8 8 = 0 then (f, some (.ok, opResult (ws.headD none)))
    else (f.complete r .ok 0 (r.par 8 8) (wordBytes ws), none)

/-- OP_READ on region H. -/
def opReadH : HCmd where
  code := 0xC010
  ro := true
  chk _ h r := need (opReadOk r && (r.par 8 8 == 0 || h.bufOk (r.par 8 8) (4 * r.u32 4)))
  op v h r :=
    let (ws, h) := readRange (HostDie.peek v) HostDie.touch (r.u32 0) (r.u32 4) h
    if r.par 8 8 = 0 then (h, some (.ok, opResult (ws.headD none)))
    else (h.bufWrite (r.par 8 8) (wordBytes ws), some (.ok, 0))

/-- OP_WRITE on the field side: RESULT is the register after the write. -/
def opWriteC : FCmd where
  code := 0xC001
  auth _ := true
  chk _ _ r := need (r.u32 0 < 0x10000)
  op v f r :=
    let f := f.poke v (r.u32 0) (BitVec.ofNat 32 (r.u32 4)) (BitVec.ofNat 32 (r.u32 8))
    (f, some (.ok, ((f.peek v (r.u32 0)).getD 0).toNat))

/-- OP_WRITE on region H. -/
def opWriteH : HCmd where
  code := 0xC001
  auth _ _ := true
  chk _ _ r := need (r.u32 0 < 0x10000)
  op v h r :=
    let h := h.poke v (r.u32 0) (BitVec.ofNat 32 (r.u32 4)) (BitVec.ofNat 32 (r.u32 8))
    (h, some (.ok, ((h.peek v (r.u32 0)).getD 0).toNat))

/-- Whether an OP command's target lies in region H (R481). -/
def opOnHost (r : Request) : Bool := opRegion (r.u32 0) == 0

namespace Machine

/-- OP_READ (R496), on the side of its OP number. -/
def execOpRead (r : Request) (s : State) : Out := .next (if opOnHost r then s.host opReadH r else s.field opReadC r)

/-- OP_WRITE (R496), on the side of its OP number. -/
def execOpWrite (r : Request) (s : State) : Out := .next (if opOnHost r then s.host opWriteH r else s.field opWriteC r)

/-- REGISTER_WRITE (R496): a write of a word at an offset of the host interface, or of masked bits of an observable register. -/
def execRegisterWrite (window : Bool) (addr : BitVec 16) (value mask : Word) (s : State) : Out :=
  .next (if window then s.hostAccess (fun h => if addr.toNat % 4 = 0 then h.regWrite addr.toNat value else h)
    else if opRegion addr.toNat = 0 then s.hostAccess (fun h => h.poke s.chip.variant addr.toNat value mask)
    else s.onField (fun f => f.poke s.chip.variant addr.toNat value mask))

/-- The row of shadows of an initiator (03 R82). -/
def initiatorRow : Initiator → Nat
  | .dispatcher => 0
  | .qc q => 1 + q.val
  | .barrier => 5
  | .opPath => 6

/-- TB_LO_READ (03 R82), in a cycle of the tick: a read in the cycle of the edge comes after TICK_EDGE and finds the incremented TB. -/
def execTbLoRead (read : TbRead) (s : State) : Out :=
  .next ((s.on (fun c => { c with readData := [HostDie.half c.field.tick.tb false] })).onField (fun f =>
    (f.atCycle read.fine).latchTb (initiatorRow read.initiator)))

/-- DISP_TIME_READ (03 Table 03-7). -/
def execDispTimeRead (s : State) : Out :=
  .next ((s.on (fun c => { c with readData := [(c.field.tbaseReg 6 0x0C).getD 0] })).onField FieldDie.clearDispMax)

end Machine

end Sys2Proof
end

