-- ==== Sys2Proof/Machine/Blob.lean ====
section
/-! DEFINITION. The configuration blob (19_command_reference R485 to R492): its parts, its checks, and what takes effect on each die at
a load. -/

namespace Sys2Proof

/-- A record of a section (Table 19-15). -/
inductive CfgRec where
  | command (opcode unit : Nat) (params : BitVec 256)
  | register (op : Nat) (value mask : Word)
  | table (number index : Nat) (data : List Byte)
  | scalar (key value : Nat)
  deriving DecidableEq, Repr

/-- A section of a blob (R485). -/
structure CfgSection where
  type : Nat
  cold : Bool
  body : List Byte
  recs : List CfgRec
  deriving DecidableEq, Repr

/-- One record from its bytes; none where its kind or a field that the table gives as 0 is wrong. -/
def cfgRec (kind len : Nat) (bs : List Byte) : Option CfgRec :=
  if kind = 1 ∧ len = 40 ∧ rd 1 7 bs = 0 then some (.command (rd 2 4 bs) (rd 1 6 bs) (BitVec.ofNat 256 (rd 32 8 bs)))
  else if kind = 2 ∧ len = 16 ∧ rd 2 6 bs = 0 then some (.register (rd 2 4 bs) (BitVec.ofNat 32 (rd 4 8 bs)) (BitVec.ofNat 32 (rd 4 12 bs)))
  else if kind = 3 ∧ rd 2 6 bs = 0 then some (.table (rd 1 4 bs) (rd 1 5 bs) (slice 8 (len - 8) bs))
  else if kind = 4 ∧ len = 12 ∧ rd 2 6 bs = 0 then some (.scalar (rd 2 4 bs) (rd 4 8 bs))
  else none

/-- The records of a body, at most `n` of them (R486). -/
def cfgRecs : Nat → List Byte → Option (List CfgRec)
  | 0, bs => if bs.isEmpty then some [] else none
  | n + 1, bs =>
    if bs.isEmpty then some []
    else
      let len := rd 2 2 bs
      if rd 1 1 bs ≠ 0 ∨ len < 8 ∨ len % 4 ≠ 0 ∨ bs.length < len then none
      else match cfgRec (rd 1 0 bs) len bs, cfgRecs n (bs.drop len) with
        | some x, some xs => some (x :: xs)
        | _, _ => none

/-- `n` sections back to back, with at most 7 bytes of zero after the last, since LENGTH is a multiple of 8 (DEDUCED). -/
def cfgSections : Nat → List Byte → Option (List CfgSection)
  | 0, bs => if bs.length < 8 ∧ bs.all (· == 0) then some [] else none
  | n + 1, bs =>
    let len := rd 4 4 bs
    if bs.length < 8 + len ∨ len % 4 ≠ 0 ∨ 2 ≤ rd 2 2 bs then none
    else match cfgRecs (len / 8) (slice 8 len bs), cfgSections n (bs.drop (8 + len)) with
      | some rs, some xs => some ({ type := rd 2 0 bs, cold := rd 2 2 bs == 1, body := slice 8 len bs, recs := rs } :: xs)
      | _, _ => none

/-- CRC of a blob (Table 19-5). -/
def blobCrc (b : List Byte) : Nat := crc32c (slice 0 0x3C b ++ b.drop 0x40)

/-- GEN of a blob. -/
def blobGen (b : List Byte) : Nat := rd 4 8 b

/-- The sections in the order in which they take effect (R486). -/
def blobSections (b : List Byte) : Option (List CfgSection) :=
  (cfgSections (rd 2 0x10 b) (b.drop 64)).map fun xs => xs.mergeSort (fun x y => x.type ≤ y.type)

/-- The header checks of R488. -/
def blobHead (v : Variant) (b : List Byte) : Bool :=
  rd 4 0 b == 0x6480CF60 && rd 1 4 b == 0x0C && (rd 1 5 b).testBit v.partBit && rd 2 6 b == 0 && rd 4 0x0C b == b.length &&
    64 ≤ b.length && b.length ≤ 131072 && b.length % 8 == 0 && 1 ≤ rd 2 0x10 b && rd 2 0x10 b ≤ 15 && rd 4 0x38 b == 0 &&
    rd 4 0x3C b == blobCrc b

/-- COMMAND opcodes of a section (Table 19-16). -/
def cfgOpcodes : Nat → List Nat
  | 0x01 => [0xD001, 0xD002]
  | 0x03 => [0x2001, 0x2002, 0x2003, 0x2004, 0x2005]
  | 0x04 => [0x3001, 0x3002, 0x3003, 0x3004, 0x3005, 0x3010, 0x3011, 0x3012]
  | 0x05 => [0x3801, 0x3802, 0x3803]
  | 0x06 => [0x4001, 0x4004]
  | 0x07 => [0x5001, 0x5002]
  | 0x08 => [0x6001, 0x6002, 0x6003, 0x6004]
  | 0x09 => [0x8002]
  | 0x0A => [0x9001, 0x9002, 0x9003, 0x9004, 0x9014]
  | 0x0B => [0x7002]
  | 0x0C => [0xD001, 0xD002]
  | 0x0D => [0xE002]
  | _ => []

/-- The registers with RW and RWL fields of a timer block (21 Table 21-3): TIM_CTRL, TCTRL, COUNT, CMP_ACT, CMP0 to CMP3. -/
def timerRw (idx : Nat) : Bool := idx == 8 || (0x10 ≤ idx && [0, 1, 7, 8, 9, 10, 11].contains (idx % 16))

/-- REGISTER blocks and registers of a section (Table 19-16), and the bits that a record may name there. -/
def cfgRegBits (t op : Nat) : Word :=
  let r := opRegion op
  let b := opBlk op
  let i := opIndex op
  let q : Bool := 4 ≤ r
  let all : Word := 0xFFFFFFFF
  match t with
  | 0x01 => if r = 0 ∧ b = 9 ∧ timerRw i then all else 0
  | 0x02 => if q ∧ b = 3 ∧ (i = 8 ∨ (0x10 ≤ i ∧ i < 0x20)) then all else if op = 0x2710 then all else 0
  | 0x03 => if op = 0x2008 then all else 0
  | 0x06 => if (q ∧ (b = 1 ∨ b = 2) ∧ i = 8) ∨ op = 0x2160 ∨ op = 0x2161 then all else 0
  | 0x07 => if q ∧ b = 4 ∧ i = 8 then all else 0
  | 0x0B => if op = 0x2308 then all else 0
  | 0x0C => if q ∧ b = 5 ∧ timerRw i then all else 0
  | 0x0D => if i = 8 ∧ ((r = 0 ∧ (b = 7 ∨ b = 8)) ∨ (q ∧ b = 6)) then all else 0
  | 0x0E => if op = 0x2711 then 0x00020000 else if i = 8 ∨ op = 0x2160 then 0x80000000 else 0
  | _ => 0

/-- TABLE numbers of a section. -/
def cfgTables : Nat → List Nat
  | 0x02 => [1]
  | 0x08 => [2]
  | 0x0C => [4]
  | 0x0D => [3]
  | _ => []

/-- SCALAR keys of a section. -/
def cfgKeys : Nat → List Nat
  | 0x01 => [8, 10]
  | 0x03 => [1, 2, 3, 4, 5, 6]
  | 0x06 => [7, 9, 11]
  | _ => []

/-- Whether Table 19-16 allows a record in a section of type `t`; a timer command belongs to its channel's section. -/
def cfgAllowed (t : Nat) : CfgRec → Bool
  | .command op _ p => (cfgOpcodes t).contains op &&
      !((t == 0x01 && 8 ≤ p.toNat % 2 ^ 32) || (t == 0x0C && p.toNat % 2 ^ 32 < 8))
  | .register op value mask => cfgRegBits t op != 0 && (mask &&& value &&& ~~~ cfgRegBits t op) == 0 &&
      !(t == 0x0E && (mask &&& ~~~ cfgRegBits t op) != 0)
  | .table n _ _ => (cfgTables t).contains n
  | .scalar k _ => (cfgKeys t).contains k

/-- Ranges of Table 19-17. -/
def scalarOk (k x : Nat) : Bool :=
  match k with
  | 1 | 2 => 1000 ≤ x && x ≤ 1310700
  | 3 => 0x0148 ≤ x && x ≤ 0x199A
  | 4 => 1000 ≤ x && x ≤ 500000
  | 5 => 300 ≤ x && x ≤ 1500
  | 6 => x ≤ 10000
  | 7 | 8 => 100 ≤ x && x ≤ 60000
  | 11 => 5 ≤ x && x ≤ 600
  | _ => true

/-- Values in strictly rising order. -/
def rising : List Int → Bool
  | x :: y :: rest => x < y && rising (y :: rest)
  | _ => true

/-- The points of TABLE 1 and TABLE 4: `n` pairs of 4-byte values from offset `o`, the first signed. -/
def pairs (o n : Nat) (bs : List Byte) : List (Int × Nat) :=
  (List.range n).map fun i => (sext 32 (rd 4 (o + 8 * i) bs), rd 4 (o + 8 * i + 4) bs)

/-- A battery profile from the data of TABLE 2 (Tables 13-2, 19-18). -/
def profileOf (bs : List Byte) : Profile :=
  { valid := true, vendor := rd 2 0 bs, product := rd 2 2 bs, soc := (List.range 17).map fun i => rd 4 (4 + 4 * i) bs
    mv := (List.range 17).map fun i => rd 2 (72 + 2 * i) bs, vEod := rd 2 108 bs, vEoc := rd 2 110 bs, taper := rd 2 112 bs
    rNom := rd 4 116 bs, qRated := rd 8 120 bs, eRated := rd 8 128 bs, ce := rd 4 136 bs }

/-- The ranges of Table 13-2. -/
def profileOk (p : Profile) : Bool :=
  p.soc.headD 1 == 0 && p.soc.getLastD 0 == 0x10000 && rising (p.soc.map Int.ofNat) && rising (p.mv.map Int.ofNat) && 1 ≤ p.taper &&
    p.taper ≤ 500 && 1 ≤ p.rNom && p.rNom ≤ 65535 && 0xF333 ≤ p.ce && p.ce ≤ 0x10000

/-- The data of a TABLE (R487, Table 19-18): its index, its length and its values. -/
def tableOk (n i : Nat) (d : List Byte) : Bool :=
  match n with
  | 1 => i < 8 && d.length == 136 && rising ((pairs 0 17 d).map (·.1))
  | 2 => i < 4 && d.length == 152 && profileOk (profileOf d) && rd 2 106 d == 0 && rd 2 114 d == 0 && rd 12 140 d == 0
  | 3 => i < 4 && d.length == 36 && 100 ≤ rd 4 0 d && rd 4 0 d ≤ 60000 &&
      (List.range 8).all fun k => rd 1 (4 + 4 * k) d < 128 && rd 1 (6 + 4 * k) d < 2 && rd 1 (7 + 4 * k) d == 0
  | 4 => i < 8 && d.length == 44 && rd 4 0 d < 2 && 1000 ≤ rd 4 4 d && rd 4 4 d ≤ 100000 && 1 ≤ rd 4 8 d && rd 4 8 d ≤ 4 &&
      rising ((pairs 12 4 d).map (·.1)) && (pairs 12 4 d).all fun p => p.2 ≤ 0x10000
  | _ => false

/-- REC_SET_LIST (R413, Table 16-7). -/
def recSetListC : FCmd where
  code := 0x9002
  chk _ _ r := need (r.par 0 2 < 4 && r.par 2 1 ≤ 95 && r.par 3 1 % 32 ≤ 14 && r.par 2 1 + r.par 3 1 % 32 ≤ 96 && r.par 3 1 / 32 % 4 == 0)
  op _ f r :=
    let (g, changed) := setList f r
    (if changed then g.listRecord f.modeStatus (r.par 0 2) else g, some (.ok, 0))

/-- The field commands that a COMMAND record may name. -/
def cfgCmds : List FCmd :=
  [setVsetC, setLoopC, setSharingC, setUnitWeightC, excludeUnitC, setWindowC, setHoldupC, setReentryC, setWarnLeadC, setChargeC, setRampC,
   setFreqRespC, setFreqSrcC, setCapC, setCapPolicyC, setBranchCapC, setSlotPolicyC, enableSlotC, setBranchC, setCurvePointC, setProbeC,
   setCountingC, setBatWarnC, setLearningC, setRevertC, cmdSetSource, cmdRecSetTrigger, recSetListC, cmdRecSetTrace, cmdRecSetLevel, cmdTmrSet,
   cmdTmrCompare, cmdTwSetBus]

/-- The descriptor that a COMMAND record stands for: no token and no completion (R486). -/
def cfgRequest (opcode unit : Nat) (p : BitVec 256) : Request := { opcode := opcode, unit := unit, params := p, silent := true }

/-- Whether a record acts on region H: timers and buses of that side, sources of scope H, FLUSH_DLY, the subsystem IDs, and its blocks. -/
def cfgOnHost : CfgRec → Bool
  | .command op u p =>
    let r := cfgRequest op u p
    match op with
    | 0xD001 | 0xD002 => timerHost r
    | 0xE002 => busHost r
    | 0x8002 => srcHost r
    | 0x9014 => true
    | _ => false
  | .register op _ _ => opRegion op == 0
  | .table _ _ _ => false
  | .scalar k _ => k == 10

/-- A source at its defaults, its history kept. -/
def Source.toDefault (s : Source) (i : Nat) : Source :=
  let d := srcInit i
  { s with ev := d.ev, sv := d.sv, flt := d.flt, n := d.n, w := d.w, q := d.q }

/-- A timer channel without the settings of a configuration; one that captures a line input goes on doing so (21 R528). -/
def TimerCh.toDefault (c : TimerCh) (line : Bool := false) : TimerCh :=
  { c with en := line, chain := false, outMode := 0, outInv := false, capMode := bit line, capIrq := false, filt := 4, cmp := Tab.fill 4 0
           act := Tab.fill 4 0, cmp0Next := none, cmp3Next := none }

namespace FieldDie

/-- The settings at their defaults, before the records of a load take effect (R485, R491): LOCK bits, measured coefficients and running
state are kept, the tick buses of present quadrants are enabled, and the bus window stands open. -/
def cfgDefaults (v : Variant) (f : FieldDie) : FieldDie :=
  { f with
    disp := { f.disp with cfg := { lock := f.disp.cfg.lock } }
    slot := f.slot.mapIdx (fun k (s : Slot) =>
      { s with ctx := { s.ctx with excl := false, wovr := false, wgt := 0x10000, held := false }, pol := { rank := k } })
    branch := f.branch.map (fun (b : Branch) => { b with cfg := { b.cfg with configured := false, pri := 0, shedEn := false } })
    grid := { f.grid with cfg := { winLo := 0, winHi := 0xFFFFFFFF, offset := reOffset f.offsetKey 0 2000 } }
    cap := { f.cap with grid := {}, deliv := {}, shedLead := 1000, release := 100, autoRestore := false, restoreDly := 5000, relMax := none }
    march := { f.march with spacing := 200, brSpacing := 50, insMod := 50, insBr := 10, startLimit := 60 }
    brk := { f.brk with fbOff := Tab.fill 4 10, fbOn := Tab.fill 4 20, curves := Tab.fill 8 (Tab.fill 8 {}), staged := Tab.fill 8 (Tab.fill 8 {}) }
    bat := { f.bat with cfg := {}, profiles := Tab.fill 4 {} }
    twin := { f.twin with cfg := { lock := f.twin.cfg.lock } }
    hand := { f.hand with hold := false }
    fcol := { f.fcol with sources := f.fcol.sources.mapIdx (fun i (s : Source) => s.toDefault i) }
    recf := { f.recf with
      trig := (List.range 0x103).map trigInit, lists := f.recf.lists.map (fun (l : SnapList) => { l with ops := [], staged := [] })
      chOp := Tab.fill 16 0xFFFF, chShift := Tab.fill 16 0, pre := 2048, levels := Tab.fill 4 {} }
    cfg := { f.cfg with poll := 1000, hostLimit := 2000, auxBudget := 14400 }
    fans := Tab.fill 8 {}
    volt := { f.volt with ovLimit := 0 }
    quad := f.quad.mapIdx (fun q (x : Quad) =>
      { x with
        moistEn := true, moistPeriod := 10
        meas := { x.meas with
          rotEn := true, tempTable := Tab.fill 2 []
          ch := x.meas.ch.mapIdx (fun c (y : Chan) =>
            { y with scale := 0, gain := (chanInit c).gain, group := 0, neg := false, en := false }) }
        tbe := { x.tbe with bus := x.tbe.bus.map (fun (b : TBus) => { b with en := decide (q < v.quads) }) }
        ftim := { x.ftim with ch := x.ftim.ch.mapIdx (fun k (c : TimerCh) => c.toDefault (q == 0 && decide (2 ≤ k))) }
        ftw := { x.ftw with bus := { x.ftw.bus with speed := 0, pecEn := false, taddr := 0 }, poll := 1000, devs := Tab.fill 8 {} } }) }

/-- A COMMAND record (R486): checked as its command is, with AUTH waived; the answer says whether it was accepted. -/
def cfgCommand (v : Variant) (f : FieldDie) (r : Request) : FieldDie × Bool :=
  match cfgCmds.find? (fun (c : FCmd) => c.code == r.opcode) with
  | none => (f, false)
  | some c =>
    if (unitStatus v c.unit r.unit).isSome ∨ (c.grid ∧ ¬ v.grid) ∨ (c.chk v f r).isSome then (f, false)
    else
      let (g, res) := c.op v f r
      match res with
      | some (.badParam, _) => (f, false)
      | some (.unitAbsent, _) => (f, false)
      | _ => (g, true)

/-- A REGISTER record (R486): written as OP_WRITE does, whatever LOCK holds; a value that the register refuses is none. The compare values of
a timer take effect when its count says so. -/
def cfgRegister (v : Variant) (f : FieldDie) (op : Nat) (value mask : Word) : FieldDie × Bool :=
  let g := f.poke v op value mask true
  let held := opBlk op == 5 && 0x10 ≤ opIndex op
  (g, match g.peek v op with | some x => held || (x &&& mask) == (value &&& mask) | none => false)

/-- A TABLE record (Table 19-18). -/
def cfgTable (f : FieldDie) (n i : Nat) (d : List Byte) : FieldDie :=
  match n with
  | 1 => f.modMeas (i / 2) (fun m => { m with tempTable := m.tempTable.modifyNat (i % 2) (fun _ => (pairs 0 17 d).map fun p => (p.1, sext 32 p.2)) })
  | 2 => { f with bat := { f.bat with profiles := f.bat.profiles.modifyNat i (fun _ => profileOf d) } }
  | 3 => f.modQd i (fun x => { x with ftw := { x.ftw with
      poll := rd 4 0 d
      devs := ⟨(List.range 8).map fun k =>
        { addr := rd 1 (4 + 4 * k) d, page := rd 1 (5 + 4 * k) d, pec := rd 1 (6 + 4 * k) d == 1 }, by simp⟩ } })
  | _ => { f with fans := f.fans.modifyNat i (fun _ =>
      { en := rd 4 0 d == 1, freq := rd 4 4 d, ppr := rd 4 8 d, points := pairs 12 4 d }) }

/-- A SCALAR record (Table 19-17). -/
def cfgScalar (f : FieldDie) (k x : Nat) : FieldDie :=
  match k with
  | 1 => f.modDispCfg (fun c => { c with vsetMin := x })
  | 2 => f.modDispCfg (fun c => { c with vsetMax := x })
  | 3 => f.modDispCfg (fun c => { c with imbLimit := x })
  | 4 => f.modDispCfg (fun c => { c with lifeH := x })
  | 5 => f.modDispCfg (fun c => { c with ea := x })
  | 6 => f.modDispCfg (fun c => { c with tref := x })
  | 7 => { f with cfg := { f.cfg with poll := x } }
  | 8 => { f with cfg := { f.cfg with hostLimit := x } }
  | 9 => { f with cfg := { f.cfg with auxBudget := x } }
  | 11 => f.modMarch (fun m => { m with startLimit := x })
  | _ => f

/-- A record on the field side. -/
def cfgApply (v : Variant) (f : FieldDie) : CfgRec → FieldDie × Bool
  | .command op u p => f.cfgCommand v (cfgRequest op u p)
  | .register op value mask => f.cfgRegister v op value mask
  | .table n i d => (f.cfgTable n i d, true)
  | .scalar k x => (f.cfgScalar k x, true)

/-- Records in order; the answer says whether every one was accepted. -/
def cfgApplyAll (v : Variant) (f : FieldDie) (rs : List CfgRec) : FieldDie × Bool :=
  rs.foldl (fun (a : FieldDie × Bool) x =>
    if cfgOnHost x then a else
      let (g, ok) := a.1.cfgApply v x
      (g, a.2 && ok)) (f, true)

/-- Branches that a blob configures. -/
def cfgBranches (rs : List CfgRec) : List Nat := rs.filterMap fun x => match x with | .command 0x5001 u _ => some (u - 96) | _ => none

/-- Slots that a blob disables. -/
def cfgDisabled (rs : List CfgRec) : List Nat :=
  rs.filterMap fun x => match x with | .command 0x4004 u p => if p.toNat % 2 ^ 32 = 0 then some u else none | _ => none

/-- The effect of a load at its edge (R491). -/
def cfgTakes (v : Variant) (f : FieldDie) (b : List Byte) : FieldDie :=
  let rs := ((blobSections b).getD []).flatMap (·.recs)
  let old := f.recf.lists
  let (f, _) := (f.cfgDefaults v).cfgApplyAll v rs
  let f := (branches v).foldl (fun f i => if (cfgBranches rs).contains i then f else f.unconfigure i) f
  let f := { f with branch := f.branch.map (fun (b : Branch) => { b with pending := b.pending && b.cfg.shedEn }) }
  let f := { f with cfg := { f.cfg with loaded := true, blob := b, gen := blobGen b, crc := rd 4 0x3C b, pushed := [] } }
  let f := (FieldDie.slots v).foldl (fun f k => if (f.sl k).sess.state = 9 ∧ (cfgDisabled rs).contains k then f else f.configured k) f
  let f := (List.range 4).foldl (fun f l =>
    if (f.recf.lists.getD l {}).ops.isEmpty ∧ ¬ (old.getD l {}).ops.isEmpty then
      ({ f with recf := { f.recf with lists := f.recf.lists.modifyNat l (fun x => { x with gen := (x.gen + 1) % 2 ^ 16 }) } }).listRecord f.modeStatus l
    else f) f
  if f.march.phaseOn then f.startBranches v else f

end FieldDie

namespace HostDie

/-- The settings of region H at their defaults (R485). The target addresses are those of Table 20-5. -/
def cfgDefaults (twinB : Bool) (h : HostDie) : HostDie :=
  { h with
    fcm := { h.fcm with sources := h.fcm.sources.mapIdx (fun i (s : Source) => s.toDefault i) }
    htim := { h.htim with ch := h.htim.ch.map (fun (c : TimerCh) => c.toDefault) }
    hif := { h.hif with subsystem := 0 }
    rech := { h.rech with flushDly := 100 }
    mb := h.mb.mapIdx (fun i (b : TwBus) => { b with role := 0, speed := 0, pecEn := false, taddr := 0x58 + 2 * i + bit twinB }) }

/-- A COMMAND record on region H. -/
def cfgCommand (v : Variant) (h : HostDie) (r : Request) : HostDie × Bool :=
  match [cmdTmrSetH, cmdTmrCompareH, cmdTwSetBusH, cmdSetSourceH, cmdRecSetFlush].find? (fun (c : HCmd) => c.code == r.opcode) with
  | none => (h, false)
  | some c =>
    if (unitStatus v .none r.unit).isSome ∨ (c.chk v h r).isSome then (h, false)
    else
      let (g, res) := c.op v h r
      match res with
      | some (.badParam, _) => (h, false)
      | _ => (g, true)

/-- A record on region H. -/
def cfgApply (v : Variant) (h : HostDie) : CfgRec → HostDie × Bool
  | .command op u p => h.cfgCommand v (cfgRequest op u p)
  | .register op value mask =>
    let g := h.poke v op value mask true
    (g, match g.peek v op with | some x => (opBlk op == 9 && 0x10 ≤ opIndex op) || (x &&& mask) == (value &&& mask) | none => false)
  | .table _ _ _ => (h, true)
  | .scalar _ x => ({ h with hif := { h.hif with subsystem := BitVec.ofNat 32 x } }, true)

/-- Records of region H in order. -/
def cfgApplyAll (v : Variant) (h : HostDie) (rs : List CfgRec) : HostDie × Bool :=
  rs.foldl (fun (a : HostDie × Bool) x =>
    if ¬ cfgOnHost x then a else
      let (g, ok) := a.1.cfgApply v x
      (g, a.2 && ok)) (h, true)

/-- Region H's share of a load (R491), and the blob that now runs. -/
def cfgTakes (v : Variant) (twinB : Bool) (h : HostDie) (b : List Byte) : HostDie :=
  let rs := ((blobSections b).getD []).flatMap (·.recs)
  let (h, _) := (h.cfgDefaults twinB).cfgApplyAll v rs
  { h with cfg := { h.cfg with blob := some b, gen := blobGen b, crc := rd 4 0x3C b } }

end HostDie

/-- What holds of the settings that a load leaves (R487, R488, 04 R111, R113, 07 R187, 13 R325): the scalars and the window agree with the
setpoint, OV_LIMIT lies within the reach of its sense channels, and profile 0 is there. -/
def cfgHolds (v : Variant) (f : FieldDie) : Bool :=
  let c := f.disp.cfg
  c.vsetMin ≤ c.vsetMax && c.vsetMin ≤ c.vsetTgt && c.vsetTgt ≤ c.vsetMax && f.grid.cfg.winLo < c.vsetTgt && c.vsetTgt < f.grid.cfg.winHi &&
    f.volt.ovLimit != 0 && f.ovLimitOk v f.volt.ovLimit && (f.bat.profiles.getD 0 {}).valid

/-- The checks of R488: the header, the sections, each record, and the settings that they give together, judged on a device that nothing has
configured yet. -/
def blobOk (v : Variant) (b : List Byte) : Bool :=
  blobHead v b &&
    match blobSections b with
    | none => false
    | some xs =>
      let types := xs.map (·.type)
      let rs := xs.flatMap (·.recs)
      let keys := rs.filterMap fun x => match x with | .scalar k _ => some k | _ => none
      types.all (fun t => 1 ≤ t && t ≤ 0x0E) && decide types.Nodup && [2, 3, 6].all types.contains &&
        xs.all (fun (x : CfgSection) => x.recs.all (cfgAllowed x.type)) &&
        rs.all (fun x => match x with
          | .table n i d => tableOk n i d
          | .scalar k x => scalarOk k x
          | _ => true) &&
        decide keys.Nodup && keys.contains 1 && keys.contains 2 &&
        (let fresh : FieldDie := FieldDie.reset
         let (f, ok) := (fresh.cfgDefaults v).cfgApplyAll v rs
         let (_, okH) := (HostDie.reset.cfgDefaults false).cfgApplyAll v rs
         ok && okH && cfgHolds v f)

/-- The COLD sections of a blob, by type and body (R485). -/
def coldParts (b : List Byte) : List (Nat × List Byte) :=
  (((blobSections b).getD []).filter (fun (x : CfgSection) => x.cold)).map fun x => (x.type, x.body)

/-- Whether a COLD section of a blob differs from the running one (R490). -/
def coldDiffers (new running : List Byte) : Bool := decide (coldParts new ≠ coldParts running)

namespace Machine

/-- REC_SET_LIST (R413). -/
def execRecSetList (r : Request) (s : State) : Out := .next (s.field recSetListC r)

end Machine

end Sys2Proof
end

