-- ==== Sys2Proof/Machine/Power.lean ====
section
/-! DEFINITION. Power domains, resets and WINTER (02_modes_power_and_reset R53 to R69, 01_architecture R44): what each reset keeps and what it
returns to its start. -/

namespace Sys2Proof

/-- Whether a reset domain of the variant exists: those of absent quadrants keep an idle step (R54). -/
def Variant.hasDomain (v : Variant) (i : Nat) : Bool := if i = 4 then 2 ≤ v.quads else if 5 ≤ i then 4 ≤ v.quads else true

/-- The next domain of a March: the first of those that exist which is off, none where an earlier one failed (R53, R55). -/
def nextDomain (has : Nat → Bool) (ds : List Domain) : Option Nat :=
  match ds.zipIdx.find? (fun x => has x.2 && x.1 != .good) with
  | some (.failed, _) => none
  | some (_, i) => some i
  | none => none

namespace HostDie

/-- A block of region H after a reset of the region (01 Table 01-5): its registers start again, but the count of resets goes on until a chip reset
and the row groups in use stay mapped (R33, R34). -/
def keptBlk (b : Blk) : Blk := { resetCnt := b.resetCnt, rowsUsed := b.rowsUsed, rowErrs := b.rowErrs, rowMap := b.rowMap, failedCells := b.failedCells }

/-- What a start of region H finds on the NAND and in the security engine, with every work in progress gone (17 R439, 18 R475). -/
def keptStor (h : HostDie) : Stor :=
  { h.stor with
    recovered := h.stor.recovered || h.stor.recovery
    recovery := false, ops := [], current := none, scrubbing := false, scrubLeft := [], rewritten := 0, scrubCmds := [], ueCnt := 0
    fieldStale := false, loading := false, loadTries := 0, fieldLoaded := true, updCmds := [], spareLow := false }

/-- The recorder after a start of region H: the log, the traces and the ledger stand, the buffer is lost (16 R417). -/
def keptRech (h : HostDie) : Rech :=
  { log := h.rech.log, pages := h.rech.pages, lists := h.rech.lists, clears := h.rech.clears, traces := h.rech.traces, ledger := h.rech.ledger, capacity := h.rech.capacity, traceCapacity := h.rech.traceCapacity
    full := h.rech.full, fullRaised := h.rech.fullRaised, trFull := h.rech.trFull, trFullRaised := h.rech.trFullRaised
    nextSeq := match h.rech.log.getLast? with | some r => (r.seq + 1) % 2 ^ 32 | none => 0 }

/-- A reset of region H except H_AON (Table 02-4, R44): the blocks start again in BOOT, with RST_CAUSE recorded (R65). The domains stay
powered; the wall clock, ROLE_EPOCH, the copy of TB, the NAND and the keys are kept, and so is memory outside the region. -/
def regionReset (h : HostDie) (cause scope : Nat) : HostDie :=
  let fresh := HostDie.reset h.power.twinB
  { fresh with
    power := { h.power with asleep := false, linkUp := false }
    mode := { fresh.mode with
      epoch := h.mode.epoch, cause := cause, scope := scope
      chipResets := if scope = 2 then satN 16 (h.mode.chipResets + 1) else h.mode.chipResets }
    blk := if scope = 2 then fresh.blk else h.blk.map keptBlk
    hif := { fresh.hif with mem := h.hif.mem }
    sec := { h.sec with nonce := 0, nonceHi := Tab.fill 3 0, failures := 0, lockout := false }
    stor := h.keptStor, rech := h.keptRech
    htb := h.htb, wall := h.wall, wallSet := h.wallSet, wallTicks := h.wallTicks, held := h.held, heldSince := none }

/-- VINH power-on (R57, R63): H_AON starts, and everything that is not in the NAND, the keys or host memory is as after reset. The built-in
self-test repairs the row groups that it found bad, each named by its block (01 R34). -/
def powerOn (h : HostDie) (link : Link) (bad : List (Nat × Nat) := []) (twinB : Bool := h.power.twinB) : HostDie :=
  let fresh := HostDie.reset twinB
  { fresh with
    blk := bad.foldl (fun t x => if hasSram 0 x.1 then t.modifyNat x.1 (fun b => b.repair 0 x.1 x.2) else t) fresh.blk
    power := { fresh.power with link := link }
    hif := { fresh.hif with mem := match link with | .pcie => h.hif.mem | .qspi => [] }
    sec := { h.sec with nonce := 0, nonceHi := Tab.fill 3 0, failures := 0, lockout := false }
    stor := h.keptStor, rech := h.keptRech }

/-- VINH falls (R56): every domain of the side is off. -/
def powerFall (h : HostDie) : HostDie :=
  let g := h.powerOn h.power.link
  { g with power := { g.power with vinh := false, dom := Tab.fill 4 .off } }

/-- Forwarded commands whose completion a field start has taken away end with ABORTED (19 Table 19-2); those that the field has answered since
the start, `answered`, do not. -/
def abortAwaited (h : HostDie) (answered : List (Nat × Nat)) : HostDie :=
  let gone := h.hif.outstanding.filter (fun x => !answered.contains (x.1, x.2.1))
  gone.foldl (fun (h : HostDie) x =>
    h.post { queue := Fin.ofNat 32 x.1, tag := x.2.1, status := .aborted, result := 0, epoch := h.mode.epoch })
    { h with hif := { h.hif with outstanding := h.hif.outstanding.filter (fun x => answered.contains (x.1, x.2.1)) } }

/-- A field start of which region H hears while it runs (R64, R65): RST_CAUSE, the commands that it ends, and a load that begins afresh (17
R446). -/
def recordCause (h : HostDie) (cause scope : Nat) (answered : List (Nat × Nat)) : HostDie :=
  { h.abortAwaited answered with
    mode := { h.mode with cause := cause, scope := scope }
    bar := { h.bar with push := [], blocks := [], parts := [] }
    cfg := { h.cfg with pushing := none, pushed := [] }
    stor := { h.stor with loading := false, loadTries := 0 } }

end HostDie

namespace FieldDie

/-- A row group that the built-in self-test found bad: region, block, row (01 R34). -/
def repairRow (f : FieldDie) (x : Nat × Nat × Nat) : FieldDie :=
  if hasSram x.1 x.2.1 ∧ x.1 ≠ 0 then f.modBlk x.1 x.2.1 (fun b => b.repair x.1 x.2.1 x.2.2) else f

/-- VINF power-on (R58, R63): F_AON starts, TWIN_ID is sampled (14 R353), and the built-in self-test repairs the row groups that it found bad
(01 R34). Region H hears of it with the next heartbeat (R65). The count of free values is the model's own and goes on. -/
def powerOn (f : FieldDie) (twinB : Bool) (bad : List (Nat × Nat × Nat) := []) : FieldDie :=
  let fresh := FieldDie.reset
  bad.foldl repairRow { fresh with
    twin := { fresh.twin with twinB := twinB }, power := { fresh.power with startCause := some (2, 3) }, free := f.free }

/-- VINF falls (R56, R59). -/
def powerFall (f : FieldDie) : FieldDie :=
  let g := f.powerOn f.twin.twinB
  { g with power := { g.power with vinf := false, dom := Tab.fill 8 .off, phase := .unpowered, mode := 1, startCause := none } }

/-- What a quadrant keeps through a field start: the count of cells retired since VINF power-on (04 Table 04-4), and, unless the chip was reset,
the counts of block resets and every spare in permanent use (01 Table 01-5, R33). -/
def keptQuad (chip : Bool) (old fresh : Quad) : Quad :=
  let x := { fresh with meas := { fresh.meas with retired := old.meas.retired } }
  if chip then x
  else { x with
    blk := old.blk.map HostDie.keptBlk, portSpare := old.portSpare
    tbe := { x.tbe with
      spareUsed := old.tbe.spareUsed, engFail := old.tbe.engFail, failOrder := old.tbe.failOrder
      bus := x.tbe.bus.mapIdx (fun i (b : TBus) => { b with eng := (old.tbe.bus.getD i {}).eng, dead := (old.tbe.bus.getD i {}).dead }) }
    meas := x.meas.keepSpares old.meas }

/-- A field start (R63, R64), of the chip or of the field alone: every field region starts again. F_AON keeps the role epoch and TWIN_ID (14
R356), the overvoltage limit and latch (04 R113), the count of records lost and the entry of the cause (16 R417). The domains keep their power. -/
def fieldStart (chip : Bool) (f : FieldDie) : FieldDie :=
  let g := f.powerOn f.twin.twinB
  { g with
    blk := if chip then g.blk else f.blk.map HostDie.keptBlk
    quad := g.quad.mapIdx (fun q (x : Quad) => keptQuad chip (f.qd q) x)
    power := { g.power with dom := f.power.dom, marchFailed := f.power.marchFailed, startCause := if chip then none else some (9, 3) }
    twin := { g.twin with epoch := f.twin.epoch, peerActive := f.twin.peerActive }
    volt := { g.volt with
      ovLimit := f.volt.ovLimit, ovLock := f.volt.ovLock, stopLatched := f.volt.stopLatched, stopCnt := f.volt.stopCnt
      shelfStop := f.volt.shelfStop }
    aon := { lost := satN 8 (f.aon.lost + f.recf.queue.length), cause := f.aon.cause } }

/-- What holds the lines idle in WINTER (R67): nothing is sent, nothing waits to be. -/
def quietLines (f : FieldDie) : FieldDie :=
  { f with slot := f.slot.map (fun (s : Slot) => { s with port := { s.port.silence with queue := [], lowByUs := false, tx := false } }) }

/-- Waiting commands that WINTER does not accept end with WRONG_MODE (R68). -/
def winterSchedule (f : FieldDie) : FieldDie :=
  let ok (s : Sched) : Bool := winterOk s.req.opcode (16 ≤ s.req.opcode % 256)
  let out := f.tick.schedule.filter (fun s => !ok s)
  let f := { f with tick := { f.tick with schedule := f.tick.schedule.filter ok } }
  out.foldl (fun f s => f.complete s.req .wrongMode) f

/-- A handover or a DRILL in progress ends with WINTER (R69): its commands are aborted. -/
def winterHand (f : FieldDie) : FieldDie :=
  let f := if f.hand.phase = 0 ∨ f.hand.phase = 5 then f else f.handEnd 2 .aborted true
  let f := if f.hand.drillOn then f.drillEnd .aborted else f
  let left := f.hand.wait.filterMap (·.2) ++ f.hand.cold.toList
  left.foldl (fun f r => f.complete r .aborted) (f.modHand (fun h => { h with phase := 0, wait := [], cold := none, out := none, swap := none }))

/-- WINTER is entered (R66, R67): downlinks and roles end, breakers and protection stay, and the recorder makes its record (16 R410, R419). -/
def enterWinter (f : FieldDie) (e : Entry) : FieldDie :=
  let f := f.releaseActive
  let f := { f with
    power := { f.power with winter := true, pendWinter := none, pendReset := none, pendBlocks := [] }
    twin := { f.twin with inStep := false, twinned := false, join := 0 }
    cap := { f.cap with thr := Tab.fill 8 false }
    recf := { f.recf with frozen := false } }
  let f := f.winterHand.quietLines.winterSchedule
  f.trigger { kind := 7, list := 0, trace := true, entry := some e, context := [(4, (pack [(31, bit f.fcol.mismatch), (8, f.fcol.word)]).toNat)] }

/-- The cause that a chip reset records (R69, Table 02-6): the one asked for, or 0x08 from WINTER. -/
def chipCause (f : FieldDie) : Option Nat :=
  let asked : Option Nat :=
    match f.power.pendReset with
    | some c => some c
    | none => match f.power.resetAt with
      | some (t, 6) => if t ≤ f.tick.tb then some 6 else none
      | _ => none
  asked.map fun c => if f.power.winter then 8 else c

/-- Whether a field reset is due (19 R483); WINTER is left only by a chip reset (R69). -/
def fieldResetDue (f : FieldDie) : Bool :=
  !f.power.winter && (match f.power.resetAt with | some (t, 9) => decide (t ≤ f.tick.tb) | _ => false)

end FieldDie

namespace Machine

/-- VINH_POWER_ON (R57, R63), with the strap HIF_SEL (18 R454) and the row groups that the self-test found bad. TWIN_ID is as the field side last
sampled it (log entry 91). -/
def execVinhPowerOn (up : HostPowerUp) (s : State) : Out :=
  .next (s.onHost (fun h => h.powerOn (if up.hifSel || !s.chip.variant.pcie then .qspi else .pcie) (up.bad.map fun x => (x.1.val, x.2)) s.chip.field.twin.twinB))

/-- VINF_POWER_ON (R58, R63). -/
def execVinfPowerOn (up : FieldPowerUp) (s : State) : Out :=
  .next (s.onField (fun f => f.powerOn up.twinId (up.bad.map fun x => (x.1.val, x.2.1.val, x.2.2))))

/-- VINH_FALL (R56). -/
def execVinhFall (s : State) : Out := .next (s.onHost HostDie.powerFall)

/-- VINF_FALL (R59). -/
def execVinfFall (s : State) : Out := .next (s.onField FieldDie.powerFall)

/-- HRST_N_ASSERT (R62, R63). -/
def execHrstNAssert (s : State) : Out := .next (s.onHost (fun h => h.regionReset 3 1))

/-- WAKE_N_FALL (R62): the host side leaves its sleep; H_HIF and H_STO return by their March. -/
def execWakeNFall (s : State) : Out :=
  .next (s.onHost (fun h => if h.power.asleep then { h with power := { h.power with asleep := false } }.raise 10 3 else h))

/-- DOMAIN_STEP (R53, R54): the next domain of the side reports power good. -/
def execDomainStep (side : Side) (s : State) : Out :=
  .next (match side with
    | .host => s.onHost (fun h =>
        if ¬ h.power.vinh ∨ h.power.marchFailed ∨ h.power.asleep then h
        else match nextDomain (fun _ => true) h.power.dom.rows with
          | some i => { h with power := { h.power with
              dom := h.power.dom.modifyNat i (fun _ => .good), linkUp := h.power.linkUp || (i == 2 && h.power.link == .pcie) } }
          | none => h)
    | .field => s.onField (fun f =>
        if ¬ f.power.vinf ∨ f.power.marchFailed then f
        else match nextDomain s.chip.variant.hasDomain f.power.dom.rows with
          | some i => { f with power := { f.power with dom := f.power.dom.modifyNat i (fun _ => .good) } }
          | none => f))

/-- DOMAIN_FAIL (R55): the March of the side stops. The field falls back to F_AON, and the host raises DOMAIN_FAIL with the domain's row of Table
02-3, which it learns without a barrier message (log entry 88); on the host side H_AON holds the other domains off. -/
def execDomainFail (side : Side) (s : State) : Out :=
  .next (match side with
    | .host => s.onHost (fun h =>
        match nextDomain (fun _ => true) h.power.dom.rows with
        | some i => { h with
            booted := false
            power := { h.power with
              marchFailed := true, linkUp := false, dom := h.power.dom.mapIdx (fun j d => if j = i then .failed else if j = 0 then d else .off) } }
        | none => h)
    | .field =>
        match nextDomain s.chip.variant.hasDomain s.chip.field.power.dom.rows with
        | some i => (s.onField (fun f =>
            let f := [false, true].foldl (fun f hi => if f.analogGood (if hi then 2 else 0) then f.analogLost hi else f) f
            { f with power := { f.power with
            marchFailed := true, dom := f.power.dom.mapIdx (fun j d => if j = 0 then d else if j = i then .failed else .off) } })).onHost
              (fun h => h.raise 8 1 (4 + i))
        | none => s)

/-- HOST_WATCHDOG (R63): region H resets, and HPC_WDOG is raised as it starts again. -/
def execHostWatchdog (s : State) : Out := .next (s.onHost (fun h => (h.regionReset 4 1).raise 0 1))

/-- HPC_LOCKSTEP_MISMATCH (R63). -/
def execHpcLockstepMismatch (s : State) : Out := .next (s.onHost (fun h => (h.regionReset 5 1).raise 1 1))

/-- CHIP_RESET (R63, R64, R69): due after a rung 3 reaction or a RESET of scope 2; it is a field start and a reset of region H. -/
def execChipReset (s : State) : Out :=
  .next (match s.chip.field.chipCause with
    | some c => (s.onField (FieldDie.fieldStart true)).onHost (fun h => h.regionReset c 2)
    | none => s)

/-- FIELD_RESET (R64): due after a RESET of scope 4; region H keeps running. -/
def execFieldReset (s : State) : Out :=
  .next (if s.chip.field.fieldResetDue then s.onField (FieldDie.fieldStart false) else s)

/-- H_REGION_RESET (R44, 19 R483): the reset of region H that a RESET of scope 3 asked for. -/
def execHRegionReset (s : State) : Out :=
  .next (s.onHost (fun h => if h.resetIn.isSome then h.regionReset 6 1 else h))

/-- WINTER_ENTRY (R66, R394): at the edge after the reaction was chosen. -/
def execWinterEntry (s : State) : Out :=
  .next (s.onField (fun f => match f.power.pendWinter with | some e => f.enterWinter e | none => f))

/-- DEAD_MAN_RELEASE (14 R354): F_AON releases ACTIVE_N without a processor. -/
def execDeadManRelease (s : State) : Out :=
  .next (s.onField FieldDie.releaseActive)

end Machine

end Sys2Proof
end

