-- ==== Sys2Proof/Machine/Blocks.lean ====
section
/-! DEFINITION. Live block operations, spare cells, memory repair and isolation (01_architecture R31 to R43, R552, R553; 15_faults_and_winter
R395, R400; 19_command_reference R483, R495, R497). -/

namespace Sys2Proof

/-- Whether a waiting command is a RESET of region scope. -/
def Request.regionScope (r : Request) : Bool := r.opcode == 0x0002 && r.u32 0 == 1

namespace FieldDie

/-- Everything that a block reset returns to its reset value in block `b` of quadrant `q` (R552), the engines of TBE apart. -/
def resetQBlk (f : FieldDie) (q b : Nat) : FieldDie :=
  let ks := (List.range 24).map (24 * q + ·)
  match b with
  | 0 => (ks.foldl (fun f k => f.modSess k (fun s => { s with soft := 0, hard := 0, respExp := 0, retries := 0 })) f).batPcntClear q
  | 1 =>
    let f := f.modQd q (fun x => { x with portLock := false })
    ks.foldl (fun f k =>
      (f.modPort k (fun p => { p with
        collCnt := 0, presCnt := 0, syncFail := 0, crc := 0, badType := 0, staleRx := 0, mstate := 3, moist := [], checking := false })).cutShort k) f
  | 2 =>
    let f := f.modTbe q (fun t => { t with lock := false, bus := t.bus.map (fun (x : TBus) => { FieldDie.clearBusCnt x with padFault := false, echoRun := 0 }) })
    ks.foldl (fun f k => f.modSl k (fun s => { s with bus := s.bus.clearErr })) f
  | 3 => f.modMeas q (fun m => { m with lock := false })
  | 4 =>
    let f := f.modBrk (fun k => { k with brkLock := k.brkLock.modifyNat q (fun _ => false) })
    (List.range 8).foldl (fun f c => f.modBr (8 * q + c) (fun x => { x with testDue := x.armed })) f
  | 5 => f.modQd q (fun x => { x with ftim := x.ftim.blockReset })
  | _ => f.onFtw q TwBus.blockReset

/-- As `resetQBlk` for the blocks of FC that are reset alone (15 R396): BSEQ, TWIN, RECF. -/
def resetFBlk (f : FieldDie) (b : Nat) : FieldDie :=
  match b with
  | 1 => (f.modBrk (fun k => { k with bseqLock := false })).modMarch (fun m => { m with lock := false })
  | 3 =>
    let f := f.clearTwinCnt.modTwin (fun t => { t with cfg := { t.cfg with lock := false } })
    if f.isStandby then f.leaveStep else f.outOfStep
  | 5 => { f with recf := { f.recf with trMissed := 0 } }
  | _ => f

/-- The engines of a TBE block in the order in which a block reset takes them (R553). -/
def engineOrder (f : FieldDie) (q : Nat) : List Nat :=
  let t := (f.qd q).tbe
  t.bus.rows.map (·.eng) ++ (if t.bus.rows.any (fun b => b.eng == 2) then [] else [2])

/-- Whether region `r` is an isolated quadrant. -/
def isolatedAt (f : FieldDie) (r : Nat) : Bool := decide (4 ≤ r) && f.power.isolated.getD (r - 4) false

/-- A live operation starts on a block (R37): its kind as LAST_OP codes it. One that is requested while another runs on the block starts the block
afresh, and its end completes the commands of both (DESIGN CHOICE, log entry 37). -/
def startOp (f : FieldDie) (r b kind : Nat) (waits : List Request := []) : FieldDie :=
  let tbe : Bool := 4 ≤ r && b == 2 && kind == 1
  let order := f.engineOrder (r - 4)
  let f := f.modBlk r b (fun x => { x with
    state := kind + 1, lastOp := kind, resetCnt := if kind = 1 then satN 16 (x.resetCnt + 1) else x.resetCnt
    op := some { kind := kind, stepsLeft := if tbe then order.length - 1 else 0
                 waits := (match x.op with | some o => o.waits | none => []) ++ waits } })
  if kind = 2 then f.sweepBegin (r - 4)
  else if kind ≠ 1 then f
  else if r = 1 then f.resetFBlk b
  else
    let f := f.resetQBlk (r - 4) b
    if tbe then f.modTbe (r - 4) (fun t => { t with resetting := order.head? }) else f

/-- The reset of the one engine that serves a local bus (R553). -/
def startEngine (f : FieldDie) (q bus : Nat) : FieldDie :=
  let e := ((f.qd q).tbe.bus.getD bus {}).eng
  let f := f.modQBlk q 2 (fun x => { x with
    state := 2, lastOp := 1, resetCnt := satN 16 (x.resetCnt + 1), op := some { kind := 1, waits := match x.op with | some o => o.waits | none => [] } })
  (f.resetQBlk q 2).modTbe q (fun t => { t with resetting := some e })

/-- Blocks of a region with an operation in progress. -/
def busyBlks (v : Variant) (f : FieldDie) (r : Nat) : List Nat :=
  (List.range 9).filter fun b => match f.blkAt v r b with | some x => x.op.isSome | none => false

/-- The commands that waited for a block that has ended its operation (19 R483, R497): a RESET of region scope goes on waiting while another
block of the region is busy. -/
def endWaits (v : Variant) (f : FieldDie) (r : Nat) (waits : List Request) : FieldDie :=
  waits.foldl (fun f q =>
    match f.busyBlks v r with
    | b :: _ =>
      if q.regionScope then f.modBlk r b (fun x => { x with op := x.op.map (fun (o : BlkOp) => { o with waits := o.waits ++ [q] }) })
      else f.complete q .ok
    | [] => f.complete q .ok) f

/-- An isolated quadrant returns to service (R39, 15 R400): its modules rejoin from COLD. -/
def rejoin (f : FieldDie) (q : Nat) : FieldDie :=
  let f := { f with power := { f.power with
    isolated := f.power.isolated.modifyNat q (fun _ => false), regionReset := f.power.regionReset.modifyNat q (fun _ => false) } }
  let f := f.modQd q (fun x => { x with blk := x.blk.map (fun (b : Blk) => { b with state := 1 }) })
  (List.range 24).foldl (fun f i =>
    let k := 24 * q + i
    if ¬ (f.sl k).port.present ∨ (f.sl k).sess.state = 9 then f
    else (f.modSl k (fun s => s.leave.quiet)).modSess k (fun s => { s with state := 10, epoch := 0, auxMod := false })) f

/-- Records of the running configuration that a parameter reload of BRK or BSEQ takes up again (R35, 19 R497). -/
def reloadRecs (f : FieldDie) (r b : Nat) : List CfgRec :=
  let rs := ((blobSections f.cfg.blob).getD []).flatMap (·.recs)
  rs.filter fun x => match x with
    | .command 0x5001 u _ => b == 1 || (96 ≤ u && branchQuad (u - 96) == r - 4)
    | .command 0x5002 _ _ => b == 1
    | .register op _ _ => 4 ≤ r && opRegion op == r && opBlk op == 4
    | _ => false

/-- Transceivers that failed the loopback self-test of a PORT block reset (R31) wait for their spares. -/
def portTested (f : FieldDie) (q : Nat) (fails : BitVec 24) : FieldDie :=
  (List.range 24).foldl (fun f c =>
    if fails.getLsbD c ∧ ¬ ((f.qd q).blk.getD 1 {}).failedCells.contains c then f.modPort (24 * q + c) (fun p => { p with bad := true }) else f) f

/-- BLK_STATE returns to RUNNING (R37), in an isolated quadrant to ISOLATED (R38), once every engine of a TBE block reset has had its own (R553) and
a sweep of MEAS has calibrated every channel (04 R120). A
reload of QC after a reset of its region returns an isolated quadrant to service (R39). -/
def endOp (v : Variant) (f : FieldDie) (r b : Nat) (fails : BitVec 24 := 0) : FieldDie :=
  match (f.blkAt v r b).bind (·.op) with
  | none => f
  | some o =>
   if 0 < o.stepsLeft ∨ (o.kind = 2 ∧ ¬ f.sweepDone (r - 4)) then f
   else
    let q := r - 4
    let f := f.modBlk r b (fun x => { x with state := if f.isolatedAt r then 5 else 1, op := none })
    let f := if 4 ≤ r ∧ b = 1 ∧ o.kind = 1 then f.portTested q fails else f
    let f := if 4 ≤ r ∧ b = 2 then f.modTbe q (fun t => { t with resetting := none }) else f
    let f := if o.kind = 3 ∧ (b = 4 ∨ (r = 1 ∧ b = 1)) then (f.cfgApplyAll v (f.reloadRecs r b)).1 else f
    let f := if 4 ≤ r ∧ b = 0 then
        let f := f.countMissed q
        if o.kind = 3 ∧ f.isolatedAt r ∧ f.power.regionReset.getD q false ∧ (f.qd q).blk.rows.all (fun x => x.op.isNone) then f.rejoin q else f
      else f
    f.endWaits v r o.waits

/-- A block that did not return in time enters FAILED (R37, 15 R400, R401). -/
def failOp (v : Variant) (f : FieldDie) (r b : Nat) : FieldDie :=
  match (f.blkAt v r b).bind (·.op) with
  | none => f
  | some o =>
    let f := f.modBlk r b (fun x => { x with state := 6, op := none })
    let f := o.waits.foldl (fun f q => f.complete q .aborted) f
    if r = 1 then f.raise 48 1 b
    else { f.raiseQ (r - 4) 4 1 b with power := { f.power with pendIsolate := f.power.pendIsolate ++ [(r - 4, none)] } }

/-- A quadrant is isolated (R38). -/
def isolate (f : FieldDie) (q : Nat) : FieldDie :=
  let mine := f.power.pendIsolate.filter (fun (x : Nat × Option Request) => x.1 == q)
  if mine.isEmpty then f
  else
    let waits := (f.qd q).blk.rows.flatMap fun b => match b.op with | some o => o.waits | none => []
    let f := { f with power := { f.power with
      pendIsolate := f.power.pendIsolate.filter (fun (x : Nat × Option Request) => x.1 != q)
      isolated := f.power.isolated.modifyNat q (fun _ => true), regionReset := f.power.regionReset.modifyNat q (fun _ => false) } }
    let f := f.modQd q (fun x => { x with
      blk := x.blk.map (fun (b : Blk) => { b with state := 5, lastOp := 4, op := none }), tbe := { x.tbe with resetting := none } })
    let f := (List.range 24).foldl (fun f i =>
      let k := 24 * q + i
      (f.abandon k).modSl k (fun s => { s with
        ctx := s.emptyCtx, port := { s.port.silence with queue := [], lowByUs := false, tx := false }
        ins := { s.ins with state := min s.ins.state 1, startPhase := false } })) f
    let f := waits.foldl (fun f r => f.complete r (if r.opcode = 0x0002 then .aborted else .ok)) f
    let f := mine.foldl (fun f (x : Nat × Option Request) => match x.2 with | some r => f.complete r .ok | none => f) f
    f.raiseQ q 31 1

/-- A contract transceiver that failed its self-test gives way to its spare (R31 to R33): spare `c / 6` while it is free, the lower port first;
without one the slot is disabled. -/
def portSwap (f : FieldDie) (q c : Nat) : FieldDie :=
  let k := 24 * q + c
  let p := (f.sl k).port
  if ¬ p.bad ∨ p.line ≠ 0 then f
  else
    let g := c / 6
    let lower : Bool := (List.range c).any fun i => i / 6 == g && (f.sl (24 * q + i)).port.bad
    let f := f.modPort k (fun p => { p with bad := false })
    if ((f.qd q).portSpare.getD g none).isSome ∨ lower then
      (f.modQBlk q 1 (fun b => { b with failedCells := b.failedCells.filter (· != c) ++ [c] })).toDisabled k
    else
      let f := f.modQd q (fun x => { x with portSpare := x.portSpare.modifyNat g (fun _ => some c) })
      ((f.modQBlk q 1 (fun b => { b with lastOp := 5 })).raiseQ q 5 1 (256 + c)).vector 51

end FieldDie

namespace HostDie

/-- What a block reset returns to its reset value in a block of region H (R552); HIF_CTRL.LOCK falls with a reset of the region alone (18 Table
18-4). -/
def resetBlk (h : HostDie) (b : Nat) : HostDie :=
  match b with
  | 1 | 2 => h
  | 3 => { h with hif := { h.hif with lost := 0 } }
  | 4 => h.modStor (fun s => { s with ueCnt := 0 })
  | 6 => { h with rech := { h.rech with missCnt := 0 } }
  | 7 => h.onBus 0 TwBus.blockReset
  | 8 => h.onBus 1 TwBus.blockReset
  | 9 => { h with htim := h.htim.blockReset }
  | 12 => { h with mode := { h.mode with hostLost := false } }
  | _ => h

/-- A block reset starts on region H; HPC resets the region (15 Table 15-6). One requested while another runs completes with it (DESIGN CHOICE,
log entry 37). -/
def startOp (h : HostDie) (b : Nat) (waits : List Request := []) : HostDie :=
  if b = 0 then h.regionReset 6 1
  else
    (h.modBlk b (fun x => { x with
      state := 2, lastOp := 1, resetCnt := satN 16 (x.resetCnt + 1)
      op := some { kind := 1, waits := (match x.op with | some o => o.waits | none => []) ++ waits } })).resetBlk b

/-- BLK_STATE of a block of region H returns to RUNNING. -/
def endOp (h : HostDie) (b : Nat) : HostDie :=
  match (h.blk.getD b {}).op with
  | none => h
  | some o => o.waits.foldl (fun h q => h.complete q .ok) (h.modBlk b (fun x => { x with state := 1, op := none }))

/-- A block of region H enters FAILED: H_BLOCK_FAILED (15 R401). -/
def failOp (h : HostDie) (b : Nat) : HostDie :=
  match (h.blk.getD b {}).op with
  | none => h
  | some o => (o.waits.foldl (fun h q => h.complete q .aborted) (h.modBlk b (fun x => { x with state := 6, op := none }))).raise 9 1 b

end HostDie

/-- Whether a RESET runs on region H: scope 3, and the blocks of region 0. -/
def resetOnHost (r : Request) : Bool := r.u32 0 == 3 || (r.u32 0 < 2 && r.u32 4 == 0)

/-- Whether RESET needs a token (Table 19-4). -/
def resetAuth (r : Request) : Bool := r.u32 0 == 1 || r.u32 0 == 2 || r.u32 0 == 4

/-- RESET on the field side (R483). A block scope that names DISP, FCOL, TBASE, BLF, PCRF or FCMEM, which 15 R396 never resets alone, is
answered BAD_PARAM (DESIGN CHOICE, log entry 37). -/
def resetC : FCmd where
  code := 0x0002
  auth := resetAuth
  chk v _ r :=
    if 4 < r.u32 0 ∨ 8 ≤ r.u32 4 ∨ 32 ≤ r.u32 8 then some .badParam
    else if 2 ≤ r.u32 0 then none
    else if r.u32 4 = 1 then need (r.u32 0 == 0 && (fcTarget (r.u32 8) == .region 1 (r.u32 8)) && r.u32 8 < 9)
    else if r.u32 4 < 4 then some .badParam
    else if v.quads ≤ r.u32 4 - 4 then some .unitAbsent
    else need (r.u32 0 == 1 || r.u32 8 < 7)
  op v f r :=
    match r.u32 0 with
    | 0 => (f.startOp (r.u32 4) (r.u32 8) 1 [r], none)
    | 1 =>
      let q := r.u32 4 - 4
      let f := { f with power := { f.power with regionReset := f.power.regionReset.modifyNat q (fun x => x || f.isolatedAt (r.u32 4)) } }
      ((List.range 7).foldl (fun f b => f.startOp (r.u32 4) b 1 (if b = 0 then [r] else [])) f, none)
    | n =>
      let f := f.shutdown v
      ({ f with power := { f.power with resetAt := some (r.applyTick + 40, if n = 2 then 6 else 9) } }, some (.ok, 0))

/-- RESET on region H (R483): scope 3, and the blocks of region 0; a reset that takes region H with it completes first. -/
def resetH : HCmd where
  code := 0x0002
  auth _ := resetAuth
  chk v _ r :=
    if 8 ≤ r.u32 4 ∨ 32 ≤ r.u32 8 then some .badParam
    else if r.u32 0 = 0 ∧ r.u32 8 = 1 ∧ ¬ v.pcie then some .unitAbsent
    else need (r.u32 0 != 0 || r.u32 8 < 13)
  op _ h r :=
    if r.u32 0 = 0 ∧ r.u32 8 ≠ 0 then (h.startOp (r.u32 8) [r], none)
    else ({ h with resetIn := some h.htb }, some (.ok, 0))

/-- The field side of BLOCK_OP (R497, Table 01-12). -/
def blockOpC : FCmd where
  code := 0xC002
  auth _ := true
  chk v _ r :=
    let g := r.u32 0
    let b := r.u32 4
    let a := r.u32 8
    if 8 ≤ g ∨ 32 ≤ b ∨ a = 0 ∨ 5 < a ∨ g = 2 ∨ g = 3 then some .badParam
    else if 4 ≤ g ∧ v.quads ≤ g - 4 then some .unitAbsent
    else if g = 1 then need ((b == 1 && a == 4) || (b == 0 && a == 3))
    else need (a == 5 || ([(0, 1), (0, 3), (1, 1), (2, 1), (3, 2), (4, 4), (5, 1), (6, 1)] : List (Nat × Nat)).contains (b, a))
  op _ f r :=
    let g := r.u32 0
    let b := r.u32 4
    match r.u32 8 with
    | 1 => (f.startOp g b 1 [r], none)
    | 2 =>
      if (f.qd (g - 4)).meas.cal.rows.all (fun s => 4 ≤ s.state) then (f, some (.busy, 0))
      else (f.startOp g b 2 [r], none)
    | 5 => ({ f with power := { f.power with pendIsolate := f.power.pendIsolate ++ [(g - 4, some r)] } }, none)
    | _ => if g = 1 ∧ b = 0 ∧ ¬ f.isStandby then (f, some (.wrongMode, 0)) else (f.startOp g b 3 [r], none)

/-- BLOCK_OP on region H: the block resets of Table 01-12. -/
def blockOpH : HCmd where
  code := 0xC002
  auth _ _ := true
  chk _ _ r := need ((r.u32 4 == 7 || r.u32 4 == 8 || r.u32 4 == 9) && r.u32 8 == 1)
  op _ h r := (h.startOp (r.u32 4) [r], none)

/-- GET_BLOCK on the field side (R495); a block that does not exist reads 0. -/
def getBlockC : FCmd where
  code := 0xC011
  ro := true
  chk _ _ r := need (r.u32 0 < 8 && r.u32 4 < 32)
  op v f r :=
    let w (i : Nat) : Nat := ((f.peek v (8192 * r.u32 0 + 256 * r.u32 4 + i)).getD 0).toNat
    (f, some (.ok, w 0 + 2 ^ 32 * w 1))

/-- GET_BLOCK on region H. -/
def getBlockH : HCmd where
  code := 0xC011
  ro := true
  chk _ _ r := need (r.u32 4 < 32)
  op v h r :=
    let w (i : Nat) : Nat := ((h.peek v (256 * r.u32 4 + i)).getD 0).toNat
    (h, some (.ok, w 0 + 2 ^ 32 * w 1))

/-- GET_DIAG on the field side (Table 19-11): its share of the selections. -/
def getDiagC : FCmd where
  code := 0xC012
  ro := true
  chk v _ r :=
    match r.u32 0 with
    | 1 => if 96 ≤ r.u32 4 then some .badParam else if v.slots ≤ r.u32 4 then some .unitAbsent else none
    | 2 | 3 | 4 => none
    | _ => some .badParam
  op _ f r :=
    (f, some (.ok, match r.u32 0 with
      | 1 => (f.sl (r.u32 4)).port.deferred
      | 2 => f.bar.drops
      | 3 => f.bar.overflow + 2 ^ 32 * f.bar.events.length
      | _ => f.tick.schedule.length))

/-- What region H adds to RESULT of a GET_DIAG (Table 19-11): its own drops, and the forward buffer. -/
def HostDie.diagShare (h : HostDie) (r : Request) : HostDie × Nat :=
  (h, match r.u32 0 with | 2 => 2 ^ 32 * h.bar.drops | 4 => 2 ^ 32 * h.hif.ready.length | _ => 0)

/-- GET_DIAG on region H: selection 5. -/
def getDiagH : HCmd where
  code := 0xC012
  ro := true
  chk _ _ r := need (r.u32 4 < 32)
  op _ h r := (h, some (.ok, (h.q (r.u32 4)).fetched + 2 ^ 32 * (h.q (r.u32 4)).refused))

/-- Whether a block command names region H. -/
def blkOnHost (r : Request) : Bool := r.u32 0 == 0

/-- Whether GET_DIAG names a queue. -/
def diagOnHost (r : Request) : Bool := r.u32 0 == 5

namespace Machine

/-- TRANSCEIVER_SELFTEST (R31): on an idle line; a failure waits for its spare. -/
def execTransceiverSelftest (slot : Fin 96) (pass : Bool) (s : State) : Out :=
  .next (s.onSlot slot (fun f =>
    if (f.sl slot).port.line ≠ 0 ∨ pass ∨ ((f.qd (slotQuad slot)).blk.getD 1 {}).failedCells.contains (slot % 24) then f
    else f.modPort slot (fun p => { p with bad := true })))

/-- SPARE_SWAP (R32). -/
def execSpareSwap (q : Fin 4) (block : Fin 7) (cell : Fin 24) (s : State) : Out :=
  .next (s.onField (fun f =>
    if s.chip.variant.quads ≤ q then f
    else if block = 1 then f.portSwap q cell
    else if block = 2 then f.tbeSwap q cell
    else if block = 3 ∧ cell.val < 18 then f.measSwap q cell
    else f))

/-- SRAM_ROW_MOVE (R34). -/
def execSramRowMove (region : Fin 8) (block : Fin 32) (row : Nat) (s : State) : Out :=
  .next (if ¬ hasSram region block then s
    else if region = 0 then s.onHost (fun h => h.modBlk block (fun b => b.moveRow 0 block row h.htb))
    else s.onField (fun f =>
      if (f.blkAt s.chip.variant region block).isNone then f else f.modBlk region block (fun b => b.moveRow region block row f.tick.tb)))

/-- SRAM_SCRUB (R42, R43): the word at an address is read; its bits are right, one is wrong, corrected and counted for its row group, or two are
and the owning block's event is raised. -/
def execSramScrub (region : Fin 8) (block : Fin 32) (addr : Nat) (errors : Fin 3) (s : State) : Out :=
  let row := Config.rowOf region block addr
  .next (if ¬ sramWord region block addr ∨ errors = 0 then s
    else if region = 0 then s.onHost (fun h =>
      if errors = 1 then (h.modBlk block (fun b => b.countErr row h.htb)).raise 2 1 block else h.raise 3 1 block)
    else s.onField (fun f =>
      if (f.blkAt s.chip.variant region block).isNone then f
      else
        let g := if errors = 1 then f.modBlk region block (fun b => b.countErr row f.tick.tb) else f
        if region = 1 then g.raise (if errors = 1 then 33 else 34) 1 block
        else g.raiseQ (region.val - 4) (if errors = 1 then 2 else 3) 1))

/-- BLOCK_OP_END (R37), with what the self-tests of a PORT block reset found (R31). -/
def execBlockOpEnd (region : Fin 8) (done : OpEnd) (s : State) : Out :=
  .next (if region = 0 then s.onHost (fun h => h.endOp done.block) else s.onField (fun f => f.endOp s.chip.variant region done.block done.fails))

/-- BLOCK_OP_TIMEOUT (R37). -/
def execBlockOpTimeout (region : Fin 8) (block : Fin 32) (s : State) : Out :=
  .next (if region = 0 then s.onHost (fun h => h.failOp block) else s.onField (fun f => f.failOp s.chip.variant region block))

/-- TBE_ENGINE_RESET_NEXT (R553): the next engine of a block reset. -/
def execTbeEngineResetNext (q : Fin 4) (s : State) : Out :=
  .next (s.onField (fun f =>
    match ((f.qd q).blk.getD 2 {}).op with
    | some o =>
      if o.kind ≠ 1 ∨ o.stepsLeft = 0 then f
      else
        let order := f.engineOrder q
        (f.modTbe q (fun t => { t with resetting := order[order.length - o.stepsLeft]? })).modQBlk q 2
          (fun b => { b with op := some { o with stepsLeft := o.stepsLeft - 1 } })
    | none => f))

/-- BLOCK_RESET_REACTION (15 R394, R395): the first reset that the judgements chose. -/
def execBlockResetReaction (s : State) : Out :=
  .next (s.onField (fun f =>
    match f.power.pendBlocks with
    | [] => f
    | (r, b, e) :: rest =>
      let f := { f with power := { f.power with pendBlocks := rest } }
      if (f.blkAt s.chip.variant r b).isNone then f
      else if e = 0 then f.startOp r b 1 else f.startEngine (r - 4) (e - 1)))

/-- QUADRANT_ISOLATE (R38, 15 R400). -/
def execQuadrantIsolate (q : Fin 4) (s : State) : Out := .next (s.onField (fun f => f.isolate q))

/-- QC_WATCHDOG (R63, 03 R78): after 4 consecutive edges without its task completed, the QC block resets. -/
def execQcWatchdog (q : Fin 4) (s : State) : Out :=
  .next (s.onField (fun f =>
    if s.chip.variant.quads ≤ q ∨ f.tick.qcLate.getD q 0 < 4 then f
    else
      let f := { f with tick := { f.tick with qcLate := f.tick.qcLate.modifyNat q (fun _ => 0) } }
      (f.startOp (4 + q.val) 0 1).raiseQ q 0 1))

/-- QC_LOCKSTEP_MISMATCH (R63). -/
def execQcLockstepMismatch (q : Fin 4) (s : State) : Out :=
  .next (s.onField (fun f => if s.chip.variant.quads ≤ q then f else (f.startOp (4 + q.val) 0 1).raiseQ q 1 1))

/-- QC_RESTART (10 R276): the reset or reload of QC ends. -/
def execQcRestart (q : Fin 4) (s : State) : Out := .next (s.onField (fun f => f.endOp s.chip.variant (4 + q.val) 0))

/-- RESET (R483). -/
def execReset (r : Request) (s : State) : Out := .next (s.byTarget resetOnHost resetH resetC r)

/-- BLOCK_OP (R497). -/
def execBlockOp (r : Request) (s : State) : Out := .next (s.byTarget blkOnHost blockOpH blockOpC r)

/-- GET_BLOCK (R495). -/
def execGetBlock (r : Request) (s : State) : Out := .next (s.byTarget blkOnHost getBlockH getBlockC r)

/-- GET_DIAG (R495). -/
def execGetDiag (r : Request) (s : State) : Out :=
  .next (if diagOnHost r then s.host getDiagH r else s.fieldShare getDiagC (fun h => h.diagShare r) r)

end Machine

end Sys2Proof
end

