-- ==== Sys2Proof/Machine/Barrier.lean ====
section
/-! DEFINITION. The messages of the barrier (01_architecture R20 to R27): the slots of a tick, the framing, the payloads that the two
sides form, and the checks of the receiving end. -/

namespace Sys2Proof

namespace MsgClass

/-- The class codes (Table 01-8). -/
def code : MsgClass → Nat
  | .configPush => 1 | .cmdForward => 2 | .cmdComplete => 3 | .telemetry => 4 | .event => 5
  | .recSnapshot => 6 | .traceBlock => 7 | .fwBlock => 8 | .heartbeat => 9 | .timeSync => 10

/-- The class of a code, where Table 01-8 has one. -/
def ofCode (c : Nat) : Option MsgClass :=
  [configPush, cmdForward, cmdComplete, telemetry, event, recSnapshot, traceBlock, fwBlock, heartbeat, timeSync].find? (fun x => x.code == c)

end MsgClass

/-- A row of Table 01-9: direction and lane, the class, how many messages of it a tick carries, and the bytes of its payload. -/
structure BarSlot where
  toHost : Bool
  lane : Nat
  cls : MsgClass
  count : Nat
  bytes : Nat
  deriving DecidableEq, Repr

/-- Table 01-9. -/
def barSlots : List BarSlot :=
  [⟨false, 0, .heartbeat, 1, 12⟩, ⟨false, 0, .cmdForward, 3, 65⟩, ⟨false, 0, .configPush, 1, 376⟩,
   ⟨false, 1, .heartbeat, 1, 12⟩, ⟨false, 1, .timeSync, 1, 4⟩, ⟨false, 1, .fwBlock, 1, 512⟩,
   ⟨true, 0, .heartbeat, 1, 12⟩, ⟨true, 0, .timeSync, 1, 8⟩, ⟨true, 0, .cmdComplete, 4, 16⟩, ⟨true, 0, .event, 8, 16⟩,
   ⟨true, 0, .telemetry, 1, 248⟩,
   ⟨true, 1, .heartbeat, 1, 12⟩, ⟨true, 1, .recSnapshot, 1, 512⟩, ⟨true, 1, .traceBlock, 1, 72⟩]

/-- The payload length that Table 01-9 fixes for a class and a direction; none where the class does not travel that way. -/
def MsgClass.size (c : MsgClass) (toHost : Bool) : Option Nat :=
  (barSlots.find? (fun s => s.toHost == toHost && s.cls == c)).map (·.bytes)

/-- Whether row `i` of Table 01-9 still has room for a message: its own count, and no later slot of its lane used in this tick (R23). -/
def rowFree (crossed : List Nat) (i : Nat) : Bool :=
  match barSlots[i]? with
  | none => false
  | some s => decide (crossed.count i < s.count) && crossed.all fun j =>
      decide (j ≤ i) || (match barSlots[j]? with | some t => t.toHost != s.toHost || t.lane != s.lane | none => true)

/-- The slot that the next message of a class takes in this tick, where one is left (R23, R24). -/
def nextSlot (crossed : List Nat) (toHost : Bool) (c : MsgClass) : Option Nat :=
  (List.range 14).find? fun i => rowFree crossed i && (match barSlots[i]? with | some s => s.toHost == toHost && s.cls == c | none => false)

/-- A message as it crosses (R21): class code, source, payload length, payload, CRC-32C. -/
structure Msg where
  cls : Nat
  src : Nat
  len : Nat
  payload : List Byte
  crc : Nat
  deriving DecidableEq, Repr

namespace Msg

/-- What the CRC covers. -/
def body (m : Msg) : List Byte := leBytes 1 m.cls ++ leBytes 1 m.src ++ leBytes 2 m.len ++ m.payload

/-- The whole message on the lane. -/
def bytes (m : Msg) : List Byte := m.body ++ leBytes 4 m.crc

/-- The message with the CRC of its other fields. -/
def sealed (m : Msg) : Msg := { m with crc := crc32c m.body }

/-- The message of a class as an end sends it. SOURCE is the region and block of that end, BLH or BLF (log entry 87). -/
def form (toHost : Bool) (c : MsgClass) (payload : List Byte) : Msg :=
  sealed { cls := c.code, src := if toHost then 0x24 else 0x0A, len := payload.length, payload := payload, crc := 0 }

/-- What a defect of the crossing makes of the message (R22). -/
def spoil (m : Msg) (toHost : Bool) : Arrival → Msg
  | .good | .outsideSlot => m
  | .badClass => { m with cls := 0 }.sealed
  | .wrongDirection => { m with cls := if toHost then MsgClass.configPush.code else MsgClass.cmdComplete.code }.sealed
  | .badCrc => { m with crc := (m.crc + 1) % 2 ^ 32 }
  | .badLength => { m with len := m.len + 1, payload := m.payload ++ [0] }.sealed

/-- The five checks of the receiving end (R22), in their order. -/
def accepts (toHost inSlot : Bool) (m : Msg) : Bool :=
  match MsgClass.ofCode m.cls with
  | none => false
  | some c => match c.size toHost with
    | none => false
    | some n => m.crc == crc32c m.body && m.len == n && m.payload.length == n && inSlot

end Msg

/-- Whether a message of a class gets through the crossing `arr`. -/
def crosses (toHost : Bool) (c : MsgClass) (payload : List Byte) (arr : Arrival) : Bool :=
  ((Msg.form toHost c payload).spoil toHost arr).accepts toHost (arr != .outsideSlot)

/-- A descriptor's 64 bytes (19 Table 19-3). -/
def Request.bytes (r : Request) : List Byte :=
  leBytes 2 r.opcode ++ leBytes 1 r.flags ++ leBytes 1 r.unit ++ leBytes 2 r.tag ++ leBytes 2 r.epoch ++ leBytes 8 r.applyTick
    ++ leBytes 32 r.params.toNat ++ leBytes 16 r.token.toNat

/-- The payload of a CMD_FORWARD: the descriptor and its queue number (Table 01-8). -/
def Request.forwarded (r : Request) : List Byte := r.bytes ++ leBytes 1 r.queue.val

/-- A learned-value record's 64 bytes: a STRESS record (17 Table 17-9), or a battery record (13 Table 13-6). -/
def Learned.bytes (l : Learned) : List Byte :=
  let x (i : Nat) : Nat := l.values.getD i 0
  let head := if l.type = 1 then leBytes 4 1 else leBytes 1 l.type ++ leBytes 1 (x 0) ++ leBytes 2 (x 1)
  let ident := leBytes 2 l.vendor ++ leBytes 2 l.product ++ leBytes 8 l.serial
  let body := if l.type = 1 then leBytes 8 (x 0) ++ leBytes 4 (x 1) ++ leBytes 4 l.written
    else leBytes 8 (x 2) ++ leBytes 8 (x 3) ++ leBytes 4 (x 4) ++ leBytes 4 (x 5) ++ leBytes 4 (x 6) ++ leBytes 4 l.written
  let all := slice 0 60 (head ++ ident ++ body)
  all ++ leBytes 4 (crc32c all)

/-- The payload of a CONFIG_PUSH: GEN, OFFSET and 368 bytes of the blob, or learned records in their place (19 R490, 17 R449). -/
def Push.payload (p : Push) : List Byte :=
  leBytes 4 p.gen ++ leBytes 4 p.offset ++ slice 0 368 (if p.learned.isEmpty then p.bytes else p.learned.flatMap (·.bytes))

/-- A block of learned values for the REC_SNAPSHOT slot (17 R449). -/
def learnedBlock (ls : List Learned) : List Byte :=
  slice 0 512 (slice 0 64 [0x10, BitVec.ofNat 8 ls.length] ++ ls.flatMap (·.bytes))

/-- The payload of a HEARTBEAT (R25): tick count, MODE_STATUS, health word. -/
def beatPayload (count : Nat) (mode health : Word) : List Byte := leBytes 4 count ++ leBytes 4 mode.toNat ++ leBytes 4 health.toNat

/-- The payload of a TELEMETRY message (R27): the part's index, 7 zeros, and its 240 bytes of the set. -/
def telemetryPayload (i : Nat) (set : List Byte) : List Byte := slice 0 8 [BitVec.ofNat 8 i] ++ slice (240 * i) 240 set

end Sys2Proof
end

