-- ==== Sys2Proof/Machine/Frames.lean ====
section
/-! DEFINITION. What crosses from one side to the other: the messages of the barrier (01_architecture R20 to R27, R44 to R46), the commands
that they carry to FC (03 R86 to R91), and the input frame of the twin (14 R361 to R363). A message holds what its sender holds when it
arrives; what waits for its slot waits in the sender's state. A message whose slot of the tick is taken is not sent (R23). -/

namespace Sys2Proof

/-- Every field-executed command but CFG_LOAD. -/
def fieldOpcodes : List FCmd :=
  [setVsetC, setLoopC, setSharingC, setUnitWeightC, excludeUnitC, getUnitC, getWearC, getDispatchC, setWindowC, setHoldupC, setReentryC,
   setWarnLeadC, setChargeC, setRampC, setFreqRespC, setFreqSrcC, putHostFreqC, getHoldupC, getGridC, getReserveC, setCapC, setCapPolicyC,
   setBranchCapC, restoreBranchC, getCapC, getBudgetC, setSlotPolicyC, resetSlotC, swapAuxC, enableSlotC, getSlotC, getModuleDataC,
   setBranchC, setCurvePointC, closeBranchC, openBranchC, clearLockoutC, testPfwC, getBranchC, getAccC] ++
  [setProbeC, setCountingC, setBatWarnC, setLearningC, startLearnC, abortLearnC, setSocC, setCapacityC, getBatC, getBatValueC, getLearnC,
   handoverC, setRevertC, drillC, leaveStepC, joinC, coldSwapC, getTwinC, cmdAckFault, cmdSetSource, cmdGetSource, cmdGetFault,
   cmdInjectEvent, cmdClearRecovery, cmdRecSetTrigger, recSetListC, cmdRecSetTrace, cmdRecSetLevel, cmdRecTrigger, cmdTmrSet,
   cmdTmrCompare, cmdTmrSnapshot, cmdTmrGet, cmdTwXfer, cmdTwSetBus, cmdTwGetBus, resetC, blockOpC, getBlockC, getDiagC, opReadC, opWriteC]

/-- CFG_LOAD on the field side (19 R488, R491, R492): the blob that was pushed takes effect. A standby to which the input frame brings the load
leaves step, and starts a join that does not count. -/
def cfgLoadC : FCmd where
  code := 0x1001
  auth _ := true
  op v f r :=
    if r.peer then
      let f := f.leaveStep
      let times := f.twin.joinTimes
      (f.joinBegin.modTwin (fun t => { t with joinTimes := times }), some (.ok, 0))
    else if ¬ blobHead v f.cfg.pushed then (f, some (.badParam, 0))
    else
      let g := f.cfgTakes v f.cfg.pushed
      (g, some (.ok, g.cfg.gen))

/-- The field-executed command of an opcode. -/
def fieldCmd (op : Nat) : Option FCmd := (cfgLoadC :: fieldOpcodes).find? (fun (c : FCmd) => c.code == op)

namespace FieldDie

/-- Whether FC's end of the barrier works. -/
def linkOn (f : FieldDie) : Bool := f.power.vinf && f.power.dom.getD 1 .off == .good

/-- A command that FC takes from the barrier or from the input frame (03 R86 to R89): its checks at arrival, and its place in the
schedule. -/
def arrive (v : Variant) (f : FieldDie) (r : Request) : FieldDie :=
  let tb := f.tick.tb
  let r := { r with arrival := tb, applyTick := if r.atTick then r.applyTick else tb + 2 }
  match fieldCmd r.opcode with
  | none => f.complete r .badOpcode
  | some c => schedF v c r f

/-- A command of the schedule at the edge of its apply tick (03 R90, R91). -/
def applyDue (v : Variant) (f : FieldDie) (s : Sched) : FieldDie :=
  match fieldCmd s.req.opcode with
  | none => f
  | some c => if ¬ s.req.silent ∧ s.req.epoch ≠ f.twin.epoch then f.complete s.req .staleRole else applyF v c s.req f

/-- A message from the host that FC drops (01 R22): counted, and the first of the tick raises BARRIER_DROP. -/
def dropMsg (f : FieldDie) : FieldDie :=
  let g := { f with bar := { f.bar with drops := satN 32 (f.bar.drops + 1), dropped := true } }
  if f.bar.dropped ∨ ¬ f.running then g else g.raise 38 1

/-- A part of the pushed blob (19 R490), or learned records (17 R449). -/
def takePush (f : FieldDie) (p : Push) : FieldDie :=
  if p.learned.isEmpty then
    { f with cfg := { f.cfg with pushGen := p.gen, pushed := overlay p.offset p.bytes (if p.offset = 0 then [] else f.cfg.pushed) } }
  else { f with bat := { f.bat with records := f.bat.records.filter (fun x => !p.learned.any (fun y => y.same x)) ++ p.learned } }

/-- HOST_LOST (01 R24). -/
def loseHost (f : FieldDie) : FieldDie :=
  if f.bar.hostLost ∨ f.bar.since < 40 then f else { f with bar := { f.bar with hostLost := true, lostTicks := 0 } }.raise 39 1

/-- What a valid host heartbeat brings (01 R24, R25, Table 01-16, 15 R404): its count and its health word, the state of FCM, and whether the
recorder is frozen (16 R424), with the next TRACE_ID after a field start or a clear of traces (16 R422; log entry 92). A capture whose sending the
loss of the host cut short is sent again. -/
def hostBeat (f : FieldDie) (h : HostDie) (count : Nat) : FieldDie :=
  { f with
    bar := { f.bar with
      since := 0, hostLost := false, lostTicks := 0, limitRaised := false, seenLeft := if f.bar.hostLost then 41 else f.bar.seenLeft
      hostHealth := h.health.toNat, hostCount := count }
    fcol := { f.fcol with sources := f.fcol.sources.mapIdx (fun i (x : Source) => if Collector.judges true i then h.fcm.src i else x) }
    recf := { f.recf with
      frozen := h.rech.frozen, cleared := h.rech.clears, nextId := if f.recf.cleared = h.rech.clears then f.recf.nextId else h.nextTrace
      sendOff := if f.bar.hostLost then 0 else f.recf.sendOff } }

/-- The next record for the host, or up to 7 learned records where none waits (16 R416, 17 R449), and the field without them. -/
def nextSnapshot (f : FieldDie) : List Record × List Learned × FieldDie :=
  match f.recf.queue with
  | r :: rest => ([r], [], { f with recf := { f.recf with queue := rest } })
  | [] => ([], f.recf.learned.take 7, { f with recf := { f.recf with learned := f.recf.learned.drop 7 } })

/-- The values that a section of the input frame gives (14 Table 14-3). -/
def inputSection (v : Variant) (f : FieldDie) (x : InputSection) : FieldDie :=
  match x.number with
  | 0 => match x.tb with
    | some t => f.modTwin (fun w => { w with tbDelta := (t.toNat : Int) - f.tick.tb })
    | none => f
  | 1 =>
    let f := x.channels.foldl (fun f c => f.modChan (c.ch / 16) (c.ch % 16) (fun y => { y with
      avg := c.avg.toInt, max := match c.max with | some m => m.toInt | none => y.max, valid := c.valid, stale := c.stale })) f
    vbusForm v f
  | 2 => x.breakers.foldl (fun f b => f.modBr b.branch (fun y => { y with
      fwdTrip := b.trip, cmp := b.cmp, fb := b.fb, testPass := b.test })) f
  | 3 => x.uplinks.foldl (fun f u => f.uplinkForwarded u.1 u.2.toNat) f
  | 4 => x.commands.foldl (fun f r => f.arrive v { r with peer := true }) f
  | _ =>
    let n := f.twin.evq + x.portEvents
    let g := f.modTwin (fun w => { w with evq := min 256 n })
    if 256 < n then (g.raise 233 1).leaveStep else g

/-- A section of the input frame at a standby (14 R361, R365): the header counts for every join step from TICK on, the rest only while the
standby follows. -/
def inputRx (v : Variant) (f : FieldDie) (x : InputSection) : FieldDie :=
  if ¬ f.running ∨ ¬ f.twin.cfg.pairEn ∨ ¬ f.isStandby then f
  else if x.number = 0 ∨ f.follows then
    (f.modTwin (fun t => { t with sections := t.sections ++ [x.number.val] })).inputSection v x
  else f

end FieldDie

namespace HostDie

/-- Whether the host end of the barrier works: its domain is good and its clock runs (02 R60). -/
def linkOn (h : HostDie) : Bool := h.power.vinh && !h.power.asleep && h.power.dom.getD 1 .off == .good

/-- A message from the field that region H drops (01 R22). -/
def dropMsg (h : HostDie) : HostDie :=
  let g := { h with bar := { h.bar with drops := satN 32 (h.bar.drops + 1), dropped := true } }
  if h.bar.dropped then g else g.raise 5 1

/-- FCM takes the state of the field sources from FCOL (15 R404): FCM_MISMATCH where the heartbeat shows a pending source with FAULT_N that
the mirror lacks, with no entry on its way. -/
def mirror (h : HostDie) (f : FieldDie) : HostDie :=
  let differs : Bool := h.mode.fieldRunning && f.fcol.faultPend false && !h.fcm.faultPend false && f.bar.events.isEmpty
  let h := { h with fcm := { h.fcm with
    sources := h.fcm.sources.mapIdx (fun i (x : Source) => if Collector.judges false i then f.fcol.src i else x) } }
  if differs then h.raise 7 1 else h

/-- What region H reads of the field side (01 R25, R45, Table 01-15). -/
def readField (h : HostDie) (f : FieldDie) : HostDie :=
  { h with mode := { h.mode with
      fieldLost := false, word := f.modeStatus, fieldRunning := f.running, winter := f.power.winter, notConfigured := !f.cfg.loaded
      fltPend := f.fcol.faultPend false, isolated := bits 27 24 f.health, epoch := f.twin.epoch
      hostLost := h.mode.hostLost || f.hostLostSeen } }

/-- A field load begins (17 R447): the blocks wait for their slots, and an UPDATE_FIELD that waits for it completes (17 R453). -/
def startLoad (h : HostDie) : HostDie :=
  h.stor.updCmds.foldl (fun h r => h.complete r .ok)
    { h with bar := { h.bar with blocks := h.stor.loadBlocks }
             stor := { h.stor with loading := true, fieldLoaded := false, fieldStale := false, updCmds := [] } }

/-- Region H loads a field that waits for its image, at each field start (17 R442, R446). -/
def loadWaiting (h : HostDie) (f : FieldDie) : HostDie :=
  if h.booted ∧ f.power.phase = .waiting ∧ ¬ f.power.ready ∧ ¬ h.stor.loading ∧ h.stor.loadTries < 3 then h.startLoad else h

/-- What a valid field heartbeat brings (01 R24, R25, Table 01-15): the loss count, the tick count, MODE_STATUS, the health bits, the role epoch,
the state of FCOL, the vectors that the field raised, and a field start since the last one (02 R65, log entry 88). WINTER thaws the recorder (16
R419). -/
def fieldBeat (h : HostDie) (f : FieldDie) : HostDie :=
  let h := match f.power.startCause with
    | some (c, s) => h.recordCause c s (f.bar.completions.map fun (x : Completion) => (x.queue.val, x.tag))
    | none => h
  let h := h.mirror f
  let h := if f.power.winter ∧ ¬ h.mode.winter then h.thaw else h
  let h := ({ h with bar := { h.bar with since := 0, tick := f.tick.tb % 2 ^ 32 } }.readField f).loadWaiting f
  let h := f.bar.vectors.foldl vector h
  (if f.bar.timerVec then h.vector 54 else h).reportMode

/-- An event entry of the field (18 R468, 15 R404): the ring, and the mirror. -/
def eventRx (h : HostDie) (e : Entry) : HostDie :=
  let h := { h with fcm := { h.fcm with
    lastSrc := e.ev.src, lastData := e.data
    sources := h.fcm.sources.modifyNat e.ev.src (fun s => { s with pend := s.pend || e.cls != 0, severe := e.severe, last := e.ev.tb }) } }
  h.ringEntry e

/-- The entry of a forwarded command among those awaited. -/
def awaited (h : HostDie) (c : Completion) : Option (Nat × Nat × Nat) :=
  h.hif.outstanding.find? (fun x => x.1 == c.queue.val && x.2.1 == c.tag)

/-- A completion from the field (18 R463, R466, R467, R473): its data reach the host buffer, a CFG_LOAD takes effect on region H, and the entry
waits for its ring. One that region H no longer awaits is held. -/
def completionRx (v : Variant) (twinB : Bool) (h : HostDie) (c : Completion) : HostDie :=
  let h := if c.data.isEmpty then h else h.bufWrite c.addr c.data
  if c.peer then h.post c
  else match h.awaited c with
    | none => { h with held := h.held ++ [c] }
    | some x =>
      let h := { h with hif := { h.hif with outstanding := h.hif.outstanding.erase x } }
      let c := { c with result := (c.result + x.2.2) % 2 ^ 64 }
      match h.cfg.pushing with
      | some r =>
        if ¬ r.silent ∧ r.queue = c.queue ∧ r.tag = c.tag then
          let h := { h with cfg := { h.cfg with pushing := none } }
          if c.status ≠ .ok then h.post c
          else
            let h := h.cfgTakes v twinB h.cfg.pushed
            if r.u32 16 = 1 then h.nandOp (.config (some r)) else h.post c
        else h.post c
      | none => h.post c

/-- Fortieth `i` of telemetry set `n` (01 R27): a set whose parts do not all arrive, each in its tick of the 40 that follow, is discarded. -/
def telemetryPart (h : HostDie) (n i : Nat) (bs : List Byte) : HostDie :=
  let parts := if i = 0 then [(0, bs)] else if h.bar.partsOf = n ∧ h.bar.parts.length = i then h.bar.parts ++ [(i, bs)] else []
  if parts.length = 40 then { h with bar := { h.bar with parts := [], partsOf := n, telemetry := parts.flatMap (·.2) } }
  else { h with bar := { h.bar with parts := parts, partsOf := n } }

/-- FIELD_LOST (01 R24). -/
def loseField (h : HostDie) : HostDie :=
  if h.mode.fieldLost ∨ h.bar.since < 40 then h
  else ({ h with mode := { h.mode with fieldLost := true } }.raise 4 1).reportMode

/-- FCM judges one event of its own (15 R390, R397): the entry goes to the ring, with the vectors of its rung. -/
def judgeOne (a : HostDie × List Entry) (e : Event) : HostDie × List Entry :=
  let (c, en) := a.1.fcm.judge true a.1.htb e
  match en with
  | none => a
  | some en => (({ a.1 with fcm := { c with lastRx := max c.lastRx en.rung } }.ringEntry en).ruleVectors en.cls en.rung, a.2 ++ [en])

/-- Whether an entry resets region H (15 R397, R401). -/
def resets (e : Entry) : Bool :=
  decide (3 ≤ e.rung) || e.ev.src == 9 ||
    (decide (2 ≤ e.rung) && (target e.ev.src e.ev.code e.ev.value == .hostRegion || target e.ev.src e.ev.code e.ev.value == .region 0 0))

/-- HOST_EVENT_JUDGE (15 R397): the entries of the events that wait, then their reactions on region H. -/
def judgeAll (h : HostDie) : HostDie :=
  let es := sortEvents h.fcm.arisen
  let (h, ens) := es.foldl judgeOne ({ h with fcm := { h.fcm with arisen := [], lastRx := if es.isEmpty then h.fcm.lastRx else 0 } }, [])
  if ens.any resets then h.regionReset 4 1
  else ens.foldl (fun h e =>
    if e.rung = 2 then
      match target e.ev.src e.ev.code e.ev.value with
      | .region 0 b => h.startOp b
      | _ => h
    else h) { h with fcm := h.fcm.age h.htb }

end HostDie

namespace Machine

/-- Both ends of the barrier link work. -/
def State.linked (s : State) : Bool := s.chip.host.linkOn && s.chip.field.linkOn

/-- The slot of this tick that a message of a class would take, over a link that works (01 R23). -/
def State.slotFor (s : State) (toHost : Bool) (c : MsgClass) : Option Nat :=
  if s.linked then nextSlot s.chip.field.bar.crossed toHost c else none

/-- Slot `i` of Table 01-9 is used. -/
def State.useSlot (i : Nat) (s : State) : State :=
  s.onField (fun f => { f with bar := { f.bar with crossed := f.bar.crossed ++ [i] } })

/-- A message of a class to region H, with its payload, over the link and in a slot that is free: `good` where the receiving end takes it; a
dropped one is lost to the field too, as `sent` says. -/
def State.toHost (c : MsgClass) (arr : Arrival) (payload : FieldDie → List Byte) (sent : FieldDie → FieldDie)
    (good : Variant → FieldDie → HostDie → HostDie) (s : State) : State :=
  match s.slotFor true c with
  | none => s
  | some i =>
    let f := s.chip.field
    let s := s.useSlot i
    if crosses true c (payload f) arr then (s.onHost (good s.chip.variant f)).onField sent else (s.onHost HostDie.dropMsg).onField sent

/-- A message of a class to the field. -/
def State.toField (c : MsgClass) (arr : Arrival) (payload : HostDie → List Byte) (sent : HostDie → HostDie)
    (good : Variant → HostDie → FieldDie → FieldDie) (s : State) : State :=
  match s.slotFor false c with
  | none => s
  | some i =>
    let h := s.chip.host
    let s := s.useSlot i
    if crosses false c (payload h) arr then (s.onField (good s.chip.variant h)).onHost sent else (s.onField FieldDie.dropMsg).onHost sent

/-- BARRIER_HEARTBEAT_RX (01 R24, R25). The count that the host sends is that of the heartbeats before this one (DESIGN CHOICE, log entry 36). -/
def execBarrierHeartbeatRx (toHost : Bool) (arr : Arrival) (s : State) : Out :=
  .next (if toHost then
      s.toHost .heartbeat arr (fun f => beatPayload f.tick.tb f.modeStatus f.health)
        (fun f => match arr with
          | .good => { f with bar := { f.bar with vectors := [], timerVec := false }, power := { f.power with startCause := none } }
          | _ => f) (fun _ f h => h.fieldBeat f)
    else
      s.toField .heartbeat arr (fun h => beatPayload h.bar.hbCount 0 h.health)
        (fun h => { h with
          bar := { h.bar with hbCount := (h.bar.hbCount + 1) % 2 ^ 32 }
          heldSince := match h.heldSince, arr with | none, .good => some h.htb | t, _ => t }) (fun _ h f => f.hostBeat h h.bar.hbCount))

/-- BARRIER_TIME_SYNC_RX (01 R25, 03 R84, 19 R484): HTB holds its value while FIELD_LOST is set. -/
def execBarrierTimeSyncRx (toHost : Bool) (arr : Arrival) (s : State) : Out :=
  .next (if toHost then
      s.toHost .timeSync arr (fun f => leBytes 8 f.tick.tb) id (fun _ f h => if h.mode.fieldLost then h else { h with htb := f.tick.tb })
    else s.toField .timeSync arr (fun h => leBytes 4 h.wall) id (fun _ h f => { f with bar := { f.bar with wall := h.wall } }))

/-- CMD_FORWARD_RX (03 R86 to R89). -/
def execCmdForwardRx (arr : Arrival) (s : State) : Out :=
  .next (match s.chip.host.bar.forward with
    | [] => s
    | r :: rest => s.toField .cmdForward arr (fun _ => r.forwarded) (fun h => { h with bar := { h.bar with forward := rest } }) (fun v _ f => f.arrive v r))

/-- CMD_COMPLETE_RX (18 R463, R466): completions wait on the field side while the host is lost, and after a reset of region H until its heartbeat
has returned (01 R44). -/
def execCmdCompleteRx (arr : Arrival) (s : State) : Out :=
  .next (match s.chip.field.bar.completions with
    | [] => s
    | c :: rest =>
      if s.chip.field.bar.hostLost ∨ s.chip.host.heldSince.isNone then s
      else s.toHost .cmdComplete arr (fun _ => c.bytes false) (fun f => { f with bar := { f.bar with completions := rest } })
        (fun v f h => h.completionRx v f.twin.twinB c))

/-- TELEMETRY_RX (01 R27): the fortieth of this tick of the set formed last. -/
def execTelemetryRx (arr : Arrival) (s : State) : Out :=
  .next (if ¬ s.chip.field.running ∨ s.chip.field.bar.telemetry.isEmpty then s
    else s.toHost .telemetry arr (fun f => telemetryPayload (f.tick.tb % 40) f.bar.telemetry) id
      (fun _ f h => h.telemetryPart (f.tick.tb / 40) (f.tick.tb % 40) (slice (240 * (f.tick.tb % 40)) 240 f.bar.telemetry)))

/-- BARRIER_EVENT_RX (18 R468, 01 R26). -/
def execBarrierEventRx (arr : Arrival) (s : State) : Out :=
  .next (match s.chip.field.bar.events with
    | [] => s
    | e :: rest =>
      s.toHost .event arr (fun _ => e.bytes) (fun f => { f with bar := { f.bar with events := rest } }.overflowEntry) (fun _ _ h => h.eventRx e))

/-- REC_SNAPSHOT_RX (16 R414, R416, R418, 17 R449): records wait on the field side while the host is lost; a WINTER record thaws the
recorder. -/
def execRecSnapshotRx (arr : Arrival) (s : State) : Out :=
  .next (
    let (rs, ls, g) := s.chip.field.nextSnapshot
    if s.chip.field.bar.hostLost ∨ (rs.isEmpty ∧ ls.isEmpty) then s
    else s.toHost .recSnapshot arr (fun _ => match rs with | r :: _ => r.bytes | [] => learnedBlock ls)
      (fun f => { g with bar := f.bar }) (fun v _ h =>
      let h := rs.foldl (fun (h : HostDie) (r : Record) =>
        let h := if r.kind = 7 then h.thaw else h
        h.recordArrives (h.captured v) r) h
      h.appendLearned ls))

/-- TRACE_BLOCK_RX (16 R423): 72 bytes of the oldest frozen capture. -/
def execTraceBlockRx (arr : Arrival) (s : State) : Out :=
  .next (match s.chip.field.recf.held with
    | [] => s
    | (_, t) :: _ =>
      let off := s.chip.field.recf.sendOff
      if traceSize ≤ off ∨ s.chip.field.bar.hostLost then s
      else s.toHost .traceBlock arr (fun _ => slice off 72 t.bytes) (fun f => { f with recf := { f.recf with sendOff := off + 72 } }) (fun _ _ h =>
        { h with rech := { h.rech with incoming := if off = 0 then [] else h.rech.incoming } }.traceArrives (slice off 72 t.bytes)))

/-- TRACE_CAPTURE_WRITTEN (16 R423): the storage manager reports the oldest capture, which was sent whole, as written; its buffer is free. -/
def execTraceCaptureWritten (s : State) : Out :=
  .next (match s.chip.field.recf.held with
    | [] => s
    | (_, t) :: _ =>
      if traceSize ≤ s.chip.field.recf.sendOff ∧ s.linked ∧ (s.chip.host.rech.traces.getLast?.map (·.1)) = some t.id then
        s.onField (fun f => { f with recf := { f.recf with held := f.recf.held.drop 1, sendOff := 0 } })
      else s)

/-- CONFIG_PUSH_RX (19 R490): a part of the blob, or learned records; after the last part the descriptor crosses next. -/
def execConfigPushRx (arr : Arrival) (s : State) : Out :=
  .next (match s.chip.host.bar.push with
    | [] => s
    | p :: rest =>
      s.toField .configPush arr (fun _ => p.payload) (fun h =>
        let done : Bool := p.learned.isEmpty && !(rest.any (fun (x : Push) => x.learned.isEmpty))
        let loads := if done then h.cfg.pushing.toList else []
        { h with
          bar := { h.bar with push := rest, forward := loads ++ h.bar.forward }
          cfg := { h.cfg with pushing := h.cfg.pushing.filter (fun r => !(done && r.silent)) } }) (fun _ _ f => f.takePush p))

/-- HOST_LOST (01 R24). -/
def execHostLost (s : State) : Out := .next (s.onField FieldDie.loseHost)

/-- FIELD_LOST (01 R24). -/
def execFieldLost (s : State) : Out := .next (s.onHost HostDie.loseField)

/-- HOST_LOST_LIMIT (01 R46): HOST_LOST has lasted for the limit. -/
def execHostLostLimit (s : State) : Out :=
  .next (s.onField (fun f =>
    if f.bar.hostLost ∧ ¬ f.bar.limitRaised ∧ 40 * f.cfg.hostLimit ≤ f.bar.lostTicks then
      { f with bar := { f.bar with limitRaised := true } }.raise 40 1
    else f))

/-- HOST_EVENT_JUDGE (15 R397). -/
def execHostEventJudge (s : State) : Out := .next (s.onHost HostDie.judgeAll)

/-- TWIN_INPUT_RX (14 R361, R362). -/
def execTwinInputRx (sec : InputSection) (s : State) : Out := .next (s.onField (fun f => f.inputRx s.chip.variant sec))

end Machine

end Sys2Proof
end

