-- ==== Sys2Proof/Machine/Tick.lean ====
section
/-! DEFINITION. The tick (03_tick_and_timebase R70 to R96, Tables 03-1 and 03-2): the edge, the downlink, the guard phase, the output lands,
the staging deadline, the tick synchronisation of a pair, and the telemetry set that the ticks form (01 R27). -/

namespace Sys2Proof

namespace FieldDie

/-- The values of the tick that ends join the sums of the telemetry set (01 R27). -/
def sumTick (f : FieldDie) : FieldDie :=
  let first : Bool := f.tick.tb % 40 == 0
  let d := f.disp
  let xs : List Int := [f.volt.pos, f.volt.neg, d.vbusUsed, d.iDemand, d.sAlloc, d.tAlloc, d.resid]
  { f with
    bar := { f.bar with plant := if first ∨ f.bar.plant.isEmpty then xs else (f.bar.plant.zip xs).map (fun x => x.1 + x.2) }
    slot := f.slot.map (fun (s : Slot) => { s with bus := { s.bus with
      sumI := (if first then 0 else s.bus.sumI) + s.bus.iout, sumV := (if first then 0 else s.bus.sumV) + s.bus.vout } })
    branch := f.branch.map (fun (b : Branch) => { b with
      sumI := (if first then 0 else b.sumI) + b.current, maxI := if first then b.current else max b.maxI b.current }) }

/-- The 32 bytes of a slot in the set (01 Table 01-17): zero without a contract. -/
def slotSummary (s : Slot) : List Byte :=
  if s.sess.state ≠ 5 then List.replicate 32 0
  else
    let b := s.bus
    leBytes 4 (enc 32 (b.sumI.fdiv 40)) ++ leBytes 4 (enc 32 (b.sumV.fdiv 40)) ++ leBytes 4 (enc 32 s.ctx.alloc) ++ leBytes 2 (enc 16 b.temp)
      ++ leBytes 1 b.status ++ leBytes 1 (bit b.valid + 2 * bit b.stale + 4 * bit b.lost) ++ leBytes 4 s.sess.word.toNat
      ++ leBytes 4 (batSocWord s).toNat ++ leBytes 4 s.insWord.toNat ++ leBytes 4 0

/-- The 32 bytes of a branch in the set. -/
def branchSummary (f : FieldDie) (b : Nat) : List Byte :=
  let x := f.br b
  leBytes 4 (enc 32 (x.sumI.fdiv 40)) ++ leBytes 4 (enc 32 x.maxI) ++ leBytes 4 (f.brStat b).toNat ++ leBytes 4 (x.acc / 2 ^ 16)
    ++ leBytes 4 ((f.brkReg (b / 8) (0x18 + b % 8)).getD 0).toNat ++ List.replicate 12 0

/-- The telemetry set (01 Table 01-17) at the end of its last tick. -/
def telemetrySet (v : Variant) (f : FieldDie) : List Byte :=
  let mean (i : Nat) : Nat := enc 32 ((f.bar.plant.getD i 0).fdiv 40)
  let g (i : Nat) : Nat := ((f.gridReg v i).getD 0).toNat
  let c (i : Nat) : Nat := ((f.capReg v i).getD 0).toNat
  leBytes 8 (f.tick.tb - 39) ++ leBytes 32 f.power.digest ++ leBytes 4 f.modeStatus.toNat
    ++ leBytes 4 (if f.cfg.loaded then f.cfg.gen else 0) ++ leBytes 4 (if f.cfg.loaded then f.cfg.crc else 0) ++ leBytes 4 cap1.toNat
    ++ leBytes 8 0
    ++ [mean 0, mean 1, f.disp.vsetEff, mean 2, mean 3, mean 4, mean 5, mean 6, g 0x19, g 0x1A, c 0x23, c 0x24, g 0x1B, g 0x1C, g 0x1D, g 0x18].flatMap
        (leBytes 4)
    ++ List.replicate 128 0
    ++ (List.range 96).flatMap (fun k => if k < v.slots then slotSummary (f.sl k) else List.replicate 32 0)
    ++ (List.range 32).flatMap (fun b => if b < v.branches then f.branchSummary b else List.replicate 32 0)
    ++ List.replicate 5248 0

/-- What the tick that ends leaves for telemetry: its values, and at the end of a run of 40 ticks the set (01 R27). -/
def telemetryEdge (v : Variant) (f : FieldDie) : FieldDie :=
  let f := f.sumTick
  if f.tick.tb % 40 = 39 then { f with bar := { f.bar with telemetry := f.telemetrySet v } } else f

/-- The timebase at an edge (R79), TICK_SYNC_OUT (R92), and what is counted per tick: the ticks without a host heartbeat (01 R24), without a
TICK_SYNC pulse, the consecutive edges without a controller's task completed (R78), driving (11 R292). An edge without a pulse ends a run of good
edges and leaves a run of bad ones standing (R94; DESIGN CHOICE, log entry 34). -/
def countEdge (f : FieldDie) : FieldDie :=
  let t := f.tick
  { f with
    tick := { t with
      tb := t.tb + 1, fine := 0, syncOut := true, ranThisTick := false, overran := false, missing := t.missing + 1
      qcLate := t.qcLate.mapIdx (fun q n => if t.staging.contract.getD q false then 0 else min 4 (n + 1))
      goodEdges := if 1 ≤ t.missing then 0 else t.goodEdges
      following := t.following && (f.twin.twinB || !f.twin.inStep) }
    bar := { f.bar with
      since := f.bar.since + 1, dropped := false, crossed := [], lostTicks := if f.bar.hostLost then f.bar.lostTicks + 1 else 0
      seenLeft := f.bar.seenLeft - 1 }
    march := { f.march with driveTicks := if f.driving then min 40 (f.march.driveTicks + 1) else f.march.driveTicks } }

/-- The sharing weights of quadrant `q` swapped in (06 R175): a unit under SET_UNIT_WEIGHT keeps its own. -/
def weightSwap (f : FieldDie) (q : Nat) : FieldDie :=
  (List.range 24).foldl (fun f i =>
    f.modSl (24 * q + i) (fun s => { s with ctx := { s.ctx with wgt := if s.ctx.wovr then s.ctx.wgt else s.ctx.weightNext } })) f

/-- The committed staging banks swap in and their flags clear (R76). The estimator's section speaks of the contracts of the tick in which it
was formed. -/
def swapBanks (v : Variant) (f : FieldDie) : FieldDie :=
  let b := f.tick.staging
  let f := (List.range v.quads).foldl (fun f q =>
    let f := if b.battery.getD q false then f.batterySwap q else f
    let f := if b.contract.getD q false then f.contractSwap q else f
    if b.weights.getD q false then f.weightSwap q else f) f
  { f with tick := { f.tick with staging := {} } }

/-- The commands of the schedule whose apply tick has come take effect in their order (R91), where the bank of the host command path was
committed (R77). -/
def applyAll (v : Variant) (f : FieldDie) (ready : Bool) : FieldDie :=
  if ¬ ready then f
  else
    let due := (f.tick.schedule.filter (fun (s : Sched) => decide (s.apply ≤ f.tick.tb))).mergeSort
      (fun a b => a.apply < b.apply || (a.apply == b.apply && a.arrival ≤ b.arrival))
    let f := { f with tick := { f.tick with schedule := f.tick.schedule.filter (fun (s : Sched) => decide (f.tick.tb < s.apply)) } }
    due.foldl (fun f s => f.applyDue v s) f

/-- The writes of the tick are done (R76, R78): each quadrant controller that works has run the estimator and commits its contract and battery
banks, and the host command path its own; `late` names the banks that are not committed in time. -/
def qcTasks (v : Variant) (f : FieldDie) (late : BitVec 13) : FieldDie :=
  let up (q : Nat) : Bool := decide (q < v.quads) && f.qcUp q
  let f := f.estimatorTick v
  let f := (List.range 4).foldl (fun f q => if up q then f.bankWrite q else f) f
  { f with tick := { f.tick with staging := { f.tick.staging with
    contract := f.tick.staging.contract.mapIdx (fun q _ => up q && !late.getLsbD q)
    battery := f.tick.staging.battery.mapIdx (fun q _ => up q && !late.getLsbD (8 + q)), hostPath := !late.getLsbD 12 } } }

/-- What an edge starts once the values of the last tick and the commands of this one stand: the tasks of the controllers, insertion and the
March, the mode, the marks (Table 03-1). -/
def beginTick (v : Variant) (f : FieldDie) : FieldDie :=
  let f := (f.wearExchange v).coordTick v
  let f := ((f.cappedEdge v).insEdge v).startPhaseBegin v
  let f := (((f.coldAdvance v).pullups v).modeEdge v).markSend v
  { f with quad := f.quad.map (fun (q : Quad) => { q with ftim := q.ftim.edge }) }

/-- The first half of a tick edge (R72, R79): the timebase, and the measurements of the tick that ends. -/
def edgeStart (v : Variant) (f : FieldDie) (samples : Samples) : FieldDie :=
  let f := (f.telemetryEdge v).countEdge.twinEdge
  let f := (((f.measClose v samples).vbusForm v).ovSelect v).dlStopEval
  (f.cmpFall v).exclEdge v

/-- A tick edge of the field while its image runs (R72, R76, R79, R91): the measurements of the tick that ends, then the banks, the commands and
what the new tick begins with; a standby listens for the marks. -/
def edge (v : Variant) (f : FieldDie) (samples : Samples) (marks : BitVec 8) : FieldDie :=
  let ready := f.tick.staging.hostPath
  ((((f.edgeStart v samples).swapBanks v).applyAll v ready).beginTick v).markSeen v marks

/-- What a field device puts on land FTq_OUT[k] (R519): the level of the channel while the device drives, and high impedance otherwise, in an isolated
quadrant and during an FTIM block reset. -/
def timerLand (f : FieldDie) (q k : Nat) : Option Bool :=
  let x := f.qd q
  if ¬ f.driving ∨ f.power.isolated.getD q false ∨ (x.blk.getD 5 {}).op.isSome then none else some (x.ftim.get k).level

/-- The 48 bits of a quadrant's frame on SLOTq_DAT (22 R536), bit 0 most significant: stage 2i of the chain takes SRC_N of local slot i, stage 2i + 1
its HIGH, and bit k lands in stage 47 - k. -/
def slotFrame (f : FieldDie) (q : Nat) : BitVec 48 :=
  BitVec.ofNat 48 ((List.range 24).foldl (fun a i =>
    a + 2 ^ (2 * i) * bit (f.sl (24 * q + i)).landSrcN + 2 ^ (2 * i + 1) * bit (f.sl (24 * q + i)).landHigh) 0)

/-- What SLOTq_DAT shifts out (22 R536, R538): the lands of each slot, and the tick of the latch that clears SRC_N. -/
def shiftSlots (v : Variant) (f : FieldDie) : FieldDie :=
  if ¬ f.driving then f
  else (FieldDie.slots v).foldl (fun f k => f.modSl k (fun (s : Slot) => { s with
    landSrcN := s.srcN, landHigh := s.high, srcClearedAt := if s.landSrcN && !s.srcN then some f.tick.tb else if s.srcN then none else s.srcClearedAt })) f

/-- The guard phase from cycle 9,376 (Table 03-2). -/
def guard (v : Variant) (f : FieldDie) (diff : Option Nat) (fb : BitVec 32) : FieldDie :=
  let f := f.atCycle 9376
  let f := f.faultJudge
  let f := match diff with | some w => f.fcolMismatch w | none => f
  ((f.digestCompare v).seqGuard v fb).overflowEntry

/-- Whether the next edge brings a chip reset, a field reset or WINTER: ACTIVE_N is released at cycle 9,600 (02 R64, R67). -/
def leavesRole (f : FieldDie) : Bool :=
  f.power.pendReset.isSome || f.power.pendWinter.isSome || (match f.power.resetAt with | some (t, _) => t == f.tick.tb + 1 | none => false)

/-- The lands at cycle 9,600, the recorder, and the self-test of the engines (Table 03-2). -/
def landUpdate (v : Variant) (f : FieldDie) (fails : BitVec 12) : FieldDie :=
  let f := f.atCycle 9600
  let f := f.landsOut v
  let f := if f.leavesRole then f.releaseActive else f
  (f.recordTick (f.captured v) f.modeStatus).tbeSelfTest v fails

/-- One staging bank at cycle 9,900 (R77): banks 0 to 3 are the contract banks of the quadrants, 4 to 7 the weights, 8 to 11 the battery
banks, and 12 the host command path. -/
def bankLate (f : FieldDie) (i : Nat) : FieldDie :=
  let b := f.tick.staging
  let b : Staging :=
    if i < 4 then { b with contract := b.contract.modifyNat i (fun _ => false) }
    else if i < 8 then { b with weights := b.weights.modifyNat (i - 4) (fun _ => false) }
    else if i < 12 then { b with battery := b.battery.modifyNat (i - 8) (fun _ => false) }
    else { b with hostPath := false }
  { f with tick := { f.tick with staging := b } }.raise 37 1 i

/-- Whether bank `i` is not committed at cycle 9,900 (R77): the contract and battery banks of present quadrants in service whose controller has
not committed them, and what `late` names. -/
def isLate (v : Variant) (f : FieldDie) (late : BitVec 13) (i : Nat) : Bool :=
  let q := i % 4
  if i = 12 then late.getLsbD 12
  else decide (q < v.quads) && (late.getLsbD i ||
    (i / 4 != 1 && !f.power.isolated.getD q false && !(if i < 4 then f.tick.staging.contract else f.tick.staging.battery).getD q false))

/-- STAGING_COMMIT_DEADLINE (R76, R77): what was written is committed, and the late banks of the present quadrants are named. -/
def stagingLate (v : Variant) (f : FieldDie) (late : BitVec 13) : FieldDie :=
  let f := (f.qcTasks v late).atCycle 9900
  let is := (List.range 13).filter (f.isLate v late)
  let f := { f with tick := { f.tick with lateBanks := is.length } }
  is.foldl bankLate f

/-- Whether the device takes its tick length from the peer: twin B of a pair, or a twin A that started on the peer's pulse and is not yet in
step (R93, R95). -/
def takesPulse (f : FieldDie) : Bool := f.running && f.twin.cfg.pairEn && (f.twin.twinB || f.tick.following)

/-- A TICK_SYNC pulse (R93, R94): PHASE_ERR, the runs of good and bad edges, and the trim, whose law the spec leaves open within ±100 units of
2 ppm. A pulse more than 1,000 cycles from the edge is none. -/
def syncPulse (f : FieldDie) (phase : Int) : FieldDie :=
  if ¬ f.takesPulse ∨ 1000 < phase.natAbs then f
  else
    let (x, f) := f.draw 16
    let good : Bool := decide (phase.natAbs ≤ 20)
    let t := f.tick
    { f with tick := { t with
      phaseErr := phase, trim := (x % 201 : Nat) - 100, missing := 0, following := true
      goodEdges := if good then min 16 (t.goodEdges + 1) else 0, badEdges := if good then 0 else min 4 (t.badEdges + 1) } }

/-- LOCKED sets (R94). -/
def syncLock (f : FieldDie) : FieldDie :=
  if f.running ∧ f.twin.cfg.pairEn ∧ f.twin.twinB ∧ 16 ≤ f.tick.goodEdges then { f with tick := { f.tick with locked := true } } else f

/-- A loss of lock (R94, 14 R368): a standby leaves step. -/
def syncLoss (f : FieldDie) : FieldDie :=
  let t := f.tick
  if ¬ f.running ∨ ¬ f.twin.twinB ∨ ¬ t.locked ∨ ¬ (4 ≤ t.badEdges ∨ 4 ≤ t.missing) then f
  else
    ({ f with tick := { t with
      locked := false, lossCnt := satN 16 (t.lossCnt + 1), following := t.following && decide (t.missing < 4), goodEdges := 0 } }.raise 42 1).leaveStep

end FieldDie

namespace HostDie

/-- A tick of the host side, whose clocks stop in its sleep (02 R60): the ticks since the last field heartbeat
(01 R24), the wall clock (19 R484), the timers, and the mode of the edge (02 R51). -/
def edge (h : HostDie) : HostDie :=
  if ¬ h.listens then h
  else
    let w := if h.wallSet then h.wallTicks + 1 else h.wallTicks
    HostDie.reportMode { h with
      bar := { h.bar with since := h.bar.since + 1, dropped := false }
      wall := if w = 40000 then (h.wall + 1) % 2 ^ 32 else h.wall, wallTicks := if w = 40000 then 0 else w
      htim := h.htim.edge, runTicks := if h.booted then min 24000000 (h.runTicks + 1) else 0 }

end HostDie

namespace Machine

/-- TICK_EDGE (R72). A field side whose image does not run yet still has its barrier ticks (01 R23). -/
def execTickEdge (samples : Samples) (marks : BitVec 8) (s : State) : Out :=
  .next ((s.onHost HostDie.edge).onField (fun f =>
    if f.running then f.edge s.chip.variant samples marks else { f with bar := { f.bar with crossed := [], dropped := false } }))

/-- DOWNLINK_SEND (05 R135, 14 R380, 22 R536). -/
def execDownlinkSend (differs : BitVec 8) (s : State) : Out :=
  .next (s.onField (fun f =>
    if f.running then ((f.downlinkSend s.chip.variant differs).drillEcho differs).shiftSlots s.chip.variant else f))

/-- GUARD_PHASE (Table 03-2). -/
def execGuardPhase (fcolDiff : Option Nat) (brkFb : BitVec 32) (s : State) : Out :=
  .next (s.onField (fun f => if f.running then f.guard s.chip.variant fcolDiff brkFb else f))

/-- OUTPUT_LAND_UPDATE (Table 03-2). -/
def execOutputLandUpdate (engineFail : BitVec 12) (s : State) : Out :=
  .next (s.onField (fun f => if f.running then f.landUpdate s.chip.variant engineFail else f))

/-- STAGING_COMMIT_DEADLINE (R77). -/
def execStagingCommitDeadline (late : BitVec 13) (s : State) : Out :=
  .next (s.onField (fun f => if f.running then f.stagingLate s.chip.variant late else f))

/-- TICK_SYNC_IN_PULSE (R93). -/
def execTickSyncInPulse (phase : Int) (s : State) : Out := .next (s.onField (fun f => f.syncPulse phase))

/-- TICK_SYNC_LOCKED (R94). -/
def execTickSyncLocked (s : State) : Out := .next (s.onField FieldDie.syncLock)

/-- TICK_SYNC_LOSS (R94). -/
def execTickSyncLoss (s : State) : Out := .next (s.onField FieldDie.syncLoss)

end Machine

end Sys2Proof
end

