-- ==== Sys2Proof/Machine/Boot.lean ====
section
/-! DEFINITION. The start of each side (17_storage_boot_and_update R439 to R451): the boot sequence of region H, the field load and the start of
the field image, the stored configuration and the learned values that are pushed to the field. -/

namespace Sys2Proof

/-- What steps 3 to 5 of Table 17-7 give: the storage manager, the reasons to report, and whether an image runs. -/
structure BootTry where
  stor : Stor
  reasons : List Nat
  runs : Bool
  deriving DecidableEq, Repr

/-- Step 3: a trial that was not confirmed gives way to the other slot. -/
def bootTrial (s : Stor) : BootTry :=
  if s.hdr.trial then
    { stor := { s with hdr := { s.hdr with trial := false, slotB := !s.hdr.slotB, lastResult := 9 } }, reasons := [9], runs := false }
  else { stor := s, reasons := [], runs := false }

/-- Step 4: a committed image is checked, copied to the other slot and read back; it becomes active on trial. The reasons that the firmware reports
are 2 to 9: of an image whose KIND the mode does not allow, code 11, LAST_RESULT alone tells. -/
def bootPending (v : Variant) (h : HostDie) (copyOk : Bool) (b : BootTry) : BootTry :=
  let s := b.stor
  if ¬ s.hdr.pending then b
  else
    let img := s.stagedImg.take s.hdr.stagedLen
    let full := activated s.running img
    let put (s : Stor) (bs : List Byte) : Stor := if s.hdr.slotB then { s with slotA := bs } else { s with slotB := bs }
    let part := if s.hdr.slotB then 1 else 2
    let c := checkImage v { h with stor := s } s.running img s.hdr.stagedLen
    if c ≠ 0 then
      { b with stor := { s with hdr := { s.hdr with pending := false, lastResult := c } }, reasons := b.reasons ++ (if c ≤ 9 then [c] else []) }
    else match (if copyOk then s.refill part (s.blocksOf full.length) h.day else none) with
      | none =>
        { b with stor := { put (s.erasePart part 0 4096) [] with hdr := { s.hdr with pending := false, lastResult := 8 } }
                 reasons := b.reasons ++ [8] }
      | some t =>
        { b with stor := { put t full with hdr := { s.hdr with pending := false, slotB := !s.hdr.slotB, trial := true, lastResult := 1 } } }

/-- Step 5: the active slot is checked, then the other; an image that runs gives its key slot and its rollback number. -/
def bootRun (v : Variant) (h : HostDie) (b : BootTry) : BootTry :=
  let s := b.stor
  let other : Stor := { s with hdr := { s.hdr with slotB := !s.hdr.slotB, trial := false } }
  let takes (t : Stor) : Stor := { t with key := rd 1 6 t.running, rollback := rd 4 0x0C t.running }
  let c := checkSlot v { h with stor := s } s.running
  if c = 0 then { b with stor := takes s, runs := true }
  else
    let d := checkSlot v { h with stor := other } other.running
    if d = 0 then { stor := takes other, reasons := b.reasons ++ [c], runs := true }
    else { stor := s, reasons := b.reasons ++ [c, d], runs := false }

/-- Whether a stored copy is whole: its MAGIC and its CRC. -/
def copyWhole (b : List Byte) : Bool := rd 4 0 b == 0x6480CF60 && rd 4 0x3C b == blobCrc b

/-- The stored copy in use (R448): the newest one that is whole. -/
def Stor.newestCopy (s : Stor) : Option (Nat × List Byte) :=
  let ok := s.copies.filter (fun c => copyWhole c.2)
  let top := (ok.map (·.1)).foldl max 0
  ok.find? (fun c => c.1 == top)

/-- The stored copy that may be used: of this format, and good by R488. -/
def Stor.usable (v : Variant) (s : Stor) : Option (List Byte) :=
  match s.newestCopy with
  | some c => if rd 1 4 c.2 = 0x0C ∧ blobOk v c.2 then some c.2 else none
  | none => none

/-- A command that region H's own firmware issues to the field side: it has no completion. -/
def ownCommand (opcode scope : Nat) : Request := { opcode := opcode, params := BitVec.ofNat 256 scope, silent := true }

namespace HostDie

/-- A blob goes to the field part by part, and the descriptor after it (19 R490). -/
def pushBlob (h : HostDie) (r : Request) (b : List Byte) : HostDie :=
  let parts := (List.range ((b.length + 367) / 368)).map fun i =>
    ({ gen := blobGen b, offset := 368 * i, bytes := (b.drop (368 * i)).take 368 } : Push)
  { h with bar := { h.bar with push := h.bar.push ++ parts }, cfg := { h.cfg with pushing := some r, pushed := b } }

/-- The learned records in force of a type, newest first and at most 1,024, in messages of 5 (R449). -/
def pushLearned (h : HostDie) (type : Nat) : HostDie :=
  let rs := (newest ((inForce h.stor.learned).filter (fun x => x.type == type))).take 1024
  let msgs := (List.range ((rs.length + 4) / 5)).map fun i => ({ gen := 0, offset := 0, bytes := [], learned := (rs.drop (5 * i)).take 5 } : Push)
  { h with bar := { h.bar with push := h.bar.push ++ msgs } }

/-- The stored copy takes effect on region H, and is pushed to a field that runs without a configuration (R448, 19 R491). -/
def pushStored (v : Variant) (f : FieldDie) (h : HostDie) : HostDie :=
  match h.stor.usable v with
  | none => h
  | some b =>
    let h := h.cfgTakes v f.twin.twinB b
    if f.running ∧ ¬ f.cfg.loaded then h.pushBlob (ownCommand 0x1001 0) b else h

/-- The staged configuration (R448, step 1 of its list): one that passes the checks becomes the newest copy. -/
def installStaged (v : Variant) (h : HostDie) : HostDie :=
  if ¬ h.stor.hdr.cfgPending then h
  else
    let b := h.stor.stagedCfg.take h.stor.hdr.cfgLen
    let h := if blobOk v b then
        h.modStor (fun s => { s with copies := (s.copies.filter (fun c => c.1 == h.topCopy)).take 1 ++ [(h.topCopy + 1, b)] })
      else h
    h.rewriteHeader (fun d => { d with cfgPending := false })

/-- A stored copy of another format (R448): an older one is erased, a newer one is kept unused. -/
def judgeStored (h : HostDie) : HostDie :=
  match h.stor.newestCopy with
  | none => h
  | some c =>
    if rd 1 4 c.2 < 0x0C then (h.modStor (fun s => { s with copies := s.copies.filter (fun x => x != c) })).raise 247 1 1
    else if 0x0C < rd 1 4 c.2 then h.raise 247 1 2
    else h

/-- A field load where the field may be loaded at once, or its field reset before it (R446). -/
def loadField (h : HostDie) (f : FieldDie) : HostDie :=
  let h := h.modStor (fun s => { s with fieldStale := false, loadTries := 0 })
  if f.running then { h with bar := { h.bar with forward := h.bar.forward ++ [ownCommand 0x0002 4] } } else h.loadWaiting f

/-- What the host does with the field at step 7 (R446). -/
def decideField (h : HostDie) (f : FieldDie) : HostDie :=
  if ¬ f.running then h.loadWaiting f
  else if f.power.digest = fieldDigest h.stor.running then h
  else if f.isActive then (h.modStor (fun s => { s with fieldStale := true })).vector 47
  else h.loadField f

/-- AUTH_NONCE at a host boot (18 R475): 8 bytes of the random number generator. -/
def drawNonce (h : HostDie) : HostDie :=
  let n := h.sec.draws
  { h with sec := { h.sec with
      nonce := ofLe ((List.range 8).map fun i => Config.random (n + i)), draws := n + 8, failures := 0, lockout := false } }

/-- A reason that ended an update (R443, R447): UPDATE_REJECTED with vector 47. -/
def rejected (h : HostDie) (reason : Nat) : HostDie := (h.raise 245 1 reason).vector 47

/-- Step 6 and what the firmware reports once it runs (R443, R445): HOST_START, SEC_BOOT_FAIL after a recovery, the reasons of the boot. -/
def firmwareStarts (h : HostDie) (b : BootTry) : HostDie :=
  let h := if b.stor.hdr = h.stor.hdr then { h with stor := b.stor } else { h with stor := b.stor }.rewriteHeader id
  let was := h.stor.recovered
  let h := ({ h with booted := true, runTicks := 0 }.modStor (fun s => { s with recovered := false })).drawNonce
  let h := h.raise 10 (if h.mode.cause = 1 then 1 else 2)
  let h := if was then (h.raise 249 1).vector 48 else h
  b.reasons.foldl rejected h

/-- Recovery (R445). -/
def recover (h : HostDie) (s : Stor) : HostDie := { h with stor := { s with recovery := true } }.drawNonce

/-- HOST_BOOT (Table 17-7), with what region H reads of the field over a link that works. -/
def boot (v : Variant) (f : Option FieldDie) (o : BootOutcome) (h : HostDie) : HostDie :=
  if ¬ o.portOk ∨ ¬ o.headerOk ∨ ¬ h.stor.formatted then h.recover h.stor
  else
    let b := bootRun v h (bootPending v h o.copyOk (bootTrial h.stor))
    -- the header is rewritten at step 6 alone
    if ¬ b.runs then h.recover { b.stor with hdr := h.stor.hdr }
    else
      let h := (((h.firmwareStarts b).finishClears).installStaged v).judgeStored
      match f with
      | none => (h.pushStored v FieldDie.reset).reportMode
      | some f =>
        let h := h.readField f
        let h := (h.startRecord f.aon.cause f.aon.lost).pushStored v f
        let h := (h.pushLearned 1).pushLearned 2
        (h.decideField f).reportMode

/-- Whether region H may boot: its side's March is complete, and neither its firmware nor the ROM's recovery runs. -/
def mayBoot (h : HostDie) : Bool :=
  h.power.vinh && !h.power.asleep && !h.booted && !h.stor.recovery && h.power.dom.rows.all (· == .good)

/-- The field load has failed once more (R447). -/
def loadFailed (h : HostDie) : HostDie :=
  let n := h.stor.loadTries + 1
  let h := h.modStor (fun s => { s with loadTries := n })
  if n < 3 then { h with bar := { h.bar with blocks := h.stor.loadBlocks } }
  else
    let h := ((h.modStor (fun s => { s with loading := false })).rejected 10).reportMode
    if h.stor.hdr.trial then h.regionReset 6 1 else h

/-- The field runs: its start is recorded, and the stored configuration and the learned values follow (16 R417, R448, R449). -/
def fieldStarted (v : Variant) (f : FieldDie) (h : HostDie) : HostDie :=
  if ¬ h.booted then h
  else
    let h := h.readField f
    ((((h.startRecord f.aon.cause f.aon.lost).pushStored v f).pushLearned 1).pushLearned 2).reportMode

end HostDie

namespace FieldDie

/-- What F_AON kept has been recorded (16 R417), and region H knows the start of the field. -/
def takeAon (f : FieldDie) : FieldDie := { f with aon := {}, power := { f.power with startCause := none } }

/-- Whether the field waits in reset for its image, its March complete (02 R58). -/
def waits (v : Variant) (f : FieldDie) : Bool :=
  f.power.vinf && !f.power.marchFailed && f.power.phase == .waiting && (nextDomain v.hasDomain f.power.dom.rows).isNone

/-- The field image starts (R447, 03 R79, R95): TB is 0 in the tick that this edge begins, and the edge lies on the pulse of the peer where it
is present. -/
def imageStart (v : Variant) (f : FieldDie) (peerPulse : Bool) : FieldDie :=
  (({ f with
    power := { f.power with phase := .spring, ready := false, load := [] }
    tick := { f.tick with tb := 0, fine := 0, syncOut := true, following := peerPulse } }).modQd 0 (fun x => { x with ftim := x.ftim.startLines })).beginTick v

end FieldDie

/-- UPDATE_FIELD (R451): the load begins, after a field reset where the field runs; the command completes at its start. -/
def updateFieldC : HCmd where
  code := 0xA005
  auth _ _ := true
  chk _ _ r := need (r.u32 0 < 2)
  op _ h r :=
    if h.mode.fieldRunning ∧ h.mode.word.getLsbD 7 ∧ r.u32 0 = 0 then (h, some (.wrongMode, 0))
    else
      let h := h.modStor (fun s => { s with fieldStale := false, loadTries := 0 })
      if h.mode.fieldRunning then
        ({ h with bar := { h.bar with forward := h.bar.forward ++ [ownCommand 0x0002 4] }, stor := { h.stor with updCmds := h.stor.updCmds ++ [r] } }, none)
      else (if h.booted ∧ ¬ h.stor.loading then h.startLoad else h, some (.ok, 0))

namespace Machine

/-- HOST_BOOT (R443): START_RECORD is part of it (16 R417). -/
def execHostBoot (boot : BootOutcome) (s : State) : Out :=
  .next (if ¬ s.chip.host.mayBoot then s
    else if s.linked then
      let t := s.onHost (fun h => h.boot s.chip.variant (some s.chip.field) boot)
      if t.chip.host.booted then t.onField FieldDie.takeAon else t
    else s.onHost (fun h => h.boot s.chip.variant none boot))

/-- TRIAL_CONFIRM (R444). -/
def execTrialConfirm (s : State) : Out :=
  .next (s.onHost (fun h =>
    if h.booted ∧ h.stor.hdr.trial ∧ 40000 * h.stor.hdr.confirmT ≤ h.runTicks ∧ h.stor.fieldLoaded ∧ ¬ h.stor.loading then
      ((h.rewriteHeader (fun d => { d with trial := false })).raise 246 2).vector 47
    else h))

/-- FIELD_STALE_LOAD (R446): the field no longer holds the active role. -/
def execFieldStaleLoad (s : State) : Out :=
  .next (if s.chip.host.booted ∧ s.chip.host.stor.fieldStale ∧ s.linked ∧ ¬ s.chip.field.isActive then
      s.onHost (fun h => (h.loadField s.chip.field).reportMode)
    else s)

/-- UPDATE_FIELD (R451). -/
def execUpdateField (r : Request) (s : State) : Out := .next (s.host updateFieldC r)

/-- FW_BLOCK_RX (R447): the next block of a field load; after the last one the boot ROM's checks decide. A block that is lost makes them
fail. -/
def execFwBlockRx (arr : Arrival) (checkOk : Bool) (s : State) : Out :=
  .next (
    let h := s.chip.host
    let f := s.chip.field
    match h.bar.blocks with
    | [] => s
    | b :: rest =>
      if (s.slotFor false .fwBlock).isNone ∨ ¬ f.waits s.chip.variant then s
      else
        let s := s.toField .fwBlock arr (fun _ => slice 0 512 b) (fun h => { h with bar := { h.bar with blocks := rest } })
          (fun _ _ f => { f with power := { f.power with load := f.power.load ++ [b] } })
        if ¬ rest.isEmpty then s
        else if checkOk ∧ s.chip.field.power.load = h.stor.loadBlocks then
          (s.onField (fun f => { f with power := { f.power with ready := true, load := [], digest := fieldDigest h.stor.running } })).onHost
            (fun h => (h.modStor (fun t => { t with loading := false, fieldLoaded := true, loadTries := 0 })).reportMode)
        else (s.onField (fun f => { f with power := { f.power with load := [] } })).onHost HostDie.loadFailed)

/-- FIELD_IMAGE_START (R447): at the edge after the last check; START_RECORD is part of it (16 R417). -/
def execFieldImageStart (peerPulse : Bool) (s : State) : Out :=
  .next (if ¬ s.chip.field.waits s.chip.variant ∨ ¬ s.chip.field.power.ready then s
    else
      let s := s.onField (fun f => f.imageStart s.chip.variant peerPulse)
      if s.linked ∧ s.chip.host.booted then (s.onHost (fun h => h.fieldStarted s.chip.variant s.chip.field)).onField FieldDie.takeAon else s)

end Machine

end Sys2Proof
end

