-- ==== Sys2Proof/Machine/Mailbox.lean ====
section
/-! DEFINITION. The mailbox engine (18_host_interface R462 to R464, R471 to R475): fetching descriptors, the token checks, where a command
runs, the forward buffer, and CFG_LOAD (19_command_reference R490). -/

namespace Sys2Proof

/-- The host-executed commands, and the share on region H of those whose target chooses the side (19 R481). -/
def hostCommands : List HCmd :=
  [cmdIdentify, cmdEcho, cmdSleep, cmdSetWallClock, cmdCfgSave, cmdCfgRead, cmdCfgInfo, cmdSecSetAuthKey, cmdSecClearAuthKey, cmdSecAddFwKey,
   cmdSecRevokeFwKey, cmdSecGetIdentity, cmdSecAttest, cmdSecRandom, cmdSecGetKeys, cmdRecFreeze, cmdRecThaw, cmdRecFlush, cmdRecClear,
   cmdRecSetFlush, cmdRecStatus, cmdRecRead, cmdRecReadTrace, cmdRecReadLedger, cmdImgStage, cmdImgCommit, cmdStageCancel, cmdSetUpdateMode] ++
  [updateFieldC, cmdSetRollbackFloor, cmdStorFormat, cmdStorScrubNow, cmdGetUpdate, cmdGetStorage, resetH, blockOpH, getBlockH, getDiagH,
   cmdAckFaultH, cmdSetSourceH, cmdGetSourceH, cmdInjectEventH, cmdClearRecoveryH, cmdTmrSetH, cmdTmrCompareH, cmdTmrSnapshotH, cmdTmrGetH,
   cmdTwXferH, cmdTwSetBusH, cmdTwGetBusH, opReadH, opWriteH]

/-- Whether a command's operands place it on region H (15 R407, 19 R481, R483, R495, R497). -/
def placedOnHost (r : Request) : Bool :=
  let g := r.opcode / 256
  if r.opcode = 0x0002 then resetOnHost r
  else if g = 0x80 then srcHost r
  else if r.opcode = 0xC001 ∨ r.opcode = 0xC010 then opOnHost r
  else if r.opcode = 0xC002 ∨ r.opcode = 0xC011 then blkOnHost r
  else if r.opcode = 0xC012 then diagOnHost r
  else if g = 0xD0 then timerHost r
  else if g = 0xE0 then busHost r
  else true

/-- The command that region H runs itself for a request, if it does. -/
def hostCmd (r : Request) : Option HCmd := if placedOnHost r then hostCommands.find? (fun (c : HCmd) => c.code == r.opcode) else none

/-- A descriptor's 64 bytes (19 Table 19-3). -/
def parseDescriptor (bs : List Byte) : Request :=
  { opcode := rd 2 0 bs, flags := rd 1 2 bs, unit := rd 1 3 bs, tag := rd 2 4 bs, epoch := rd 2 6 bs, applyTick := rd 8 8 bs
    params := BitVec.ofNat 256 (rd 32 0x10 bs), token := BitVec.ofNat 128 (rd 16 0x30 bs) }

/-- The message that a token covers (18 Table 18-11). -/
def tokenMessage (nonce : Nat) (r : Request) : List Byte :=
  leBytes 8 devId ++ leBytes 8 nonce ++ leBytes 2 r.opcode ++ leBytes 1 r.flags ++ leBytes 1 r.unit ++ leBytes 2 r.epoch
    ++ leBytes 8 r.applyTick ++ leBytes 32 r.params.toNat

namespace HostDie

/-- Whether the mailbox engine runs: with MBOX_EN, on a link that is up, once the firmware or the ROM's recovery serves it. -/
def mailboxOn (h : HostDie) : Bool :=
  h.hif.mboxEn && h.power.vinh && !h.power.asleep && (h.booted || h.stor.recovery) && (h.power.link == .qspi || h.power.linkUp)

/-- How many descriptors may be fetched from queue `i` now (18 R462, R464). -/
def fetchable (h : HostDie) (i : Nat) : Nat :=
  let x := h.q i
  if ¬ x.en ∨ x.error then 0
  else
    let room := 2 ^ x.cqLog2 - 1 - (x.qcnt + x.unreleased)
    min (min (min 4 x.depth) (min room (128 - h.hif.ready.length))) (if x.ordered then 1 - x.qcnt else 4)

/-- The queue served next (18 R464): round robin after the queue served last. -/
def nextQueue (h : HostDie) : Option Nat := ((List.range 32).map fun k => (h.hif.served + 1 + k) % 32).find? (fun i => decide (0 < h.fetchable i))

/-- Descriptors from a queue's ring in the shared area under QSPI. -/
def ringDescriptors (h : HostDie) (i n : Nat) : List Request :=
  let x := h.q i
  (List.range n).map fun k => parseDescriptor (memReadAll h.hif.mem (x.sqBase + 64 * ((x.sqHead + k) % 2 ^ x.sqLog2)) 64)

/-- Whether the security engine has to check a command (18 R475): a token is there, or its opcode requires one. -/
def needsCheck (h : HostDie) (r : Request) : Bool :=
  opcodes.contains r.opcode && (r.auth || (match hostCmd r with
    | some c => c.auth h r
    | none => (fieldCmd r.opcode).any (fun c => c.auth r)))

/-- What region H does itself for a field command that it forwards, with what it adds to RESULT. -/
def forwardShare (h : HostDie) (r : Request) : HostDie × Nat :=
  if r.opcode = 0xC012 then h.diagShare r else h.allSources r.opcode r

end HostDie

/-- Whether the field side drives under 05 R127, as region H knows it from the last heartbeat. -/
def HostDie.fieldDrives (h : HostDie) : Bool :=
  h.mode.fieldRunning && !h.mode.fieldLost && !h.mode.winter && !h.mode.notConfigured && h.mode.word.getLsbD 7

namespace Machine

/-- CFG_LOAD on region H (19 R490, R491): the checks of R9 and R488, the conditions of R490, and the push. -/
def State.cfgLoad (r : Request) (s : State) : State :=
  let v := s.chip.variant
  let h := s.chip.host
  let m := h.mode
  let b := h.bufRead r (r.par 8 8) (r.u32 0)
  let st : Option Status :=
    if h.stor.recovery then some .wrongMode
    else if r.epoch ≠ m.epoch then some .staleRole
    else if h.standby ∧ ¬ standbyOk 0x1001 false then some .notActive
    else match unitStatus v .none r.unit with
      | some st => some st
      | none =>
        if 16 ≤ r.flags ∨ 1 < r.u32 16 ∨ ¬ h.bufOk (r.par 8 8) (r.u32 0) ∨ ¬ blobOk v b then some .badParam
        else if h.cfg.pushing.isSome then some .busy
        else if h.modeIn [1, 2, 11] ∨ m.word.getLsbD 14 ∨ m.word.getLsbD 13 ∨ m.word.getLsbD 12 then some .wrongMode
        else if h.fieldDrives ∧ coldDiffers b (h.cfg.blob.getD []) then some .wrongMode
        else none
  match st with
  | some st => s.onHost (fun h => h.complete r st)
  | none => s.onHost (fun h => (h.pushBlob r b).await r 0)

/-- A command whose token has been checked, or that needs none, goes where it runs (18 R471): an opcode that is none completes, region H runs
its own, and a field command joins the forward buffer. -/
def State.route (r : Request) (s : State) : State :=
  if ¬ opcodes.contains r.opcode then s.onHost (fun h => h.complete r .badOpcode)
  else if r.opcode = 0x1001 then s.cfgLoad r
  else match hostCmd r with
    | some c => s.onHost (runH s.chip.variant c r)
    | none =>
      if s.chip.host.stor.recovery then s.onHost (fun h => h.complete r .wrongMode)
      else s.onHost (fun h => { h with hif := { h.hif with ready := h.hif.ready ++ [h.withBuffer r] } })

/-- Commands in fetch order: one that needs a check, or that follows such a one of its queue, waits for the security engine (18 R464, R474). -/
def State.routeAll : List Request → State → State
  | [], s => s
  | r :: rs, s =>
    let h := s.chip.host
    if h.needsCheck r ∨ h.hif.check.any (fun x => x.queue == r.queue) then
      State.routeAll rs (s.onHost (fun h => { h with hif := { h.hif with check := h.hif.check ++ [r] } }))
    else State.routeAll rs (s.route r)

/-- DESCRIPTOR_FETCH (18 R462, R464, R465): up to 4 descriptors from the queue whose turn it is; under PCIe they come with the transfer. -/
def execDescriptorFetch (fetch : Fetch) (s : State) : Out :=
  .next (
    let h := s.chip.host
    match if h.mailboxOn then h.nextQueue else none with
    | none => s
    | some i =>
      match fetch with
      | .failed => s.onHost (fun h => { h with hif := { h.hif with served := i } }.queueError i 2)
      | .good ds =>
        let n := h.fetchable i
        let ds := (match h.power.link with | .pcie => ds.take n | .qspi => h.ringDescriptors i n).map (fun (r : Request) =>
          { r with queue := Fin.ofNat 32 i, authOk := false, peer := false, silent := false, arrival := 0 })
        let s := s.onHost (fun h =>
          let h := { h with hif := { h.hif with served := i } }
          (ds.foldl accept h).modQ i (fun x => { x with sqHead := (x.sqHead + ds.length) % 2 ^ x.sqLog2 }))
        State.routeAll ds s)
where
  /-- A fetched command is in progress on its queue. -/
  accept (h : HostDie) (r : Request) : HostDie := h.accept r

/-- AUTH_CHECK_DONE (18 R474, R475): the head of the check list, and the commands of its queue that waited behind it. -/
def execAuthCheckDone (s : State) : Out :=
  .next (
    let h := s.chip.host
    match h.hif.check with
    | [] => s
    | r :: rest =>
      let s := s.onHost (fun h => { h with hif := { h.hif with check := [] } })
      let s :=
        if h.sec.lockout then s.onHost (fun h => h.complete r .authFail)
        else
          let ok : Bool := r.auth && (match h.sec.authKeys.getD r.keySlot none with
            | some k => Hash.token k (tokenMessage h.sec.nonce r) == r.token
            | none => false)
          let fails := if ok then 0 else h.sec.failures + 1
          let s := s.onHost (fun h => { h with sec := { h.sec with
            nonce := (h.sec.nonce + 1) % 2 ^ 64, failures := fails, lockout := fails == 16
            lockedAt := if fails = 16 then h.htb else h.sec.lockedAt } })
          if ok then s.route { r with authOk := true } else s.onHost (fun h => h.authFailed r)
      State.routeAll rest s)

/-- COMMAND_FORWARD (18 R464): the head of the forward buffer takes one of the 3 slots of the tick (01 Table 01-9). -/
def execCommandForward (s : State) : Out :=
  .next (
    let h := s.chip.host
    match h.hif.ready with
    | [] => s
    | r :: rest =>
      if ¬ h.linkOn ∨ 3 ≤ h.bar.forward.length then s
      else s.onHost (fun h =>
        let h := { h with hif := { h.hif with ready := rest } }
        let (h, n) := h.forwardShare r
        let h := h.await r n
        { h with bar := { h.bar with forward := h.bar.forward ++ [r] } }))

/-- CFG_LOAD (19 R489 to R492). -/
def execCfgLoad (r : Request) (s : State) : Out :=
  let r := { r with opcode := 0x1001 }
  .next (if ¬ s.chip.host.listens then s else
    let s := s.onHost (fun h => h.accept r)
    if tokenBad true r then s.onHost (fun h => h.authFailed r) else s.cfgLoad r)

end Machine

end Sys2Proof
end

