-- ==== Sys2Proof/Machine/Dispatch.lean ====
section
/-! DEFINITION. The dispatch: one arm per command, each a direct call of its meaning. -/

namespace Sys2Proof.Machine

open Sys2Proof

def exec (i : Instr) (s : State) : Host.Outcome State Fault Refusal :=
  match i with
  | .vinhPowerOn up => Sys2Proof.Machine.execVinhPowerOn up s
  | .vinfPowerOn up => Sys2Proof.Machine.execVinfPowerOn up s
  | .vinhFall => Sys2Proof.Machine.execVinhFall s
  | .vinfFall => Sys2Proof.Machine.execVinfFall s
  | .hrstNAssert => Sys2Proof.Machine.execHrstNAssert s
  | .wakeNFall => Sys2Proof.Machine.execWakeNFall s
  | .domainStep side => Sys2Proof.Machine.execDomainStep side s
  | .domainFail side => Sys2Proof.Machine.execDomainFail side s
  | .hostWatchdog => Sys2Proof.Machine.execHostWatchdog s
  | .hpcLockstepMismatch => Sys2Proof.Machine.execHpcLockstepMismatch s
  | .qcWatchdog q => Sys2Proof.Machine.execQcWatchdog q s
  | .qcLockstepMismatch q => Sys2Proof.Machine.execQcLockstepMismatch q s
  | .qcRestart q => Sys2Proof.Machine.execQcRestart q s
  | .chipReset => Sys2Proof.Machine.execChipReset s
  | .fieldReset => Sys2Proof.Machine.execFieldReset s
  | .hRegionReset => Sys2Proof.Machine.execHRegionReset s
  | .winterEntry => Sys2Proof.Machine.execWinterEntry s
  | .deadManRelease => Sys2Proof.Machine.execDeadManRelease s
  | .tickEdge samples marks => Sys2Proof.Machine.execTickEdge samples marks s
  | .uplinkFrameRx slot frame => Sys2Proof.Machine.execUplinkFrameRx slot frame s
  | .uplinkLost slot => Sys2Proof.Machine.execUplinkLost slot s
  | .dispatchRun cycles => Sys2Proof.Machine.execDispatchRun cycles s
  | .tickOverrun => Sys2Proof.Machine.execTickOverrun s
  | .downlinkSend echoDiffers => Sys2Proof.Machine.execDownlinkSend echoDiffers s
  | .tbusPadFault bus => Sys2Proof.Machine.execTbusPadFault bus s
  | .guardPhase fcolDiff brkFb => Sys2Proof.Machine.execGuardPhase fcolDiff brkFb s
  | .outputLandUpdate engineFail => Sys2Proof.Machine.execOutputLandUpdate engineFail s
  | .stagingCommitDeadline late => Sys2Proof.Machine.execStagingCommitDeadline late s
  | .tickSyncInPulse phase => Sys2Proof.Machine.execTickSyncInPulse phase s
  | .tickSyncLocked => Sys2Proof.Machine.execTickSyncLocked s
  | .tickSyncLoss => Sys2Proof.Machine.execTickSyncLoss s
  | .barrierHeartbeatRx toHost arr => Sys2Proof.Machine.execBarrierHeartbeatRx toHost arr s
  | .barrierTimeSyncRx toHost arr => Sys2Proof.Machine.execBarrierTimeSyncRx toHost arr s
  | .cmdForwardRx arr => Sys2Proof.Machine.execCmdForwardRx arr s
  | .cmdCompleteRx arr => Sys2Proof.Machine.execCmdCompleteRx arr s
  | .telemetryRx arr => Sys2Proof.Machine.execTelemetryRx arr s
  | .barrierEventRx arr => Sys2Proof.Machine.execBarrierEventRx arr s
  | .recSnapshotRx arr => Sys2Proof.Machine.execRecSnapshotRx arr s
  | .traceBlockRx arr => Sys2Proof.Machine.execTraceBlockRx arr s
  | .configPushRx arr => Sys2Proof.Machine.execConfigPushRx arr s
  | .fwBlockRx arr checkOk => Sys2Proof.Machine.execFwBlockRx arr checkOk s
  | .hostLost => Sys2Proof.Machine.execHostLost s
  | .fieldLost => Sys2Proof.Machine.execFieldLost s
  | .hostLostLimit => Sys2Proof.Machine.execHostLostLimit s
  | .transceiverSelftest slot pass => Sys2Proof.Machine.execTransceiverSelftest slot pass s
  | .spareSwap q block cell => Sys2Proof.Machine.execSpareSwap q block cell s
  | .sramRowMove region block row => Sys2Proof.Machine.execSramRowMove region block row s
  | .sramScrub region block addr errors => Sys2Proof.Machine.execSramScrub region block addr errors s
  | .blockOpEnd region done => Sys2Proof.Machine.execBlockOpEnd region done s
  | .blockOpTimeout region block => Sys2Proof.Machine.execBlockOpTimeout region block s
  | .tbeEngineResetNext q => Sys2Proof.Machine.execTbeEngineResetNext q s
  | .blockResetReaction => Sys2Proof.Machine.execBlockResetReaction s
  | .quadrantIsolate q => Sys2Proof.Machine.execQuadrantIsolate q s
  | .calStageEnd q spare result => Sys2Proof.Machine.execCalStageEnd q spare result s
  | .ovComparatorTrip pathB => Sys2Proof.Machine.execOvComparatorTrip pathB s
  | .analogDomainLoss high => Sys2Proof.Machine.execAnalogDomainLoss high s
  | .ovSelftest => Sys2Proof.Machine.execOvSelftest s
  | .ovSelftestGateEnd pass => Sys2Proof.Machine.execOvSelftestGateEnd pass s
  | .stopLatchedClear => Sys2Proof.Machine.execStopLatchedClear s
  | .ovLimitWrite value => Sys2Proof.Machine.execOvLimitWrite value s
  | .lineZcEdge input stamp => Sys2Proof.Machine.execLineZcEdge input stamp s
  | .lineZcLost input => Sys2Proof.Machine.execLineZcLost input s
  | .dispatchBlind => Sys2Proof.Machine.execDispatchBlind s
  | .blindExit => Sys2Proof.Machine.execBlindExit s
  | .poleImbalance => Sys2Proof.Machine.execPoleImbalance s
  | .dispatchShortfall => Sys2Proof.Machine.execDispatchShortfall s
  | .dispatchSurplus => Sys2Proof.Machine.execDispatchSurplus s
  | .wearAccumulate q => Sys2Proof.Machine.execWearAccumulate q s
  | .weightBankCommit q => Sys2Proof.Machine.execWeightBankCommit q s
  | .stressPersist => Sys2Proof.Machine.execStressPersist s
  | .inputRecovery => Sys2Proof.Machine.execInputRecovery s
  | .reentryBatchStart => Sys2Proof.Machine.execReentryBatchStart s
  | .reentryRelease slot => Sys2Proof.Machine.execReentryRelease slot s
  | .hostFreqExpiry => Sys2Proof.Machine.execHostFreqExpiry s
  | .capExpired delivered => Sys2Proof.Machine.execCapExpired delivered s
  | .capUnrelieved => Sys2Proof.Machine.execCapUnrelieved s
  | .thrRelease => Sys2Proof.Machine.execThrRelease s
  | .capEpisodeEnd => Sys2Proof.Machine.execCapEpisodeEnd s
  | .autoRestore => Sys2Proof.Machine.execAutoRestore s
  | .ctPresence slot => Sys2Proof.Machine.execCtPresence slot s
  | .ctGlitch slot => Sys2Proof.Machine.execCtGlitch slot s
  | .ctHardResetDeclared slot => Sys2Proof.Machine.execCtHardResetDeclared slot s
  | .ctStuckLow slot => Sys2Proof.Machine.execCtStuckLow slot s
  | .ctCollision slot => Sys2Proof.Machine.execCtCollision slot s
  | .collisionHoldoffEnd slot => Sys2Proof.Machine.execCollisionHoldoffEnd slot s
  | .ctFrameDiscard slot raw => Sys2Proof.Machine.execCtFrameDiscard slot raw s
  | .ctAckRx slot id epoch => Sys2Proof.Machine.execCtAckRx slot id epoch s
  | .ctAcceptRx slot id epoch => Sys2Proof.Machine.execCtAcceptRx slot id epoch s
  | .ctRejectRx slot id epoch => Sys2Proof.Machine.execCtRejectRx slot id epoch s
  | .ctReadyRx slot id epoch => Sys2Proof.Machine.execCtReadyRx slot id epoch s
  | .ctSoftResetRx slot id epoch => Sys2Proof.Machine.execCtSoftResetRx slot id epoch s
  | .ctStaleRx slot id epoch => Sys2Proof.Machine.execCtStaleRx slot id epoch s
  | .ctCapabilityRx slot id epoch terms => Sys2Proof.Machine.execCtCapabilityRx slot id epoch terms s
  | .ctIdentityRx slot id epoch terms => Sys2Proof.Machine.execCtIdentityRx slot id epoch terms s
  | .ctRequestRx slot id epoch terms => Sys2Proof.Machine.execCtRequestRx slot id epoch terms s
  | .ctStatusRx slot id epoch terms => Sys2Proof.Machine.execCtStatusRx slot id epoch terms s
  | .ctAlertRx slot id epoch term => Sys2Proof.Machine.execCtAlertRx slot id epoch term s
  | .ctSwapRx slot id epoch term => Sys2Proof.Machine.execCtSwapRx slot id epoch term s
  | .ctFrameTxStart slot => Sys2Proof.Machine.execCtFrameTxStart slot s
  | .ctFrameTxEnd slot => Sys2Proof.Machine.execCtFrameTxEnd slot s
  | .ackTimerExpiry slot => Sys2Proof.Machine.execAckTimerExpiry slot s
  | .responseTimerExpiry slot => Sys2Proof.Machine.execResponseTimerExpiry slot s
  | .swapTimerExpiry slot => Sys2Proof.Machine.execSwapTimerExpiry slot s
  | .hardResetCompletionExpiry slot => Sys2Proof.Machine.execHardResetCompletionExpiry slot s
  | .hardResetGetRepeat slot => Sys2Proof.Machine.execHardResetGetRepeat slot s
  | .statusPollExpiry slot => Sys2Proof.Machine.execStatusPollExpiry slot s
  | .retryHoldoffEnd slot => Sys2Proof.Machine.execRetryHoldoffEnd slot s
  | .swapFeedReady slot => Sys2Proof.Machine.execSwapFeedReady slot s
  | .moistureCheckStart slot => Sys2Proof.Machine.execMoistureCheckStart slot s
  | .moistureCheckEnd slot samples lineHigh => Sys2Proof.Machine.execMoistureCheckEnd slot samples lineHigh s
  | .moistureCheckVoid slot => Sys2Proof.Machine.execMoistureCheckVoid slot s
  | .qualified slot => Sys2Proof.Machine.execQualified slot s
  | .branchQualified branch => Sys2Proof.Machine.execBranchQualified branch s
  | .busUp => Sys2Proof.Machine.execBusUp s
  | .marchStart => Sys2Proof.Machine.execMarchStart s
  | .firstStartRelease => Sys2Proof.Machine.execFirstStartRelease s
  | .marchComplete => Sys2Proof.Machine.execMarchComplete s
  | .marchLate => Sys2Proof.Machine.execMarchLate s
  | .softstartEnd slot => Sys2Proof.Machine.execSoftstartEnd slot s
  | .coldSoftResetBroadcast => Sys2Proof.Machine.execColdSoftResetBroadcast s
  | .fastTrip branch => Sys2Proof.Machine.execFastTrip branch s
  | .ftSelftest branch pass => Sys2Proof.Machine.execFtSelftest branch pass s
  | .inrushEnd branch => Sys2Proof.Machine.execInrushEnd branch s
  | .recloseDelayEnd branch => Sys2Proof.Machine.execRecloseDelayEnd branch s
  | .recloseResetEnd branch => Sys2Proof.Machine.execRecloseResetEnd branch s
  | .gateFbFailOpen branch => Sys2Proof.Machine.execGateFbFailOpen branch s
  | .gateFbFailClose branch => Sys2Proof.Machine.execGateFbFailClose branch s
  | .gateFbLost branch => Sys2Proof.Machine.execGateFbLost branch s
  | .gateFbStuck branch => Sys2Proof.Machine.execGateFbStuck branch s
  | .brkOpenCurrent branch => Sys2Proof.Machine.execBrkOpenCurrent branch s
  | .testPfwEnd group => Sys2Proof.Machine.execTestPfwEnd group s
  | .probeStart => Sys2Proof.Machine.execProbeStart s
  | .probePhaseGet => Sys2Proof.Machine.execProbePhaseGet s
  | .probePhaseMinus => Sys2Proof.Machine.execProbePhaseMinus s
  | .probeEvaluate => Sys2Proof.Machine.execProbeEvaluate s
  | .probeGapEnd => Sys2Proof.Machine.execProbeGapEnd s
  | .probeHaltClear => Sys2Proof.Machine.execProbeHaltClear s
  | .probeStaleExpiry slot => Sys2Proof.Machine.execProbeStaleExpiry slot s
  | .eodPoll slot => Sys2Proof.Machine.execEodPoll slot s
  | .learnCheck => Sys2Proof.Machine.execLearnCheck s
  | .learnMaxExpiry => Sys2Proof.Machine.execLearnMaxExpiry s
  | .cycleOpenExpiry slot => Sys2Proof.Machine.execCycleOpenExpiry slot s
  | .batRecordWrite slot => Sys2Proof.Machine.execBatRecordWrite slot s
  | .learnedRecordApply slot => Sys2Proof.Machine.execLearnedRecordApply slot s
  | .twinHeartbeatRx lane beat => Sys2Proof.Machine.execTwinHeartbeatRx lane beat s
  | .twinInputRx sec => Sys2Proof.Machine.execTwinInputRx sec s
  | .twinDigestRx digest => Sys2Proof.Machine.execTwinDigestRx digest s
  | .twinPrepareRx msg => Sys2Proof.Machine.execTwinPrepareRx msg s
  | .twinPrepAckRx msg => Sys2Proof.Machine.execTwinPrepAckRx msg s
  | .twinPrepNakRx msg => Sys2Proof.Machine.execTwinPrepNakRx msg s
  | .twinCommitRx msg => Sys2Proof.Machine.execTwinCommitRx msg s
  | .twinCommitAckRx msg => Sys2Proof.Machine.execTwinCommitAckRx msg s
  | .twinSwapReqRx msg => Sys2Proof.Machine.execTwinSwapReqRx msg s
  | .twinStateRx part => Sys2Proof.Machine.execTwinStateRx part s
  | .twinDrillRx step port outcome => Sys2Proof.Machine.execTwinDrillRx step port outcome s
  | .twinPacketDiscard lane => Sys2Proof.Machine.execTwinPacketDiscard lane s
  | .laneUp lane => Sys2Proof.Machine.execLaneUp lane s
  | .laneDown lane => Sys2Proof.Machine.execLaneDown lane s
  | .roleDecision => Sys2Proof.Machine.execRoleDecision s
  | .fieldImageStart peerPulse => Sys2Proof.Machine.execFieldImageStart peerPulse s
  | .heartbeatMissed => Sys2Proof.Machine.execHeartbeatMissed s
  | .twinTakeover => Sys2Proof.Machine.execTwinTakeover s
  | .twinPeerLost => Sys2Proof.Machine.execTwinPeerLost s
  | .peerActiveSample asserted => Sys2Proof.Machine.execPeerActiveSample asserted s
  | .twinInterlock => Sys2Proof.Machine.execTwinInterlock s
  | .inputSectionDeadline sec => Sys2Proof.Machine.execInputSectionDeadline sec s
  | .joinStart => Sys2Proof.Machine.execJoinStart s
  | .joinStepEnd outcome => Sys2Proof.Machine.execJoinStepEnd outcome s
  | .handoverRelease => Sys2Proof.Machine.execHandoverRelease s
  | .handoverSwitchEdge peerReleased => Sys2Proof.Machine.execHandoverSwitchEdge peerReleased s
  | .handoverAssertFail => Sys2Proof.Machine.execHandoverAssertFail s
  | .revertExpiry => Sys2Proof.Machine.execRevertExpiry s
  | .drillStep outcome => Sys2Proof.Machine.execDrillStep outcome s
  | .drillHoldEnd => Sys2Proof.Machine.execDrillHoldEnd s
  | .severeRecovery src => Sys2Proof.Machine.execSevereRecovery src s
  | .hostEventJudge => Sys2Proof.Machine.execHostEventJudge s
  | .recPageFlush => Sys2Proof.Machine.execRecPageFlush s
  | .traceFreeze => Sys2Proof.Machine.execTraceFreeze s
  | .traceCaptureWritten => Sys2Proof.Machine.execTraceCaptureWritten s
  | .recAutoThaw => Sys2Proof.Machine.execRecAutoThaw s
  | .hostBoot boot => Sys2Proof.Machine.execHostBoot boot s
  | .trialConfirm => Sys2Proof.Machine.execTrialConfirm s
  | .fieldStaleLoad => Sys2Proof.Machine.execFieldStaleLoad s
  | .nandOpDone result => Sys2Proof.Machine.execNandOpDone result s
  | .scrubPeriod => Sys2Proof.Machine.execScrubPeriod s
  | .learnedCompaction => Sys2Proof.Machine.execLearnedCompaction s
  | .pcieLinkDown => Sys2Proof.Machine.execPcieLinkDown s
  | .pcieAerError => Sys2Proof.Machine.execPcieAerError s
  | .pcieFlr => Sys2Proof.Machine.execPcieFlr s
  | .qspiRead addr words => Sys2Proof.Machine.execQspiRead addr words s
  | .qspiQread addr words => Sys2Proof.Machine.execQspiQread addr words s
  | .qspiWrite addr data => Sys2Proof.Machine.execQspiWrite addr data s
  | .qspiQwrite addr data => Sys2Proof.Machine.execQspiQwrite addr data s
  | .qspiBadInstruction instruction => Sys2Proof.Machine.execQspiBadInstruction instruction s
  | .qspiCsAbort addr data write => Sys2Proof.Machine.execQspiCsAbort addr data write s
  | .sqTailDoorbell queue v => Sys2Proof.Machine.execSqTailDoorbell queue v s
  | .cqHeadDoorbell queue v => Sys2Proof.Machine.execCqHeadDoorbell queue v s
  | .qcfgWrite queue v => Sys2Proof.Machine.execQcfgWrite queue v s
  | .hifCtrlWrite v => Sys2Proof.Machine.execHifCtrlWrite v s
  | .evqHeadWrite v => Sys2Proof.Machine.execEvqHeadWrite v s
  | .evqCfgRead => Sys2Proof.Machine.execEvqCfgRead s
  | .evqOvfClear => Sys2Proof.Machine.execEvqOvfClear s
  | .vecPendClear high v => Sys2Proof.Machine.execVecPendClear high v s
  | .msixUnmask vec => Sys2Proof.Machine.execMsixUnmask vec s
  | .vectorSignal vec => Sys2Proof.Machine.execVectorSignal vec s
  | .descriptorFetch fetch => Sys2Proof.Machine.execDescriptorFetch fetch s
  | .authCheckDone => Sys2Proof.Machine.execAuthCheckDone s
  | .authLockoutEnd => Sys2Proof.Machine.execAuthLockoutEnd s
  | .commandForward => Sys2Proof.Machine.execCommandForward s
  | .completionWrite queue ok => Sys2Proof.Machine.execCompletionWrite queue ok s
  | .heldCompletionWrite queue => Sys2Proof.Machine.execHeldCompletionWrite queue s
  | .heldCompletionDiscard => Sys2Proof.Machine.execHeldCompletionDiscard s
  | .undefinedOpcode r => Sys2Proof.Machine.execUndefinedOpcode r s
  | .tbLoRead read => Sys2Proof.Machine.execTbLoRead read s
  | .htbLoRead => Sys2Proof.Machine.execHtbLoRead s
  | .authNonceRead => Sys2Proof.Machine.execAuthNonceRead s
  | .modeStatusRead => Sys2Proof.Machine.execModeStatusRead s
  | .dispTimeRead => Sys2Proof.Machine.execDispTimeRead s
  | .busCntRead bus => Sys2Proof.Machine.execBusCntRead bus s
  | .slotErrRead slot => Sys2Proof.Machine.execSlotErrRead slot s
  | .ctLinkRead slot => Sys2Proof.Machine.execCtLinkRead slot s
  | .ctErrRead slot => Sys2Proof.Machine.execCtErrRead slot s
  | .sessCntRead slot => Sys2Proof.Machine.execSessCntRead slot s
  | .dispCntRead => Sys2Proof.Machine.execDispCntRead s
  | .batPcntRead q => Sys2Proof.Machine.execBatPcntRead q s
  | .twinCntRead => Sys2Proof.Machine.execTwinCntRead s
  | .storStatusRead => Sys2Proof.Machine.execStorStatusRead s
  | .recStatusRead => Sys2Proof.Machine.execRecStatusRead s
  | .trCntRead => Sys2Proof.Machine.execTrCntRead s
  | .twStatusRead bus => Sys2Proof.Machine.execTwStatusRead bus s
  | .tstatClear ch mask => Sys2Proof.Machine.execTstatClear ch mask s
  | .timerSnapWrite block pairs => Sys2Proof.Machine.execTimerSnapWrite block pairs s
  | .timerCountRead ch opPath => Sys2Proof.Machine.execTimerCountRead ch opPath s
  | .captureReadLock ch reg => Sys2Proof.Machine.execCaptureReadLock ch reg s
  | .curvePointWrite curve point isT v => Sys2Proof.Machine.execCurvePointWrite curve point isT v s
  | .registerWrite window addr value mask => Sys2Proof.Machine.execRegisterWrite window addr value mask s
  | .twTargetAddressed bus addr read => Sys2Proof.Machine.execTwTargetAddressed bus addr read s
  | .twTargetWriteCommit bus bytes => Sys2Proof.Machine.execTwTargetWriteCommit bus bytes s
  | .twProtoErr bus pecBad => Sys2Proof.Machine.execTwProtoErr bus pecBad s
  | .twTargetTimeout bus => Sys2Proof.Machine.execTwTargetTimeout bus s
  | .twControllerTimeout bus => Sys2Proof.Machine.execTwControllerTimeout bus s
  | .twArbitrationLost bus inAddr winning => Sys2Proof.Machine.execTwArbitrationLost bus inAddr winning s
  | .twTransactionStart bus found => Sys2Proof.Machine.execTwTransactionStart bus found s
  | .twTransactionEnd bus result => Sys2Proof.Machine.execTwTransactionEnd bus result s
  | .twStuckRetry bus stillLow => Sys2Proof.Machine.execTwStuckRetry bus stillLow s
  | .legacyPoll q => Sys2Proof.Machine.execLegacyPoll q s
  | .timerCompareMatch ch n => Sys2Proof.Machine.execTimerCompareMatch ch n s
  | .timerCapture ch rising count => Sys2Proof.Machine.execTimerCapture ch rising count s
  | .timerPwmPeriod ch => Sys2Proof.Machine.execTimerPwmPeriod ch s
  | .fanControl q => Sys2Proof.Machine.execFanControl q s
  | .identify r => Sys2Proof.Machine.execIdentify r s
  | .reset r => Sys2Proof.Machine.execReset r s
  | .sleep r => Sys2Proof.Machine.execSleep r s
  | .setWallClock r => Sys2Proof.Machine.execSetWallClock r s
  | .echo r => Sys2Proof.Machine.execEcho r s
  | .cfgLoad r => Sys2Proof.Machine.execCfgLoad r s
  | .cfgSave r => Sys2Proof.Machine.execCfgSave r s
  | .cfgRead r => Sys2Proof.Machine.execCfgRead r s
  | .cfgInfo r => Sys2Proof.Machine.execCfgInfo r s
  | .setVset r => Sys2Proof.Machine.execSetVset r s
  | .setLoop r => Sys2Proof.Machine.execSetLoop r s
  | .setSharing r => Sys2Proof.Machine.execSetSharing r s
  | .setUnitWeight r => Sys2Proof.Machine.execSetUnitWeight r s
  | .excludeUnit r => Sys2Proof.Machine.execExcludeUnit r s
  | .getUnit r => Sys2Proof.Machine.execGetUnit r s
  | .getWear r => Sys2Proof.Machine.execGetWear r s
  | .getDispatch r => Sys2Proof.Machine.execGetDispatch r s
  | .setWindow r => Sys2Proof.Machine.execSetWindow r s
  | .setHoldup r => Sys2Proof.Machine.execSetHoldup r s
  | .setReentry r => Sys2Proof.Machine.execSetReentry r s
  | .setWarnLead r => Sys2Proof.Machine.execSetWarnLead r s
  | .setCharge r => Sys2Proof.Machine.execSetCharge r s
  | .setRamp r => Sys2Proof.Machine.execSetRamp r s
  | .setFreqResp r => Sys2Proof.Machine.execSetFreqResp r s
  | .setFreqSrc r => Sys2Proof.Machine.execSetFreqSrc r s
  | .putHostFreq r => Sys2Proof.Machine.execPutHostFreq r s
  | .getHoldup r => Sys2Proof.Machine.execGetHoldup r s
  | .getGrid r => Sys2Proof.Machine.execGetGrid r s
  | .getReserve r => Sys2Proof.Machine.execGetReserve r s
  | .setCap r => Sys2Proof.Machine.execSetCap r s
  | .setCapPolicy r => Sys2Proof.Machine.execSetCapPolicy r s
  | .setBranchCap r => Sys2Proof.Machine.execSetBranchCap r s
  | .restoreBranch r => Sys2Proof.Machine.execRestoreBranch r s
  | .getCap r => Sys2Proof.Machine.execGetCap r s
  | .getBudget r => Sys2Proof.Machine.execGetBudget r s
  | .setSlotPolicy r => Sys2Proof.Machine.execSetSlotPolicy r s
  | .resetSlot r => Sys2Proof.Machine.execResetSlot r s
  | .swapAux r => Sys2Proof.Machine.execSwapAux r s
  | .enableSlot r => Sys2Proof.Machine.execEnableSlot r s
  | .getSlot r => Sys2Proof.Machine.execGetSlot r s
  | .getModuleData r => Sys2Proof.Machine.execGetModuleData r s
  | .setBranch r => Sys2Proof.Machine.execSetBranch r s
  | .setCurvePoint r => Sys2Proof.Machine.execSetCurvePoint r s
  | .closeBranch r => Sys2Proof.Machine.execCloseBranch r s
  | .openBranch r => Sys2Proof.Machine.execOpenBranch r s
  | .clearLockout r => Sys2Proof.Machine.execClearLockout r s
  | .testPfw r => Sys2Proof.Machine.execTestPfw r s
  | .getBranch r => Sys2Proof.Machine.execGetBranch r s
  | .getAcc r => Sys2Proof.Machine.execGetAcc r s
  | .setProbe r => Sys2Proof.Machine.execSetProbe r s
  | .setCounting r => Sys2Proof.Machine.execSetCounting r s
  | .setBatWarn r => Sys2Proof.Machine.execSetBatWarn r s
  | .setLearning r => Sys2Proof.Machine.execSetLearning r s
  | .startLearn r => Sys2Proof.Machine.execStartLearn r s
  | .abortLearn r => Sys2Proof.Machine.execAbortLearn r s
  | .setSoc r => Sys2Proof.Machine.execSetSoc r s
  | .setCapacity r => Sys2Proof.Machine.execSetCapacity r s
  | .getBat r => Sys2Proof.Machine.execGetBat r s
  | .getBatValue r => Sys2Proof.Machine.execGetBatValue r s
  | .getLearn r => Sys2Proof.Machine.execGetLearn r s
  | .handover r => Sys2Proof.Machine.execHandover r s
  | .setRevert r => Sys2Proof.Machine.execSetRevert r s
  | .drill r => Sys2Proof.Machine.execDrill r s
  | .leaveStep r => Sys2Proof.Machine.execLeaveStep r s
  | .join r => Sys2Proof.Machine.execJoin r s
  | .coldSwap r => Sys2Proof.Machine.execColdSwap r s
  | .getTwin r => Sys2Proof.Machine.execGetTwin r s
  | .ackFault r => Sys2Proof.Machine.execAckFault r s
  | .setSource r => Sys2Proof.Machine.execSetSource r s
  | .getSource r => Sys2Proof.Machine.execGetSource r s
  | .getFault r => Sys2Proof.Machine.execGetFault r s
  | .injectEvent r => Sys2Proof.Machine.execInjectEvent r s
  | .clearRecovery r => Sys2Proof.Machine.execClearRecovery r s
  | .recSetTrigger r => Sys2Proof.Machine.execRecSetTrigger r s
  | .recSetList r => Sys2Proof.Machine.execRecSetList r s
  | .recSetTrace r => Sys2Proof.Machine.execRecSetTrace r s
  | .recSetLevel r => Sys2Proof.Machine.execRecSetLevel r s
  | .recTrigger r => Sys2Proof.Machine.execRecTrigger r s
  | .recFreeze r => Sys2Proof.Machine.execRecFreeze r s
  | .recThaw r => Sys2Proof.Machine.execRecThaw r s
  | .recFlush r => Sys2Proof.Machine.execRecFlush r s
  | .recClear r => Sys2Proof.Machine.execRecClear r s
  | .recSetFlush r => Sys2Proof.Machine.execRecSetFlush r s
  | .recRead r => Sys2Proof.Machine.execRecRead r s
  | .recReadTrace r => Sys2Proof.Machine.execRecReadTrace r s
  | .recReadLedger r => Sys2Proof.Machine.execRecReadLedger r s
  | .recStatus r => Sys2Proof.Machine.execRecStatus r s
  | .imgStage r => Sys2Proof.Machine.execImgStage r s
  | .imgCommit r => Sys2Proof.Machine.execImgCommit r s
  | .stageCancel r => Sys2Proof.Machine.execStageCancel r s
  | .setUpdateMode r => Sys2Proof.Machine.execSetUpdateMode r s
  | .updateField r => Sys2Proof.Machine.execUpdateField r s
  | .setRollbackFloor r => Sys2Proof.Machine.execSetRollbackFloor r s
  | .storFormat r => Sys2Proof.Machine.execStorFormat r s
  | .storScrubNow r => Sys2Proof.Machine.execStorScrubNow r s
  | .getUpdate r => Sys2Proof.Machine.execGetUpdate r s
  | .getStorage r => Sys2Proof.Machine.execGetStorage r s
  | .secSetAuthKey r => Sys2Proof.Machine.execSecSetAuthKey r s
  | .secClearAuthKey r => Sys2Proof.Machine.execSecClearAuthKey r s
  | .secAddFwKey r => Sys2Proof.Machine.execSecAddFwKey r s
  | .secRevokeFwKey r => Sys2Proof.Machine.execSecRevokeFwKey r s
  | .secGetIdentity r => Sys2Proof.Machine.execSecGetIdentity r s
  | .secAttest r => Sys2Proof.Machine.execSecAttest r s
  | .secRandom r => Sys2Proof.Machine.execSecRandom r s
  | .secGetKeys r => Sys2Proof.Machine.execSecGetKeys r s
  | .opWrite r => Sys2Proof.Machine.execOpWrite r s
  | .blockOp r => Sys2Proof.Machine.execBlockOp r s
  | .opRead r => Sys2Proof.Machine.execOpRead r s
  | .getBlock r => Sys2Proof.Machine.execGetBlock r s
  | .getDiag r => Sys2Proof.Machine.execGetDiag r s
  | .tmrSet r => Sys2Proof.Machine.execTmrSet r s
  | .tmrCompare r => Sys2Proof.Machine.execTmrCompare r s
  | .tmrSnapshot r => Sys2Proof.Machine.execTmrSnapshot r s
  | .tmrGet r => Sys2Proof.Machine.execTmrGet r s
  | .twXfer r => Sys2Proof.Machine.execTwXfer r s
  | .twSetBus r => Sys2Proof.Machine.execTwSetBus r s
  | .twGetBus r => Sys2Proof.Machine.execTwGetBus r s
  | .analogDomainReturn high => Sys2Proof.Machine.execAnalogDomainReturn high s
  | .ctLineReleased slot => Sys2Proof.Machine.execCtLineReleased slot s
  | .twTargetStop bus bytesRead => Sys2Proof.Machine.execTwTargetStop bus bytesRead s

end Sys2Proof.Machine
end

