-- ==== Sys2Proof/WellFormed.lean ====
section
/-! DEFINITION. Which terms of `Instr` are commands that the block's interfaces can carry: operand ranges that their types do
not already give. -/

namespace Sys2Proof

/-- A descriptor whose fields fit their widths (19_command_reference Table 19-3), as a host sends it: neither of the peer nor of the device's
own firmware. -/
def Request.wf (r : Request) : Bool :=
  r.opcode < 0x10000 && r.flags < 0x100 && r.unit < 0x100 && r.tag < 0x10000 && r.epoch < 0x10000 && r.applyTick < 2 ^ 64 && !r.peer && !r.silent

/-- Codes of the measurement cells are signed 16-bit (04 R99). -/
def Samples.wf (s : Samples) : Bool :=
  s.rows.all fun ch => ch.rows.all fun c => -0x8000 ≤ c && c ≤ 0x7FFF

/-- A window address of the QSPI target is a 24-bit multiple of 4 (18_host R457). -/
def windowOk (addr : Nat) : Bool := addr % 4 == 0 && addr < 0x1000000

/-- Well-formed commands. -/
def Instr.wf : Instr → Bool
  | .tickEdge s _ => s.wf
  | .qspiRead a _ | .qspiQread a _ | .qspiWrite a _ | .qspiQwrite a _ | .qspiCsAbort a _ _ => windowOk a
  | .moistureCheckEnd _ s _ => s.rows.all (· < 4096)
  | .twTargetWriteCommit _ bytes => bytes.length ≤ 35
  | .descriptorFetch f => match f with
    | .failed => true
    | .good ds => ds.length ≤ 4 && ds.all Request.wf
  | .undefinedOpcode r | .identify r | .reset r | .sleep r | .setWallClock r | .echo r | .cfgLoad r | .cfgSave r | .cfgRead r
  | .cfgInfo r | .setVset r | .setLoop r | .setSharing r | .setUnitWeight r | .excludeUnit r | .getUnit r | .getWear r
  | .getDispatch r | .setWindow r | .setHoldup r | .setReentry r | .setWarnLead r | .setCharge r | .setRamp r | .setFreqResp r
  | .setFreqSrc r | .putHostFreq r | .getHoldup r | .getGrid r | .getReserve r | .setCap r | .setCapPolicy r | .setBranchCap r
  | .restoreBranch r | .getCap r | .getBudget r | .setSlotPolicy r | .resetSlot r | .swapAux r | .enableSlot r | .getSlot r
  | .getModuleData r | .setBranch r | .setCurvePoint r | .closeBranch r | .openBranch r | .clearLockout r | .testPfw r | .getBranch r
  | .getAcc r | .setProbe r | .setCounting r | .setBatWarn r | .setLearning r | .startLearn r | .abortLearn r | .setSoc r
  | .setCapacity r | .getBat r | .getBatValue r | .getLearn r | .handover r | .setRevert r | .drill r | .leaveStep r | .join r
  | .coldSwap r | .getTwin r | .ackFault r | .setSource r | .getSource r | .getFault r | .injectEvent r | .clearRecovery r
  | .recSetTrigger r | .recSetList r | .recSetTrace r | .recSetLevel r | .recTrigger r | .recFreeze r | .recThaw r | .recFlush r
  | .recClear r | .recSetFlush r | .recRead r | .recReadTrace r | .recReadLedger r | .recStatus r | .imgStage r | .imgCommit r
  | .stageCancel r | .setUpdateMode r | .updateField r | .setRollbackFloor r | .storFormat r | .storScrubNow r | .getUpdate r
  | .getStorage r | .secSetAuthKey r | .secClearAuthKey r | .secAddFwKey r | .secRevokeFwKey r | .secGetIdentity r | .secAttest r
  | .secRandom r | .secGetKeys r | .opWrite r | .blockOp r | .opRead r | .getBlock r | .getDiag r | .tmrSet r | .tmrCompare r
  | .tmrSnapshot r | .tmrGet r | .twXfer r | .twSetBus r | .twGetBus r => r.wf
  | .vinhPowerOn _ | .vinfPowerOn _ | .vinhFall | .vinfFall | .hrstNAssert | .wakeNFall | .domainStep _ | .domainFail _
  | .hostWatchdog | .hpcLockstepMismatch | .qcWatchdog _ | .qcLockstepMismatch _ | .qcRestart _ | .chipReset | .fieldReset
  | .hRegionReset | .winterEntry | .deadManRelease | .uplinkFrameRx _ _ | .uplinkLost _ | .dispatchRun _ | .tickOverrun
  | .downlinkSend _ | .tbusPadFault _ | .guardPhase _ _ | .outputLandUpdate _ | .stagingCommitDeadline _ | .tickSyncInPulse _
  | .tickSyncLocked | .tickSyncLoss | .barrierHeartbeatRx _ _ | .barrierTimeSyncRx _ _ | .cmdForwardRx _ | .cmdCompleteRx _
  | .telemetryRx _ | .barrierEventRx _ | .recSnapshotRx _ | .traceBlockRx _ | .configPushRx _ | .fwBlockRx _ _ | .hostLost
  | .fieldLost | .hostLostLimit | .transceiverSelftest _ _ | .spareSwap _ _ _ | .sramRowMove _ _ _ | .sramScrub _ _ _ _
  | .blockOpEnd _ _ | .blockOpTimeout _ _ | .tbeEngineResetNext _ | .blockResetReaction | .quadrantIsolate _ | .calStageEnd _ _ _
  | .ovComparatorTrip _ | .analogDomainLoss _ | .ovSelftest | .ovSelftestGateEnd _ | .stopLatchedClear | .ovLimitWrite _
  | .lineZcEdge _ _ | .lineZcLost _ | .dispatchBlind | .blindExit | .poleImbalance | .dispatchShortfall | .dispatchSurplus
  | .wearAccumulate _ | .weightBankCommit _ | .stressPersist | .inputRecovery | .reentryBatchStart | .reentryRelease _
  | .hostFreqExpiry | .capExpired _ | .capUnrelieved | .thrRelease | .capEpisodeEnd | .autoRestore | .ctPresence _ | .ctGlitch _
  | .ctHardResetDeclared _ | .ctStuckLow _ | .ctCollision _ | .collisionHoldoffEnd _ | .ctFrameDiscard _ _ | .ctAckRx _ _ _
  | .ctAcceptRx _ _ _ | .ctRejectRx _ _ _ | .ctReadyRx _ _ _ | .ctSoftResetRx _ _ _ | .ctStaleRx _ _ _ | .ctCapabilityRx _ _ _ _
  | .ctIdentityRx _ _ _ _ | .ctRequestRx _ _ _ _ | .ctStatusRx _ _ _ _ | .ctAlertRx _ _ _ _ | .ctSwapRx _ _ _ _ | .ctFrameTxStart _
  | .ctFrameTxEnd _ | .ackTimerExpiry _ | .responseTimerExpiry _ | .swapTimerExpiry _ | .hardResetCompletionExpiry _
  | .hardResetGetRepeat _ | .statusPollExpiry _ | .retryHoldoffEnd _ | .swapFeedReady _ | .moistureCheckStart _ | .moistureCheckVoid _
  | .qualified _ | .branchQualified _ | .busUp | .marchStart | .firstStartRelease | .marchComplete | .marchLate | .softstartEnd _
  | .coldSoftResetBroadcast | .fastTrip _ | .ftSelftest _ _ | .inrushEnd _ | .recloseDelayEnd _ | .recloseResetEnd _
  | .gateFbFailOpen _ | .gateFbFailClose _ | .gateFbLost _ | .gateFbStuck _ | .brkOpenCurrent _ | .testPfwEnd _ | .probeStart
  | .probePhaseGet | .probePhaseMinus | .probeEvaluate | .probeGapEnd | .probeHaltClear | .probeStaleExpiry _ | .eodPoll _
  | .learnCheck | .learnMaxExpiry | .cycleOpenExpiry _ | .batRecordWrite _ | .learnedRecordApply _ | .twinHeartbeatRx _ _
  | .twinInputRx _ | .twinDigestRx _ | .twinPrepareRx _ | .twinPrepAckRx _ | .twinPrepNakRx _ | .twinCommitRx _ | .twinCommitAckRx _
  | .twinSwapReqRx _ | .twinStateRx _ | .twinDrillRx _ _ _ | .twinPacketDiscard _ | .laneUp _ | .laneDown _ | .roleDecision
  | .fieldImageStart _ | .heartbeatMissed | .twinTakeover | .twinPeerLost | .peerActiveSample _ | .twinInterlock
  | .inputSectionDeadline _ | .joinStart | .joinStepEnd _ | .handoverRelease | .handoverSwitchEdge _ | .handoverAssertFail
  | .revertExpiry | .drillStep _ | .drillHoldEnd | .severeRecovery _ | .hostEventJudge | .recPageFlush | .traceFreeze
  | .traceCaptureWritten | .recAutoThaw | .hostBoot _ | .trialConfirm | .fieldStaleLoad | .nandOpDone _ | .scrubPeriod
  | .learnedCompaction | .pcieLinkDown | .pcieAerError | .pcieFlr | .qspiBadInstruction _ | .sqTailDoorbell _ _
  | .cqHeadDoorbell _ _ | .qcfgWrite _ _ | .hifCtrlWrite _ | .evqHeadWrite _ | .evqCfgRead | .evqOvfClear | .vecPendClear _ _
  | .msixUnmask _ | .vectorSignal _ | .authCheckDone | .authLockoutEnd | .commandForward | .completionWrite _ _
  | .heldCompletionWrite _ | .heldCompletionDiscard | .tbLoRead _ | .htbLoRead | .authNonceRead | .modeStatusRead | .dispTimeRead
  | .busCntRead _ | .slotErrRead _ | .ctLinkRead _ | .ctErrRead _ | .sessCntRead _ | .dispCntRead | .batPcntRead _ | .twinCntRead
  | .storStatusRead | .recStatusRead | .trCntRead | .twStatusRead _ | .tstatClear _ _ | .timerSnapWrite _ _ | .timerCountRead _ _
  | .captureReadLock _ _ | .curvePointWrite _ _ _ _ | .registerWrite _ _ _ _ | .twTargetAddressed _ _ _ | .twProtoErr _ _
  | .twTargetTimeout _ | .twControllerTimeout _ | .twArbitrationLost _ _ _ | .twTransactionStart _ _ | .twTransactionEnd _ _
  | .twStuckRetry _ _ | .legacyPoll _ | .timerCompareMatch _ _ | .timerCapture _ _ _ | .timerPwmPeriod _ | .fanControl _
  | .analogDomainReturn _ | .ctLineReleased _ | .twTargetStop _ _ => true

end Sys2Proof
end

