-- ==== Sys2Proof/Safety.lean ====
section
/-! DEFINITION. What claims speak of: the memories in canonical form, steps that go on, the two sides of the device, resets, and commands that their checks
let through. -/

namespace Sys2Proof.Machine

open Sys2Proof

/-- The memories of region H in canonical form: host memory or the shared area, and the message area (18_host R458, 20_two_wire Table 20-3). -/
def State.memOk (s : State) : Bool := memWf s.chip.host.hif.mem && memWf s.chip.host.area

/-- A command goes on from a state: it neither faults nor is refused. -/
def runs (c : Instr) (s : State) : Prop := ∃ t, exec c s = .next t

/-- A command leaves the whole host side as it was. -/
def sparesHost (c : Instr) (s : State) : Prop := ∀ t, exec c s = .next t → t.chip.host = s.chip.host

/-- A command leaves the whole field side as it was. -/
def sparesField (c : Instr) (s : State) : Prop := ∀ t, exec c s = .next t → t.chip.field = s.chip.field

/-- A reset of region H with its cause and scope (02 R63, R65; 01 R44): the block state goes, the queues empty, while the field side, the
domains, memory outside the region, the keys, ROLE_EPOCH, the copy of TB and the wall clock stay. -/
def regionWasReset (s t : State) (cause scope : Nat) : Prop :=
  t.chip.field = s.chip.field ∧ t.chip.host.mode.cause = cause ∧ t.chip.host.mode.scope = scope ∧ t.chip.host.booted = false ∧
  t.chip.host.power.dom = s.chip.host.power.dom ∧ t.chip.host.hif.queues = HostDie.reset.hif.queues ∧
  t.chip.host.hif.mem = s.chip.host.hif.mem ∧ t.chip.host.sec.authKeys = s.chip.host.sec.authKeys ∧
  t.chip.host.mode.epoch = s.chip.host.mode.epoch ∧ t.chip.host.htb = s.chip.host.htb ∧ t.chip.host.wall = s.chip.host.wall

/-- A field start (02 R64): the field waits for its image with no role, while F_AON keeps the role epoch, TWIN_ID and the overvoltage limit
and latch. -/
def fieldStarted (s t : State) : Prop :=
  t.chip.field.power.phase = .waiting ∧ t.chip.field.power.winter = false ∧ t.chip.field.twin.role = 0 ∧
  t.chip.field.twin.activeN = false ∧ t.chip.field.cfg.loaded = false ∧ t.chip.field.tick.schedule = [] ∧
  t.chip.field.twin.epoch = s.chip.field.twin.epoch ∧ t.chip.field.twin.twinB = s.chip.field.twin.twinB ∧
  t.chip.field.volt.ovLimit = s.chip.field.volt.ovLimit ∧ t.chip.field.volt.ovLock = s.chip.field.volt.ovLock ∧
  t.chip.field.volt.stopLatched = s.chip.field.volt.stopLatched ∧ t.chip.field.volt.stopCnt = s.chip.field.volt.stopCnt

/-- Only the field side differs. -/
def fieldOnly (s t : State) : Prop := t = { s with chip := { s.chip with field := t.chip.field } }

/-- Only the host side differs. -/
def hostOnly (s t : State) : Prop := t = { s with chip := { s.chip with host := t.chip.host } }

/-- A field event raised in a state: stamped with its tick and fine time (15 R386, R393). -/
def fieldEvent (s : State) (src code : Nat) (value : Nat := 0) : Event :=
  { tb := s.chip.field.tick.tb, fine := s.chip.field.tick.fine, src := src, code := code, value := value }

/-- A host event raised in a state: stamped with HTB (15 R386). -/
def hostEvent (s : State) (src code : Nat) (value : Nat := 0) : Event :=
  { tb := s.chip.host.htb, fine := 0xFFFF, src := src, code := code, value := value }

/-- A field-executed command without APPLY_AT_TICK as the field side takes it in a state: its arrival tick, and what region H says of its
host buffer. -/
def arriving (c : FCmd) (r : Request) (s : State) : Request :=
  { s.chip.host.withBuffer { r with opcode := c.code } with arrival := s.chip.field.tick.tb, applyTick := s.chip.field.tick.tb }

/-- The conditions under which a field-executed command sent by a host without APPLY_AT_TICK takes effect: a host side that listens (02 R60),
its token (18 R474, R475), no recovery (17 R445), the checks of 00 R9 on the field side, and what WINTER and the configuration admit (02 R52,
R68). -/
def fieldTakes (c : FCmd) (r : Request) (s : State) : Prop :=
  r.atTick = false ∧ s.chip.host.listens = true ∧ r.silent = false ∧ r.peer = false ∧ tokenBad (c.auth { r with opcode := c.code }) { r with opcode := c.code } = false ∧
  s.chip.host.stor.recovery = false ∧ admitF s.chip.variant s.chip.field c (arriving c r s) = none ∧
  gateF s.chip.field c (arriving c r s) = none

/-- A field-executed command has completed: its completion waits to cross, and region H awaits it (19 R479, 18 R463). -/
def fieldAnswers (s t : State) (r : Request) (st : Status) (result : Nat) : Prop :=
  t.chip.field.bar.completions = s.chip.field.bar.completions ++
    [{ queue := r.queue, tag := r.tag, status := st, result := result % 2 ^ 64, epoch := s.chip.field.twin.epoch }] ∧
  t.chip.host.hif.outstanding = s.chip.host.hif.outstanding ++ [(r.queue.val, r.tag, 0)]

/-- A field-executed command goes on with its completion still to come. -/
def fieldWaits (s t : State) (r : Request) : Prop :=
  t.chip.field.bar.completions = s.chip.field.bar.completions ∧
  t.chip.host.hif.outstanding = s.chip.host.hif.outstanding ++ [(r.queue.val, r.tag, 0)]

/-- The conditions under which a host-executed command sent by a host takes effect (18 R471): a host side that listens (02 R60), and the
checks of 00 R9. -/
def hostTakes (c : HCmd) (r : Request) (s : State) : Prop :=
  s.chip.host.listens = true ∧ r.silent = false ∧ admitH s.chip.variant (s.chip.host.accept { r with opcode := c.code }) c { r with opcode := c.code } = none

/-- A host-executed command has completed: its completion waits for the ring of its queue (18 R463, 19 R479). -/
def hostAnswers (s t : State) (r : Request) (st : Status) (result : Nat) : Prop :=
  (t.chip.host.hif.queues.get r.queue).waiting = (s.chip.host.hif.queues.get r.queue).waiting ++
    [{ queue := r.queue, tag := r.tag, status := st, result := result % 2 ^ 64, epoch := s.chip.host.mode.epoch }]

/-- A frame of the module that its port hears and its session executes (09 R235 to R238): the part has the slot, the port is up, a module is present, its session
exchanges frames, the epoch is the session's, and the frame is no repeat. -/
def frameRuns (k type id epoch : Nat) (s : State) : Prop :=
  k < s.chip.variant.slots ∧ s.chip.field.sessLive = true ∧ s.chip.field.portUp k = true ∧ (s.chip.field.sl k).port.present = true ∧
  (s.chip.field.sl k).sess.state ≠ 0 ∧ (s.chip.field.sl k).sess.state ≠ 1 ∧ (s.chip.field.sl k).sess.state ≠ 9 ∧
  epoch = (s.chip.field.sl k).sess.epoch ∧ (s.chip.field.sl k).port.lastExec ≠ some (type, id)

/-- The port of a slot has a frame of a type in its queue that satisfies `p`. -/
def queued (t : State) (k type : Nat) (p : CtFrame → Prop) : Prop :=
  ∃ fr ∈ (t.chip.field.sl k).port.queue, fr.type = type ∧ p fr

/-- Every slot but one is as it was, and so are the branches and the quadrants. -/
def otherSlots (s t : State) (k : Nat) : Prop :=
  (∀ j, j ≠ k → t.chip.field.sl j = s.chip.field.sl j) ∧ t.chip.field.branch = s.chip.field.branch ∧ t.chip.field.quad = s.chip.field.quad

/-- A host-executed command goes on with its completion still to come. -/
def hostWaits (s t : State) (r : Request) : Prop :=
  (t.chip.host.hif.queues.get r.queue).waiting = (s.chip.host.hif.queues.get r.queue).waiting

/-- A timer channel by its number: 0 to 7 on HTIM, 8 to 23 on the FTIM blocks (21 Table 21-1). -/
def State.timer (s : State) (ch : Nat) : TimerCh :=
  if ch < 8 then s.chip.host.htim.get ch else (s.chip.field.qd ((ch - 8) / 4)).ftim.get ((ch - 8) % 4)

/-- Whether a timer channel lies in a chained pair (21 R525). -/
def State.chained (s : State) (ch : Nat) : Bool := (s.timer (ch - ch % 2)).chain

/-- Whether the variant has a timer channel (00 R10). -/
def State.hasTimer (s : State) (ch : Nat) : Bool := decide (ch < 8) || decide ((ch - 8) / 4 < s.chip.variant.quads)

/-- An event on a timer channel has raised vector 54, on region H at once and from the field with its next heartbeat (21 R529). -/
def timerRaised (s t : State) (ch : Nat) : Prop :=
  if ch < 8 then t.chip.host = { s.chip.host with htim := t.chip.host.htim }.vector 54 else t.chip.field.bar.timerVec = true

/-- A step touches the timer block of a channel and vector 54 alone. -/
def timerOnly (s t : State) (ch : Nat) : Prop :=
  if ch < 8 then hostOnly s t ∧ t.chip.host = { s.chip.host with htim := t.chip.host.htim, hif := t.chip.host.hif }
  else fieldOnly s t ∧ ∀ q, q ≠ (ch - 8) / 4 → t.chip.field.qd q = s.chip.field.qd q

/-- A two-wire bus by its number: MB0 and MB1, then the bus of each quadrant (20 R502). -/
def State.bus (s : State) (n : Nat) : TwBus := if n < 2 then s.chip.host.mb.getD n {} else (s.chip.field.qd (n - 2)).ftw.bus

/-- Whether the variant has a two-wire bus. -/
def State.hasBus (s : State) (n : Nat) : Bool := decide (n < 2) || decide (n - 2 < s.chip.variant.quads)

/-- The event that a two-wire bus raises: BUS_STUCK or BUS_TIMEOUT of source 11 or 212, by the side of the bus (20 R504, R508). -/
def busEvent (s t : State) (n code : Nat) : Prop :=
  if n < 2 then hostEvent s 11 code n ∈ t.chip.host.fcm.arisen else fieldEvent s 212 code (n - 2) ∈ t.chip.field.fcol.arisen

end Sys2Proof.Machine
end

