-- ==== Sys2Proof/Certificates/Slice0/Obligations.lean ====
section
/-! DEFINITION. The statements for the provers, one definition each, over the vocabulary of Safety. -/

open Sys2Proof Sys2Proof.Machine

/-- One step (the queue is the model's own): the command at the front runs with the queue's rest, and on an empty queue nothing changes (log
entry 1). -/
def Obligations.StepRunsTheFrontCommand : Prop :=
  (∀ (c : Instr) (rest : List Instr) (s : State), s.pending = c :: rest → step s = exec c { s with pending := rest }) ∧
  (∀ s : State, s.pending = [] → step s = .next s)

/-- Reset (00 R1, R2; 02 R52, R58; 04 Table 04-2; 10 R248; 14 R357; 15 R387; 20 Table 20-5): no role, no configuration, every source at its
table row, every queue off, every line released, and both memories in canonical form. -/
def Obligations.ResetLeavesTheTableValues : Prop :=
  State.reset.pending = [] ∧ State.reset.memOk = true ∧
  State.reset.chip.field.twin.role = 0 ∧ State.reset.chip.field.twin.activeN = false ∧
  State.reset.chip.field.cfg.loaded = false ∧ State.reset.chip.field.power.phase = .waiting ∧
  State.reset.chip.field.power.winter = false ∧ State.reset.chip.field.power.dom.rows = [.good, .off, .off, .off, .off, .off, .off, .off] ∧
  (∀ i, i < 256 → ∀ row, srcRow i = some row →
    (State.reset.chip.field.fcol.src i).ev = row.ev ∧ (State.reset.chip.field.fcol.src i).sv = row.sv ∧
    (State.reset.chip.field.fcol.src i).flt = row.flt ∧ (State.reset.chip.field.fcol.src i).pend = false ∧
    State.reset.chip.host.fcm.src i = State.reset.chip.field.fcol.src i) ∧
  (∀ k, k < 96 → (State.reset.chip.field.sl k).sess.state = 0 ∧ (State.reset.chip.field.sl k).pol.rank = k ∧
    (State.reset.chip.field.sl k).ctx.role = .none) ∧
  (∀ b, b < 32 → (State.reset.chip.field.br b).on = false ∧ (State.reset.chip.field.br b).cfg.rank = 96 + b) ∧
  (∀ q : Fin 32, (State.reset.chip.host.q q).en = false ∧ (State.reset.chip.host.q q).error = false) ∧
  (State.reset.bus 0).taddr = 0x58 ∧ (State.reset.bus 1).taddr = 0x5A

/-- Every command completes, in every state and with every operand, and no command touches the queue or the variant. -/
def Obligations.EveryCommandCompletes : Prop :=
  ∀ (c : Instr) (s : State), ∃ t, exec c s = .next t ∧ t.pending = s.pending ∧ t.chip.variant = s.chip.variant

/-- The memories of region H keep their canonical form through every step: addresses rise and no entry holds the value that an unlisted address
reads as. -/
def Obligations.EveryStepKeepsMemoryCanonical : Prop :=
  ∀ s t : State, s.memOk = true → step s = .next t → t.memOk = true

/-- A command that its checks turn away changes nothing but its queue's entry, the statistics and its completion (00 R9, R13; 02 R68; 18 R471;
19 R480), and the checks come in their order: token, epoch, unit, parameters. -/
def Obligations.ChecksComeInOrderAndLeaveNoEffect : Prop :=
  (∀ (c : FCmd) (r : Request) (s : State) (st : Status), r.atTick = false → s.chip.host.listens = true → r.silent = false → r.peer = false →
    tokenBad (c.auth { r with opcode := c.code }) { r with opcode := c.code } = false → s.chip.host.stor.recovery = false →
    (admitF s.chip.variant s.chip.field c (arriving c r s) = some st ∨
      (admitF s.chip.variant s.chip.field c (arriving c r s) = none ∧ gateF s.chip.field c (arriving c r s) = some st)) →
    fieldAnswers s (s.field c r) r st 0 ∧ { (s.field c r).chip.field with bar := s.chip.field.bar } = s.chip.field ∧
      { (s.field c r).chip.host with hif := s.chip.host.hif } = s.chip.host) ∧
  (∀ (c : FCmd) (r : Request) (s : State), s.chip.host.listens = true → r.silent = false →
    tokenBad (c.auth { r with opcode := c.code }) { r with opcode := c.code } = true →
    (s.field c r).chip.field = s.chip.field ∧ hostAnswers s (s.field c r) r .authFail 0 ∧ (s.field c r).chip.host.sec = s.chip.host.sec) ∧
  (∀ (c : FCmd) (r : Request) (s : State), fieldTakes c r s →
    (s.field c r).chip.host = (s.chip.host.accept { r with opcode := c.code }).await { r with opcode := c.code } 0) ∧
  (∀ (c : HCmd) (r : Request) (s : State) (st : Status), s.chip.host.listens = true → r.silent = false → st ≠ .authFail →
    admitH s.chip.variant (s.chip.host.accept { r with opcode := c.code }) c { r with opcode := c.code } = some st →
    (s.host c r).chip.field = s.chip.field ∧ hostAnswers s (s.host c r) r st 0 ∧
      { (s.host c r).chip.host with hif := s.chip.host.hif } = s.chip.host ∧ (s.host c r).chip.host.hif.mem = s.chip.host.hif.mem) ∧
  (∀ (v : Variant) (f : FieldDie) (c : FCmd) (r : Request), f.running = true →
    (r.silent = false → r.epoch ≠ f.twin.epoch → admitF v f c r = some .staleRole) ∧
    (r.epoch = f.twin.epoch → f.isStandby = false → ∀ st, unitStatus v c.unit r.unit = some st → admitF v f c r = some st) ∧
    (r.epoch = f.twin.epoch → f.isStandby = false → unitStatus v c.unit r.unit = none → c.grid = false → r.flags < 16 → r.bufOk = true →
      admitF v f c r = c.chk v f r)) ∧
  (∀ (c : FCmd) (r : Request) (s : State), s.chip.host.listens = false → s.field c r = s) ∧
  (∀ (c : HCmd) (r : Request) (s : State), s.chip.host.listens = false → s.host c r = s) ∧
  (∀ (v : Variant) (u : Nat), (unitStatus v .slot u = none ↔ u < v.slots) ∧ (v.slots ≤ u → u < 96 → unitStatus v .slot u = some .unitAbsent) ∧
    (96 ≤ u → unitStatus v .slot u = some .badParam) ∧ (unitStatus v .none u = none ↔ u = 0xFF) ∧ (u ≠ 0xFF → unitStatus v .none u = some .badParam))

/-- In WINTER the device accepts the commands of four groups, the last of them reads only, and every other command completes with WRONG_MODE (02
R68). -/
def Obligations.WinterAcceptsFourGroups : Prop :=
  (∀ (c : FCmd) (r : Request) (s : State), r.atTick = false → s.chip.host.listens = true → r.silent = false → r.peer = false →
    tokenBad (c.auth { r with opcode := c.code }) { r with opcode := c.code } = false → s.chip.host.stor.recovery = false →
    admitF s.chip.variant s.chip.field c (arriving c r s) = none → s.chip.field.power.winter = true →
    (c.code / 256 = 0x00 ∨ c.code / 256 = 0x80 ∨ c.code / 256 = 0x90 ∨ (c.code / 256 = 0xC0 ∧ c.ro = true) →
      (c.cfg = true → s.chip.field.cfg.loaded = true) → fieldTakes c r s) ∧
    (c.code / 256 ≠ 0x00 → c.code / 256 ≠ 0x80 → c.code / 256 ≠ 0x90 → c.code / 256 ≠ 0xC0 ∨ c.ro = false →
      fieldAnswers s (s.field c r) r .wrongMode 0 ∧ { (s.field c r).chip.field with bar := s.chip.field.bar } = s.chip.field)) ∧
  (∀ (c : HCmd) (r : Request) (s : State), s.chip.host.listens = true → r.silent = false → s.chip.host.stor.recovery = false →
    s.chip.host.mode.winter = true →
    tokenBad (c.auth (s.chip.host.accept { r with opcode := c.code }) { r with opcode := c.code }) { r with opcode := c.code } = false →
    r.epoch = s.chip.host.mode.epoch → s.chip.host.standby = false → r.unit = 0xFF → r.flags < 16 → r.atTick = false →
    c.chk s.chip.variant (s.chip.host.accept { r with opcode := c.code }) { r with opcode := c.code } = none →
    (c.code / 256 = 0x00 ∨ c.code / 256 = 0x80 ∨ c.code / 256 = 0x90 ∨ (c.code / 256 = 0xC0 ∧ c.ro = true) → hostTakes c r s) ∧
    (c.code / 256 ≠ 0x00 → c.code / 256 ≠ 0x80 → c.code / 256 ≠ 0x90 → c.code / 256 ≠ 0xC0 ∨ c.ro = false →
      hostAnswers s (s.host c r) r .wrongMode 0 ∧ (s.host c r).chip.field = s.chip.field))

/-- A severe source returns to normal once its quiet period has passed since its last event, and its recovery counter counts to 0xFFFF, on the
collector that judges it (15 R392). -/
def Obligations.SevereSourcesRecoverAfterQuiet : Prop :=
  ∀ (i : Fin 256) (s : State), ∃ t, exec (.severeRecovery i) s = .next t ∧
    (Collector.judges true i = true → hostOnly s t ∧
      ((s.chip.host.fcm.src i).severe = false ∨ s.chip.host.htb - (s.chip.host.fcm.src i).last < (s.chip.host.fcm.src i).q → t = s) ∧
      ((s.chip.host.fcm.src i).severe = true → (s.chip.host.fcm.src i).q ≤ s.chip.host.htb - (s.chip.host.fcm.src i).last →
        t.chip.host.fcm.src i = { s.chip.host.fcm.src i with severe := false, recov := min ((s.chip.host.fcm.src i).recov + 1) 0xFFFF } ∧
        ∀ j, j ≠ i.val → t.chip.host.fcm.src j = s.chip.host.fcm.src j)) ∧
    (Collector.judges true i = false → fieldOnly s t ∧
      ((s.chip.field.fcol.src i).severe = false ∨ s.chip.field.tick.tb - (s.chip.field.fcol.src i).last < (s.chip.field.fcol.src i).q → t = s) ∧
      ((s.chip.field.fcol.src i).severe = true → (s.chip.field.fcol.src i).q ≤ s.chip.field.tick.tb - (s.chip.field.fcol.src i).last →
        t.chip.field.fcol.src i = { s.chip.field.fcol.src i with severe := false, recov := min ((s.chip.field.fcol.src i).recov + 1) 0xFFFF } ∧
        ∀ j, j ≠ i.val → t.chip.field.fcol.src j = s.chip.field.fcol.src j))

/-- Power (02 R53 to R65): what each power event of a side leaves, with TWIN_ID as region H knows it (log entry 91) and the row groups that the
self-test found bad mapped to spares (01 R34); and the March of its domains: the next one that is not yet good reports good, or stops the March. -/
def Obligations.PowerEventsAndDomains : Prop :=
  (∀ (sel : Bool) (bad : List (Fin 32 × Nat)) (s : State), ∃ t, exec (.vinhPowerOn ⟨sel, bad⟩) s = .next t ∧ t.chip.field = s.chip.field ∧
    t.chip.host.power.vinh = true ∧ t.chip.host.power.asleep = false ∧ t.chip.host.power.twinB = s.chip.field.twin.twinB ∧ t.chip.host.power.dom.rows = [.good, .off, .off, .off] ∧
    t.chip.host.power.link = (if sel ∨ s.chip.variant ≠ .fls6480 then .qspi else .pcie) ∧
    t.chip.host.mode.cause = 1 ∧ t.chip.host.mode.scope = 3 ∧ t.chip.host.booted = false ∧
    t.chip.host.sec.authKeys = s.chip.host.sec.authKeys ∧
    (bad = [] → t.chip.host.blk = HostDie.reset.blk) ∧
    (∀ (b : Fin 32) (row : Nat), bad = [(b, row)] → hasSram 0 b = true →
      t.chip.host.blk.getD b {} = (HostDie.reset.blk.getD b {}).repair 0 b row)) ∧
  (∀ (b : Bool) (bad : List (Fin 8 × Fin 32 × Nat)) (s : State), ∃ t, exec (.vinfPowerOn ⟨b, bad⟩) s = .next t ∧ t.chip.host = s.chip.host ∧
    t.chip.field.power.startCause = some (2, 3) ∧ t.chip.field.twin.twinB = b ∧ t.chip.field.twin.role = 0 ∧ t.chip.field.twin.activeN = false ∧
    t.chip.field.power.phase = .waiting ∧ t.chip.field.power.dom.rows = [.good, .off, .off, .off, .off, .off, .off, .off]) ∧
  (∀ s : State, ∃ t, exec .vinhFall s = .next t ∧ t.chip.field = s.chip.field ∧ t.chip.host.power.vinh = false ∧
    t.chip.host.power.dom.rows = [.off, .off, .off, .off]) ∧
  (∀ s : State, ∃ t, exec .vinfFall s = .next t ∧ t.chip.host = s.chip.host ∧ t.chip.field.power.vinf = false ∧
    t.chip.field.power.phase = .unpowered ∧ t.chip.field.power.dom.rows = List.replicate 8 .off ∧ t.chip.field.twin.activeN = false) ∧
  (∀ s : State, ∃ t, exec .wakeNFall s = .next t ∧ t.chip.field = s.chip.field ∧ t.chip.host.power.asleep = false ∧
    t.chip.host.fcm.arisen = s.chip.host.fcm.arisen ++
      (if s.chip.host.power.asleep then [{ tb := s.chip.host.htb, fine := 0xFFFF, src := 10, code := 3 }] else [])) ∧
  (∀ s : State, ∃ t, exec .deadManRelease s = .next t ∧ t.chip.host = s.chip.host ∧ t.chip.field.twin.activeN = false ∧
    t.chip.field.driving = false ∧ t.chip.field.brk.pfwLand = Tab.fill 8 false ∧ t.chip.field.brk.thrLand = Tab.fill 8 false ∧
    (∀ x ∈ t.chip.field.slot.rows, x.port.tx = false) ∧
    { t.chip.field with
      twin := s.chip.field.twin, brk := s.chip.field.brk, slot := s.chip.field.slot, bar := s.chip.field.bar } = s.chip.field) ∧
  (∀ s : State, ∃ t, exec (.domainStep .host) s = .next t ∧ t.chip.field = s.chip.field ∧
    (s.chip.host.power.vinh → ¬ s.chip.host.power.marchFailed → ¬ s.chip.host.power.asleep →
      ∀ i, nextDomain (fun _ => true) s.chip.host.power.dom.rows = some i →
        t.chip.host.power.dom = s.chip.host.power.dom.modifyNat i (fun _ => .good))) ∧
  (∀ s : State, ∃ t, exec (.domainStep .field) s = .next t ∧ t.chip.host = s.chip.host ∧
    (s.chip.field.power.vinf → ¬ s.chip.field.power.marchFailed →
      ∀ i, nextDomain s.chip.variant.hasDomain s.chip.field.power.dom.rows = some i →
        t.chip.field.power.dom = s.chip.field.power.dom.modifyNat i (fun _ => .good))) ∧
  (∀ s : State, ∃ t, exec (.domainFail .host) s = .next t ∧ t.chip.field = s.chip.field ∧
    ∀ i, nextDomain (fun _ => true) s.chip.host.power.dom.rows = some i →
      t.chip.host.power.marchFailed = true ∧ t.chip.host.booted = false ∧
      ∀ j, j < 4 → t.chip.host.power.dom.getD j .off =
        if j = i then .failed else if j = 0 then s.chip.host.power.dom.getD 0 .off else .off) ∧
  (∀ s : State, ∃ t, exec (.domainFail .field) s = .next t ∧
    ∀ i, nextDomain s.chip.variant.hasDomain s.chip.field.power.dom.rows = some i →
      t.chip.field.power.marchFailed = true ∧
      (∀ j, 0 < j → j < 8 → t.chip.field.power.dom.getD j .off = if j = i then .failed else .off) ∧
      t.chip.host.fcm.arisen = s.chip.host.fcm.arisen ++ [{ tb := s.chip.host.htb, fine := 0xFFFF, src := 8, code := 1, value := 4 + i }]) ∧
  (∀ (s : State) (side : Side), s.chip.host.power.marchFailed = true → s.chip.field.power.marchFailed = true →
    exec (.domainStep side) s = .next s)

/-- R5: CAP0 and CAP1 are laid out as Tables 00-2 and 00-3 say, IDENTIFY returns both in its RESULT, and the window holds both, read-only, at
0x0004 and 0x0008 (18 Table 18-2). -/
def Obligations.CapabilityWordsAreReported : Prop :=
  (∀ v : Variant,
    bits 31 24 v.cap0 = (match v with | .fls6480 => 0x80 | .fls6440 => 0x40 | .fls6420 => 0x20) ∧ bits 23 16 v.cap0 = 0xB0 ∧
    bits 15 12 v.cap0 = (match v with | .fls6480 => 0xF | .fls6440 => 0x3 | .fls6420 => 0x1) ∧
    v.cap0.getLsbD 11 = (v == .fls6480) ∧ v.cap0.getLsbD 10 = (v == .fls6480) ∧ v.cap0.getLsbD 9 = true ∧ bits 8 0 v.cap0 = 0) ∧
  (bits 31 24 cap1 = 3 ∧ bits 23 16 cap1 = 2 ∧ bits 15 8 cap1 = 0x0C ∧ bits 7 0 cap1 = 7) ∧
  (∀ (r : Request) (s : State), hostTakes cmdIdentify r s → ∃ t x, exec (.identify r) s = .next t ∧ hostOnly s t ∧ hostAnswers s t r .ok x ∧
    x % 2 ^ 32 = s.chip.variant.cap0.toNat ∧ x / 2 ^ 32 = cap1.toNat ∧ x < 2 ^ 64) ∧
  (∀ s : State, s.chip.host.listens = true → s.chip.host.power.link = .qspi →
    ∃ t u, exec (.qspiRead 0x0004 1) s = .next t ∧ exec (.qspiRead 0x0008 1) s = .next u ∧
      t.chip.readData = [s.chip.variant.cap0] ∧ u.chip.readData = [cap1] ∧ t.chip.host = s.chip.host ∧ u.chip.host = s.chip.host) ∧
  (∀ (w : Word) (s : State), s.chip.host.hif.doorbells = [] → exec (.qspiWrite 0x0004 [w]) s = .next s ∧ exec (.qspiWrite 0x0008 [w]) s = .next s)

/-- R8: a command with UNIT from 128 to 254, or with 0xFF where it needs a unit, completes with BAD_PARAM on the side that executes it once the
checks before the unit have passed, and 0xFF is the unit of the commands that act on the device as a whole. -/
def Obligations.UnitsThatNameNoneAreBadParameters : Prop :=
  (∀ (c : FCmd) (r : Request) (s : State), r.atTick = false → s.chip.host.listens = true → r.silent = false → r.peer = false →
    tokenBad (c.auth { r with opcode := c.code }) { r with opcode := c.code } = false → s.chip.host.stor.recovery = false →
    s.chip.field.running = true → r.epoch = s.chip.field.twin.epoch → s.chip.field.isStandby = false →
    (128 ≤ r.unit ∧ r.unit ≤ 254) ∨ (c.unit ≠ .none ∧ r.unit = 0xFF) →
    fieldAnswers s (s.field c r) r .badParam 0 ∧ { (s.field c r).chip.field with bar := s.chip.field.bar } = s.chip.field ∧
      { (s.field c r).chip.host with hif := s.chip.host.hif } = s.chip.host) ∧
  (∀ (c : HCmd) (r : Request) (s : State), s.chip.host.listens = true → r.silent = false →
    tokenBad (c.auth (s.chip.host.accept { r with opcode := c.code }) { r with opcode := c.code }) { r with opcode := c.code } = false →
    s.chip.host.stor.recovery = false → r.epoch = s.chip.host.mode.epoch → s.chip.host.standby = false →
    128 ≤ r.unit → r.unit ≤ 254 →
    hostAnswers s (s.host c r) r .badParam 0 ∧ (s.host c r).chip.field = s.chip.field ∧
      { (s.host c r).chip.host with hif := s.chip.host.hif } = s.chip.host) ∧
  (∀ (c : FCmd) (v : Variant), c.unit = .none → ∀ u, unitStatus v c.unit u = none ↔ u = 0xFF) ∧
  (∀ (c : HCmd) (r : Request) (s : State), admitH s.chip.variant s.chip.host c r = none → r.unit = 0xFF)

/-- Resets and WINTER (02 R63 to R67, 01 R18, R44): the cause and scope that each reset records, a field reset's with the next heartbeat (log entry
88), what region H keeps through its reset and F_AON through a field start, and what entering WINTER ends; an entry without a cause chosen does
nothing. -/
def Obligations.ResetsRecordTheirCause : Prop :=
  (∀ s : State, ∃ t, exec .hrstNAssert s = .next t ∧ regionWasReset s t 3 1 ∧ t.chip.host.fcm.arisen = []) ∧
  (∀ s : State, ∃ t, exec .hostWatchdog s = .next t ∧ regionWasReset s t 4 1 ∧
    t.chip.host.fcm.arisen = [{ tb := s.chip.host.htb, fine := 0xFFFF, src := 0, code := 1 }]) ∧
  (∀ s : State, ∃ t, exec .hpcLockstepMismatch s = .next t ∧ regionWasReset s t 5 1 ∧
    t.chip.host.fcm.arisen = [{ tb := s.chip.host.htb, fine := 0xFFFF, src := 1, code := 1 }]) ∧
  (∀ s : State, ∃ t, exec .hRegionReset s = .next t ∧
    (s.chip.host.resetIn.isSome = true → regionWasReset s t 6 1 ∧ t.chip.host.resetIn = none) ∧
    (s.chip.host.resetIn = none → t = s)) ∧
  (∀ s : State, ∃ t, exec .chipReset s = .next t ∧
    (s.chip.field.chipCause = none → t = s) ∧
    ∀ c, s.chip.field.chipCause = some c → fieldStarted s t ∧ t.chip.host.booted = false ∧
      t.chip.host.mode.cause = c ∧ t.chip.host.mode.scope = 2 ∧ t.chip.host.blk = HostDie.reset.blk ∧ t.chip.field.power.startCause = none ∧
      t.chip.host.mode.chipResets = min (s.chip.host.mode.chipResets + 1) 65535) ∧
  (∀ s : State, ∃ t, exec .fieldReset s = .next t ∧
    (s.chip.field.fieldResetDue = false → t = s) ∧
    (s.chip.field.fieldResetDue = true → fieldStarted s t ∧ t.chip.host = s.chip.host ∧ t.chip.field.power.startCause = some (9, 3))) ∧
  (∀ s : State, ∃ t, exec .winterEntry s = .next t ∧ t.chip.host = s.chip.host ∧
    (s.chip.field.power.pendWinter = none → t = s) ∧
    ∀ e, s.chip.field.power.pendWinter = some e →
      t.chip.field.power.winter = true ∧ t.chip.field.power.pendWinter = none ∧ t.chip.field.power.pendReset = none ∧
      t.chip.field.twin.activeN = false ∧ t.chip.field.twin.inStep = false ∧ t.chip.field.twin.twinned = false ∧
      t.chip.field.driving = false ∧
      (∀ x ∈ t.chip.field.slot.rows, x.port.sending = none ∧ x.port.tx = false ∧ x.port.queue = []) ∧
      t.chip.field.branch = s.chip.field.branch ∧ t.chip.field.volt = s.chip.field.volt ∧
      ∀ x ∈ t.chip.field.tick.schedule, winterOk x.req.opcode (16 ≤ x.req.opcode % 256) = true)

/-- Tick synchronisation (03 R93 to R95): what a pulse within ±1,000 cycles gives, when LOCKED sets, and what a loss of lock does. The trim law
is the model's free value within its range (log entry 12). -/
def Obligations.TickSyncLocksAndLoses : Prop :=
  (∀ (p : Int) (s : State), ∃ t, exec (.tickSyncInPulse p) s = .next t ∧ fieldOnly s t ∧
    (s.chip.field.takesPulse = true → p.natAbs ≤ 1000 →
      t.chip.field.tick.phaseErr = p ∧ t.chip.field.tick.missing = 0 ∧
      t.chip.field.tick.goodEdges = (if p.natAbs ≤ 20 then min 16 (s.chip.field.tick.goodEdges + 1) else 0) ∧
      t.chip.field.tick.badEdges = (if p.natAbs ≤ 20 then 0 else min 4 (s.chip.field.tick.badEdges + 1)) ∧
      -100 ≤ t.chip.field.tick.trim ∧ t.chip.field.tick.trim ≤ 100 ∧ t.chip.field.tick.locked = s.chip.field.tick.locked) ∧
    (s.chip.field.takesPulse = false ∨ 1000 < p.natAbs → t = s)) ∧
  (∀ s : State, ∃ t, exec .tickSyncLocked s = .next t ∧ fieldOnly s t ∧
    t.chip.field.tick = { s.chip.field.tick with locked := s.chip.field.tick.locked || (s.chip.field.running &&
      s.chip.field.twin.cfg.pairEn && s.chip.field.twin.twinB && decide (16 ≤ s.chip.field.tick.goodEdges)) }) ∧
  (∀ s : State, ∃ t, exec .tickSyncLoss s = .next t ∧ fieldOnly s t ∧
    (s.chip.field.running = true → s.chip.field.twin.twinB = true → s.chip.field.tick.locked = true →
      4 ≤ s.chip.field.tick.badEdges ∨ 4 ≤ s.chip.field.tick.missing →
      t.chip.field.tick.locked = false ∧ t.chip.field.tick.lossCnt = min (s.chip.field.tick.lossCnt + 1) 65535 ∧
      fieldEvent s 42 1 ∈ t.chip.field.fcol.arisen ∧
      (s.chip.field.isStandby = true → t.chip.field.twin.inStep = false)) ∧
    (s.chip.field.tick.locked = false → t = s))

/-- The tick (03 R72 to R79, R91; 05 R130, R135; 12 R308): an edge counts TB on and acts on what the last tick committed, in the order banks, due
commands, new tick with its marks; outside a running field it only moves the clocks of region H and the slots of the barrier. The later events of a
tick act at their own fine times: the downlinks at 7,840, the guard phase at 9,376, the lands at 9,600, the commit deadline at 9,900. -/
def Obligations.TickEventsInTheirOrder : Prop :=
  (∀ (x : Samples) (m : BitVec 8) (s : State), ∃ t, exec (.tickEdge x m) s = .next t ∧ t.chip.host = s.chip.host.edge ∧
    (s.chip.field.running = false → t.chip.field = { s.chip.field with bar := { s.chip.field.bar with crossed := [], dropped := false } }) ∧
    (s.chip.field.running = true → t.chip.field =
      ((((s.chip.field.edgeStart s.chip.variant x).swapBanks s.chip.variant).applyAll s.chip.variant s.chip.field.tick.staging.hostPath).beginTick
        s.chip.variant).markSeen s.chip.variant m)) ∧
  (∀ (v : Variant) (f : FieldDie) (x : Samples), f.twin.adopt = false →
    (f.edgeStart v x).tick.tb = f.tick.tb + 1 ∧ (f.edgeStart v x).tick.fine = 0 ∧ (f.edgeStart v x).tick.syncOut = true ∧
    (f.edgeStart v x).tick.ranThisTick = false ∧ (f.edgeStart v x).tick.overran = false ∧
    (f.edgeStart v x).tick.staging = f.tick.staging ∧ (f.edgeStart v x).tick.schedule = f.tick.schedule) ∧
  (∀ (v : Variant) (f : FieldDie), (f.swapBanks v).tick = { f.tick with staging := {} } ∧
    ∀ k, k < v.slots → f.tick.staging.battery.getD (slotQuad k) false = false →
      (f.tick.staging.contract.getD (slotQuad k) false = false → f.tick.staging.weights.getD (slotQuad k) false = false →
        (f.swapBanks v).sl k = f.sl k) ∧
      (f.tick.staging.contract.getD (slotQuad k) false = false → f.tick.staging.weights.getD (slotQuad k) false = true →
        ((f.swapBanks v).sl k).ctx = { (f.sl k).ctx with wgt := if (f.sl k).ctx.wovr then (f.sl k).ctx.wgt else (f.sl k).ctx.weightNext }) ∧
      (f.tick.staging.contract.getD (slotQuad k) false = true →
        ((f.swapBanks v).sl k).ctx.member = decide ((f.sl k).bank.sess.state = 5))) ∧
  (∀ (v : Variant) (f : FieldDie), f.applyAll v false = f ∧
    ((∀ x ∈ f.tick.schedule, f.tick.tb < x.apply) → f.applyAll v true = f) ∧
    ∀ x : Sched, f.tick.schedule = [x] → x.apply ≤ f.tick.tb →
      f.applyAll v true = ({ f with tick := { f.tick with schedule := [] } }).applyDue v x) ∧
  (∀ (v : Variant) (f : FieldDie) (n : Fin 8), ((f.markSend v).tbus n.val).markSent = (f.driving && f.busUp v n.val)) ∧
  (∀ (late : BitVec 13) (s : State), ∃ t, exec (.stagingCommitDeadline late) s = .next t ∧ fieldOnly s t ∧
    (s.chip.field.running = false → t = s) ∧
    (s.chip.field.running = true →
      (late.getLsbD 12 = true → t.chip.field.tick.staging.hostPath = false) ∧
      (late.getLsbD 12 = false → t.chip.field.tick.staging.hostPath = true) ∧ t.chip.field.tick.fine = 9900 ∧
      (late = 0 → (∀ q, q < s.chip.variant.quads → s.chip.field.qcUp q = true) →
        t.chip.field.tick.lateBanks = 0 ∧ ∀ q, q < s.chip.variant.quads →
          t.chip.field.tick.staging.contract.getD q false = true ∧ t.chip.field.tick.staging.battery.getD q false = true) ∧
      (∀ q : Fin 4, q.val < s.chip.variant.quads → late.getLsbD q.val = true →
        t.chip.field.tick.staging.contract.getD q.val true = false ∧
        { tb := s.chip.field.tick.tb, fine := 9900, src := 37, code := 1, value := q.val } ∈ t.chip.field.fcol.arisen) ∧
      ∀ k, k < s.chip.variant.slots → s.chip.field.qcUp (slotQuad k) = true →
        (t.chip.field.sl k).bank.sess = (s.chip.field.sl k).sess)) ∧
  (∀ (b : BitVec 8) (s : State), ∃ t, exec (.downlinkSend b) s = .next t ∧ fieldOnly s t ∧
    (s.chip.field.running = false → t = s) ∧
    (s.chip.field.running = true → t.chip.field.tick.fine = 7840 ∧
      (∀ n : Fin 8, (t.chip.field.tbus n.val).sent = s.chip.field.downlinkOut s.chip.variant n.val) ∧
      (s.chip.field.driving = true → ∀ k, k < s.chip.variant.slots →
        (t.chip.field.sl k).landSrcN = (s.chip.field.sl k).srcN ∧ (t.chip.field.sl k).landHigh = (s.chip.field.sl k).high) ∧
      (s.chip.field.driving = false → t.chip.field.slot = s.chip.field.slot))) ∧
  (∀ (v : Variant) (f : FieldDie) (n : Nat), f.isStandby = false →
    (f.driving = false ∨ f.busUp v n = false → f.downlinkOut v n = []) ∧
    (f.driving = true → f.busUp v n = true → f.drillBus = none → f.disp.blind = false → f.downlinkOut v n = f.downlink v n false)) ∧
  (∀ (d : Option Nat) (fb : BitVec 32) (s : State), ∃ t, exec (.guardPhase d fb) s = .next t ∧ fieldOnly s t ∧
    (s.chip.field.running = false → t = s) ∧
    (s.chip.field.running = true →
      t.chip.field = (((match d with
        | some w => ((s.chip.field.atCycle 9376).faultJudge).fcolMismatch w
        | none => (s.chip.field.atCycle 9376).faultJudge).digestCompare s.chip.variant).seqGuard s.chip.variant fb).overflowEntry ∧
      t.chip.field.tick.tb = s.chip.field.tick.tb ∧ t.chip.field.tick.fine = 9376 ∧
      (∀ e ∈ t.chip.field.fcol.arisen, e.tb = s.chip.field.tick.tb ∧ 9376 ≤ e.fine) ∧
      (d.isSome = true → t.chip.field.power.pendWinter.isSome = true))) ∧
  (∀ (e : BitVec 12) (s : State), ∃ t, exec (.outputLandUpdate e) s = .next t ∧ fieldOnly s t ∧
    (s.chip.field.running = false → t = s) ∧
    (s.chip.field.running = true → t.chip.field.tick.fine = 9600 ∧ t.chip.field.recf.hits = [] ∧
      (s.chip.field.leavesRole = true → t.chip.field.driving = false ∧
        t.chip.field.brk.pfwLand = Tab.fill 8 false ∧ t.chip.field.brk.thrLand = Tab.fill 8 false) ∧
      (∀ b, b < s.chip.variant.branches → (t.chip.field.br b).on = ((s.chip.field.br b).onCmd && !(s.chip.field.br b).latch)) ∧
      (s.chip.field.leavesRole = false → ∀ g, g < 8 →
        t.chip.field.brk.pfwLand.getD g false =
          (s.chip.field.driving && decide (g < s.chip.variant.groups) && s.chip.field.pfwWanted s.chip.variant g) ∧
        t.chip.field.brk.thrLand.getD g false =
          (s.chip.field.driving && decide (g < s.chip.variant.groups) && s.chip.field.cap.thr.getD g false))) ∧
    (s.chip.field.running = true → ∀ q : Fin 4, q.val < s.chip.variant.quads → ∀ i : Fin 3,
      (t.chip.field.qd q.val).tbe.pass.getD i.val true = !e.getLsbD (3 * q.val + i.val)))

/-- A run of the Dispatcher (06 R153, R168, R171; 03 R73): at most one in a tick, within its deadline; RESID is what the allocations leave of
the demand, the runs of shortfall and surplus follow it, and the tick records its length. -/
def Obligations.DispatchRunCommitsItsResult : Prop :=
  ∀ (n : Nat) (s : State), ∃ t, exec (.dispatchRun n) s = .next t ∧ fieldOnly s t ∧
    ((s.chip.field.runs = false ∨ s.chip.field.tick.ranThisTick = true ∨ s.chip.field.tick.overran = true ∨ 1920 < n) → t = s) ∧
    (s.chip.field.runs = true → s.chip.field.tick.ranThisTick = false → s.chip.field.tick.overran = false → n ≤ 1920 →
      t.chip.field.tick.ranThisTick = true ∧ t.chip.field.tick.repeatRun = 0 ∧ t.chip.field.tick.dispLast = n ∧
      t.chip.field.tick.dispMax = max s.chip.field.tick.dispMax n ∧
      t.chip.field.disp.resid = satI 32 (t.chip.field.disp.iDemand - t.chip.field.disp.sAlloc - t.chip.field.disp.tAlloc) ∧
      t.chip.field.disp.cfg = s.chip.field.disp.cfg ∧
      t.chip.field.disp.posRun = runUp 40 (decide (0 < t.chip.field.disp.resid)) s.chip.field.disp.posRun ∧
      t.chip.field.disp.negRun = runUp 40 (decide (t.chip.field.disp.resid < 0)) s.chip.field.disp.negRun)

/-- The fill of R166 and R167: every unit that it moves ends inside its bounds, the others keep their value, and the sum answered is the sum of
the group. -/
def Obligations.FillStaysInBounds : Prop :=
  ∀ (r : Role) (ls : List UnitLane) (target : Int), (∀ l ∈ ls, l.lo ≤ l.hi) → (ls.map (·.k)).Nodup →
    (fill r ls target).1.length = ls.length ∧
    (fill r ls target).2.2 = ((fill r ls target).1.filter (fun l => l.role == r)).foldl (fun a l => a + l.x) 0 ∧
    ∀ (i : Nat) (l m : UnitLane), ls[i]? = some l → (fill r ls target).1[i]? = some m →
      m = { l with x := m.x } ∧ (l.free r = false → m = l) ∧ (l.free r = true → l.lo ≤ m.x ∧ m.x ≤ l.hi)

/-- Wear and weights (06 R172, R173, R175): the second's sums close only in its last tick, STRESS never falls, and the weights bank commits. -/
def Obligations.WearClosesItsSecond : Prop :=
  (∀ (q : Fin 4) (s : State), ∃ t, exec (.wearAccumulate q) s = .next t ∧ fieldOnly s t ∧
    (s.chip.field.tick.tb % 40000 ≠ 39999 ∨ s.chip.field.runs = false → t = s) ∧
    (s.chip.field.tick.tb % 40000 = 39999 → s.chip.field.runs = true →
      ∀ i : Fin 24, (t.chip.field.sl (24 * q.val + i.val)).wear.samples = 0 ∧ (t.chip.field.sl (24 * q.val + i.val)).wear.sumI = 0 ∧
        ((s.chip.field.sl (24 * q.val + i.val)).wear.stress < 2 ^ 64 →
          (s.chip.field.sl (24 * q.val + i.val)).wear.stress ≤ (t.chip.field.sl (24 * q.val + i.val)).wear.stress) ∧
        (t.chip.field.sl (24 * q.val + i.val)).wear.stress =
          min ((s.chip.field.sl (24 * q.val + i.val)).wear.stress + FieldDie.wearDelta s.chip.field.disp.cfg (s.chip.field.sl (24 * q.val + i.val))) (2 ^ 64 - 1))) ∧
  (∀ (q : Fin 4) (s : State), ∃ t, exec (.weightBankCommit q) s = .next t ∧ fieldOnly s t ∧
    (s.chip.field.tick.tb % 40000 ≠ 39999 ∨ s.chip.field.runs = false → t = s) ∧
    (s.chip.field.tick.tb % 40000 = 39999 → s.chip.field.runs = true → t.chip.field.tick.staging.weights.getD q.val false = true ∧
      (s.chip.field.disp.cfg.policy = 0 → ∀ k, k < s.chip.variant.slots → slotQuad k = q.val → (s.chip.field.sl k).wear.inSet = true →
        (t.chip.field.sl k).ctx.weightNext = 0x10000) ∧
      ∀ k, slotQuad k ≠ q.val → t.chip.field.sl k = s.chip.field.sl k)) ∧
  (∀ s : State, ∃ t, exec .stressPersist s = .next t ∧ fieldOnly s t ∧ t.chip.field.slot = s.chip.field.slot ∧
    (s.chip.field.tick.tb % 144000000 ≠ 0 ∨ s.chip.field.running = false → t = s) ∧
    (s.chip.field.tick.tb % 144000000 = 0 → s.chip.field.running = true →
      ∀ k, k < s.chip.variant.slots → ∀ ve pr se, (s.chip.field.sl k).ident = some (ve, pr, se) → (s.chip.field.sl k).wear.known = true →
        { type := 1, vendor := ve, product := pr, serial := se, values := [(s.chip.field.sl k).wear.stress, (s.chip.field.sl k).wear.lifeH],
          written := s.chip.field.bar.wall } ∈ t.chip.field.recf.learned))

/-- The barrier's link watch and its regular messages (01 R21 to R27, R46; 02 R51, R65): HOST_LOST and FIELD_LOST after 40 ticks without a valid
heartbeat; a message takes a slot of Table 01-9 that the tick has left; a valid one has its effect at the receiver, a defective one is counted as
dropped, and with no link nothing crosses. The count that a host heartbeat carries is the model's choice (log entry 36), and so is the heartbeat as
the carrier of a field start's cause (log entry 88). -/
def Obligations.HeartbeatsTimeAndLossesCross : Prop :=
  (∀ s : State, ∃ t, exec .hostLost s = .next t ∧ fieldOnly s t ∧
    (s.chip.field.bar.hostLost = false → 40 ≤ s.chip.field.bar.since →
      t.chip.field.bar = { s.chip.field.bar with hostLost := true, lostTicks := 0 } ∧
      t.chip.field.fcol.arisen = s.chip.field.fcol.arisen ++ [fieldEvent s 39 1]) ∧
    (s.chip.field.bar.hostLost = true ∨ s.chip.field.bar.since < 40 → t = s)) ∧
  (∀ s : State, ∃ t, exec .fieldLost s = .next t ∧ hostOnly s t ∧
    (s.chip.host.mode.fieldLost = false → 40 ≤ s.chip.host.bar.since →
      t.chip.host.mode.fieldLost = true ∧ t.chip.host.fcm.arisen = s.chip.host.fcm.arisen ++ [hostEvent s 4 1] ∧
      t.chip.host.mode.mode = t.chip.host.modeOf) ∧
    (s.chip.host.mode.fieldLost = true ∨ s.chip.host.bar.since < 40 → t = s)) ∧
  (∀ s : State, ∃ t, exec .hostLostLimit s = .next t ∧ fieldOnly s t ∧
    (s.chip.field.bar.hostLost = true → s.chip.field.bar.limitRaised = false →
      40 * s.chip.field.cfg.hostLimit ≤ s.chip.field.bar.lostTicks →
      t.chip.field.bar = { s.chip.field.bar with limitRaised := true } ∧
      t.chip.field.fcol.arisen = s.chip.field.fcol.arisen ++ [fieldEvent s 40 1]) ∧
    (s.chip.field.bar.hostLost = false ∨ s.chip.field.bar.limitRaised = true ∨
      s.chip.field.bar.lostTicks < 40 * s.chip.field.cfg.hostLimit → t = s)) ∧
  (∀ (s : State) (b : Bool) (c : MsgClass), s.linked = true → s.chip.field.bar.crossed = [] →
    ((s.slotFor b c).isSome = true ↔ ∃ x ∈ barSlots, x.toHost = b ∧ x.cls = c)) ∧
  (∀ (s : State) (b : Bool) (c : MsgClass) (i : Nat), s.slotFor b c = some i →
    ∃ x, barSlots[i]? = some x ∧ x.toHost = b ∧ x.cls = c ∧ s.chip.field.bar.crossed.count i < x.count) ∧
  (∀ (b : Bool) (c : MsgClass) (payload : List Byte) (arr : Arrival), c.size b = some payload.length →
    (crosses b c payload arr = true ↔ arr = .good)) ∧
  (∀ s : State, (s.slotFor false .heartbeat).isSome = true → ∃ t, exec (.barrierHeartbeatRx false .good) s = .next t ∧
    t.chip.field.bar.since = 0 ∧ t.chip.field.bar.hostCount = s.chip.host.bar.hbCount ∧ t.chip.field.bar.hostLost = false ∧ t.chip.field.bar.hostHealth = s.chip.host.health.toNat ∧
    t.chip.field.recf.frozen = s.chip.host.rech.frozen ∧ t.chip.host.bar.hbCount = (s.chip.host.bar.hbCount + 1) % 2 ^ 32) ∧
  (∀ s : State, (s.slotFor true .heartbeat).isSome = true → ∃ t, exec (.barrierHeartbeatRx true .good) s = .next t ∧
    t.chip.host.bar.tick = s.chip.field.tick.tb % 2 ^ 32 ∧ t.chip.field.power.startCause = none ∧
    (s.chip.field.power.startCause = none → t.chip.host.mode.cause = s.chip.host.mode.cause ∧ t.chip.host.mode.scope = s.chip.host.mode.scope ∧
      t.chip.host.hif.outstanding = s.chip.host.hif.outstanding) ∧
    (∀ c sc, s.chip.field.power.startCause = some (c, sc) → t.chip.host.mode.cause = c ∧ t.chip.host.mode.scope = sc ∧
      t.chip.host.hif.outstanding = s.chip.host.hif.outstanding.filter (fun x =>
        (s.chip.field.bar.completions.map (fun c => (c.queue.val, c.tag))).contains (x.1, x.2.1))) ∧
    t.chip.host.mode.word = s.chip.field.modeStatus ∧ t.chip.host.mode.epoch = s.chip.field.twin.epoch ∧
    t.chip.host.mode.fieldLost = false ∧ t.chip.host.mode.winter = s.chip.field.power.winter ∧ t.chip.host.bar.since = 0 ∧
    t.chip.field.bar.vectors = [] ∧ t.chip.field.bar.timerVec = false) ∧
  (∀ (s : State) (i : Nat), s.slotFor true .timeSync = some i → ∃ t, exec (.barrierTimeSyncRx true .good) s = .next t ∧
    t.chip.field = { s.chip.field with bar := { s.chip.field.bar with crossed := s.chip.field.bar.crossed ++ [i] } } ∧
    t.chip.host = if s.chip.host.mode.fieldLost then s.chip.host else { s.chip.host with htb := s.chip.field.tick.tb }) ∧
  (∀ (s : State) (i : Nat), s.slotFor false .timeSync = some i → ∃ t, exec (.barrierTimeSyncRx false .good) s = .next t ∧ fieldOnly s t ∧
    t.chip.field = { s.chip.field with bar := { s.chip.field.bar with wall := s.chip.host.wall, crossed := s.chip.field.bar.crossed ++ [i] } }) ∧
  (∀ (arr : Arrival) (s : State) (i : Nat), s.slotFor true .timeSync = some i → arr ≠ .good → ∃ t, exec (.barrierTimeSyncRx true arr) s = .next t ∧
    t.chip.field = { s.chip.field with bar := { s.chip.field.bar with crossed := s.chip.field.bar.crossed ++ [i] } } ∧
    t.chip.host.bar.drops = min (s.chip.host.bar.drops + 1) (2 ^ 32 - 1) ∧ t.chip.host.htb = s.chip.host.htb ∧
    t.chip.host.fcm.arisen = s.chip.host.fcm.arisen ++ (if s.chip.host.bar.dropped then [] else [hostEvent s 5 1])) ∧
  (∀ (arr : Arrival) (s : State), (s.slotFor false .timeSync).isSome = true → arr ≠ .good →
    ∃ t, exec (.barrierTimeSyncRx false arr) s = .next t ∧ fieldOnly s t ∧
    t.chip.field.bar.drops = min (s.chip.field.bar.drops + 1) (2 ^ 32 - 1) ∧ t.chip.field.bar.wall = s.chip.field.bar.wall ∧
    t.chip.field.fcol.arisen = s.chip.field.fcol.arisen ++ (if s.chip.field.bar.dropped = true ∨ s.chip.field.running = false then [] else [fieldEvent s 38 1])) ∧
  (∀ (b : Bool) (arr : Arrival) (s : State), s.linked = false →
    exec (.barrierHeartbeatRx b arr) s = .next s ∧ exec (.barrierTimeSyncRx b arr) s = .next s)

/-- Commands and completions over the barrier (01 R44, 03 R86 to R89, 18 R463, R466): a forwarded command that passes its checks waits for its apply
tick, its own or two ticks on, and one whose own is out of range ends with BAD_PARAM; a completion that region H awaits joins its queue with the share
that region H had done, and one whose host is lost, or reset and not yet heard, waits. -/
def Obligations.CommandsCrossAndReturn : Prop :=
  (∀ (s : State) (r : Request) (rest : List Request) (c : FCmd), (s.slotFor false .cmdForward).isSome = true →
    s.chip.host.bar.forward = r :: rest → r.atTick = true → fieldCmd r.opcode = some c → r.silent = false → r.peer = false →
    admitF s.chip.variant s.chip.field c { r with arrival := s.chip.field.tick.tb } = none →
    ∃ t, exec (.cmdForwardRx .good) s = .next t ∧ t.chip.host.bar.forward = rest ∧
      (r.applyTick < s.chip.field.tick.tb + 2 ∨ s.chip.field.tick.tb + 4000000 < r.applyTick →
        t.chip.field.tick.schedule = s.chip.field.tick.schedule ∧
        t.chip.field.bar.completions = s.chip.field.bar.completions ++
          [{ queue := r.queue, tag := r.tag, status := .badParam, result := 0, epoch := s.chip.field.twin.epoch }]) ∧
      (s.chip.field.tick.tb + 2 ≤ r.applyTick → r.applyTick ≤ s.chip.field.tick.tb + 4000000 →
        (s.chip.field.power.winter = true → winterOk r.opcode c.ro = true) →
        (s.chip.field.tick.schedule.length < 64 → t.chip.field.tick.schedule = s.chip.field.tick.schedule ++
          [{ req := { r with arrival := s.chip.field.tick.tb }, apply := r.applyTick, arrival := s.chip.field.tick.tb }]) ∧
        (64 ≤ s.chip.field.tick.schedule.length → t.chip.field.tick.schedule = s.chip.field.tick.schedule ∧
          t.chip.field.bar.completions = s.chip.field.bar.completions ++
            [{ queue := r.queue, tag := r.tag, status := .full, result := 0, epoch := s.chip.field.twin.epoch }]))) ∧
  (∀ (s : State) (r : Request) (rest : List Request) (c : FCmd), (s.slotFor false .cmdForward).isSome = true → s.chip.host.bar.forward = r :: rest →
    fieldCmd r.opcode = some c → r.atTick = false → s.chip.field.tick.schedule.length < 64 →
    (s.chip.field.power.winter = true → winterOk r.opcode c.ro = true) →
    admitF s.chip.variant s.chip.field c { r with arrival := s.chip.field.tick.tb, applyTick := s.chip.field.tick.tb + 2 } = none →
    ∃ t, exec (.cmdForwardRx .good) s = .next t ∧ t.chip.host.bar.forward = rest ∧
      t.chip.field.bar.completions = s.chip.field.bar.completions ∧
      t.chip.field.tick.schedule = s.chip.field.tick.schedule ++
        [{ req := { r with arrival := s.chip.field.tick.tb, applyTick := s.chip.field.tick.tb + 2 }, apply := s.chip.field.tick.tb + 2,
           arrival := s.chip.field.tick.tb }]) ∧
  (∀ (s : State) (c : Completion) (rest : List Completion) (share : Nat), (s.slotFor true .cmdComplete).isSome = true →
    s.chip.field.bar.completions = c :: rest → s.chip.field.bar.hostLost = false → s.chip.host.heldSince.isSome = true → c.data = [] → c.peer = false → s.chip.host.cfg.pushing = none →
    s.chip.host.awaited c = some (c.queue.val, c.tag, share) →
    ∃ t, exec (.cmdCompleteRx .good) s = .next t ∧ t.chip.field.bar.completions = rest ∧
      t.chip.host.hif.outstanding = s.chip.host.hif.outstanding.erase (c.queue.val, c.tag, share) ∧
      (t.chip.host.hif.queues.get c.queue).waiting = (s.chip.host.hif.queues.get c.queue).waiting ++
        [{ c with result := (c.result + share) % 2 ^ 64 }]) ∧
  (∀ (arr : Arrival) (s : State), s.chip.host.bar.forward = [] ∨ s.linked = false → exec (.cmdForwardRx arr) s = .next s) ∧
  (∀ (arr : Arrival) (s : State), s.chip.field.bar.completions = [] ∨ s.chip.field.bar.hostLost = true ∨ s.chip.host.heldSince = none → exec (.cmdCompleteRx arr) s = .next s)

/-- The other streams of the barrier (01 R26, R27; 16 R416, R423; 18 R468; 19 R490; 17 R447): the head of what waits crosses, and nothing moves
while nothing waits. -/
def Obligations.StreamsCrossHeadFirst : Prop :=
  (∀ (s : State) (e : Entry) (rest : List Entry), (s.slotFor true .event).isSome = true → s.chip.field.bar.events = e :: rest → s.chip.field.bar.episode = none →
    ∃ t, exec (.barrierEventRx .good) s = .next t ∧ t.chip.field.bar.events = rest ∧ t.chip.host.fcm.lastSrc = e.ev.src ∧
      (s.chip.host.hif.evqEn = true → (s.chip.host.hif.evqTail + 1) % 2 ^ s.chip.host.hif.evqLog2 ≠ s.chip.host.hif.evqHead →
        t.chip.host.hif.evqTail = (s.chip.host.hif.evqTail + 1) % 2 ^ s.chip.host.hif.evqLog2 ∧
        t.chip.host.hif.mem = memWriteAll s.chip.host.hif.mem (s.chip.host.hif.evqBase + 16 * s.chip.host.hif.evqTail) e.bytes)) ∧
  (∀ (s : State), (s.slotFor true .telemetry).isSome = true → s.chip.field.running = true → s.chip.field.bar.telemetry ≠ [] →
    ∃ t, exec (.telemetryRx .good) s = .next t ∧
      (s.chip.field.tick.tb % 40 = 0 → t.chip.host.bar.parts = [(0, slice 0 240 s.chip.field.bar.telemetry)]) ∧
      (s.chip.field.tick.tb % 40 ≠ 0 → s.chip.host.bar.partsOf ≠ s.chip.field.tick.tb / 40 ∨ s.chip.host.bar.parts.length ≠ s.chip.field.tick.tb % 40 →
        t.chip.host.bar.parts = [] ∧ t.chip.host.bar.telemetry = s.chip.host.bar.telemetry) ∧
      (s.chip.field.tick.tb % 40 = 39 → s.chip.host.bar.partsOf = s.chip.field.tick.tb / 40 → s.chip.host.bar.parts.length = 39 → t.chip.host.bar.parts = [] ∧
        t.chip.host.bar.telemetry = (s.chip.host.bar.parts.flatMap (·.2)) ++ slice 9360 240 s.chip.field.bar.telemetry)) ∧
  (∀ (s : State) (r : Record) (rest : List Record), (s.slotFor true .recSnapshot).isSome = true → s.chip.field.bar.hostLost = false →
    s.chip.field.recf.queue = r :: rest → r.missed = 0 → r.req = none → s.chip.host.rech.frozen = false → s.chip.host.rech.full = false →
    s.chip.host.rech.buffer.length < 1024 →
    ∃ t, exec (.recSnapshotRx .good) s = .next t ∧ t.chip.field.recf.queue = rest ∧
      t.chip.host.rech.nextSeq = (s.chip.host.rech.nextSeq + 1) % 2 ^ 32 ∧
      ∃ x : Record, x.seq = s.chip.host.rech.nextSeq ∧ x.type = r.type ∧ x.kind = r.kind ∧ x.entry = r.entry ∧
        t.chip.host.rech.buffer = s.chip.host.rech.buffer ++ [x]) ∧
  (∀ (s : State) (k : Nat) (x : Trace) (rest : List (Nat × Trace)), (s.slotFor true .traceBlock).isSome = true → s.chip.field.bar.hostLost = false →
    s.chip.field.recf.held = (k, x) :: rest → s.chip.field.recf.sendOff + 72 < traceSize →
    s.chip.host.rech.incoming.length = s.chip.field.recf.sendOff →
    ∃ t, exec (.traceBlockRx .good) s = .next t ∧ t.chip.field.recf.sendOff = s.chip.field.recf.sendOff + 72 ∧
      t.chip.host.rech.incoming = s.chip.host.rech.incoming ++ slice s.chip.field.recf.sendOff 72 x.bytes) ∧
  (∀ (s : State) (p : Push) (rest : List Push), (s.slotFor false .configPush).isSome = true → s.chip.host.bar.push = p :: rest → p.learned = [] →
    ∃ t, exec (.configPushRx .good) s = .next t ∧ t.chip.host.bar.push = rest ∧
      t.chip.field.cfg.pushed = overlay p.offset p.bytes (if p.offset = 0 then [] else s.chip.field.cfg.pushed) ∧
      t.chip.field.cfg.pushGen = p.gen ∧ t.chip.field.cfg.loaded = s.chip.field.cfg.loaded) ∧
  (∀ (s : State) (b : List Byte) (rest : List (List Byte)) (ok : Bool), (s.slotFor false .fwBlock).isSome = true → s.chip.field.waits s.chip.variant = true →
    s.chip.host.bar.blocks = b :: rest →
    ∃ t, exec (.fwBlockRx .good ok) s = .next t ∧
      (rest ≠ [] → t.chip.host.bar.blocks = rest ∧ t.chip.field.power.load = s.chip.field.power.load ++ [b]) ∧
      (rest = [] → ok = true → s.chip.field.power.load ++ [b] = s.chip.host.stor.loadBlocks →
        t.chip.field.power.ready = true ∧ t.chip.field.power.load = [] ∧ t.chip.host.stor.loading = false ∧
        t.chip.host.stor.fieldLoaded = true) ∧
      (rest = [] → ok = false → t.chip.field.power.ready = s.chip.field.power.ready)) ∧
  (∀ (arr : Arrival) (s : State), s.linked = false → exec (.barrierEventRx arr) s = .next s ∧ exec (.telemetryRx arr) s = .next s ∧
    exec (.recSnapshotRx arr) s = .next s ∧ exec (.traceBlockRx arr) s = .next s ∧ exec (.configPushRx arr) s = .next s)

/-- The Dispatcher's own events (06 R158, R161, R168; 03 R73, R74), each on the count that its rule names, and the commands of group 0x20 (06
R163, R174, R178, R179; 07 R187). -/
def Obligations.DispatcherCountsAndCommands : Prop :=
  (∀ s : State, ∃ t, exec .dispatchBlind s = .next t ∧ fieldOnly s t ∧
    (s.chip.field.disp.invalidRun = 40 → s.chip.field.disp.blind = false →
      t.chip.field.disp.blind = true ∧ t.chip.field.fcol.arisen = s.chip.field.fcol.arisen ++ [fieldEvent s 192 1]) ∧
    (s.chip.field.disp.invalidRun ≠ 40 ∨ s.chip.field.disp.blind = true → t = s)) ∧
  (∀ s : State, ∃ t, exec .blindExit s = .next t ∧ fieldOnly s t ∧
    (s.chip.field.disp.validRun = 40 → s.chip.field.disp.blind = true →
      t.chip.field.disp.blind = false ∧ t.chip.field.disp.integ = 0 ∧ t.chip.field.disp.vsetEff = s.chip.field.disp.cfg.vsetTgt ∧
      t.chip.field.grid.gRef = s.chip.field.supplyIout s.chip.variant * 2 ^ 16) ∧
    (s.chip.field.disp.validRun ≠ 40 ∨ s.chip.field.disp.blind = false → t = s)) ∧
  (∀ s : State, ∃ t, exec .poleImbalance s = .next t ∧ fieldOnly s t ∧ t.chip.field.disp.imbRun =
      (if s.chip.field.disp.imbRun = 40 then 41 else s.chip.field.disp.imbRun) ∧
    t.chip.field.fcol.arisen = s.chip.field.fcol.arisen ++ (if s.chip.field.disp.imbRun = 40 then [fieldEvent s 195 1] else [])) ∧
  (∀ s : State, ∃ t, exec .dispatchShortfall s = .next t ∧ fieldOnly s t ∧ t.chip.field.disp.posRun =
      (if s.chip.field.disp.posRun = 40 then 41 else s.chip.field.disp.posRun) ∧
    t.chip.field.fcol.arisen = s.chip.field.fcol.arisen ++ (if s.chip.field.disp.posRun = 40 then [fieldEvent s 193 1] else [])) ∧
  (∀ s : State, ∃ t, exec .dispatchSurplus s = .next t ∧ fieldOnly s t ∧ t.chip.field.disp.negRun =
      (if s.chip.field.disp.negRun = 40 then 41 else s.chip.field.disp.negRun) ∧
    t.chip.field.fcol.arisen = s.chip.field.fcol.arisen ++ (if s.chip.field.disp.negRun = 40 then [fieldEvent s 193 2] else [])) ∧
  (∀ s : State, ∃ t, exec .tickOverrun s = .next t ∧ fieldOnly s t ∧
    (s.chip.field.tick.ranThisTick = false → s.chip.field.tick.overran = false → s.chip.field.runs = true →
      t.chip.field.tick.overran = true ∧ t.chip.field.tick.dispLast = 0xFFFF ∧
      t.chip.field.tick.overrunCnt = min (s.chip.field.tick.overrunCnt + 1) 65535 ∧
      t.chip.field.tick.repeatRun = min (s.chip.field.tick.repeatRun + 1) 255 ∧
      t.chip.field.slot = (s.chip.field.closeUplinks s.chip.variant).slot ∧ 49 ∈ t.chip.field.bar.vectors ∧
      t.chip.field.fcol.arisen = (s.chip.field.closeUplinks s.chip.variant).fcol.arisen ++ [{ fieldEvent s 35 1 with fine := 7760 }]) ∧
    (s.chip.field.tick.ranThisTick = true ∨ s.chip.field.tick.overran = true ∨ s.chip.field.runs = false → t = s)) ∧
  (∀ s : State, ∃ t, exec .dispCntRead s = .next t ∧ t.chip.host = s.chip.host ∧
    t.chip.readData = [BitVec.ofNat 32 (s.chip.field.disp.overrideCnt * 65536 + s.chip.field.disp.shortCnt)] ∧
    t.chip.field.disp.overrideCnt = 0 ∧ t.chip.field.disp.shortCnt = 0) ∧
  (∀ (r : Request) (s : State), fieldTakes setVsetC r s → ∃ t, exec (.setVset r) s = .next t ∧
    (s.chip.field.grid.cfg.winLo < r.u32 0 → r.u32 0 < s.chip.field.grid.cfg.winHi →
      t.chip.field.disp.cfg = { s.chip.field.disp.cfg with
        vsetTgt := r.u32 0, vslew := if r.u32 4 = 0 then s.chip.field.disp.cfg.vslew else r.u32 4 } ∧
      fieldAnswers s t r .ok s.chip.field.disp.cfg.vsetTgt) ∧
    (r.u32 0 ≤ s.chip.field.grid.cfg.winLo ∨ s.chip.field.grid.cfg.winHi ≤ r.u32 0 →
      t.chip.field.disp = s.chip.field.disp ∧ fieldAnswers s t r .badParam 0)) ∧
  (∀ (r : Request) (s : State), fieldTakes setLoopC r s → ∃ t, exec (.setLoop r) s = .next t ∧
    t.chip.field.disp.cfg = { s.chip.field.disp.cfg with kp := r.u32 0, ki := r.u32 4, intMax := r.u32 8, ffGain := r.u32 12 } ∧
    t.chip.field.disp.integ = max (-(r.u32 8 : Int)) (min (r.u32 8) s.chip.field.disp.integ) ∧ fieldAnswers s t r .ok 0) ∧
  (∀ (r : Request) (s : State), fieldTakes setSharingC r s → ∃ t, exec (.setSharing r) s = .next t ∧
    t.chip.field.disp.cfg = { s.chip.field.disp.cfg with policy := r.u32 0, kw := r.u32 4, gap := r.u32 8, storeBal := r.u32 12 == 1 } ∧
    fieldAnswers s t r .ok 0) ∧
  (∀ (r : Request) (s : State), fieldTakes setUnitWeightC r s → ∃ t, exec (.setUnitWeight r) s = .next t ∧
    (r.u32 0 = 0 → (t.chip.field.sl r.unit).ctx = { (s.chip.field.sl r.unit).ctx with wovr := false }) ∧
    (r.u32 0 ≠ 0 → (t.chip.field.sl r.unit).ctx = { (s.chip.field.sl r.unit).ctx with wovr := true, wgt := r.u32 0 }) ∧
    (∀ k, k ≠ r.unit → t.chip.field.sl k = s.chip.field.sl k) ∧ fieldAnswers s t r .ok (s.chip.field.sl r.unit).ctx.wgt) ∧
  (∀ (r : Request) (s : State), fieldTakes excludeUnitC r s → ∃ t, exec (.excludeUnit r) s = .next t ∧
    (t.chip.field.sl r.unit).ctx = { (s.chip.field.sl r.unit).ctx with excl := r.u32 0 == 1 } ∧
    (∀ k, k ≠ r.unit → t.chip.field.sl k = s.chip.field.sl k) ∧ fieldAnswers s t r .ok 0) ∧
  (∀ (r : Request) (s : State), fieldTakes getUnitC r s → ∃ t, exec (.getUnit r) s = .next t ∧
    { t.chip.field with bar := s.chip.field.bar } = s.chip.field ∧
    fieldAnswers s t r .ok ((BitVec.ofInt 32 (s.chip.field.sl r.unit).uAlloc).toNat + 2 ^ 32 * (s.chip.field.sl r.unit).uFlags.toNat)) ∧
  (∀ (r : Request) (s : State), fieldTakes getWearC r s → ∃ t, exec (.getWear r) s = .next t ∧
    { t.chip.field with bar := s.chip.field.bar } = s.chip.field ∧
    fieldAnswers s t r .ok (if (s.chip.field.sl r.unit).ctx.role = .supply then (s.chip.field.sl r.unit).wear.stress else 0)) ∧
  (∀ (r : Request) (s : State), fieldTakes getDispatchC r s → ∃ t, exec (.getDispatch r) s = .next t ∧
    { t.chip.field with bar := s.chip.field.bar } = s.chip.field ∧
    (r.u32 0 = 0 → fieldAnswers s t r .ok ((BitVec.ofInt 32 s.chip.field.disp.iDemand).toNat + 2 ^ 32 * (BitVec.ofInt 32 s.chip.field.disp.resid).toNat)) ∧
    (r.u32 0 = 1 → fieldAnswers s t r .ok ((BitVec.ofInt 32 s.chip.field.disp.sAlloc).toNat + 2 ^ 32 * (BitVec.ofInt 32 s.chip.field.disp.tAlloc).toNat)) ∧
    (r.u32 0 = 2 → fieldAnswers s t r .ok ((BitVec.ofNat 32 s.chip.field.disp.vsetEff).toNat + 2 ^ 32 * (BitVec.ofInt 32 s.chip.field.disp.vbusUsed).toNat)))

/-- The commands of group 0x30 (07 R187 to R201, Table 07-2): what each sets, and its RESULT. -/
def Obligations.GridCommandsSetAndAnswer : Prop :=
  (∀ (r : Request) (s : State), fieldTakes setWindowC r s → ∃ t, exec (.setWindow r) s = .next t ∧
    (r.u32 0 < s.chip.field.disp.cfg.vsetTgt → s.chip.field.disp.cfg.vsetTgt < r.u32 4 → fieldAnswers s t r .ok 0 ∧
      t.chip.field.grid.cfg = { s.chip.field.grid.cfg with winLo := r.u32 0, winHi := r.u32 4, cBus := r.u32 8 }) ∧
    (s.chip.field.disp.cfg.vsetTgt ≤ r.u32 0 ∨ r.u32 4 ≤ s.chip.field.disp.cfg.vsetTgt →
      fieldAnswers s t r .badParam 0 ∧ t.chip.field.grid = s.chip.field.grid)) ∧
  (∀ (r : Request) (s : State), fieldTakes setHoldupC r s → ∃ t, exec (.setHoldup r) s = .next t ∧ fieldAnswers s t r .ok 0 ∧
    t.chip.field.grid = { s.chip.field.grid with cfg := { s.chip.field.grid.cfg with
      lossFrac := r.u32 0, dipFrac := r.u32 4, recov := r.u32 8, huReserve := r.par 12 8, huBand := r.u32 20 } }) ∧
  (∀ (r : Request) (s : State), fieldTakes setReentryC r s → ∃ t, exec (.setReentry r) s = .next t ∧
    fieldAnswers s t r .ok (FieldDie.reOffset s.chip.field.offsetKey (r.u32 8) (r.u32 4)) ∧
    t.chip.field.grid = { s.chip.field.grid with cfg := { s.chip.field.grid.cfg with
      reSpacing := r.u32 0, offsetMax := r.u32 4, reSeed := r.u32 8
      offset := FieldDie.reOffset s.chip.field.offsetKey (r.u32 8) (r.u32 4) } }) ∧
  (∀ (r : Request) (s : State), fieldTakes setWarnLeadC r s → ∃ t, exec (.setWarnLead r) s = .next t ∧ fieldAnswers s t r .ok 0 ∧
    (∀ g, g < 8 → t.chip.field.grid.cfg.lead.getD g 0 = r.u32 (4 * g)) ∧ t.chip.field.disp = s.chip.field.disp) ∧
  (∀ (r : Request) (s : State), fieldTakes setChargeC r s → ∃ t, exec (.setCharge r) s = .next t ∧ fieldAnswers s t r .ok 0 ∧
    t.chip.field.grid = { s.chip.field.grid with cfg := { s.chip.field.grid.cfg with socTgt := r.u32 0, socHyst := r.u32 4, chgReq := r.u32 8 } }) ∧
  (∀ (r : Request) (s : State), fieldTakes setRampC r s → ∃ t, exec (.setRamp r) s = .next t ∧ fieldAnswers s t r .ok 0 ∧
    t.chip.field.grid = { s.chip.field.grid with cfg := { s.chip.field.grid.cfg with
      rampEn := r.u32 0 == 1, rampUp := r.u32 4, rampDn := r.u32 8, rampBand := r.u32 12 } }) ∧
  (∀ (r : Request) (s : State), fieldTakes setFreqRespC r s → ∃ t, exec (.setFreqResp r) s = .next t ∧ fieldAnswers s t r .ok 0 ∧
    t.chip.field.grid = { s.chip.field.grid with cfg := { s.chip.field.grid.cfg with
      frEn := r.u32 0 == 1, fNom := r.u32 4, frDb := r.u32 8, frGain := r.u32 12, frMax := r.u32 16, frShift := r.u32 20 } }) ∧
  (∀ (r : Request) (s : State), fieldTakes setFreqSrcC r s → ∃ t, exec (.setFreqSrc r) s = .next t ∧ fieldAnswers s t r .ok 0 ∧
    t.chip.field.grid = { s.chip.field.grid with cfg := { s.chip.field.grid.cfg with
      srcMask := r.u32 0, agree := r.u32 4, hostAge := r.u32 8, singleOk := r.u32 12 == 1 } }) ∧
  (∀ (r : Request) (s : State), fieldTakes putHostFreqC r s → ∃ t, exec (.putHostFreq r) s = .next t ∧ fieldAnswers s t r .ok 0 ∧
    t.chip.field.grid = { s.chip.field.grid with
      hostFreq := r.u32 0, hostUntil := some (s.chip.field.tick.tb + s.chip.field.grid.cfg.hostAge) }) ∧
  (∀ (r : Request) (s : State), fieldTakes getHoldupC r s → ∃ t, exec (.getHoldup r) s = .next t ∧ { t.chip.field with bar := s.chip.field.bar } = s.chip.field ∧
    fieldAnswers s t r .ok ((BitVec.ofNat 32 s.chip.field.grid.tte).toNat + 2 ^ 32 * (s.chip.field.huStatus s.chip.variant).toNat)) ∧
  (∀ (r : Request) (s : State), fieldTakes getGridC r s → ∃ t, exec (.getGrid r) s = .next t ∧ { t.chip.field with bar := s.chip.field.bar } = s.chip.field ∧
    fieldAnswers s t r .ok ((s.chip.field.gridFreq s.chip.variant).toNat + 2 ^ 32 * (s.chip.field.frOut s.chip.variant).toNat)) ∧
  (∀ (r : Request) (s : State), fieldTakes getReserveC r s → ∃ t, exec (.getReserve r) s = .next t ∧ { t.chip.field with bar := s.chip.field.bar } = s.chip.field ∧
    fieldAnswers s t r .ok s.chip.field.grid.eRes)

/-- Ride-through and re-entry (07 R182, R192, R195): the input recovers, a batch begins and releases its units, a host frequency lapses. -/
def Obligations.InputRecoveryReleasesBatches : Prop :=
  (∀ s : State, ∃ t, exec .inputRecovery s = .next t ∧ fieldOnly s t ∧
    (s.chip.field.grid.recovCnt < s.chip.field.grid.cfg.recov → t = s) ∧
    (s.chip.field.grid.cfg.recov ≤ s.chip.field.grid.recovCnt →
      (s.chip.field.grid.inputState = 1 → s.chip.field.grid.batches = [] → t.chip.field.grid.inputState = 0) ∧
      (s.chip.field.grid.inputState = 1 → s.chip.field.grid.batches ≠ [] → t = s) ∧
      (s.chip.field.grid.inputState = 2 → t.chip.field.grid.inputState = 3 ∧ t.chip.field.grid.batches.map (·.recovery) = [true] ∧
        t.chip.field.grid.batches.map (·.start) = [s.chip.field.tick.tb + 1]))) ∧
  (∀ s : State, ∃ t, exec .reentryBatchStart s = .next t ∧ fieldOnly s t ∧ t.chip.field.slot = s.chip.field.slot ∧
    (s.chip.field.grid.batches = [] → t = s) ∧
    ∀ b, s.chip.field.grid.batches = [b] → b.begun = false → b.recovery = false → b.start ≤ s.chip.field.tick.tb →
      t.chip.field.grid.batches.map (·.begun) = [true] ∧
      t.chip.field.grid.batches.map (·.units) = [b.units.filter fun k => (s.chip.field.sl k).ctx.held] ∧
      t.chip.field.grid.batches.map (·.due) = [(b.units.filter fun k => (s.chip.field.sl k).ctx.held).zipIdx.map fun x =>
        (x.1, s.chip.field.tick.tb + s.chip.field.grid.cfg.offset + x.2 * s.chip.field.grid.cfg.reSpacing * 40)]) ∧
  (∀ (k : Fin 96) (s : State), ∃ t, exec (.reentryRelease k) s = .next t ∧ fieldOnly s t ∧ (s.chip.variant.slots ≤ k.val → t = s) ∧
    otherSlots s t k ∧
    (k.val < s.chip.variant.slots → s.chip.field.releaseDue k = true → s.chip.field.march.startEdge ≠ some s.chip.field.tick.tb →
      t.chip.field.sl k = { s.chip.field.sl k with ctx := { (s.chip.field.sl k).ctx with held := false } } ∧
      t.chip.field.grid.releaseEdge = some s.chip.field.tick.tb) ∧
    (s.chip.field.releaseDue k = false ∨ s.chip.field.march.startEdge = some s.chip.field.tick.tb → t = s)) ∧
  (∀ s : State, ∃ t, exec .hostFreqExpiry s = .next t ∧ fieldOnly s t ∧
    (∀ n, s.chip.field.grid.hostUntil = some n → n ≤ s.chip.field.tick.tb →
      t.chip.field = { s.chip.field with grid := { s.chip.field.grid with hostUntil := none } }) ∧
    (∀ n, s.chip.field.grid.hostUntil = some n → s.chip.field.tick.tb < n → t = s) ∧ (s.chip.field.grid.hostUntil = none → t = s))

/-- The commands of group 0x38 (08 R202, R207, R217, R221, R222): caps, policy and branches, and what they read. -/
def Obligations.CapCommandsSetAndAnswer : Prop :=
  (∀ (r : Request) (s : State), fieldTakes setCapC r s → ∃ t, exec (.setCap r) s = .next t ∧
    (r.u32 0 = 0 → fieldAnswers s t r .ok (s.chip.field.cap.grid.limit.getD 0) ∧ t.chip.field.cap.deliv = s.chip.field.cap.deliv ∧
      t.chip.field.cap.grid = { limit := (if r.u32 4 = 0 then none else some (r.u32 4)), deadline := r.u32 8
                                lapse := if r.u32 12 = 0 ∨ r.u32 4 = 0 then none else some (s.chip.field.tick.tb + r.u32 12 * 40000) }) ∧
    (r.u32 0 = 1 → fieldAnswers s t r .ok (s.chip.field.cap.deliv.limit.getD 0) ∧ t.chip.field.cap.grid = s.chip.field.cap.grid ∧
      t.chip.field.cap.deliv = { limit := (if r.u32 4 = 0 then none else some (r.u32 4)), deadline := r.u32 8
                                 lapse := if r.u32 12 = 0 ∨ r.u32 4 = 0 then none else some (s.chip.field.tick.tb + r.u32 12 * 40000) })) ∧
  (∀ (r : Request) (s : State), fieldTakes setCapPolicyC r s → ∃ t, exec (.setCapPolicy r) s = .next t ∧ fieldAnswers s t r .ok 0 ∧
    t.chip.field.cap = { s.chip.field.cap with
      shedLead := r.u32 0, release := r.u32 4, autoRestore := r.u32 8 == 1, restoreDly := r.u32 12,
      relMax := if r.u32 16 = 0xFFFFFFFF then none else some (r.u32 16) }) ∧
  (∀ (r : Request) (s : State), fieldTakes setBranchCapC r s → ∃ t, exec (.setBranchCap r) s = .next t ∧ fieldAnswers s t r .ok 0 ∧
    (t.chip.field.br (r.unit - 96)).cfg = { (s.chip.field.br (r.unit - 96)).cfg with pri := r.u32 0, shedEn := r.u32 4 == 1 } ∧
    (r.u32 4 = 0 → (t.chip.field.br (r.unit - 96)).pending = false) ∧
    ∀ b, b ≠ r.unit - 96 → t.chip.field.br b = s.chip.field.br b) ∧
  (∀ (r : Request) (s : State), fieldTakes restoreBranchC r s → ∃ t, exec (.restoreBranch r) s = .next t ∧
    ((s.chip.field.br (r.unit - 96)).state ≠ 6 → t.chip.field.branch = s.chip.field.branch ∧ fieldAnswers s t r .badParam 0) ∧
    ((s.chip.field.br (r.unit - 96)).state = 6 → s.chip.field.cap.capped = true →
      t.chip.field.branch = s.chip.field.branch ∧ fieldAnswers s t r .busy 0) ∧
    ((s.chip.field.br (r.unit - 96)).state = 6 → s.chip.field.cap.capped = false → fieldAnswers s t r .ok 0 ∧
      (t.chip.field.br (r.unit - 96)).state = 2 ∧ (t.chip.field.br (r.unit - 96)).closeReq = true ∧
      (t.chip.field.br (r.unit - 96)).closeShed = true ∧ 37 ∈ t.chip.field.bar.vectors)) ∧
  (∀ (r : Request) (s : State), fieldTakes getCapC r s → ∃ t, exec (.getCap r) s = .next t ∧ { t.chip.field with bar := s.chip.field.bar } = s.chip.field ∧
    fieldAnswers s t r .ok ((s.chip.field.capStatus s.chip.variant).toNat + 2 ^ 32 * (BitVec.ofInt 32 s.chip.field.cap.x).toNat)) ∧
  (∀ (r : Request) (s : State), fieldTakes getBudgetC r s → ∃ t, exec (.getBudget r) s = .next t ∧ { t.chip.field with bar := s.chip.field.bar } = s.chip.field ∧
    fieldAnswers s t r .ok ((BitVec.ofInt 32 (s.chip.field.br (r.unit - 96)).bud).toNat +
      2 ^ 32 * (BitVec.ofInt 32 (s.chip.field.br (r.unit - 96)).demand).toNat))

/-- Caps and shedding on their own (08 R202, R206, R208, R211, R218): a lapse, the unrelieved excess, the release of throttling, the end of an
episode, and the automatic restore. -/
def Obligations.CapsLapseReleaseAndRestore : Prop :=
  (∀ (d : Bool) (s : State), ∃ t, exec (.capExpired d) s = .next t ∧ fieldOnly s t ∧ t.chip.field.branch = s.chip.field.branch ∧
    ((if d then s.chip.field.cap.deliv else s.chip.field.cap.grid).lapse = none → t = s) ∧
    ∀ n, (if d then s.chip.field.cap.deliv else s.chip.field.cap.grid).lapse = some n →
      (s.chip.field.tick.tb < n → t = s) ∧
      (n ≤ s.chip.field.tick.tb → (if d then t.chip.field.cap.deliv else t.chip.field.cap.grid).limit = none ∧
        (if d then t.chip.field.cap.grid else t.chip.field.cap.deliv) = (if d then s.chip.field.cap.grid else s.chip.field.cap.deliv) ∧
        t.chip.field.fcol.arisen = s.chip.field.fcol.arisen ++ [fieldEvent s 201 3])) ∧
  (∀ s : State, ∃ t, exec .capUnrelieved s = .next t ∧ fieldOnly s t ∧
    (s.chip.field.cap.xuRun = 40 → t.chip.field.cap = { s.chip.field.cap with reached := true, xuRun := 41 } ∧
      t.chip.field.fcol.arisen = s.chip.field.fcol.arisen ++ [fieldEvent s 203 1]) ∧
    (s.chip.field.cap.xuRun ≠ 40 → t = s)) ∧
  (∀ s : State, ∃ t, exec .thrRelease s = .next t ∧ fieldOnly s t ∧
    (s.chip.field.cap.release * 40 ≤ s.chip.field.cap.relRun → (∃ x ∈ s.chip.field.cap.thr.rows, x = true) →
      (∀ g, t.chip.field.cap.thr.getD g false = false) ∧ 37 ∈ t.chip.field.bar.vectors) ∧
    (s.chip.field.cap.relRun < s.chip.field.cap.release * 40 → t = s)) ∧
  (∀ s : State, ∃ t, exec .capEpisodeEnd s = .next t ∧ fieldOnly s t ∧
    (s.chip.field.cap.quietRun = 40 → t.chip.field.cap.age = 0 ∧ t.chip.field.cap.violation = false ∧ t.chip.field.cap.reached = false ∧
      ∀ b, b < s.chip.variant.branches → (t.chip.field.br b).pending = false) ∧
    (s.chip.field.cap.quietRun ≠ 40 → t = s)) ∧
  (∀ s : State, ∃ t, exec .autoRestore s = .next t ∧ fieldOnly s t ∧
    (s.chip.field.cap.autoRestore = false ∨ s.chip.field.cap.capped = true ∨
      (∀ b, b < s.chip.variant.branches → (s.chip.field.br b).state ≠ 6) → t = s) ∧
    ∀ b, s.chip.field.cap.autoRestore = true → s.chip.field.cap.capped = false →
      (s.chip.field.shedOrder ((FieldDie.branches s.chip.variant).filter fun b => (s.chip.field.br b).state == 6)).getLast? = some b →
      s.chip.field.cap.restoreRef + s.chip.field.cap.restoreDly * 40 ≤ s.chip.field.tick.tb →
      (s.chip.field.br b).dLast + s.chip.field.cap.allow / 16 ≤ s.chip.field.cap.allow - s.chip.field.cap.iLoad →
      s.chip.field.cfg.loaded = true → s.chip.field.power.winter = false → b < 32 →
      (t.chip.field.br b).state = 2 ∧ (t.chip.field.br b).closeShed = true ∧ t.chip.field.cap.restoreRef = s.chip.field.tick.tb)

/-- Frames of the module (10 R252 to R275, R554; 09 R237, R238): what each does in a session that executes it, and what a frame of a wrong epoch
leaves. -/
def Obligations.FramesMoveTheSession : Prop :=
  (∀ (k : Fin 96) (id : Fin 8) (e : Fin 16) (s : State), ∃ t, exec (.ctAckRx k id e) s = .next t ∧ fieldOnly s t ∧ (s.chip.variant.slots ≤ k.val → t = s) ∧
    (s.chip.field.hears = false → t = s) ∧
    ∀ fr, frameRuns k 0 id e s → (s.chip.field.sl k).port.awaiting = some fr → fr.msgId = id.val → fr.epoch = e.val →
      (fr.asks = true → (t.chip.field.sl k).port.awaiting = none ∧ (t.chip.field.sl k).sess.outstanding = some fr ∧
        (t.chip.field.sl k).sess.t.ack = false ∧ (t.chip.field.sl k).sess.t.response = true ∧
        (fr.type = 0xA → (s.chip.field.sl k).sess.state = 3 → (t.chip.field.sl k).sess.state = 4)) ∧
      (fr.type = 4 → (t.chip.field.sl k).sess.state = 2 ∧ (t.chip.field.sl k).sess.epoch = (e.val + 1) % 16 ∧
        (t.chip.field.sl k).sess.soft = satN 8 ((s.chip.field.sl k).sess.soft + 1))) ∧
  (∀ (k : Fin 96) (id : Fin 8) (e : Fin 16) (s : State), ∃ t, exec (.ctAcceptRx k id e) s = .next t ∧ fieldOnly s t ∧ (s.chip.variant.slots ≤ k.val → t = s) ∧
    (s.chip.field.hears = false → t = s) ∧
    ∀ fr, frameRuns k 1 id e s → (s.chip.field.sl k).sess.outstanding = some fr → fr.type = 0xE →
      (t.chip.field.sl k).sess.outstanding = none ∧ (t.chip.field.sl k).sess.t.swap = true ∧ (t.chip.field.sl k).sess.swapCmd = fr.cmd ∧
      (t.chip.field.sl k).sess.swapStage = (if bits 31 30 (fr.terms.getD 0 0) = 1 then 4 else 2)) ∧
  (∀ (k : Fin 96) (id : Fin 8) (e : Fin 16) (s : State), ∃ t, exec (.ctRejectRx k id e) s = .next t ∧ fieldOnly s t ∧ (s.chip.variant.slots ≤ k.val → t = s) ∧
    (s.chip.field.hears = false → t = s) ∧
    ∀ fr, frameRuns k 2 id e s → (s.chip.field.sl k).sess.outstanding = some fr → fr.type = 0xA → (s.chip.field.sl k).sess.state = 4 →
      (t.chip.field.sl k).sess.state = 8 ∧ (t.chip.field.sl k).sess.outstanding = none) ∧
  (∀ (k : Fin 96) (id : Fin 8) (e : Fin 16) (s : State), ∃ t, exec (.ctReadyRx k id e) s = .next t ∧ fieldOnly s t ∧ (s.chip.variant.slots ≤ k.val → t = s) ∧
    (s.chip.field.hears = false → t = s) ∧
    ∀ fr, frameRuns k 3 id e s → (s.chip.field.sl k).sess.outstanding = some fr → fr.type = 0xA → (s.chip.field.sl k).sess.state = 4 →
      (t.chip.field.sl k).sess.state = 5 ∧ (t.chip.field.sl k).sess.hrFail = 0 ∧ (t.chip.field.sl k).sess.t.poll = true ∧
      fieldEvent s (qSrc (slotQuad k) 21) 2 k ∈ t.chip.field.fcol.arisen) ∧
  (∀ (k : Fin 96) (id : Fin 8) (e : Fin 16) (s : State), ∃ t, exec (.ctSoftResetRx k id e) s = .next t ∧ fieldOnly s t ∧ (s.chip.variant.slots ≤ k.val → t = s) ∧
    (s.chip.field.hears = false → t = s) ∧
    (frameRuns k 4 id e s → (t.chip.field.sl k).sess.state = 2 ∧ (t.chip.field.sl k).sess.epoch = (e.val + 1) % 16 ∧
      (t.chip.field.sl k).sess.soft = satN 8 ((s.chip.field.sl k).sess.soft + 1) ∧ queued t k 6 (fun fr => fr.what = 8) ∧
      fieldEvent s (qSrc (slotQuad k) 21) 3 k ∈ t.chip.field.fcol.arisen)) ∧
  (∀ (k : Fin 96) (id : Fin 8) (e : Fin 16) (s : State), ∃ t, exec (.ctStaleRx k id e) s = .next t ∧ fieldOnly s t ∧ (s.chip.variant.slots ≤ k.val → t = s) ∧
    (s.chip.field.hears = false → t = s) ∧
    ∀ fr, frameRuns k 5 id e s → (s.chip.field.sl k).port.awaiting = some fr → fr.msgId = id.val → fr.type ≠ 4 → fr.cmd = none →
      (s.chip.field.sl k).sess.statusWaits = [] → (t.chip.field.sl k).sess.state = 6 ∧ queued t k 4 (fun _ => True)) ∧
  (∀ (k : Fin 96) (id : Fin 8) (e : Fin 16) (ts : Tab Word 6) (s : State), ∃ t, exec (.ctCapabilityRx k id e ts) s = .next t ∧ fieldOnly s t ∧ (s.chip.variant.slots ≤ k.val → t = s) ∧
    (s.chip.field.hears = false → t = s) ∧
    (frameRuns k 8 id e s → capOk ts.rows = false → (t.chip.field.sl k).sess.capability = (s.chip.field.sl k).sess.capability ∧
      queued t k 2 (fun fr => fr.re = 8)) ∧
    (frameRuns k 8 id e s → capOk ts.rows = true → (t.chip.field.sl k).sess.capability = some ts.rows ∧
      ∀ fr, (s.chip.field.sl k).sess.outstanding = some fr → fr.isGet 8 = true → fr.cmd = none → (s.chip.field.sl k).sess.state = 2 →
        (t.chip.field.sl k).sess.outstanding = none ∧ queued t k 6 (fun fr => fr.what = 0xD))) ∧
  (∀ (k : Fin 96) (id : Fin 8) (e : Fin 16) (ts : Tab Word 6) (s : State), ∃ t, exec (.ctIdentityRx k id e ts) s = .next t ∧ fieldOnly s t ∧ (s.chip.variant.slots ≤ k.val → t = s) ∧
    (s.chip.field.hears = false → t = s) ∧
    (frameRuns k 0xD id e s → bits 31 16 (ts.rows.getD 2 0) ≠ 0 → (t.chip.field.sl k).sess.identity = some ts.rows ∧
      ∀ fr, (s.chip.field.sl k).sess.outstanding = some fr → fr.isGet 0xD = true → fr.cmd = none → (s.chip.field.sl k).sess.state = 2 →
        (t.chip.field.sl k).sess.outstanding = none ∧ (t.chip.field.sl k).sess.state = 3)) ∧
  (∀ (k : Fin 96) (id : Fin 8) (e : Fin 16) (ts : Tab Word 3) (s : State), ∃ t, exec (.ctRequestRx k id e ts) s = .next t ∧ fieldOnly s t ∧ (s.chip.variant.slots ≤ k.val → t = s) ∧
    (s.chip.field.hears = false → t = s) ∧
    (frameRuns k 9 id e s → (s.chip.field.sl k).sess.reqOk ts.rows = true → (s.chip.field.sl k).sess.state = 3 →
      (t.chip.field.sl k).sess.request = some ts.rows ∧
      (s.chip.field.refuses k ts.rows = true → queued t k 2 (fun fr => fr.re = 9)) ∧
      (s.chip.field.refuses k ts.rows = false → queued t k 0xA (fun fr => fr.terms.length = 4)))) ∧
  (∀ (k : Fin 96) (id : Fin 8) (e : Fin 16) (ts : Tab Word 2) (s : State), ∃ t, exec (.ctStatusRx k id e ts) s = .next t ∧ fieldOnly s t ∧ (s.chip.variant.slots ≤ k.val → t = s) ∧
    (s.chip.field.hears = false → t = s) ∧
    (frameRuns k 0xB id e s → bits 31 24 (ts.rows.getD 0 0) ≤ 5 → faultOk (bits 7 0 (ts.rows.getD 0 0)) = true →
      (t.chip.field.sl k).sess.status = some ts.rows ∧ (t.chip.field.sl k).sess.lostNeed = false ∧
      (∀ fr, (s.chip.field.sl k).sess.outstanding = some fr → fr.isGet 0xB = true →
        (t.chip.field.sl k).sess.outstanding = none ∧ (t.chip.field.sl k).sess.statusWaits = []) ∧
      (bits 31 24 (ts.rows.getD 0 0) = 5 →
        fieldEvent s (qSrc (slotQuad k) 19) 1 (bits 7 0 (ts.rows.getD 0 0) * 0x10000 + k.val) ∈ t.chip.field.fcol.arisen))) ∧
  (∀ (k : Fin 96) (id : Fin 8) (e : Fin 16) (w : Word) (s : State), ∃ t, exec (.ctAlertRx k id e w) s = .next t ∧ fieldOnly s t ∧ (s.chip.variant.slots ≤ k.val → t = s) ∧
    (s.chip.field.hears = false → t = s) ∧
    (frameRuns k 0xC id e s → faultOk (bits 7 0 w) = true → (s.chip.field.sl k).sess.state = 5 → w.getLsbD 27 = true →
      (t.chip.field.sl k).sess.state = 6 ∧ queued t k 4 (fun _ => True) ∧
      (w.getLsbD 31 = true → fieldEvent s (qSrc (slotQuad k) 19) 1 (bits 7 0 w * 0x10000 + k.val) ∈ t.chip.field.fcol.arisen))) ∧
  (∀ (k : Fin 96) (id : Fin 8) (e : Fin 16) (w : Word) (s : State), ∃ t, exec (.ctSwapRx k id e w) s = .next t ∧ fieldOnly s t ∧ (s.chip.variant.slots ≤ k.val → t = s) ∧
    (s.chip.field.hears = false → t = s) ∧
    (frameRuns k 0xE id e s → bits 31 30 w ≤ 1 → (s.chip.field.sl k).sess.swapStage = 0 →
      (s.chip.field.sl k).sess.state ≠ 5 ∨ (s.chip.field.sl k).sess.auxSrc = false →
      queued t k 2 (fun fr => fr.re = 0xE) ∧ (t.chip.field.sl k).sess.swapStage = 0) ∧
    (frameRuns k 0xE id e s → bits 31 30 w ≤ 1 → (s.chip.field.sl k).sess.swapStage = 0 → (s.chip.field.sl k).sess.state = 5 →
      (s.chip.field.sl k).sess.auxSrc = true → (s.chip.field.sl k).sess.auxMod = (bits 31 30 w == 0) →
      (bits 31 30 w = 1 → (s.chip.field.sl k).sess.auxGrant ≤ bits 23 16 w) →
      queued t k 1 (fun _ => True) ∧ (t.chip.field.sl k).sess.swapStage = 6 ∧ (t.chip.field.sl k).sess.swapMod = (bits 31 30 w == 1))) ∧
  (∀ (k : Fin 96) (id : Fin 8) (e : Fin 16) (w : Word) (s : State), k.val < s.chip.variant.slots → s.chip.field.sessLive = true → s.chip.field.portUp k = true →
    (s.chip.field.sl k).port.present = true → (s.chip.field.sl k).sess.state = 5 → e.val ≠ (s.chip.field.sl k).sess.epoch →
    ∃ t, exec (.ctAlertRx k id e w) s = .next t ∧ (t.chip.field.sl k).sess = (s.chip.field.sl k).sess ∧
      (t.chip.field.sl k).port.staleRx = satN 8 ((s.chip.field.sl k).port.staleRx + 1) ∧ queued t k 5 (fun fr => fr.msgId = id.val))

/-- The timers of a session (10 R259 to R273, R280; 22 R538): what each expiry does, and that a timer that does not run does nothing. -/
def Obligations.SessionTimersExpire : Prop :=
  (∀ (k : Fin 96) (s : State), ∃ t, exec (.ackTimerExpiry k) s = .next t ∧ fieldOnly s t ∧ (s.chip.variant.slots ≤ k.val → t = s) ∧
    ((s.chip.field.sl k).port.awaiting = none ∨ (s.chip.field.sl k).sess.t.ack = false → t = s) ∧
    ∀ fr, k.val < s.chip.variant.slots → (s.chip.field.sl k).port.awaiting = some fr → (s.chip.field.sl k).sess.t.ack = true → fr.sends < 6 → fr.sends ≠ 3 →
      (t.chip.field.sl k).port.awaiting = none ∧ (t.chip.field.sl k).sess.t.ack = false ∧ fr ∈ (t.chip.field.sl k).port.queue ∧
      otherSlots s t k) ∧
  (∀ (k : Fin 96) (s : State), ∃ t, exec (.responseTimerExpiry k) s = .next t ∧ fieldOnly s t ∧ (s.chip.variant.slots ≤ k.val → t = s) ∧
    ((s.chip.field.sl k).sess.t.response = false → t = s) ∧
    (k.val < s.chip.variant.slots → (s.chip.field.sl k).sess.t.response = true → (s.chip.field.sl k).sess.outstanding = none → (s.chip.field.sl k).sess.softTried = false →
      (s.chip.field.sl k).sess.hardTried = false →
      (t.chip.field.sl k).sess.respExp = satN 8 ((s.chip.field.sl k).sess.respExp + 1) ∧ (t.chip.field.sl k).sess.state = 6 ∧
      queued t k 4 (fun _ => True))) ∧
  (∀ (k : Fin 96) (s : State), ∃ t, exec (.swapTimerExpiry k) s = .next t ∧ fieldOnly s t ∧ (s.chip.variant.slots ≤ k.val → t = s) ∧
    ((s.chip.field.sl k).sess.t.swap = false → t = s) ∧
    (k.val < s.chip.variant.slots → (s.chip.field.sl k).sess.t.swap = true → (s.chip.field.sl k).port.line < 2 →
      (t.chip.field.sl k).port.resetWanted = true ∧ (t.chip.field.sl k).sess.swapCmd = none ∧ (t.chip.field.sl k).sess.t.swap = false ∧
      (t.chip.field.sl k).sess.respExp = satN 8 ((s.chip.field.sl k).sess.respExp + 1))) ∧
  (∀ (k : Fin 96) (s : State), ∃ t, exec (.hardResetCompletionExpiry k) s = .next t ∧ fieldOnly s t ∧ (s.chip.variant.slots ≤ k.val → t = s) ∧
    ((s.chip.field.sl k).sess.t.hardDone = false → t = s) ∧
    (k.val < s.chip.variant.slots → (s.chip.field.sl k).sess.t.hardDone = true → (s.chip.field.sl k).sess.presSince = false → (s.chip.field.sl k).port.line < 2 →
      (t.chip.field.sl k).sess.state = 0 ∧ (t.chip.field.sl k).port.present = false ∧ (t.chip.field.sl k).ins.state = 0 ∧
      fieldEvent s (qSrc (slotQuad k) 22) 3 k ∈ t.chip.field.fcol.arisen)) ∧
  (∀ (k : Fin 96) (s : State), ∃ t, exec (.hardResetGetRepeat k) s = .next t ∧ fieldOnly s t ∧ (s.chip.variant.slots ≤ k.val → t = s) ∧ otherSlots s t k ∧
    (k.val < s.chip.variant.slots → (s.chip.field.sl k).sess.t.hardDone = true → (s.chip.field.sl k).sess.presSince = true → (s.chip.field.sl k).sess.state = 7 →
      queued t k 6 (fun fr => fr.what = 8) ∧ (t.chip.field.sl k).sess.t.hardDone = true) ∧
    ((s.chip.field.sl k).sess.t.hardDone = false ∨ (s.chip.field.sl k).sess.presSince = false ∨ (s.chip.field.sl k).sess.state ≠ 7 → t = s)) ∧
  (∀ (k : Fin 96) (s : State), ∃ t, exec (.statusPollExpiry k) s = .next t ∧ fieldOnly s t ∧ (s.chip.variant.slots ≤ k.val → t = s) ∧ otherSlots s t k ∧
    (k.val < s.chip.variant.slots → (s.chip.field.sl k).sess.t.poll = true → (s.chip.field.sl k).sess.state = 5 → s.chip.field.sessLive = true →
      FieldDie.statusBusy (s.chip.field.sl k) = false → queued t k 6 (fun fr => fr.what = 0xB)) ∧
    ((s.chip.field.sl k).sess.t.poll = false ∨ (s.chip.field.sl k).sess.state ≠ 5 ∨ s.chip.field.sessLive = false → t = s)) ∧
  (∀ (k : Fin 96) (s : State), ∃ t, exec (.retryHoldoffEnd k) s = .next t ∧ fieldOnly s t ∧ (s.chip.variant.slots ≤ k.val → t = s) ∧ otherSlots s t k ∧
    (k.val < s.chip.variant.slots → t.chip.field.sl k =
      { s.chip.field.sl k with sess := { (s.chip.field.sl k).sess with t := { (s.chip.field.sl k).sess.t with retry := false } } })) ∧
  (∀ (k : Fin 96) (s : State), ∃ t, exec (.swapFeedReady k) s = .next t ∧ fieldOnly s t ∧ (s.chip.variant.slots ≤ k.val → t = s) ∧ otherSlots s t k ∧
    ((s.chip.field.sl k).srcClearedAt = none ∨ (s.chip.field.sl k).sess.swapStage ≠ 2 → t = s) ∧
    ∀ n, k.val < s.chip.variant.slots → (s.chip.field.sl k).srcClearedAt = some n → (s.chip.field.sl k).sess.swapStage = 2 → (s.chip.field.sl k).landSrcN = false →
      n + 80 ≤ s.chip.field.tick.tb → (t.chip.field.sl k).sess.swapStage = 3 ∧ queued t k 3 (fun _ => True)) ∧
  (∀ (k : Fin 96) (s : State), ∃ t, exec (.sessCntRead k) s = .next t ∧ t.chip.host = s.chip.host ∧
    (s.chip.variant.slots ≤ k.val → t.chip.readData = [0] ∧ t.chip.field = s.chip.field) ∧
    (k.val < s.chip.variant.slots → t.chip.readData = [(s.chip.field.sl k).sess.cntWord] ∧ (t.chip.field.sl k).sess.cntWord = 0 ∧
      (t.chip.field.sl k).sess.state = (s.chip.field.sl k).sess.state ∧ otherSlots s t k))

/-- The commands of group 0x40 (10 R256, R262 to R271, R282): the policy, resets, swaps and data of a slot. -/
def Obligations.SlotCommandsActOnTheSession : Prop :=
  (∀ (r : Request) (s : State), fieldTakes setSlotPolicyC r s → ∃ t, exec (.setSlotPolicy r) s = .next t ∧ fieldAnswers s t r .ok 0 ∧
    (t.chip.field.sl r.unit).pol = { roles := r.u32 0, imaxCeil := r.u32 4, ichgCeil := r.u32 8, auxMax := r.u32 12, rank := r.u32 16 }) ∧
  (∀ (r : Request) (s : State), fieldTakes resetSlotC r s → ∃ t, exec (.resetSlot r) s = .next t ∧
    (staleCep s.chip.field r = true → t.chip.field.slot = s.chip.field.slot ∧ fieldAnswers s t r .staleRole 0) ∧
    (staleCep s.chip.field r = false → (s.chip.field.sl r.unit).sess.state = 0 ∨ (s.chip.field.sl r.unit).sess.state = 9 →
      t.chip.field.slot = s.chip.field.slot ∧ fieldAnswers s t r .wrongMode 0) ∧
    (staleCep s.chip.field r = false → (s.chip.field.sl r.unit).sess.state ≠ 0 → (s.chip.field.sl r.unit).sess.state ≠ 9 →
      (r.u32 4 = 1 → (s.chip.field.sl r.unit).port.line < 2 → fieldWaits s t r ∧ (t.chip.field.sl r.unit).port.resetWanted = true) ∧
      (r.u32 4 = 0 → s.chip.field.slotBusy r.unit = true → fieldWaits s t r ∧ queued t r.unit 4 (fun _ => True)) ∧
      (r.u32 4 = 0 → s.chip.field.slotBusy r.unit = false → (t.chip.field.sl r.unit).sess.state = 6 ∧ queued t r.unit 4 (fun _ => True)))) ∧
  (∀ (r : Request) (s : State), fieldTakes swapAuxC r s → ∃ t, exec (.swapAux r) s = .next t ∧
    (staleCep s.chip.field r = true → fieldAnswers s t r .staleRole 0) ∧
    (staleCep s.chip.field r = false → (s.chip.field.sl r.unit).sess.state ≠ 5 → fieldAnswers s t r .wrongMode 0) ∧
    (staleCep s.chip.field r = false → (s.chip.field.sl r.unit).sess.state = 5 →
      ((s.chip.field.sl r.unit).sess.auxSrc = false → fieldAnswers s t r .badParam 0) ∧
      ((s.chip.field.sl r.unit).sess.auxSrc = true → fieldWaits s t r ∧
        queued t r.unit 0xE (fun fr => fr.terms = [pack [(30, r.u32 4), (16, r.u32 8)]])))) ∧
  (∀ (r : Request) (s : State), fieldTakes enableSlotC r s → ∃ t, exec (.enableSlot r) s = .next t ∧
    (r.u32 0 = 1 → fieldAnswers s t r .ok 0 ∧
      ((s.chip.field.sl r.unit).sess.state = 9 → (t.chip.field.sl r.unit).sess.state = 0 ∧ (t.chip.field.sl r.unit).sess.hrFail = 0)) ∧
    (r.u32 0 = 0 → (s.chip.field.sl r.unit).sess.state = 9 → t.chip.field.slot = s.chip.field.slot ∧ fieldAnswers s t r .ok 0) ∧
    (r.u32 0 = 0 → (s.chip.field.sl r.unit).sess.state ≠ 9 → (s.chip.field.sl r.unit).port.line < 2 →
      fieldWaits s t r ∧ (t.chip.field.sl r.unit).port.resetWanted = true)) ∧
  (∀ (r : Request) (s : State), fieldTakes getSlotC r s → ∃ t, exec (.getSlot r) s = .next t ∧ { t.chip.field with bar := s.chip.field.bar } = s.chip.field ∧
    fieldAnswers s t r .ok ((s.chip.field.sl r.unit).sess.word.toNat + 2 ^ 32 *
      (BitVec.ofNat 32 (if (s.chip.field.sl r.unit).sess.state = 5 then (s.chip.field.sl r.unit).sess.imaxG else 0)).toNat)) ∧
  (∀ (r : Request) (s : State), fieldTakes getModuleDataC r s → ∃ t, exec (.getModuleData r) s = .next t ∧
    (r.u32 8 = 0 → (∀ x, (s.chip.field.sl r.unit).sess.data (r.u32 0) (r.u32 4) = some x → fieldAnswers s t r .ok x) ∧
      ((s.chip.field.sl r.unit).sess.data (r.u32 0) (r.u32 4) = none → fieldAnswers s t r .notConfigured 0)) ∧
    (r.u32 8 = 1 → (s.chip.field.sl r.unit).sess.state = 0 ∨ (s.chip.field.sl r.unit).sess.state = 9 → fieldAnswers s t r .wrongMode 0) ∧
    (r.u32 8 = 1 → (s.chip.field.sl r.unit).sess.state ≠ 0 → (s.chip.field.sl r.unit).sess.state ≠ 9 →
      (s.chip.field.driving = false → fieldAnswers s t r .notActive 0) ∧
      (s.chip.field.driving = true → r.u32 0 ≠ 0xB → fieldWaits s t r ∧ queued t r.unit 6 (fun fr => fr.what = r.u32 0))))

/-- The contract line of a slot (09 R224 to R232, R235, R247): what its events leave at the port, and what each frame needs to be sent. -/
def Obligations.LineEventsMarkThePort : Prop :=
  (∀ (k : Fin 96) (s : State), ∃ t, exec (.ctPresence k) s = .next t ∧ fieldOnly s t ∧ (s.chip.variant.slots ≤ k.val → t = s) ∧
    (s.chip.field.hears = false ∨ (s.chip.field.sl k).sess.state = 9 → t = s) ∧
    (k.val < s.chip.variant.slots → s.chip.field.hears = true → (s.chip.field.sl k).sess.state ≠ 9 → (s.chip.field.sl k).sess.state ≠ 7 →
      (t.chip.field.sl k).port.present = true ∧ (t.chip.field.sl k).port.presCnt = satN 8 ((s.chip.field.sl k).port.presCnt + 1) ∧
      fieldEvent s (qSrc (slotQuad k) 21) 1 k ∈ t.chip.field.fcol.arisen ∧ otherSlots s t k ∧
      (s.chip.field.sessLive = true → (s.chip.field.sl k).port.present = false → (s.chip.field.sl k).sess.state = 0 →
        (t.chip.field.sl k).sess.state = 2 ∧ queued t k 6 (fun fr => fr.what = 8)))) ∧
  (∀ (k : Fin 96) (s : State), ∃ t, exec (.ctGlitch k) s = .next t ∧ fieldOnly s t ∧ (s.chip.variant.slots ≤ k.val → t = s) ∧ otherSlots s t k ∧
    (k.val < s.chip.variant.slots → s.chip.field.hears = true → (t.chip.field.sl k).port =
      { (s.chip.field.sl k).port with syncFail := satN 8 ((s.chip.field.sl k).port.syncFail + 1) }) ∧
    (s.chip.field.hears = false → t = s)) ∧
  (∀ (k : Fin 96) (s : State), ∃ t, exec (.ctHardResetDeclared k) s = .next t ∧ fieldOnly s t ∧ (s.chip.variant.slots ≤ k.val → t = s) ∧
    (s.chip.field.hears = false ∨ 2 ≤ (s.chip.field.sl k).port.line → t = s) ∧
    (k.val < s.chip.variant.slots → s.chip.field.hears = true → (s.chip.field.sl k).port.line < 2 → s.chip.field.sessLive = true →
      (s.chip.field.sl k).sess.state ≠ 9 → (s.chip.field.sl k).sess.hardCmds = [] →
      (t.chip.field.sl k).port.line = 2 ∧ (t.chip.field.sl k).sess.epoch = ((s.chip.field.sl k).sess.epoch + 1) % 16 ∧
      (t.chip.field.sl k).sess.hard = satN 8 ((s.chip.field.sl k).sess.hard + 1) ∧ (t.chip.field.sl k).sess.state = 7 ∧
      (t.chip.field.sl k).sess.t = { hardDone := true } ∧ (t.chip.field.sl k).port.queue = [] ∧
      fieldEvent s (qSrc (slotQuad k) 21) 4 k ∈ t.chip.field.fcol.arisen) ∧
    (k.val < s.chip.variant.slots → s.chip.field.hears = true → (s.chip.field.sl k).port.line < 2 → s.chip.field.sessLive = false ∨ (s.chip.field.sl k).sess.state = 9 →
      (t.chip.field.sl k).port.line = 2 ∧ (t.chip.field.sl k).sess.epoch = ((s.chip.field.sl k).sess.epoch + 1) % 16 ∧
      (t.chip.field.sl k).sess.hard = satN 8 ((s.chip.field.sl k).sess.hard + 1) ∧ (t.chip.field.sl k).sess.state = (s.chip.field.sl k).sess.state ∧
      fieldEvent s (qSrc (slotQuad k) 21) 4 k ∈ t.chip.field.fcol.arisen)) ∧
  (∀ (k : Fin 96) (s : State), ∃ t, exec (.ctStuckLow k) s = .next t ∧ fieldOnly s t ∧ (s.chip.variant.slots ≤ k.val → t = s) ∧ otherSlots s t k ∧
    (k.val < s.chip.variant.slots → s.chip.field.hears = true → (s.chip.field.sl k).port.line = 2 → (t.chip.field.sl k).port.line = 3 ∧
      t.chip.field.fcol.arisen = s.chip.field.fcol.arisen ++ [fieldEvent s (qSrc (slotQuad k) 16) 1 k]) ∧
    (s.chip.field.hears = false ∨ (s.chip.field.sl k).port.line ≠ 2 → t = s)) ∧
  (∀ (k : Fin 96) (s : State), ∃ t, exec (.ctLineReleased k) s = .next t ∧ fieldOnly s t ∧ (s.chip.variant.slots ≤ k.val → t = s) ∧ otherSlots s t k ∧
    (k.val < s.chip.variant.slots → 2 ≤ (s.chip.field.sl k).port.line → (t.chip.field.sl k).port = { (s.chip.field.sl k).port with line := 0, lowByUs := false, tx := false }) ∧
    ((s.chip.field.sl k).port.line < 2 → t = s)) ∧
  (∀ (k : Fin 96) (s : State), ∃ t, exec (.ctCollision k) s = .next t ∧ fieldOnly s t ∧ (s.chip.variant.slots ≤ k.val → t = s) ∧
    (s.chip.field.sessLive = false ∨ (s.chip.field.sl k).port.sending = none → t = s) ∧
    ∀ fr, k.val < s.chip.variant.slots → s.chip.field.sessLive = true → (s.chip.field.sl k).port.sending = some fr →
      fr.owed = true ∨ fr.once = true ∨ fr.type = 0xE ∨ (fr.sends < 6 ∧ fr.sends ≠ 3) →
      (t.chip.field.sl k).port.holdoff = true ∧ (t.chip.field.sl k).port.sending = none ∧
      (t.chip.field.sl k).port.collCnt = satN 8 ((s.chip.field.sl k).port.collCnt + 1) ∧ otherSlots s t k ∧
      t.chip.field.fcol.arisen = s.chip.field.fcol.arisen ++ [fieldEvent s (qSrc (slotQuad k) 15) 2 k] ∧
      (fr.owed = true ∨ fr.once = true ∨ fr.type = 0xE → (t.chip.field.sl k).port.queue = (s.chip.field.sl k).port.queue) ∧
      (fr.owed = false → fr.once = false → fr.type ≠ 0xE → fr ∈ (t.chip.field.sl k).port.queue)) ∧
  (∀ (k : Fin 96) (s : State), ∃ t, exec (.collisionHoldoffEnd k) s = .next t ∧ fieldOnly s t ∧ (s.chip.variant.slots ≤ k.val → t = s) ∧ otherSlots s t k ∧
    (k.val < s.chip.variant.slots → (t.chip.field.sl k).port = { (s.chip.field.sl k).port with holdoff := false })) ∧
  (∀ (k : Fin 96) (raw : CtRaw) (s : State), ∃ t, exec (.ctFrameDiscard k raw) s = .next t ∧ fieldOnly s t ∧ (s.chip.variant.slots ≤ k.val → t = s) ∧
    (s.chip.field.hears = false ∨ s.chip.field.portUp k = false → t = s) ∧
    (k.val < s.chip.variant.slots → s.chip.field.hears = true → s.chip.field.portUp k = true → raw.sync = false ∨ raw.clean = false ∨ raw.countOk = false →
      (t.chip.field.sl k).port = { (s.chip.field.sl k).port with syncFail := satN 8 ((s.chip.field.sl k).port.syncFail + 1) } ∧ otherSlots s t k) ∧
    (k.val < s.chip.variant.slots → s.chip.field.hears = true → s.chip.field.portUp k = true → raw.sync = true → raw.clean = true → raw.countOk = true →
      raw.crcOk = false →
      (t.chip.field.sl k).port = { (s.chip.field.sl k).port with crc := satN 8 ((s.chip.field.sl k).port.crc + 1) } ∧ otherSlots s t k) ∧
    (k.val < s.chip.variant.slots → s.chip.field.hears = true → s.chip.field.portUp k = true → raw.sync = true → raw.clean = true → raw.countOk = true →
      raw.crcOk = true →
      (raw.fromModule = false →
        (t.chip.field.sl k).port = { (s.chip.field.sl k).port with rxType := raw.type, rxId := raw.msgId } ∧ otherSlots s t k) ∧
      (raw.fromModule = true → (s.chip.field.sl k).port.present = true → moduleTerms raw.type ≠ some raw.terms →
        (t.chip.field.sl k).port = { (s.chip.field.sl k).port with
          rxType := raw.type, rxId := raw.msgId, badType := satN 8 ((s.chip.field.sl k).port.badType + 1) } ∧ otherSlots s t k ∧
        t.chip.field.fcol.arisen = s.chip.field.fcol.arisen ++ [fieldEvent s (qSrc (slotQuad k) 15) 1 k]))) ∧
  (∀ (k : Fin 96) (s : State), ∃ t, exec (.ctFrameTxStart k) s = .next t ∧ fieldOnly s t ∧ (s.chip.variant.slots ≤ k.val → t = s) ∧
    (s.chip.field.sessLive = false ∨ s.chip.field.portUp k = false ∨ (s.chip.field.sl k).port.line ≠ 0 ∨
      (s.chip.field.sl k).port.lowByUs = true ∨ (s.chip.field.sl k).port.sending.isSome = true ∨ (s.chip.field.sl k).port.checking = true → t = s) ∧
    (k.val < s.chip.variant.slots → s.chip.field.sessLive = true → s.chip.field.portUp k = true → (s.chip.field.sl k).port.line = 0 →
      (s.chip.field.sl k).port.lowByUs = false → (s.chip.field.sl k).port.sending = none → (s.chip.field.sl k).port.checking = false →
      ((s.chip.field.sl k).port.resetWanted = true → (t.chip.field.sl k).port =
        { (s.chip.field.sl k).port with resetWanted := false, lowByUs := true, tx := s.chip.field.driving }) ∧
      ∀ fr, (s.chip.field.sl k).port.resetWanted = false →
        FieldDie.pick (s.chip.field.sl k) (s.chip.field.sl k).port.queue false = some fr → fr.type ≠ 4 →
        (t.chip.field.sl k).port.line = 1 ∧ (t.chip.field.sl k).port.queue = (s.chip.field.sl k).port.queue.erase fr ∧
        (t.chip.field.sl k).port.sending.map (·.sends) = some (fr.sends + 1) ∧ otherSlots s t k)) ∧
  (∀ (k : Fin 96) (s : State), ∃ t, exec (.ctFrameTxEnd k) s = .next t ∧ fieldOnly s t ∧ (s.chip.variant.slots ≤ k.val → t = s) ∧ otherSlots s t k ∧
    (s.chip.field.sessLive = false ∨ (s.chip.field.sl k).port.sending = none → t = s) ∧
    ∀ fr, k.val < s.chip.variant.slots → s.chip.field.sessLive = true → (s.chip.field.sl k).port.sending = some fr →
      (t.chip.field.sl k).port.sending = none ∧
      (fr.owed = false → fr.once = false → (t.chip.field.sl k).port.awaiting = some fr ∧ (t.chip.field.sl k).sess.t.ack = true) ∧
      (fr.owed = true ∨ fr.once = true → (t.chip.field.sl k).port.awaiting = (s.chip.field.sl k).port.awaiting))

/-- The moisture check and the registers of a port (09 R242 to R247): it starts on an idle line or is deferred, a void check says nothing, a
clean one gives the mean, and the counters clear on their read. -/
def Obligations.MoistureChecksAndPortCounters : Prop :=
  (∀ (k : Fin 96) (s : State), ∃ t, exec (.moistureCheckStart k) s = .next t ∧ fieldOnly s t ∧ (s.chip.variant.slots ≤ k.val → t = s) ∧
    (∀ j, j ≠ k.val → t.chip.field.sl j = s.chip.field.sl j) ∧ t.chip.field.branch = s.chip.field.branch ∧
    (s.chip.field.moistDue k = false → t = s) ∧
    (k.val < s.chip.variant.slots → s.chip.field.moistDue k = true →
      (FieldDie.moistFree (s.chip.field.sl k) = false → (t.chip.field.sl k).port = { (s.chip.field.sl k).port with
        deferred := satN 32 ((s.chip.field.sl k).port.deferred + 1), moistRetry := some (s.chip.field.tick.tb + 4000) }) ∧
      (FieldDie.moistFree (s.chip.field.sl k) = true →
        (t.chip.field.sl k).port = { (s.chip.field.sl k).port with checking := true, pullup := false, moistRetry := none }) ∧
      (s.chip.field.moistTurn k = true → (t.chip.field.qd (slotQuad k)).moistPort = (k.val % 24 + 1) % 24) ∧
      (s.chip.field.moistTurn k = false → t.chip.field.quad = s.chip.field.quad))) ∧
  (∀ (k : Fin 96) (xs : Tab Nat 8) (high : Bool) (s : State), ∃ t, exec (.moistureCheckEnd k xs high) s = .next t ∧ fieldOnly s t ∧ (s.chip.variant.slots ≤ k.val → t = s) ∧
    ((s.chip.field.sl k).port.checking = false → t = s) ∧
    (k.val < s.chip.variant.slots → (s.chip.field.sl k).port.checking = true → high = false →
      (t.chip.field.sl k).port = { (s.chip.field.sl k).port with
        checking := false, pullup := s.chip.field.driving, moistRetry := some (s.chip.field.tick.tb + 4000) } ∧ otherSlots s t k) ∧
    (∀ mv, k.val < s.chip.variant.slots → (s.chip.field.sl k).port.checking = true → high = true → xs = Tab.fill 8 mv → mv < 3300 → 2750 ≤ mv →
      (s.chip.field.sl k).port.mstate = 3 →
      (s.chip.field.sl k).port.moist = [] → (t.chip.field.sl k).port.vMv = mv ∧ (t.chip.field.sl k).port.mstate = 0 ∧
      (t.chip.field.sl k).port.rKohm = (if 3100 ≤ mv then 0xFFFF else mv / 5))) ∧
  (∀ (k : Fin 96) (s : State), ∃ t, exec (.moistureCheckVoid k) s = .next t ∧ fieldOnly s t ∧ (s.chip.variant.slots ≤ k.val → t = s) ∧ otherSlots s t k ∧
    ((s.chip.field.sl k).port.checking = false → t = s) ∧
    (k.val < s.chip.variant.slots → (s.chip.field.sl k).port.checking = true → (t.chip.field.sl k).port = { (s.chip.field.sl k).port with
      checking := false, pullup := s.chip.field.driving, moistRetry := some (s.chip.field.tick.tb + 4000) })) ∧
  (∀ (k : Fin 96) (s : State), ∃ t, exec (.ctLinkRead k) s = .next t ∧ t.chip.host = s.chip.host ∧
    otherSlots s t k ∧ (s.chip.variant.slots ≤ k.val → t.chip.readData = [0] ∧ t.chip.field = s.chip.field) ∧
    (k.val < s.chip.variant.slots → t.chip.readData = [(s.chip.field.sl k).port.linkWord] ∧ (t.chip.field.sl k).port = { (s.chip.field.sl k).port with collCnt := 0, presCnt := 0 })) ∧
  (∀ (k : Fin 96) (s : State), ∃ t, exec (.ctErrRead k) s = .next t ∧ t.chip.host = s.chip.host ∧
    otherSlots s t k ∧ (s.chip.variant.slots ≤ k.val → t.chip.readData = [0] ∧ t.chip.field = s.chip.field) ∧
    (k.val < s.chip.variant.slots → t.chip.readData = [(s.chip.field.sl k).port.errWord] ∧ (t.chip.field.sl k).port = { (s.chip.field.sl k).port with syncFail := 0, crc := 0, badType := 0, staleRx := 0 }))

/-- The March (11 R283 to R291, R296): who qualifies, when the bus counts as up, which start comes next, and how the start phase ends. -/
def Obligations.UnitsMarchOneAtATime : Prop :=
  (∀ (k : Fin 96) (s : State), ∃ t, exec (.qualified k) s = .next t ∧ fieldOnly s t ∧ (s.chip.variant.slots ≤ k.val → t = s) ∧ otherSlots s t k ∧
    (k.val < s.chip.variant.slots → (s.chip.field.sl k).ins.state = 1 → s.chip.field.meetsR286 k = true →
      t.chip.field.sl k = { s.chip.field.sl k with ins := { (s.chip.field.sl k).ins with state := 2 } }) ∧
    ((s.chip.field.sl k).ins.state ≠ 1 ∨ s.chip.field.meetsR286 k = false → t = s)) ∧
  (∀ (b : Fin 32) (s : State), ∃ t, exec (.branchQualified b) s = .next t ∧ fieldOnly s t ∧ t.chip.field.slot = s.chip.field.slot ∧
    (s.chip.variant.branches ≤ b.val → t = s) ∧
    (b.val < s.chip.variant.branches → (s.chip.field.br b).state = 2 → 400 * s.chip.field.march.insBr ≤ (s.chip.field.br b).winRun →
      t.chip.field.br b = { s.chip.field.br b with winRun := 400 * s.chip.field.march.insBr + 1 }) ∧
    ((s.chip.field.br b).state ≠ 2 ∨ (s.chip.field.br b).winRun < 400 * s.chip.field.march.insBr → t = s)) ∧
  (∀ s : State, ∃ t, exec .busUp s = .next t ∧ fieldOnly s t ∧
    (40 ≤ s.chip.field.march.busUpRun → t.chip.field = { s.chip.field with march := { s.chip.field.march with busUp := true } }) ∧
    (s.chip.field.march.busUpRun < 40 → t = s)) ∧
  (∀ s : State, ∃ t, exec .marchStart s = .next t ∧ fieldOnly s t ∧
    (s.chip.field.marchPaused = true ∨ s.chip.field.tick.tb < s.chip.field.march.nextOk ∨ s.chip.field.marchList s.chip.variant = [] → t = s) ∧
    ∀ x k rest, s.chip.field.marchPaused = false → s.chip.field.march.phaseOn = false → s.chip.field.march.nextOk ≤ s.chip.field.tick.tb →
      s.chip.field.march.startEdge ≠ some s.chip.field.tick.tb → s.chip.field.grid.releaseEdge ≠ some s.chip.field.tick.tb →
      s.chip.field.anyRelease s.chip.variant = false → s.chip.field.marchList s.chip.variant = (x, k) :: rest →
      (96 ≤ k → t.chip.field.march = { s.chip.field.march with
        nextOk := s.chip.field.tick.tb + 40 * s.chip.field.march.brSpacing, lastUnit := k, starts := (s.chip.field.march.starts + 1) % 256
        startEdge := some s.chip.field.tick.tb } ∧ (t.chip.field.br (k - 96)).state = 3) ∧
      (k < 96 → (t.chip.field.sl k).ctx.run = true ∧ (t.chip.field.sl k).ins.state = 3 ∧ (t.chip.field.sl k).ins.startTick = s.chip.field.tick.tb ∧
      t.chip.field.march.lastUnit = k ∧ t.chip.field.march.startEdge = some s.chip.field.tick.tb ∧ otherSlots s t k ∧
      t.chip.field.march.nextOk = s.chip.field.tick.tb + 40 * max s.chip.field.march.spacing (s.chip.field.sl k).sess.softstart)) ∧
  (∀ s : State, ∃ t, exec .firstStartRelease s = .next t ∧ fieldOnly s t ∧
    (s.chip.field.march.phaseOn = true → s.chip.field.march.firstReleased = false →
      s.chip.field.march.phaseBegin + 80000 ≤ s.chip.field.tick.tb →
      t.chip.field = { s.chip.field with march := { s.chip.field.march with firstReleased := true } }) ∧
    (s.chip.field.march.phaseOn = false ∨ s.chip.field.march.firstReleased = true ∨
      s.chip.field.tick.tb < s.chip.field.march.phaseBegin + 24000 → t = s)) ∧
  (∀ s : State, ∃ t, exec .marchComplete s = .next t ∧ fieldOnly s t ∧
    (s.chip.field.march.phaseOn = true → s.chip.field.march.phaseBegin + 24000 ≤ s.chip.field.tick.tb →
      s.chip.field.phaseSlots s.chip.variant = [] → (∀ b, b < s.chip.variant.branches → (s.chip.field.br b).startPhase = false) →
      t.chip.field.march = { s.chip.field.march with phaseOn := false, phaseDone := true } ∧
      (s.chip.field.power.phase = .spring → t.chip.field.power.phase = .running) ∧ t.chip.field.fcol = s.chip.field.fcol) ∧
    (s.chip.field.march.phaseOn = false ∨ s.chip.field.tick.tb < s.chip.field.march.phaseBegin + 24000 ∨
      s.chip.field.phaseSlots s.chip.variant ≠ [] → t = s)) ∧
  (∀ s : State, ∃ t, exec .marchLate s = .next t ∧ fieldOnly s t ∧
    (s.chip.field.march.phaseOn = true → s.chip.field.march.phaseBegin + 40000 * s.chip.field.march.startLimit ≤ s.chip.field.tick.tb →
      t.chip.field.march = { s.chip.field.march with phaseOn := false, phaseDone := true } ∧
      t.chip.field.fcol.arisen = s.chip.field.fcol.arisen ++ [fieldEvent s 205 1]) ∧
    (s.chip.field.march.phaseOn = false ∨ s.chip.field.tick.tb < s.chip.field.march.phaseBegin + 40000 * s.chip.field.march.startLimit → t = s)) ∧
  (∀ (k : Fin 96) (s : State), ∃ t, exec (.softstartEnd k) s = .next t ∧ fieldOnly s t ∧ (s.chip.variant.slots ≤ k.val → t = s) ∧ otherSlots s t k ∧
    (k.val < s.chip.variant.slots → (s.chip.field.sl k).ins.state = 3 →
      (s.chip.field.sl k).ins.startTick + max 1 (40 * (s.chip.field.sl k).sess.softstart) ≤ s.chip.field.tick.tb →
      t.chip.field.sl k = { s.chip.field.sl k with ins := { (s.chip.field.sl k).ins with state := 4 } } ∧
      t.chip.field.fcol.arisen = s.chip.field.fcol.arisen ++ [fieldEvent s (qSrc (slotQuad k) 22) 1 k]) ∧
    ((s.chip.field.sl k).ins.state ≠ 3 → t = s)) ∧
  (∀ s : State, ∃ t, exec .coldSoftResetBroadcast s = .next t ∧ fieldOnly s t ∧
    (s.chip.field.driving = false ∨ s.chip.field.march.driveTicks < 40 ∨ s.chip.field.march.coldDone = true → t = s) ∧
    (s.chip.field.driving = true → 40 ≤ s.chip.field.march.driveTicks → s.chip.field.march.coldDone = false →
      t.chip.field.march = { s.chip.field.march with coldDone := true } ∧
      ∀ k, k < s.chip.variant.slots → (s.chip.field.sl k).sess.state = 0 → (s.chip.field.sl k).port.present = false →
        (t.chip.field.sl k).sess.bcast = true ∧ queued t k 4 (fun fr => fr.once = true)))

/-- Overvoltage protection (04 R111 to R114): a trip of an armed path stops the shelf, the self-test gates one path, the latch clears only while
both paths are below, and the limit is written only where it may be. -/
def Obligations.OvervoltageTripsStopTheShelf : Prop :=
  (∀ (b : Bool) (s : State), ∃ t, exec (.ovComparatorTrip b) s = .next t ∧ fieldOnly s t ∧
    (if b then t.chip.field.volt.bCmp else t.chip.field.volt.aCmp) = true ∧
    (s.chip.field.volt.ovLimit ≠ 0 → s.chip.field.volt.gate ≠ some (bit b) →
      t.chip.field.volt.shelfStop = true ∧ t.chip.field.volt.stopLatched = true ∧
      t.chip.field.volt.stopCnt = satN 16 (s.chip.field.volt.stopCnt + 1) ∧
      t.chip.field.fcol.arisen = s.chip.field.fcol.arisen ++ [fieldEvent s 47 1 (bit b)]) ∧
    (s.chip.field.volt.ovLimit = 0 ∨ s.chip.field.volt.gate = some (bit b) →
      t.chip.field.volt.stopLatched = s.chip.field.volt.stopLatched ∧ t.chip.field.fcol = s.chip.field.fcol)) ∧
  (∀ (b : Bool) (s : State), ∃ t, exec (.analogDomainLoss b) s = .next t ∧ fieldOnly s t ∧
    t.chip.field.power.dom.getD (if b then 5 else 2) .good = .off ∧
    (s.chip.field.volt.ovLimit = 0 → t.chip.field.volt = s.chip.field.volt) ∧
    (s.chip.field.volt.ovLimit ≠ 0 → s.chip.field.volt.aValid = true → decide (8 ≤ s.chip.field.volt.aSense) = b →
      t.chip.field.volt.stopLatched = true ∧ t.chip.field.fcol.arisen = s.chip.field.fcol.arisen ++ [fieldEvent s 47 1 (2 + bit b)])) ∧
  (∀ (b : Bool) (s : State), ∃ t, exec (.analogDomainReturn b) s = .next t ∧ fieldOnly s t ∧
    t.chip.field.power.dom.getD (if b then 5 else 2) .off = .good ∧ t.chip.field.volt.settling.getD (bit b) false = true ∧
    t.chip.field.quad = s.chip.field.quad) ∧
  (∀ s : State, ∃ t, exec .ovSelftest s = .next t ∧ fieldOnly s t ∧
    (s.chip.field.tick.tb % 40000 = 0 → t.chip.field.volt = { s.chip.field.volt with gate := some 0 }) ∧
    (s.chip.field.tick.tb % 40000 = 20000 → t.chip.field.volt = { s.chip.field.volt with gate := some 1 }) ∧
    (s.chip.field.tick.tb % 40000 ≠ 0 → s.chip.field.tick.tb % 40000 ≠ 20000 → t = s)) ∧
  (∀ (pass : Bool) (s : State), ∃ t, exec (.ovSelftestGateEnd pass) s = .next t ∧ fieldOnly s t ∧
    (s.chip.field.volt.gate = none → t = s) ∧
    (s.chip.field.volt.gate = some 0 → t.chip.field.volt.gate = none ∧
      (s.chip.field.volt.aSense < 16 → (t.chip.field.chan (s.chip.field.volt.aSense / 4) (8 + s.chip.field.volt.aSense % 4)).cmpPass = pass)) ∧
    (s.chip.field.volt.gate = some 1 → t.chip.field.volt.gate = none ∧
      (s.chip.field.volt.bSense < 16 → (t.chip.field.chan (s.chip.field.volt.bSense / 4) (8 + s.chip.field.volt.bSense % 4)).cmpPass = pass))) ∧
  (∀ s : State, ∃ t, exec .stopLatchedClear s = .next t ∧ fieldOnly s t ∧
    (s.chip.field.volt.stopLatched = true → s.chip.field.volt.aCmp = false → s.chip.field.volt.bCmp = false →
      s.chip.field.bothBelow = true → t.chip.field.volt = { s.chip.field.volt with stopLatched := false, shelfStop := false }) ∧
    (s.chip.field.volt.aCmp = true ∨ s.chip.field.volt.bCmp = true ∨ s.chip.field.bothBelow = false → t = s)) ∧
  (∀ (w : Word) (s : State), ∃ t, exec (.ovLimitWrite w) s = .next t ∧ fieldOnly s t ∧
    (s.chip.field.volt.ovLock = false → s.chip.field.ovLimitOk s.chip.variant w.toNat = true →
      t.chip.field = { s.chip.field with volt := { s.chip.field.volt with ovLimit := w.toNat } }) ∧
    (s.chip.field.volt.ovLock = true ∨ s.chip.field.ovLimitOk s.chip.variant w.toNat = false → t = s))

/-- Calibration, line frequency and fans (04 R115, R116, R123; 21 R527): a stage ends, an accepted period gives the frequency, a lost line says
so once, and an enabled fan without a temperature runs at 100 %. -/
def Obligations.CalibrationLinesAndFans : Prop :=
  (∀ (q : Fin 4) (k : Fin 2) (r : CalResult) (s : State), ∃ t, exec (.calStageEnd q k r) s = .next t ∧ fieldOnly s t ∧
    (s.chip.variant.quads ≤ q.val → t = s) ∧
    (q.val < s.chip.variant.quads → 4 ≤ ((s.chip.field.qd q).meas.cal.getD k {}).state → t = s) ∧
    (q.val < s.chip.variant.quads → ((s.chip.field.qd q).meas.cal.getD k {}).state = 1 → ((s.chip.field.qd q).meas.cal.getD k {}).stage = 0 →
      ((s.chip.field.qd q).meas.cal.getD k {}).ch < 16 →
      ((t.chip.field.qd q).meas.cal.getD k {}).state = 2 ∧ ((t.chip.field.qd q).meas.cal.getD k {}).stage = 1 ∧
      (t.chip.field.chan q ((s.chip.field.qd q).meas.cal.getD k {}).ch).cell = 0x80 + k.val) ∧
    (q.val < s.chip.variant.quads → ((s.chip.field.qd q).meas.cal.getD k {}).state = 2 → ((s.chip.field.qd q).meas.cal.getD k {}).stage = 1 →
      ((t.chip.field.qd q).meas.cal.getD k {}).stage = 2 ∧ ((t.chip.field.qd q).meas.cal.getD k {}).newOff = r.offset) ∧
    (q.val < s.chip.variant.quads → ((s.chip.field.qd q).meas.cal.getD k {}).state = 2 → ((s.chip.field.qd q).meas.cal.getD k {}).stage = 2 →
      ∀ x i, (s.chip.field.qd q).meas.cal.getD k {} = x → FieldDie.cellRow x.own = i → i < 18 →
      (∀ step, FieldDie.judgeCal q i ((s.chip.field.qd q).meas.cells.getD i {}) x.first r.gain x.newOff = .accept step →
        ((t.chip.field.qd q).meas.cal.getD k {}).stage = 3 ∧ ((t.chip.field.qd q).meas.cells.getD i {}) = { (s.chip.field.qd q).meas.cells.getD i {} with
          gain := r.gain, offset := x.newOff, lastGain := r.gain, lastOffset := x.newOff, calibrated := true }) ∧
      (FieldDie.judgeCal q i ((s.chip.field.qd q).meas.cells.getD i {}) x.first r.gain x.newOff = .again →
        t.chip.field = s.chip.field.modCal q k (fun y => { y with stage := 1, first := some (r.gain, x.newOff) })))) ∧
  (∀ (i : Fin 2) (n : Nat) (s : State), ∃ t, exec (.lineZcEdge i n) s = .next t ∧ fieldOnly s t ∧
    (t.chip.field.qd 0).ftim = ((s.chip.field.qd 0).ftim.capture (2 + i.val) true (n % 2 ^ 32)).1 ∧
    (s.chip.field.running = false ∨ s.chip.field.qcUp 0 = false → t.chip.field.volt = s.chip.field.volt) ∧
    (s.chip.field.running = true → s.chip.field.qcUp 0 = true → (s.chip.field.volt.zc.get i).lastEdge = none → t.chip.field.volt.zc.get i = { s.chip.field.volt.zc.get i with lastEdge := some (n % 2 ^ 32) }) ∧
    ∀ l p, s.chip.field.running = true → s.chip.field.qcUp 0 = true → (s.chip.field.volt.zc.get i).lastEdge = some l → p = (n % 2 ^ 32 + 2 ^ 32 - l) % 2 ^ 32 →
      (p < 500000 → t.chip.field.volt.zc.get i = s.chip.field.volt.zc.get i) ∧
      (1428572 ≤ p → p ≤ 2500000 → (t.chip.field.volt.zc.get i).valid = true ∧
        (t.chip.field.volt.zc.get i).freq = (roundDiv 100000000000 p).toNat ∧ (t.chip.field.volt.zc.get i).since = s.chip.field.tick.tb ∧
        (t.chip.field.volt.zc.get i).lastEdge = some (n % 2 ^ 32)) ∧
      (500000 ≤ p → p < 1428572 ∨ 2500000 < p →
        t.chip.field.volt.zc.get i = { s.chip.field.volt.zc.get i with lastEdge := some (n % 2 ^ 32) })) ∧
  (∀ (i : Fin 2) (s : State), ∃ t, exec (.lineZcLost i) s = .next t ∧ fieldOnly s t ∧
    ((s.chip.field.volt.zc.get i).valid = true → 2000 ≤ s.chip.field.tick.tb - (s.chip.field.volt.zc.get i).since →
      (t.chip.field.volt.zc.get i).valid = false ∧ t.chip.field.fcol.arisen = s.chip.field.fcol.arisen ++ [fieldEvent s (qSrc 0 10) 2 i]) ∧
    ((s.chip.field.volt.zc.get i).valid = false ∨ s.chip.field.tick.tb - (s.chip.field.volt.zc.get i).since < 2000 → t = s)) ∧
  (∀ (q : Fin 4) (s : State), ∃ t, exec (.fanControl q) s = .next t ∧ fieldOnly s t ∧
    ((s.chip.field.fans.getD (2 * q.val) {}).en = false → (s.chip.field.fans.getD (2 * q.val + 1) {}).en = false → t = s) ∧
    (q.val < s.chip.variant.quads → (s.chip.field.fans.getD (2 * q.val) {}).en = true → (s.chip.field.fans.getD (2 * q.val + 1) {}).en = false →
      (s.chip.field.qd q).meas.hottest = none → t.chip.field = s.chip.field.modQd q (fun x => { x with ftim := x.ftim.mod 0 (fun c =>
        c.setCmp 0 (((c.cmp.getD 3 0 + 1) * 0x10000 + 0x8000) / 0x10000)) })))

/-- The tick bus as the device hears it (05 R146 to R149): a good uplink is delivered, a bad one held and counted, eight misses lose the slot,
and counters clear on their read. -/
def Obligations.UplinksAreCheckedAndCounted : Prop :=
  (∀ (k : Fin 96) (fr : UplinkFrame) (s : State), ∃ t, exec (.uplinkFrameRx k fr) s = .next t ∧ fieldOnly s t ∧
    (s.chip.field.running = false ∨ s.chip.variant.slots ≤ k.val → t = s) ∧
    (k.val < s.chip.variant.slots → s.chip.field.running = true → (s.chip.field.sl k).ctx.member = true → s.chip.field.isStandby = false →
      (s.chip.field.tbus (slotBus k)).markSent = true →
      (fr.check (k.val % 12) (s.chip.field.sl k).sess.epoch = none →
        t.chip.field = (s.chip.field.atCycle (559 + 480 * (k.val % 12))).uplinkGood k fr.payload.toNat ∧
        (t.chip.field.sl k).bus.valid = true ∧ (t.chip.field.sl k).bus.missRun = 0 ∧ (t.chip.field.sl k).bus.echo = fr.payload.toNat % 256) ∧
      (fr.check (k.val % 12) (s.chip.field.sl k).sess.epoch ≠ none → (t.chip.field.sl k).bus.valid = false ∧
        (t.chip.field.sl k).bus.stale = true ∧ (t.chip.field.sl k).bus.missRun = min 15 ((s.chip.field.sl k).bus.missRun + 1) ∧
        (t.chip.field.sl k).bus.iout = (s.chip.field.sl k).bus.iout ∧ ∀ j, j ≠ k.val → t.chip.field.sl j = s.chip.field.sl j)) ∧
    (k.val < s.chip.variant.slots → s.chip.field.running = true → (s.chip.field.sl k).ctx.member = true → s.chip.field.isStandby = true →
      fr.check (k.val % 12) (s.chip.field.sl k).sess.epoch = none →
      (t.chip.field.sl k).bus = { (s.chip.field.sl k).bus with heard := some fr.payload.toNat, judged := true } ∧
      ∀ j, j ≠ k.val → t.chip.field.sl j = s.chip.field.sl j) ∧
    (k.val < s.chip.variant.slots → s.chip.field.running = true → (s.chip.field.sl k).ctx.member = true → s.chip.field.isStandby = false →
      (s.chip.field.tbus (slotBus k)).markSent = false → (t.chip.field.sl k).bus = (s.chip.field.sl k).bus.hold) ∧
    (k.val < s.chip.variant.slots → s.chip.field.running = true → (s.chip.field.sl k).ctx.member = false → s.chip.field.driving = false →
      t.chip.field = s.chip.field.atCycle (559 + 480 * (k.val % 12)))) ∧
  (∀ (k : Fin 96) (s : State), ∃ t, exec (.uplinkLost k) s = .next t ∧ fieldOnly s t ∧ (s.chip.variant.slots ≤ k.val → t = s) ∧
    (k.val < s.chip.variant.slots → (s.chip.field.sl k).ctx.member = true → 8 ≤ (s.chip.field.sl k).bus.missRun → (s.chip.field.sl k).bus.lost = false →
      (s.chip.field.sl k).ctx.runSent = false →
      (t.chip.field.sl k).bus = { (s.chip.field.sl k).bus with lost := true } ∧
      t.chip.field.fcol.arisen = s.chip.field.fcol.arisen ++ [fieldEvent s (qSrc (slotQuad k) 12) 1 k]) ∧
    ((s.chip.field.sl k).ctx.member = false ∨ (s.chip.field.sl k).bus.missRun < 8 ∨ (s.chip.field.sl k).bus.lost = true → t = s)) ∧
  (∀ (n : Fin 8) (s : State), ∃ t, exec (.tbusPadFault n) s = .next t ∧ fieldOnly s t ∧
    ((s.chip.field.tbus n).echoRun = 40 → (s.chip.field.tbus n).padFault = false →
      (t.chip.field.tbus n).padFault = true ∧ t.chip.field.fcol.arisen = s.chip.field.fcol.arisen ++ [fieldEvent s (qSrc (n.val / 2) 14) 1 n]) ∧
    ((s.chip.field.tbus n).echoRun ≠ 40 ∨ (s.chip.field.tbus n).padFault = true → t = s)) ∧
  (∀ (n : Fin 8) (s : State), ∃ t, exec (.busCntRead n) s = .next t ∧ t.chip.host = s.chip.host ∧
    (2 * s.chip.variant.quads ≤ n.val → t.chip.readData = [0] ∧ t.chip.field = s.chip.field) ∧
    (n.val < 2 * s.chip.variant.quads →
      t.chip.readData = [FieldDie.busCnt (s.chip.field.tbus n)] ∧ FieldDie.busCnt (t.chip.field.tbus n) = 0)) ∧
  (∀ (k : Fin 96) (s : State), ∃ t, exec (.slotErrRead k) s = .next t ∧ t.chip.host = s.chip.host ∧
    (s.chip.variant.slots ≤ k.val → t.chip.readData = [0] ∧ t.chip.field = s.chip.field) ∧
    (k.val < s.chip.variant.slots → t.chip.readData = [(s.chip.field.sl k).bus.errWord] ∧ (t.chip.field.sl k).bus.errWord = 0) ∧
    ∀ j, j ≠ k.val → t.chip.field.sl j = s.chip.field.sl j)

/-- A branch breaker on its own (12 R301 to R318, R321): a fast trip pulls BRK_ON low at once, timers end, and a feedback fault locks out. -/
def Obligations.BreakersTripRecloseAndLockOut : Prop :=
  (∀ (b : Fin 32) (s : State), ∃ t, exec (.fastTrip b) s = .next t ∧ fieldOnly s t ∧ (s.chip.variant.branches ≤ b.val → t = s) ∧ t.chip.field.slot = s.chip.field.slot ∧
    ((s.chip.field.br b).armed = false → t = s) ∧
    (b.val < s.chip.variant.branches → (s.chip.field.br b).armed = true → (t.chip.field.br b).latch = true ∧ (t.chip.field.br b).cmp = true ∧ (t.chip.field.br b).on = false ∧
      (t.chip.field.br b).state = (s.chip.field.br b).state ∧ ∀ j, j ≠ b.val → t.chip.field.br j = s.chip.field.br j)) ∧
  (∀ (b : Fin 32) (p : Bool) (s : State), ∃ t, exec (.ftSelftest b p) s = .next t ∧ fieldOnly s t ∧ (s.chip.variant.branches ≤ b.val → t = s) ∧
    ((s.chip.field.br b).armed = false ∨ ((s.chip.field.br b).testDue = false ∧ s.chip.field.tick.tb % 40000 ≠ 1000 * b.val + 500) → t = s) ∧
    (b.val < s.chip.variant.branches → (s.chip.field.br b).armed = true → (s.chip.field.br b).testDue = true ∨ s.chip.field.tick.tb % 40000 = 1000 * b.val + 500 →
      t.chip.field.br b = { s.chip.field.br b with testPass := p, testDue := false } ∧
      t.chip.field.fcol.arisen = s.chip.field.fcol.arisen ++ (if p then [] else [fieldEvent s (qSrc (branchQuad b) 30) 1 b]))) ∧
  (∀ (b : Fin 32) (s : State), ∃ t, exec (.inrushEnd b) s = .next t ∧ fieldOnly s t ∧ (s.chip.variant.branches ≤ b.val → t = s) ∧
    (b.val < s.chip.variant.branches → (s.chip.field.br b).state = 3 → (s.chip.field.br b).startTick + (s.chip.field.br b).cfg.inrushT * 40 ≤ s.chip.field.tick.tb →
      t.chip.field.br b = { s.chip.field.br b with state := 4, accIn := 0, closedAt := s.chip.field.tick.tb } ∧
      t.chip.field.fcol.arisen = s.chip.field.fcol.arisen ++ [fieldEvent s (qSrc (branchQuad b) 25) 1 b] ∧ 41 ∈ t.chip.field.bar.vectors) ∧
    ((s.chip.field.br b).state ≠ 3 ∨ s.chip.field.tick.tb < (s.chip.field.br b).startTick + (s.chip.field.br b).cfg.inrushT * 40 → t = s)) ∧
  (∀ (b : Fin 32) (s : State), ∃ t, exec (.recloseDelayEnd b) s = .next t ∧ fieldOnly s t ∧ (s.chip.variant.branches ≤ b.val → t = s) ∧
    (b.val < s.chip.variant.branches → (s.chip.field.br b).state = 5 → (s.chip.field.br b).reclosing = true →
      (s.chip.field.br b).tripAt + (s.chip.field.br b).cfg.reDly * 40 ≤ s.chip.field.tick.tb → s.chip.field.closeBarred b = false →
      (t.chip.field.br b).state = 2 ∧ (t.chip.field.br b).closeReq = true ∧ (t.chip.field.br b).closeShed = false ∧
      (t.chip.field.br b).recl = min 3 ((s.chip.field.br b).recl + 1)) ∧
    ((s.chip.field.br b).state ≠ 5 ∨ (s.chip.field.br b).reclosing = false ∨ s.chip.field.closeBarred b = true → t = s)) ∧
  (∀ (b : Fin 32) (s : State), ∃ t, exec (.recloseResetEnd b) s = .next t ∧ fieldOnly s t ∧ (s.chip.variant.branches ≤ b.val → t = s) ∧
    (b.val < s.chip.variant.branches → (s.chip.field.br b).state = 4 → (s.chip.field.br b).closedAt + (s.chip.field.br b).cfg.reReset * 40000 ≤ s.chip.field.tick.tb →
      t.chip.field.br b = { s.chip.field.br b with recl := 0 }) ∧
    ((s.chip.field.br b).state ≠ 4 → t = s)) ∧
  (∀ (b : Fin 32) (s : State), ∃ t u, exec (.gateFbFailOpen b) s = .next t ∧ exec (.gateFbFailClose b) s = .next u ∧ fieldOnly s t ∧ fieldOnly s u ∧
    (s.chip.variant.branches ≤ b.val → t = s ∧ u = s) ∧
    ((s.chip.field.br b).state = 0 → t = s ∧ u = s) ∧
    (b.val < s.chip.variant.branches → (s.chip.field.br b).state ≠ 0 → (s.chip.field.br b).on = false → (t.chip.field.br b).state = 7 ∧ (t.chip.field.br b).cause = 7 ∧
      (t.chip.field.br b).fb = true ∧ u = s ∧ fieldEvent s (qSrc (branchQuad b) 27) 1 b ∈ t.chip.field.fcol.arisen) ∧
    (b.val < s.chip.variant.branches → (s.chip.field.br b).state ≠ 0 → (s.chip.field.br b).on = true → (u.chip.field.br b).state = 7 ∧ (u.chip.field.br b).on = false ∧
      (u.chip.field.br b).fb = false ∧ t = s ∧ fieldEvent s (qSrc (branchQuad b) 28) 1 b ∈ u.chip.field.fcol.arisen)) ∧
  (∀ (b : Fin 32) (s : State), ∃ t u, exec (.gateFbLost b) s = .next t ∧ exec (.gateFbStuck b) s = .next u ∧ fieldOnly s t ∧ fieldOnly s u ∧
    (s.chip.variant.branches ≤ b.val → t = s ∧ u = s) ∧
    (b.val < s.chip.variant.branches → (s.chip.field.br b).closed = true → (t.chip.field.br b).state = 7 ∧ (t.chip.field.br b).onCmd = false ∧ u = s ∧
      fieldEvent s (qSrc (branchQuad b) 28) 2 b ∈ t.chip.field.fcol.arisen) ∧
    (b.val < s.chip.variant.branches → (s.chip.field.br b).closed = false → (s.chip.field.br b).state ≠ 0 → t = s ∧ (u.chip.field.br b).state = 7 ∧
      (u.chip.field.br b).fb = true ∧ fieldEvent s (qSrc (branchQuad b) 28) 3 b ∈ u.chip.field.fcol.arisen)) ∧
  (∀ (b : Fin 32) (s : State), ∃ t, exec (.brkOpenCurrent b) s = .next t ∧ fieldOnly s t ∧ (s.chip.variant.branches ≤ b.val → t = s) ∧
    (b.val < s.chip.variant.branches → (s.chip.field.br b).openRun = 40 → t.chip.field.br b = { s.chip.field.br b with openRun := 41 } ∧
      t.chip.field.fcol.arisen = s.chip.field.fcol.arisen ++ [fieldEvent s (qSrc (branchQuad b) 29) 1 b]) ∧
    ((s.chip.field.br b).openRun ≠ 40 → t = s)) ∧
  (∀ (g : Fin 8) (s : State), ∃ t, exec (.testPfwEnd g) s = .next t ∧ fieldOnly s t ∧ t.chip.field.branch = s.chip.field.branch ∧
    ∀ x, x ∈ t.chip.field.brk.tests ↔ x ∈ s.chip.field.brk.tests ∧ ¬ (x.group = g.val ∧ x.until_ ≤ s.chip.field.tick.tb)) ∧
  (∀ (c p : Fin 8) (isT : Bool) (w : Word) (s : State), ∃ t, exec (.curvePointWrite c p isT w) s = .next t ∧ fieldOnly s t ∧
    t.chip.field.branch = s.chip.field.branch ∧ t.chip.field.brk.curves = s.chip.field.brk.curves ∧
    (s.chip.field.brk.bseqLock = true → t = s) ∧
    (s.chip.field.brk.bseqLock = false →
      (if isT then ((t.chip.field.brk.staged.getD c (Tab.fill 8 {})).getD p {}).t else ((t.chip.field.brk.staged.getD c (Tab.fill 8 {})).getD p {}).m)
        = w.toNat))

/-- The commands of group 0x50 (12 R299, R300, R304, R308, R312, R318, R322); TEST_PFW completes when its assertion starts. -/
def Obligations.BranchCommandsSetOpenAndClose : Prop :=
  (∀ (r : Request) (s : State), fieldTakes setBranchC r s → ∃ t, exec (.setBranch r) s = .next t ∧
    (ftOk (ftCode (r.u32 4) (s.chip.field.shunt (r.unit - 96)).scale) = false → fieldAnswers s t r .badParam 0 ∧
      t.chip.field.branch = s.chip.field.branch) ∧
    (ftOk (ftCode (r.u32 4) (s.chip.field.shunt (r.unit - 96)).scale) = true → ftOk (ftCode (r.u32 8) (s.chip.field.shunt (r.unit - 96)).scale) = true →
      curveOk (s.chip.field.brk.curves.getD (r.par 18 1) (Tab.fill 8 {})) = true →
      curveOk (s.chip.field.brk.curves.getD (r.par 17 1) (Tab.fill 8 {})) = true →
      fieldAnswers s t r .ok 0 ∧ (t.chip.field.br (r.unit - 96)).armed = true ∧ (t.chip.field.br (r.unit - 96)).cfg.configured = true ∧
      (t.chip.field.br (r.unit - 96)).cfg.iR = r.u32 0 ∧ (t.chip.field.br (r.unit - 96)).cfg.inrushT = r.u32 12 ∧
      (t.chip.field.br (r.unit - 96)).cfg.ftCode = ftCode (r.u32 4) (s.chip.field.shunt (r.unit - 96)).scale ∧
      (t.chip.field.br (r.unit - 96)).state = (if (s.chip.field.br (r.unit - 96)).state = 0 then 1 else (s.chip.field.br (r.unit - 96)).state))) ∧
  (∀ (r : Request) (s : State), fieldTakes setCurvePointC r s → ∃ t, exec (.setCurvePoint r) s = .next t ∧
    (r.u32 16 = 0 → fieldAnswers s t r .ok 0 ∧ t.chip.field.brk.curves = s.chip.field.brk.curves ∧
      ((t.chip.field.brk.staged.getD (r.u32 0) (Tab.fill 8 {})).getD (r.u32 4) {}).m = r.u32 8 ∧
      ((t.chip.field.brk.staged.getD (r.u32 0) (Tab.fill 8 {})).getD (r.u32 4) {}).t = r.u32 12) ∧
    (r.u32 16 = 1 → (t.chip.field.brk = s.chip.field.brk ∧ fieldAnswers s t r .badParam 0) ∨
      (t.chip.field.brk.curves = t.chip.field.brk.staged ∧ t.chip.field.brk.bank = !s.chip.field.brk.bank ∧ fieldAnswers s t r .ok 0))) ∧
  (∀ (r : Request) (s : State), fieldTakes closeBranchC r s → ∃ t, exec (.closeBranch r) s = .next t ∧
    ((s.chip.field.br (r.unit - 96)).state = 0 ∨ (s.chip.field.br (r.unit - 96)).state = 7 → fieldAnswers s t r .wrongMode 0 ∧
      t.chip.field.branch = s.chip.field.branch) ∧
    (2 ≤ (s.chip.field.br (r.unit - 96)).state → (s.chip.field.br (r.unit - 96)).state ≤ 4 → fieldAnswers s t r .ok 0 ∧
      t.chip.field.branch = s.chip.field.branch) ∧
    ((s.chip.field.br (r.unit - 96)).state = 6 → s.chip.field.cap.capped = true → fieldAnswers s t r .busy 0 ∧
      t.chip.field.branch = s.chip.field.branch) ∧
    ((s.chip.field.br (r.unit - 96)).state = 1 ∨ (s.chip.field.br (r.unit - 96)).state = 5 ∨
      ((s.chip.field.br (r.unit - 96)).state = 6 ∧ s.chip.field.cap.capped = false) → fieldAnswers s t r .ok 0 ∧
      (t.chip.field.br (r.unit - 96)).state = 2 ∧ (t.chip.field.br (r.unit - 96)).closeReq = true)) ∧
  (∀ (r : Request) (s : State), fieldTakes openBranchC r s → ∃ t, exec (.openBranch r) s = .next t ∧
    ((s.chip.field.br (r.unit - 96)).state = 0 → fieldAnswers s t r .wrongMode 0 ∧ t.chip.field.branch = s.chip.field.branch) ∧
    ((s.chip.field.br (r.unit - 96)).state = 1 ∨ (s.chip.field.br (r.unit - 96)).state = 7 → fieldAnswers s t r .ok 0 ∧
      t.chip.field.branch = s.chip.field.branch) ∧
    ((s.chip.field.br (r.unit - 96)).state = 2 ∨ (s.chip.field.br (r.unit - 96)).state = 5 ∨ (s.chip.field.br (r.unit - 96)).state = 6 →
      fieldAnswers s t r .ok 0 ∧ (t.chip.field.br (r.unit - 96)).state = 1 ∧ (t.chip.field.br (r.unit - 96)).onCmd = false) ∧
    ((s.chip.field.br (r.unit - 96)).closed = true → fieldAnswers s t r .ok 0 ∧ (t.chip.field.br (r.unit - 96)).state = 1 ∧
      (t.chip.field.br (r.unit - 96)).onCmd = false ∧ (t.chip.field.br (r.unit - 96)).cause = 1 ∧
      t.chip.field.fcol.arisen = s.chip.field.fcol.arisen ++ [fieldEvent s (qSrc (branchQuad (r.unit - 96)) 25) 2 (r.unit - 96)])) ∧
  (∀ (r : Request) (s : State), fieldTakes clearLockoutC r s → ∃ t, exec (.clearLockout r) s = .next t ∧
    ((s.chip.field.br (r.unit - 96)).state ≠ 7 → fieldAnswers s t r .badParam 0 ∧ t.chip.field.branch = s.chip.field.branch) ∧
    ((s.chip.field.br (r.unit - 96)).state = 7 → fieldAnswers s t r .ok 0 ∧
      t.chip.field.br (r.unit - 96) = { s.chip.field.br (r.unit - 96) with state := 1, recl := 0 })) ∧
  (∀ (r : Request) (s : State), fieldTakes testPfwC r s → ∃ t, exec (.testPfw r) s = .next t ∧ fieldWaits s t r ∧
    t.chip.field.brk.testReq = s.chip.field.brk.testReq ++ [arriving testPfwC r s] ∧
    ∀ g, g < 8 → (r.u32 0).testBit g = true → ∃ x ∈ t.chip.field.brk.tests, x.group = g ∧ x.until_ = s.chip.field.tick.tb + r.u32 4 * 40) ∧
  (∀ (r : Request) (s : State), fieldTakes getBranchC r s → ∃ t, exec (.getBranch r) s = .next t ∧ { t.chip.field with bar := s.chip.field.bar } = s.chip.field ∧
    fieldAnswers s t r .ok ((s.chip.field.brStat (r.unit - 96)).toNat + 2 ^ 32 * (BitVec.ofInt 32 (s.chip.field.branchI (r.unit - 96))).toNat)) ∧
  (∀ (r : Request) (s : State), fieldTakes getAccC r s → ∃ t, exec (.getAcc r) s = .next t ∧ { t.chip.field with bar := s.chip.field.bar } = s.chip.field ∧
    fieldAnswers s t r .ok (s.chip.field.br (r.unit - 96)).acc)

/-- Impedance probes and learning cycles (13 R329 to R333, R342 to R349, R351): what the coordinator does at each of its events. -/
def Obligations.ProbesAndLearningRun : Prop :=
  (∀ s : State, ∃ t, exec .probeStart s = .next t ∧ fieldOnly s t ∧
    (s.chip.field.sessLive = false ∨ s.chip.field.bat.coord.phase ≠ 0 ∨ s.chip.field.bat.coord.halt = true ∨
      s.chip.field.nextProbe s.chip.variant = none → t = s) ∧
    ∀ k, s.chip.field.sessLive = true → s.chip.field.bat.coord.phase = 0 → s.chip.field.bat.coord.halt = false →
      s.chip.field.bat.cfg.probeEn = true → s.chip.field.nextProbe s.chip.variant = some k →
      t.chip.field.bat.coord.phase = 1 ∧ t.chip.field.bat.coord.unit = k ∧ t.chip.field.bat.coord.last = k ∧
      t.chip.field.bat.coord.half = s.chip.field.bat.cfg.half ∧ t.chip.field.slot = s.chip.field.slot ∧
      t.chip.field.bat.coord.amp = min ((s.chip.field.bat.cfg.amp * (s.chip.field.sl k).ctx.imax / 2 ^ 16 : Nat) : Int)
        (min (s.chip.field.sl k).ctx.rampUp (s.chip.field.sl k).ctx.rampDn)) ∧
  (∀ s : State, ∃ t, exec .probePhaseGet s = .next t ∧ fieldOnly s t ∧ (s.chip.field.bat.coord.start = none → t = s) ∧
    ∀ n, s.chip.field.bat.coord.start = some n → s.chip.field.bat.coord.phase = 1 →
      s.chip.field.tick.tb = n + s.chip.field.bat.coord.half / 2 → s.chip.field.bat.coord.unit < 96 →
      queued t s.chip.field.bat.coord.unit 6 (fun fr => fr.what = 0xB ∧ fr.probe = 1)) ∧
  (∀ s : State, ∃ t, exec .probePhaseMinus s = .next t ∧ fieldOnly s t ∧ t.chip.field.slot = s.chip.field.slot ∧
    (s.chip.field.bat.coord.start = none ∨ s.chip.field.bat.coord.phase ≠ 1 → t = s) ∧
    ∀ n, s.chip.field.bat.coord.start = some n → s.chip.field.bat.coord.phase = 1 → n + s.chip.field.bat.coord.half ≤ s.chip.field.tick.tb + 1 →
      t.chip.field.bat.coord = { s.chip.field.bat.coord with phase := 2
                                                             req := some { unit := s.chip.field.bat.coord.unit, step := s.chip.field.bat.coord.sL - s.chip.field.bat.coord.amp } }) ∧
  (∀ s : State, ∃ t, exec .probeEvaluate s = .next t ∧ fieldOnly s t ∧
    (s.chip.field.bat.coord.start = none ∨ s.chip.field.bat.coord.phase ≠ 2 → t = s) ∧
    ∀ n, s.chip.field.bat.coord.start = some n → s.chip.field.bat.coord.phase = 2 → n + 2 * s.chip.field.bat.coord.half ≤ s.chip.field.tick.tb →
      (s.chip.field.bat.coord.vp = none → t.chip.field.bat.coord.phase = 3 ∧ t.chip.field.bat.coord.req = none ∧
        t.chip.field.bat.coord.gapAt = s.chip.field.tick.tb ∧ t.chip.field.bat.done = s.chip.field.bat.done ∧ t.chip.field.slot = s.chip.field.slot) ∧
      ∀ (a b : Nat) (x : Int), s.chip.field.bat.coord.vp = some a → s.chip.field.bat.coord.vm = some b → s.chip.field.bat.coord.unit < 96 →
        x = (((b : Int) - a) * 1000000).tdiv (2 * s.chip.field.bat.coord.amp) → 0 < x →
        x ≤ (8 * (s.chip.field.profile s.chip.field.bat.coord.unit).rNom : Nat) →
        (t.chip.field.sl s.chip.field.bat.coord.unit).bat.rEff = (((s.chip.field.sl s.chip.field.bat.coord.unit).bat.rEff : Int) +
          (x - (s.chip.field.sl s.chip.field.bat.coord.unit).bat.rEff) / 4).toNat ∧
        t.chip.field.bat.done = s.chip.field.bat.done.modifyNat s.chip.field.bat.coord.q (fun n => satN 16 (n + 1))) ∧
  (∀ s : State, ∃ t, exec .probeGapEnd s = .next t ∧ fieldOnly s t ∧
    (s.chip.field.bat.coord.phase = 3 → s.chip.field.bat.coord.gapAt + s.chip.field.bat.coord.gap ≤ s.chip.field.tick.tb →
      t.chip.field.bat = { s.chip.field.bat with coord := { s.chip.field.bat.coord with phase := 0, unit := 0xFF } }) ∧
    (s.chip.field.bat.coord.phase ≠ 3 → t = s)) ∧
  (∀ s : State, ∃ t, exec .probeHaltClear s = .next t ∧ fieldOnly s t ∧
    (s.chip.field.bat.coord.halt = true → 40000 ≤ s.chip.field.bat.coord.haltRun →
      t.chip.field.bat.coord = { s.chip.field.bat.coord with halt := false, haltRun := 0 } ∧
      t.chip.field.fcol.arisen = s.chip.field.fcol.arisen ++ [fieldEvent s 210 1]) ∧
    (s.chip.field.bat.coord.halt = false ∨ s.chip.field.bat.coord.haltRun < 40000 → t = s)) ∧
  (∀ (k : Fin 96) (s : State), ∃ t, exec (.probeStaleExpiry k) s = .next t ∧ fieldOnly s t ∧ (s.chip.variant.slots ≤ k.val → t = s) ∧ otherSlots s t k ∧
    (k.val < s.chip.variant.slots → (s.chip.field.sl k).ctx.role = .storage → (s.chip.field.sl k).bat.lastProbe + s.chip.field.bat.cfg.stale * 40000 ≤ s.chip.field.tick.tb →
      (t.chip.field.sl k).bat = { (s.chip.field.sl k).bat with stale := true }) ∧
    ((s.chip.field.sl k).ctx.role ≠ .storage → t = s)) ∧
  (∀ (k : Fin 96) (s : State), ∃ t, exec (.eodPoll k) s = .next t ∧ fieldOnly s t ∧ (s.chip.variant.slots ≤ k.val → t = s) ∧ otherSlots s t k ∧
    (k.val < s.chip.variant.slots → s.chip.field.sessLive = true → (s.chip.field.sl k).ctx.role = .storage → (s.chip.field.sl k).sess.state = 5 →
      s.chip.field.grid.inputState = 2 → FieldDie.statusBusy (s.chip.field.sl k) = false → queued t k 6 (fun fr => fr.what = 0xB)) ∧
    (s.chip.field.sessLive = false ∨ (s.chip.field.sl k).ctx.role ≠ .storage ∨ (s.chip.field.sl k).sess.state ≠ 5 → t = s)) ∧
  (∀ s : State, ∃ t, exec .learnCheck s = .next t ∧ fieldOnly s t ∧
    (s.chip.field.bat.cfg.learnEn = false ∨ s.chip.field.learnAllowed s.chip.variant = false ∨
      (∀ k, k < s.chip.variant.slots → s.chip.field.learnQualifies k = false ∨ s.chip.field.overdue k = none) → t = s) ∧
    ∀ k n, s.chip.field.bat.cfg.learnEn = true → s.chip.field.learnAllowed s.chip.variant = true → k < s.chip.variant.slots →
      s.chip.field.learnQualifies k = true → s.chip.field.overdue k = some n →
      (∀ j m, j ≠ k → j < s.chip.variant.slots → s.chip.field.learnQualifies j = true → s.chip.field.overdue j = some m → m < n) →
      t.chip.field.bat.coord.learnUnit = k ∧ t.chip.field.bat.coord.learnStep = 1 ∧ t.chip.field.bat.coord.learnAt = s.chip.field.tick.tb ∧
      fieldEvent s 211 1 k ∈ t.chip.field.fcol.arisen) ∧
  (∀ s : State, ∃ t, exec .learnMaxExpiry s = .next t ∧ fieldOnly s t ∧
    (s.chip.field.bat.coord.learnStep = 1 ∨ s.chip.field.bat.coord.learnStep = 2 →
      s.chip.field.bat.coord.learnAt + s.chip.field.bat.cfg.learnMax * 144000000 ≤ s.chip.field.tick.tb → s.chip.field.bat.coord.learnUnit < 96 →
      t.chip.field.bat.coord.learnUnit = 0xFF ∧ t.chip.field.bat.coord.learnStep = 0 ∧
      (t.chip.field.sl s.chip.field.bat.coord.learnUnit).bat.outcome = 3 ∧ (t.chip.field.sl s.chip.field.bat.coord.learnUnit).bat.reason = 6 ∧
      fieldEvent s 211 4 (6 * 0x10000 + s.chip.field.bat.coord.learnUnit) ∈ t.chip.field.fcol.arisen) ∧
    (s.chip.field.bat.coord.learnStep = 0 ∨ s.chip.field.bat.coord.learnStep = 3 → t = s)) ∧
  (∀ (k : Fin 96) (s : State), ∃ t, exec (.cycleOpenExpiry k) s = .next t ∧ fieldOnly s t ∧ (s.chip.variant.slots ≤ k.val → t = s) ∧ otherSlots s t k ∧
    (k.val < s.chip.variant.slots → (s.chip.field.sl k).bat.cycleOpen = true → (s.chip.field.sl k).bat.cycOpenAt + 10368000000 < s.chip.field.tick.tb →
      (t.chip.field.sl k).bat = { (s.chip.field.sl k).bat with cycleOpen := false }) ∧
    ((s.chip.field.sl k).bat.cycleOpen = false → t = s)) ∧
  (∀ (k : Fin 96) (s : State), ∃ t, exec (.batRecordWrite k) s = .next t ∧ fieldOnly s t ∧ (s.chip.variant.slots ≤ k.val → t = s) ∧ t.chip.field.slot = s.chip.field.slot ∧
    (k.val < s.chip.variant.slots → s.chip.field.running = true → s.chip.field.tick.tb % 144000000 = 0 → (s.chip.field.sl k).ctx.role = .storage →
      t.chip.field = s.chip.field.writeBattery k) ∧
    (s.chip.field.running = false ∨ s.chip.field.tick.tb % 144000000 ≠ 0 → t = s)) ∧
  (∀ (k : Fin 96) (s : State), ∃ t, exec (.learnedRecordApply k) s = .next t ∧ fieldOnly s t ∧ (s.chip.variant.slots ≤ k.val → t = s) ∧ otherSlots s t k ∧
    ((s.chip.field.sl k).ctx.role = .none → t = s) ∧
    (k.val < s.chip.variant.slots → (s.chip.field.sl k).ctx.role = .storage → ∀ x, s.chip.field.learnedFor k 2 = some x →
      (t.chip.field.sl k).bat.qCap = x.values.getD 2 0 ∧ (t.chip.field.sl k).bat.eCap = x.values.getD 3 0 ∧
      (t.chip.field.sl k).bat.rEff = x.values.getD 4 0 ∧ (t.chip.field.sl k).bat.learnCount = x.values.getD 1 0) ∧
    (k.val < s.chip.variant.slots → (s.chip.field.sl k).ctx.role = .supply → ∀ x, s.chip.field.learnedFor k 1 = some x →
      (t.chip.field.sl k).wear.stress = satN 64 ((s.chip.field.sl k).wear.stress + x.values.getD 0 0))) ∧
  (∀ (q : Fin 4) (s : State), ∃ t, exec (.batPcntRead q) s = .next t ∧ t.chip.host = s.chip.host ∧
    (s.chip.variant.quads ≤ q.val → t.chip.readData = [0] ∧ t.chip.field = s.chip.field) ∧
    (q.val < s.chip.variant.quads → t.chip.readData = [s.chip.field.batPcnt q] ∧ t.chip.field.batPcnt q = 0) ∧
    t.chip.field.slot = s.chip.field.slot)

/-- The commands of group 0x60 (13 R326, R330, R342 to R348, R352); that ABORT_LEARN changes nothing in RECOVER is the model's choice (log entry 61). -/
def Obligations.BatteryCommandsSetAndAnswer : Prop :=
  (∀ (r : Request) (s : State), fieldTakes setProbeC r s → ∃ t, exec (.setProbe r) s = .next t ∧ fieldAnswers s t r .ok 0 ∧
    t.chip.field.bat = { s.chip.field.bat with cfg := { s.chip.field.bat.cfg with
      probeEn := r.u32 0 == 1, amp := r.u32 4, half := r.u32 8, gap := r.u32 12, stale := r.u32 16 } }) ∧
  (∀ (r : Request) (s : State), fieldTakes setCountingC r s → ∃ t, exec (.setCounting r) s = .next t ∧ fieldAnswers s t r .ok 0 ∧
    t.chip.field.bat = { s.chip.field.bat with cfg := { s.chip.field.bat.cfg with
      gainErr := r.u32 0, offErr := r.u32 4, uOcv := r.u32 8, bmsUnc := r.u32 12, eodPoll := r.u32 16, slopeMin := r.u32 20 } }) ∧
  (∀ (r : Request) (s : State), fieldTakes setBatWarnC r s → ∃ t, exec (.setBatWarn r) s = .next t ∧ fieldAnswers s t r .ok 0 ∧
    t.chip.field.bat = { s.chip.field.bat with cfg := { s.chip.field.bat.cfg with
      warnLow := r.u32 0, warnCrit := r.u32 4, uncWarn := r.u32 8, rWarn := r.u32 12 } }) ∧
  (∀ (r : Request) (s : State), fieldTakes setLearningC r s → ∃ t, exec (.setLearning r) s = .next t ∧ fieldAnswers s t r .ok 0 ∧
    t.chip.field.bat = { s.chip.field.bat with cfg := { s.chip.field.bat.cfg with
      learnEn := r.u32 0 == 1, learnPeriod := r.u32 4, learnI := r.u32 8, lchg := r.u32 12, learnRamp := r.u32 16, learnMax := r.u32 20 } }) ∧
  (∀ (r : Request) (s : State), fieldTakes startLearnC r s → ∃ t, exec (.startLearn r) s = .next t ∧
    ((s.chip.field.sl r.unit).ctx.role ≠ .storage → fieldAnswers s t r .wrongMode 0 ∧ t.chip.field.bat = s.chip.field.bat) ∧
    ((s.chip.field.sl r.unit).ctx.role = .storage → s.chip.field.learnAllowed s.chip.variant = true → s.chip.field.learnQualifies r.unit = true →
      fieldAnswers s t r .ok 0 ∧ t.chip.field.bat.coord.learnUnit = r.unit ∧ t.chip.field.bat.coord.learnStep = 1) ∧
    ((s.chip.field.sl r.unit).ctx.role = .storage → s.chip.field.learnAllowed s.chip.variant = false ∨ s.chip.field.learnQualifies r.unit = false →
      fieldAnswers s t r .busy 0 ∧ t.chip.field.bat = s.chip.field.bat)) ∧
  (∀ (r : Request) (s : State), fieldTakes abortLearnC r s → ∃ t, exec (.abortLearn r) s = .next t ∧
    ((s.chip.field.sl r.unit).ctx.role ≠ .storage → fieldAnswers s t r .wrongMode 0 ∧ t.chip.field.bat = s.chip.field.bat) ∧
    ((s.chip.field.sl r.unit).ctx.role = .storage → s.chip.field.bat.coord.learnUnit = r.unit →
      s.chip.field.bat.coord.learnStep = 3 → fieldAnswers s t r .ok 0 ∧ t.chip.field.bat = s.chip.field.bat) ∧
    ((s.chip.field.sl r.unit).ctx.role = .storage → s.chip.field.bat.coord.learnUnit = r.unit →
      s.chip.field.bat.coord.learnStep = 1 ∨ s.chip.field.bat.coord.learnStep = 2 →
      fieldAnswers s t r .ok 0 ∧ t.chip.field.bat.coord.learnStep = 0 ∧ (t.chip.field.sl r.unit).bat.outcome = 3 ∧
      (t.chip.field.sl r.unit).bat.reason = 2) ∧
    ((s.chip.field.sl r.unit).ctx.role = .storage → s.chip.field.bat.coord.learnUnit ≠ r.unit ∨ s.chip.field.bat.coord.learnStep = 0 →
      fieldAnswers s t r .badParam 0 ∧ t.chip.field.bat = s.chip.field.bat)) ∧
  (∀ (r : Request) (s : State), fieldTakes setSocC r s → ∃ t, exec (.setSoc r) s = .next t ∧
    ((s.chip.field.sl r.unit).ctx.role ≠ .storage → fieldAnswers s t r .wrongMode 0 ∧ t.chip.field.slot = s.chip.field.slot) ∧
    ((s.chip.field.sl r.unit).ctx.role = .storage → fieldAnswers s t r .ok 0 ∧ (t.chip.field.sl r.unit).bat.empty = false ∧
      (t.chip.field.sl r.unit).bat.full = false ∧ (t.chip.field.sl r.unit).bat.cycleOpen = false ∧
      (t.chip.field.sl r.unit).bat.qCap = (s.chip.field.sl r.unit).bat.qCap ∧ ∀ j, j ≠ r.unit → t.chip.field.sl j = s.chip.field.sl j)) ∧
  (∀ (r : Request) (s : State), fieldTakes setCapacityC r s → ∃ t, exec (.setCapacity r) s = .next t ∧
    ((s.chip.field.sl r.unit).ctx.role ≠ .storage → fieldAnswers s t r .wrongMode 0 ∧ t.chip.field.slot = s.chip.field.slot) ∧
    ((s.chip.field.sl r.unit).ctx.role = .storage → 10 * r.par 0 8 < (s.chip.field.profile r.unit).qRated ∨
        2 * (s.chip.field.profile r.unit).qRated < r.par 0 8 → fieldAnswers s t r .badParam 0 ∧ t.chip.field.slot = s.chip.field.slot) ∧
    ((s.chip.field.sl r.unit).ctx.role = .storage → (s.chip.field.profile r.unit).qRated ≤ 10 * r.par 0 8 →
      r.par 0 8 ≤ 2 * (s.chip.field.profile r.unit).qRated → fieldAnswers s t r .ok 0 ∧ (t.chip.field.sl r.unit).bat.qCap = r.par 0 8 ∧
      (t.chip.field.sl r.unit).bat.eCap = r.par 8 8 ∧ (t.chip.field.sl r.unit).bat.cycleOpen = false)) ∧
  (∀ (r : Request) (s : State), fieldTakes getBatC r s → ∃ t, exec (.getBat r) s = .next t ∧ { t.chip.field with bar := s.chip.field.bar } = s.chip.field ∧
    ((s.chip.field.sl r.unit).ctx.role ≠ .storage → fieldAnswers s t r .ok 0) ∧
    ((s.chip.field.sl r.unit).ctx.role = .storage → fieldAnswers s t r .ok ((FieldDie.batSocWord (s.chip.field.sl r.unit)).toNat +
      2 ^ 32 * (s.chip.field.batStatWord r.unit).toNat))) ∧
  (∀ (r : Request) (s : State), fieldTakes getBatValueC r s → ∃ t, exec (.getBatValue r) s = .next t ∧ { t.chip.field with bar := s.chip.field.bar } = s.chip.field ∧
    ((s.chip.field.sl r.unit).ctx.role ≠ .storage → fieldAnswers s t r .ok 0) ∧
    ((s.chip.field.sl r.unit).ctx.role = .storage →
      (r.u32 0 = 0 → fieldAnswers s t r .ok (enc 64 ((s.chip.field.sl r.unit).bat.qRem.tdiv 1000))) ∧
      (r.u32 0 = 1 → fieldAnswers s t r .ok (s.chip.field.sl r.unit).bat.qCap) ∧
      (r.u32 0 = 2 → fieldAnswers s t r .ok (s.chip.field.sl r.unit).bat.eCap) ∧
      (r.u32 0 = 3 → fieldAnswers s t r .ok (enc 64 (s.chip.field.sl r.unit).bat.disErr)))) ∧
  (∀ (r : Request) (s : State), fieldTakes getLearnC r s → ∃ t, exec (.getLearn r) s = .next t ∧ { t.chip.field with bar := s.chip.field.bar } = s.chip.field ∧
    ((s.chip.field.sl r.unit).ctx.role ≠ .storage → fieldAnswers s t r .ok 0) ∧
    ((s.chip.field.sl r.unit).ctx.role = .storage → fieldAnswers s t r .ok ((s.chip.field.sl r.unit).bat.lastLearn +
      (s.chip.field.sl r.unit).bat.learnCount * 2 ^ 48 + (s.chip.field.sl r.unit).bat.outcome * 2 ^ 40 + (s.chip.field.sl r.unit).bat.reason * 2 ^ 32)))

/-- The messages of the peer and what the link shows (14 R359 to R366, R369, R375 to R377, R380): each acts only for a device of a pair in the
phase that awaits it. -/
def Obligations.TwinMessagesActInTheirPhase : Prop :=
  (∀ (lane : Fin 2) (b : PeerBeat) (s : State), ∃ t, exec (.twinHeartbeatRx lane b) s = .next t ∧ fieldOnly s t ∧
    (s.chip.field.twin.cfg.pairEn = false ∨ s.chip.field.running = false → t = s) ∧
    (s.chip.field.twin.cfg.pairEn = true → s.chip.field.running = true →
      t.chip.field.twin.beat = some b ∧ t.chip.field.twin.missRun = 0 ∧ t.chip.field.twin.hbSeen = true ∧
      t.chip.field.twin.role = s.chip.field.twin.role ∧ t.chip.field.twin.activeN = s.chip.field.twin.activeN ∧
      (s.chip.field.isActive = true → b.state = 5 → b.part = s.chip.variant.partCode → t.chip.field.twin.inStep = true) ∧
      (s.chip.field.isActive = true → b.state ≠ 5 ∨ b.part ≠ s.chip.variant.partCode → t.chip.field.twin.inStep = false))) ∧
  (∀ (d : BitVec 64) (s : State), ∃ t, exec (.twinDigestRx d) s = .next t ∧ fieldOnly s t ∧
    (s.chip.field.twin.cfg.pairEn = false ∨ s.chip.field.running = false → t = s) ∧
    (s.chip.field.twin.cfg.pairEn = true → s.chip.field.running = true → s.chip.field.tick.fine < 9376 →
      t.chip.field = { s.chip.field with twin := { s.chip.field.twin with peerDigest := some d } }) ∧
    (s.chip.field.twin.cfg.pairEn = true → s.chip.field.running = true → 9376 ≤ s.chip.field.tick.fine → t.chip.field.twin.peerDigest = none ∧
      (s.chip.field.twin.inStep = true → d = s.chip.field.digest s.chip.variant → s.chip.field.twin.heardDiff = false →
        t.chip.field.twin.diffRun = 0 ∧ t.chip.field.fcol = s.chip.field.fcol))) ∧
  (∀ (m : RoleMsg) (s : State), ∃ t, exec (.twinPrepareRx m) s = .next t ∧ fieldOnly s t ∧
    t.chip.field.twin.role = s.chip.field.twin.role ∧
    (s.chip.field.running = false ∨ s.chip.field.twin.cfg.pairEn = false ∨ s.chip.field.isStandby = false → t = s) ∧
    (s.chip.field.running = true → s.chip.field.twin.cfg.pairEn = true → s.chip.field.isStandby = true →
      (s.chip.field.twin.inStep = false ∨ s.chip.field.power.winter = true ∨
        (s.chip.field.twin.twinB = true ∧ s.chip.field.tick.locked = false) → t.chip.field.hand.out = some (3, m)) ∧
      (s.chip.field.twin.inStep = true → s.chip.field.twin.twinB = false ∨ s.chip.field.tick.locked = true → s.chip.field.power.winter = false →
        t.chip.field.hand.phase = 2 ∧ t.chip.field.hand.stamp = m.stamp ∧ t.chip.field.hand.newEpoch = m.newEpoch ∧
        t.chip.field.hand.switchEdge = m.switchEdge ∧ t.chip.field.hand.out = some (2, m)))) ∧
  (∀ (m : RoleMsg) (s : State), ∃ t, exec (.twinPrepAckRx m) s = .next t ∧ fieldOnly s t ∧
    (s.chip.field.hand.asking = false ∨ s.chip.field.hand.phase ≠ 1 ∨ m.stamp ≠ s.chip.field.hand.stamp → t = s) ∧
    (s.chip.field.running = true → s.chip.field.twin.cfg.pairEn = true → s.chip.field.power.winter = false → s.chip.field.hand.asking = true →
      s.chip.field.hand.phase = 1 → m.stamp = s.chip.field.hand.stamp → m.newEpoch = s.chip.field.hand.newEpoch →
      t.chip.field = { s.chip.field with hand := { s.chip.field.hand with phase := 3, out := some (4, m) } })) ∧
  (∀ (m : RoleMsg) (s : State), ∃ t, exec (.twinPrepNakRx m) s = .next t ∧ fieldOnly s t ∧
    t.chip.field.twin.role = s.chip.field.twin.role ∧
    (s.chip.field.hand.asking = false ∨ s.chip.field.hand.phase ≠ 1 ∨ m.stamp ≠ s.chip.field.hand.stamp → t = s) ∧
    (s.chip.field.running = true → s.chip.field.twin.cfg.pairEn = true → s.chip.field.power.winter = false → s.chip.field.hand.asking = true →
      s.chip.field.hand.phase = 1 → m.stamp = s.chip.field.hand.stamp → m.newEpoch = s.chip.field.hand.newEpoch →
      t.chip.field.hand.outcome = 3 ∧ t.chip.field.hand.lastStamp = some m.stamp)) ∧
  (∀ (m : RoleMsg) (s : State), ∃ t, exec (.twinCommitRx m) s = .next t ∧ fieldOnly s t ∧
    (s.chip.field.hand.asking = true ∨ s.chip.field.hand.phase ≠ 2 ∨ m.stamp ≠ s.chip.field.hand.stamp → t = s) ∧
    (s.chip.field.running = true → s.chip.field.twin.cfg.pairEn = true → s.chip.field.power.winter = false → s.chip.field.hand.asking = false →
      s.chip.field.hand.phase = 2 → m.stamp = s.chip.field.hand.stamp → m.newEpoch = s.chip.field.hand.newEpoch →
      t.chip.field = { s.chip.field with hand := { s.chip.field.hand with phase := 4, out := some (5, m) } })) ∧
  (∀ (m : RoleMsg) (s : State), ∃ t, exec (.twinCommitAckRx m) s = .next t ∧ fieldOnly s t ∧
    (s.chip.field.hand.asking = false ∨ s.chip.field.hand.phase ≠ 3 ∨ m.stamp ≠ s.chip.field.hand.stamp → t = s) ∧
    (s.chip.field.running = true → s.chip.field.twin.cfg.pairEn = true → s.chip.field.power.winter = false → s.chip.field.hand.asking = true →
      s.chip.field.hand.phase = 3 → m.stamp = s.chip.field.hand.stamp → m.newEpoch = s.chip.field.hand.newEpoch →
      t.chip.field = { s.chip.field with hand := { s.chip.field.hand with phase := 4, acked := true } })) ∧
  (∀ (m : RoleMsg) (s : State), ∃ t, exec (.twinSwapReqRx m) s = .next t ∧ fieldOnly s t ∧
    t.chip.field.twin = s.chip.field.twin ∧
    (s.chip.field.isActive = false ∨ s.chip.field.hand.lastStamp = some m.stamp → t = s) ∧
    (s.chip.field.running = true → s.chip.field.twin.cfg.pairEn = true → s.chip.field.power.winter = false → s.chip.field.isActive = true →
      s.chip.field.hand.lastStamp ≠ some m.stamp →
      t.chip.field.hand.wait = s.chip.field.hand.wait ++ [(m.stamp, none)] ∧
      (s.chip.field.hand.phase = 0 ∨ s.chip.field.hand.phase = 5 → s.chip.field.hand.wait = [] →
        t.chip.field.hand.phase = 1 ∧ t.chip.field.hand.stamp = m.stamp ∧
        t.chip.field.hand.newEpoch = (s.chip.field.twin.epoch + 1) % 65536 ∧ t.chip.field.hand.switchEdge = s.chip.field.tick.tb + 4))) ∧
  (∀ (p : StatePart) (s : State), ∃ t, exec (.twinStateRx p) s = .next t ∧ fieldOnly s t ∧
    (s.chip.field.twin.join ≠ 4 ∨ s.chip.field.running = false → t = s) ∧
    (s.chip.field.twin.join = 4 → s.chip.field.running = true →
      t.chip.field.twin.parts = s.chip.field.twin.parts ++ [if p.last then 1 else 0] ∧
      t.chip.field.twin.role = s.chip.field.twin.role ∧ t.chip.field.twin.join = 4 ∧
      (∀ d, p.disp = some d → t.chip.field.disp = d) ∧ (∀ c, p.config = some c → t.chip.field.cfg = c))) ∧
  (∀ (step port : Fin 256) (ok : Bool) (s : State), ∃ t, exec (.twinDrillRx step port ok) s = .next t ∧ fieldOnly s t ∧
    t.chip.field.twin.role = s.chip.field.twin.role ∧
    (s.chip.field.running = false ∨ s.chip.field.twin.cfg.pairEn = false ∨ s.chip.field.power.winter = true → t = s) ∧
    (s.chip.field.running = true → s.chip.field.twin.cfg.pairEn = true → s.chip.field.power.winter = false →
      (s.chip.field.isActive = true → ok = true ∨ s.chip.field.hand.drillOn = false → t = s) ∧
      (s.chip.field.isActive = true → ok = false → s.chip.field.hand.drillOn = true →
        t.chip.field.hand.drillFail = true ∧ t.chip.field.fcol.arisen ≠ s.chip.field.fcol.arisen) ∧
      (s.chip.field.isStandby = true → ok = false → t.chip.field.twin.latent = true))) ∧
  (∀ (l : Fin 2) (s : State), ∃ t, exec (.twinPacketDiscard l) s = .next t ∧ fieldOnly s t ∧
    (s.chip.field.twin.cfg.pairEn = false ∨ s.chip.field.running = false → t = s) ∧
    (s.chip.field.twin.cfg.pairEn = true → s.chip.field.running = true →
      t.chip.field.twin.linkErr = satN 8 (s.chip.field.twin.linkErr + 1) ∧ (t.chip.field.twin.lanes.get l).hit = true ∧
      ∀ j, j ≠ l → t.chip.field.twin.lanes.get j = s.chip.field.twin.lanes.get j)) ∧
  (∀ (l : Fin 2) (s : State), ∃ t, exec (.laneUp l) s = .next t ∧ fieldOnly s t ∧
    (t.chip.field.twin.lanes.get l).up = ((s.chip.field.twin.lanes.get l).up || decide (40 ≤ (s.chip.field.twin.lanes.get l).good)) ∧
    ∀ j, j ≠ l → t.chip.field.twin.lanes.get j = s.chip.field.twin.lanes.get j) ∧
  (∀ (l : Fin 2) (s : State), ∃ t, exec (.laneDown l) s = .next t ∧ fieldOnly s t ∧
    (t.chip.field.twin.lanes.get l).up = ((s.chip.field.twin.lanes.get l).up && decide ((s.chip.field.twin.lanes.get l).bad < 4)) ∧
    ∀ j, j ≠ l → t.chip.field.twin.lanes.get j = s.chip.field.twin.lanes.get j) ∧
  (∀ (x : InputSection) (s : State), ∃ t, exec (.twinInputRx x) s = .next t ∧ fieldOnly s t ∧
    (s.chip.field.running = false ∨ s.chip.field.twin.cfg.pairEn = false ∨ s.chip.field.isStandby = false → t = s) ∧
    (x.number ≠ 0 → s.chip.field.follows = false → t = s) ∧
    (s.chip.field.running = true → s.chip.field.twin.cfg.pairEn = true → s.chip.field.isStandby = true →
      (∀ n, x.number = 0 → x.tb = some n → t.chip.field.twin = { s.chip.field.twin with
        sections := s.chip.field.twin.sections ++ [0], tbDelta := (n.toNat : Int) - s.chip.field.tick.tb }) ∧
      (x.number = 5 → s.chip.field.follows = true → s.chip.field.twin.evq + x.portEvents ≤ 256 → t.chip.field.twin = { s.chip.field.twin with
        sections := s.chip.field.twin.sections ++ [5], evq := s.chip.field.twin.evq + x.portEvents }))) ∧
  (∀ (n : Fin 6) (s : State), ∃ t, exec (.inputSectionDeadline n) s = .next t ∧ fieldOnly s t ∧
    (s.chip.field.follows = false ∨ s.chip.field.twin.sections.contains n.val = true → t = s) ∧
    (s.chip.field.follows = true → s.chip.field.twin.sections.contains n.val = false → n ≠ 3 → s.chip.field.twin.missRun = 0 →
      s.chip.field.twin.inStep = true → t.chip.field.twin.inStep = false ∧
      t.chip.field.fcol.arisen = s.chip.field.fcol.arisen ++ [fieldEvent s 228 1]))

/-- Roles (14 R355 to R358, R369 to R374): the decision, a missed heartbeat, takeover, the loss of the peer, and a join. -/
def Obligations.RolesAreTakenAndLeft : Prop :=
  (∀ s : State, ∃ t, exec .roleDecision s = .next t ∧ fieldOnly s t ∧
    (s.chip.field.twin.role ≠ 0 ∨ s.chip.field.running = false ∨ s.chip.field.power.winter = true → t = s) ∧
    (s.chip.field.twin.role = 0 → s.chip.field.running = true → s.chip.field.power.winter = false →
      (s.chip.field.twin.cfg.pairEn = false → s.chip.field.twin.peerActive = false → s.chip.field.cfg.loaded = true →
        t.chip.field.twin.role = 2 ∧ t.chip.field.twin.activeN = true ∧ t.chip.field.twin.sampling = true) ∧
      (s.chip.field.twin.cfg.pairEn = false → s.chip.field.twin.peerActive = true → t.chip.field.twin.role = 0 ∧
        t.chip.field.twin.activeN = s.chip.field.twin.activeN) ∧
      (s.chip.field.twin.cfg.pairEn = true → s.chip.field.twin.peerActive = true → t.chip.field.twin.role = 1 ∧
        t.chip.field.twin.activeN = s.chip.field.twin.activeN ∧ (s.chip.field.linkUp = true → t.chip.field.twin.join = 1) ∧
        (s.chip.field.linkUp = false → t.chip.field.fcol.arisen = s.chip.field.fcol.arisen ++ [fieldEvent s 225 2])) ∧
      (s.chip.field.twin.cfg.pairEn = true → s.chip.field.twin.peerActive = false → s.chip.field.beatFresh = false →
        s.chip.field.cfg.loaded = true → (400 * s.chip.field.twin.cfg.roleWait ≤ s.chip.field.twin.waitTicks →
          t.chip.field.twin.role = 2 ∧ t.chip.field.twin.activeN = true) ∧
        (s.chip.field.twin.waitTicks < 400 * s.chip.field.twin.cfg.roleWait → t = s)))) ∧
  (∀ s : State, ∃ t, exec .heartbeatMissed s = .next t ∧ fieldOnly s t ∧
    (s.chip.field.twin.cfg.pairEn = false ∨ s.chip.field.running = false ∨ s.chip.field.twin.hbSeen = true → t = s) ∧
    (s.chip.field.twin.cfg.pairEn = true → s.chip.field.running = true → s.chip.field.twin.hbSeen = false →
      t.chip.field = { s.chip.field with twin := { s.chip.field.twin with
        hbMiss := satN 8 (s.chip.field.twin.hbMiss + 1), missRun := s.chip.field.twin.missRun + 1 } })) ∧
  (∀ s : State, ∃ t, exec .twinTakeover s = .next t ∧ fieldOnly s t ∧
    (s.chip.field.running = false ∨ s.chip.field.twin.cfg.pairEn = false ∨ s.chip.field.isStandby = false ∨
      s.chip.field.power.winter = true → t = s) ∧
    (s.chip.field.running = true → s.chip.field.twin.cfg.pairEn = true → s.chip.field.isStandby = true →
      s.chip.field.power.winter = false → 2 ≤ s.chip.field.twin.missRun →
      (s.chip.field.twin.peerActive = true → t.chip.field.twin.role = 1 ∧ t.chip.field.twin.activeN = s.chip.field.twin.activeN ∧
        t.chip.field.twin.inStep = false) ∧
      (s.chip.field.twin.peerActive = false → s.chip.field.cfg.loaded = true → t.chip.field.twin.role = 2 ∧
        t.chip.field.twin.activeN = true ∧ t.chip.field.twin.epoch = (s.chip.field.twin.epoch + 1) % 65536 ∧
        t.chip.field.hand.takeovers = satN 8 (s.chip.field.hand.takeovers + 1)))) ∧
  (∀ s : State, ∃ t, exec .twinPeerLost s = .next t ∧ fieldOnly s t ∧ t.chip.field.twin.role = s.chip.field.twin.role ∧
    (s.chip.field.isActive = false ∨ s.chip.field.twin.missRun < 2 → t = s) ∧
    (s.chip.field.isActive = true → 2 ≤ s.chip.field.twin.missRun → s.chip.field.twin.inStep = true →
      t.chip.field.twin.inStep = false ∧ fieldEvent s 225 1 ∈ t.chip.field.fcol.arisen)) ∧
  (∀ (a : Bool) (s : State), ∃ t, exec (.peerActiveSample a) s = .next t ∧ fieldOnly s t ∧
    t.chip.field.twin.peerActive = a ∧ t.chip.field.twin.sampling = false ∧
    (s.chip.field.twin.sampling = true → a = true → s.chip.field.twin.twinB = true →
      t.chip.field.twin.role = 1 ∧ t.chip.field.twin.activeN = false ∧
      t.chip.field.fcol.arisen = s.chip.field.fcol.arisen ++ [fieldEvent s 226 1]) ∧
    (s.chip.field.twin.sampling = false ∨ a = false ∨ s.chip.field.twin.twinB = false →
      t.chip.field.twin.role = s.chip.field.twin.role ∧ t.chip.field.twin.activeN = s.chip.field.twin.activeN)) ∧
  (∀ s : State, ∃ t, exec .twinInterlock s = .next t ∧ fieldOnly s t ∧
    (s.chip.field.twin.activeN = true → s.chip.field.twin.peerActive = true → s.chip.field.twin.sampling = false →
      t.chip.field.fcol.arisen = s.chip.field.fcol.arisen ++ [fieldEvent s 226 1] ∧ t.chip.field.twin = s.chip.field.twin) ∧
    (s.chip.field.twin.activeN = false ∨ s.chip.field.twin.peerActive = false ∨ s.chip.field.twin.sampling = true → t = s)) ∧
  (∀ s : State, ∃ t, exec .joinStart s = .next t ∧ fieldOnly s t ∧ t.chip.field.twin.role = s.chip.field.twin.role ∧
    (s.chip.field.twin.join ≠ 0 ∨ s.chip.field.twin.inStep = true ∨ s.chip.field.isStandby = false ∨ s.chip.field.twin.noAuto = true → t = s) ∧
    (s.chip.field.isStandby = true → s.chip.field.running = true → s.chip.field.power.winter = false → s.chip.field.linkUp = true →
      s.chip.field.twin.join = 0 → s.chip.field.twin.inStep = false → s.chip.field.twin.noAuto = false →
      s.chip.field.twin.leftAt + 40000 ≤ s.chip.field.tick.tb → s.chip.field.twin.joinTimes = [] →
      t.chip.field.twin.join = 1 ∧ t.chip.field.twin.joinTimes = [s.chip.field.tick.tb])) ∧
  (∀ (o : StepEnd) (s : State), ∃ t, exec (.joinStepEnd o) s = .next t ∧ fieldOnly s t ∧ t.chip.field.twin.role = s.chip.field.twin.role ∧
    (s.chip.field.isStandby = false ∨ s.chip.field.twin.join = 0 ∨ s.chip.field.running = false → t = s) ∧
    (s.chip.field.isStandby = true → s.chip.field.running = true → s.chip.field.twin.join ≠ 0 →
      (o = .failed → t.chip.field.twin.join = 0 ∧ t.chip.field.twin.inStep = s.chip.field.twin.inStep) ∧
      (o = .done → s.chip.field.twin.join = 1 → s.chip.field.linkUp = true → 40 ≤ s.chip.field.twin.joinBeats → t.chip.field.twin.join = 2) ∧
      (o = .done → s.chip.field.twin.join = 2 → (s.chip.field.partMatch s.chip.variant = false → t.chip.field.twin.join = 0 ∧
        fieldEvent s 232 1 ∈ t.chip.field.fcol.arisen) ∧
        (s.chip.field.partMatch s.chip.variant = true → s.chip.field.hfMatch = true →
          s.chip.field.peerIs (fun b => b.role == 1 && !b.health1 0) = true → t.chip.field.twin.join = 3)) ∧
      (o = .done → s.chip.field.twin.join = 3 → s.chip.field.tick.locked = true ∨ s.chip.field.twin.twinB = false →
        t.chip.field.twin.join = 4 ∧ t.chip.field.twin.adopt = true) ∧
      (o = .done → s.chip.field.twin.join = 4 → 1 ∈ s.chip.field.twin.parts → t.chip.field.twin.join = 5) ∧
      (o = .done → s.chip.field.twin.join = 5 → t.chip.field.twin.join = 6) ∧
      (o = .done → s.chip.field.twin.join = 6 → s.chip.field.twin.joinDigests < 400 → t = s) ∧
      (o = .done → s.chip.field.twin.join = 6 → 400 ≤ s.chip.field.twin.joinDigests →
        t.chip.field.twin.join = 0 ∧ t.chip.field.twin.inStep = true ∧ t.chip.field.twin.joinReqs = [])))

/-- Handover, revert and DRILL (14 R376 to R381, R383, R384): release, switch and its failures, the revert, the steps of a DRILL. -/
def Obligations.HandoverSwitchesTheRole : Prop :=
  (∀ s : State, ∃ t, exec .handoverRelease s = .next t ∧ fieldOnly s t ∧
    (s.chip.field.hand.cold = none → (s.chip.field.hand.asking = true → s.chip.field.hand.acked = true →
        s.chip.field.hand.switchEdge = s.chip.field.tick.tb + 1 →
        t.chip.field.twin = { s.chip.field.twin with activeN := false, sampling := false } ∧ t.chip.field.driving = false ∧
        t.chip.field.brk.pfwLand = Tab.fill 8 false ∧ t.chip.field.hand = { s.chip.field.hand with released := true }) ∧
      (s.chip.field.hand.asking = false ∨ s.chip.field.hand.acked = false ∨
        s.chip.field.hand.switchEdge ≠ s.chip.field.tick.tb + 1 → t = s)) ∧
    (∀ r, s.chip.field.hand.cold = some r → t.chip.field.twin.role = 1 ∧ t.chip.field.twin.activeN = false ∧
      t.chip.field.twin.gaveUp = true ∧ t.chip.field.hand.cold = none)) ∧
  (∀ (p : Bool) (s : State), ∃ t, exec (.handoverSwitchEdge p) s = .next t ∧ fieldOnly s t ∧
    (s.chip.field.hand.phase = 0 ∨ s.chip.field.hand.phase = 5 ∨ s.chip.field.tick.tb < s.chip.field.hand.switchEdge ∨
      s.chip.field.power.winter = true → t = s) ∧
    (s.chip.field.power.winter = false → s.chip.field.hand.phase ≠ 0 → s.chip.field.hand.phase ≠ 5 → s.chip.field.hand.switchEdge ≤ s.chip.field.tick.tb →
      (s.chip.field.hand.asking = true → s.chip.field.hand.acked = true → t.chip.field.twin.role = 1 ∧ t.chip.field.twin.activeN = false ∧
        t.chip.field.twin.epoch = s.chip.field.hand.newEpoch ∧ t.chip.field.hand.outcome = 1 ∧ t.chip.field.hand.wait = []) ∧
      (s.chip.field.hand.asking = true → s.chip.field.hand.acked = false → t.chip.field.twin.role = s.chip.field.twin.role ∧
        t.chip.field.twin.epoch = s.chip.field.twin.epoch ∧ t.chip.field.hand.outcome = 2) ∧
      (s.chip.field.hand.asking = false → s.chip.field.hand.phase ≠ 4 → t.chip.field.twin.role = s.chip.field.twin.role ∧
        t.chip.field.twin.epoch = s.chip.field.twin.epoch ∧ t.chip.field.hand.outcome = 2) ∧
      (s.chip.field.hand.asking = false → s.chip.field.hand.phase = 4 → s.chip.field.hand.tries < 3 →
        t.chip.field.twin.epoch = s.chip.field.hand.newEpoch ∧
        (p = true → t.chip.field.twin.role = 2 ∧ t.chip.field.twin.activeN = true ∧ t.chip.field.hand.outcome = 1) ∧
        (p = false → t.chip.field.twin.role = s.chip.field.twin.role ∧ t.chip.field.hand.tries = s.chip.field.hand.tries + 1)))) ∧
  (∀ s : State, ∃ t, exec .handoverAssertFail s = .next t ∧ fieldOnly s t ∧ t.chip.field.twin.role = s.chip.field.twin.role ∧
    (s.chip.field.hand.phase ≠ 4 ∨ s.chip.field.hand.asking = true ∨ s.chip.field.hand.tries < 3 → t = s) ∧
    (s.chip.field.hand.phase = 4 → s.chip.field.hand.asking = false → 3 ≤ s.chip.field.hand.tries →
      t.chip.field.hand.phase = 0 ∧ t.chip.field.hand.outcome = 4 ∧ fieldEvent s 230 1 ∈ t.chip.field.fcol.arisen)) ∧
  (∀ s : State, ∃ t, exec .revertExpiry s = .next t ∧ fieldOnly s t ∧ t.chip.field.twin = s.chip.field.twin ∧
    (s.chip.field.reverting = false ∨ s.chip.field.hand.revTicks < 40000 * s.chip.field.twin.cfg.revertDly → t = s) ∧
    (s.chip.field.reverting = true → 40000 * s.chip.field.twin.cfg.revertDly ≤ s.chip.field.hand.revTicks →
      t.chip.field.fcol.arisen = s.chip.field.fcol.arisen ++ [fieldEvent s 229 2] ∧
      (s.chip.field.hand.phase = 0 → s.chip.field.hand.wait = [] →
        t.chip.field.hand.phase = 1 ∧ t.chip.field.hand.stamp = s.chip.field.tick.tb))) ∧
  (∀ (ok : Bool) (s : State), ∃ t, exec (.drillStep ok) s = .next t ∧ fieldOnly s t ∧
    (s.chip.field.hand.drillOn = false ∨ s.chip.field.hand.drillKind ≠ 0 ∨ s.chip.field.isActive = false → t = s) ∧
    (s.chip.field.hand.drillOn = true → s.chip.field.hand.drillKind = 0 → s.chip.field.isActive = true →
      (s.chip.field.hand.drillStep < 8 → s.chip.field.hand.drillAt + 40 * s.chip.field.hand.drillStep ≤ s.chip.field.tick.tb →
        t.chip.field.hand.drillStep = s.chip.field.hand.drillStep + 1 ∧ t.chip.field.hand.drillOn = true ∧
        (ok = true → t.chip.field.hand.tbusFail = s.chip.field.hand.tbusFail) ∧
        (ok = false → t.chip.field.hand.tbusFail = Nat.lor s.chip.field.hand.tbusFail (2 ^ s.chip.field.hand.drillStep))) ∧
      (s.chip.field.hand.drillStep = 9 → t.chip.field.hand.drillOn = false ∧ t.chip.field.hand.readbackFail = (s.chip.field.hand.readbackFail || !ok) ∧
        t.chip.field.hand.drills = satN 16 (s.chip.field.hand.drills + 1)))) ∧
  (∀ s : State, ∃ t, exec .drillHoldEnd s = .next t ∧ fieldOnly s t ∧
    (s.chip.field.hand.drillOn = true → s.chip.field.hand.drillKind = 1 → s.chip.field.hand.drillBack = false → s.chip.field.isStandby = true →
      s.chip.field.hand.drillAt + s.chip.field.hand.drillHold ≤ s.chip.field.tick.tb → t.chip.field.hand.drillBack = true ∧
      t.chip.field.hand.swap = some { newEpoch := s.chip.field.twin.epoch, stamp := s.chip.field.tick.tb, switchEdge := 0 }) ∧
    (s.chip.field.hand.drillOn = false ∨ s.chip.field.hand.drillKind ≠ 1 ∨ s.chip.field.hand.drillBack = true ∨ s.chip.field.isStandby = false →
      t = s)) ∧
  (∀ s : State, ∃ t, exec .twinCntRead s = .next t ∧ t.chip.host = s.chip.host ∧
    t.chip.readData = [if s.chip.field.twin.cfg.pairEn then s.chip.field.twinCnt else 0] ∧ t.chip.field.twinCnt = 0)

/-- The commands of group 0x70 (14 R375, R379 to R385): without PAIR_EN the commands that act complete with WRONG_MODE. That HANDOVER does so on a
standby that hears no peer is the model's choice (log entry 64). -/
def Obligations.TwinCommandsMoveTheRole : Prop :=
  (∀ (r : Request) (s : State), fieldTakes handoverC r s → ∃ t, exec (.handover r) s = .next t ∧
    t.chip.field.twin = s.chip.field.twin ∧
    (s.chip.field.twin.cfg.pairEn = false ∨ s.chip.field.hfMatch = false ∨ s.chip.field.twin.role = 0 →
      t.chip.field.hand = s.chip.field.hand ∧ fieldAnswers s t r .wrongMode 0) ∧
    (s.chip.field.twin.cfg.pairEn = true → s.chip.field.hfMatch = true →
      (s.chip.field.isStandby = true → s.chip.field.beatFresh = false → fieldAnswers s t r .wrongMode 0) ∧
      (s.chip.field.isStandby = true → s.chip.field.beatFresh = true → fieldWaits s t r ∧
        t.chip.field.hand.wait = s.chip.field.hand.wait ++ [(s.chip.field.tick.tb, some (arriving handoverC r s))] ∧
        t.chip.field.hand.swap = some { newEpoch := s.chip.field.twin.epoch, stamp := s.chip.field.tick.tb, switchEdge := 0 }) ∧
      (s.chip.field.isActive = true → s.chip.field.hand.phase = 0 → s.chip.field.hand.wait = [] →
        s.chip.field.hand.lastStamp ≠ some s.chip.field.tick.tb → fieldWaits s t r ∧ t.chip.field.hand.phase = 1 ∧
        t.chip.field.hand.stamp = s.chip.field.tick.tb ∧ t.chip.field.hand.newEpoch = (s.chip.field.twin.epoch + 1) % 65536 ∧
        t.chip.field.hand.switchEdge = s.chip.field.tick.tb + 4))) ∧
  (∀ (r : Request) (s : State), fieldTakes setRevertC r s → ∃ t, exec (.setRevert r) s = .next t ∧
    (s.chip.field.twin.cfg.pairEn = false → t.chip.field.twin = s.chip.field.twin ∧ fieldAnswers s t r .wrongMode 0) ∧
    (s.chip.field.twin.cfg.pairEn = true → fieldAnswers s t r .ok 0 ∧ t.chip.field.hand = { s.chip.field.hand with hold := r.u32 8 == 1 } ∧
      t.chip.field.twin = { s.chip.field.twin with cfg := { s.chip.field.twin.cfg with revertEn := r.u32 0 == 1, revertDly := r.u32 4 } })) ∧
  (∀ (r : Request) (s : State), fieldTakes drillC r s → ∃ t, exec (.drill r) s = .next t ∧ t.chip.field.twin = s.chip.field.twin ∧
    (s.chip.field.twin.cfg.pairEn = false ∨ s.chip.field.isActive = false ∨ s.chip.field.twin.inStep = false ∨
      s.chip.field.hand.drillOn = true → t.chip.field.hand = s.chip.field.hand ∧ fieldAnswers s t r .wrongMode 0) ∧
    (s.chip.field.twin.cfg.pairEn = true → s.chip.field.isActive = true → s.chip.field.twin.inStep = true → s.chip.field.hand.drillOn = false →
      fieldWaits s t r ∧ t.chip.field.hand.drillOn = true ∧ t.chip.field.hand.drillKind = r.u32 0 ∧ t.chip.field.hand.drillFail = false ∧
      (r.u32 0 = 1 → s.chip.field.hand.phase = 0 → s.chip.field.hand.wait = [] → t.chip.field.hand.phase = 1))) ∧
  (∀ (r : Request) (s : State), fieldTakes leaveStepC r s → ∃ t, exec (.leaveStep r) s = .next t ∧
    (s.chip.field.twin.cfg.pairEn = false ∨ s.chip.field.isStandby = false →
      t.chip.field.twin = s.chip.field.twin ∧ fieldAnswers s t r .wrongMode 0) ∧
    (s.chip.field.twin.cfg.pairEn = true → s.chip.field.isStandby = true → fieldAnswers s t r .ok 0 ∧
      t.chip.field.twin.inStep = false ∧ t.chip.field.twin.noAuto = true ∧ t.chip.field.twin.join = 0)) ∧
  (∀ (r : Request) (s : State), fieldTakes joinC r s → ∃ t, exec (.join r) s = .next t ∧
    (s.chip.field.twin.cfg.pairEn = false ∨ s.chip.field.isStandby = false →
      t.chip.field.twin = s.chip.field.twin ∧ fieldAnswers s t r .wrongMode 0) ∧
    (s.chip.field.twin.cfg.pairEn = true → s.chip.field.isStandby = true →
      (s.chip.field.twin.inStep = true → t.chip.field.twin = s.chip.field.twin ∧ fieldAnswers s t r .ok 0) ∧
      (s.chip.field.twin.inStep = false → fieldWaits s t r ∧ t.chip.field.twin.noAuto = false ∧
        t.chip.field.twin.join = (if s.chip.field.twin.join = 0 then 1 else s.chip.field.twin.join) ∧
        t.chip.field.twin.joinReqs = s.chip.field.twin.joinReqs ++ [(s.chip.field.tick.tb, arriving joinC r s)]))) ∧
  (∀ (r : Request) (s : State), fieldTakes coldSwapC r s → ∃ t, exec (.coldSwap r) s = .next t ∧ t.chip.field.twin = s.chip.field.twin ∧
    (s.chip.field.twin.cfg.pairEn = true → s.chip.field.isActive = true → s.chip.field.beatFresh = true → s.chip.field.hand.cold = none →
      s.chip.field.peerIs (fun b => b.role == 2 && !b.health1 0 && !b.health1 5) = true →
      fieldWaits s t r ∧ t.chip.field.hand.cold = some (arriving coldSwapC r s)) ∧
    (s.chip.field.twin.cfg.pairEn = false ∨ s.chip.field.isActive = false ∨ s.chip.field.beatFresh = false →
      t.chip.field.hand = s.chip.field.hand ∧ fieldAnswers s t r .wrongMode 0)) ∧
  (∀ (r : Request) (s : State), fieldTakes getTwinC r s → ∃ t, exec (.getTwin r) s = .next t ∧
    { t.chip.field with bar := s.chip.field.bar } = s.chip.field ∧ fieldAnswers s t r .ok (s.chip.field.twinGet s.chip.variant))

/-- Fault collection (15 R389 to R391, R397, R407 to R409): region H judges its events, and each command of group 0x80 acts on the collector of
its source's side. -/
def Obligations.FaultSourcesAreJudgedAndSet : Prop :=
  (∀ s : State, ∃ t, exec .hostEventJudge s = .next t ∧ hostOnly s t ∧
    (s.chip.host.fcm.arisen = [] → t.chip.host = { s.chip.host with fcm := s.chip.host.fcm.age s.chip.host.htb }) ∧
    ∀ e row x rung sev esc, s.chip.host.fcm.arisen = [e] → srcRow e.src = some row →
      s.chip.host.fcm.evaluate true row s.chip.host.htb e = (x, rung, sev, esc) →
      (rung < 2 → e.src ≠ 9 → t.chip.host.fcm.arisen = [] ∧ t.chip.host.fcm.lastSrc = e.src ∧ t.chip.host.fcm.lastRx = rung ∧
        (t.chip.host.fcm.src e.src).pend = x.pend ∧ (t.chip.host.fcm.src e.src).severe = x.severe ∧ t.chip.host.booted = s.chip.host.booted) ∧
      (3 ≤ rung → t.chip.host.booted = false ∧ t.chip.host.mode.cause = 4 ∧ t.chip.host.mode.scope = 1)) ∧
  (∀ (r : Request) (s : State),
    (srcHost r = true → hostTakes cmdAckFaultH r s → ∃ t, exec (.ackFault r) s = .next t ∧ hostOnly s t ∧
      hostAnswers s t r .ok (bit (s.chip.host.fcm.src (r.u32 0)).pend) ∧ (t.chip.host.fcm.src (r.u32 0)).pend = false ∧
      ∀ j, j ≠ r.u32 0 → t.chip.host.fcm.src j = s.chip.host.fcm.src j) ∧
    (srcHost r = false → r.u32 0 ≠ 0xFFFFFFFF → fieldTakes cmdAckFault r s → ∃ t, exec (.ackFault r) s = .next t ∧
      fieldAnswers s t r .ok (bit (s.chip.field.fcol.src (r.u32 0)).pend) ∧ (t.chip.field.fcol.src (r.u32 0)).pend = false ∧
      ∀ j, j ≠ r.u32 0 → t.chip.field.fcol.src j = s.chip.field.fcol.src j) ∧
    (r.u32 0 = 0xFFFFFFFF → fieldTakes cmdAckFault r s → ∃ t, exec (.ackFault r) s = .next t ∧
      ∀ j, j < 256 → (Collector.judges true j = true → (t.chip.host.fcm.src j).pend = false) ∧
        (Collector.judges false j = true → (t.chip.field.fcol.src j).pend = false))) ∧
  (∀ (r : Request) (s : State),
    (srcHost r = true → hostTakes cmdSetSourceH r s → ∃ t, exec (.setSource r) s = .next t ∧ hostOnly s t ∧ hostAnswers s t r .ok 0 ∧
      t.chip.host.fcm.src (r.u32 0) = { s.chip.host.fcm.src (r.u32 0) with
        ev := r.u32 4, sv := r.u32 8, flt := r.u32 12 == 1, n := r.u32 16, w := r.u32 20, q := r.u32 24 }) ∧
    (srcHost r = false → fieldTakes cmdSetSource r s → ∃ t, exec (.setSource r) s = .next t ∧ fieldAnswers s t r .ok 0 ∧
      t.chip.field.fcol.src (r.u32 0) = { s.chip.field.fcol.src (r.u32 0) with
        ev := r.u32 4, sv := r.u32 8, flt := r.u32 12 == 1, n := r.u32 16, w := r.u32 20, q := r.u32 24 } ∧
      ∀ j, j ≠ r.u32 0 → t.chip.field.fcol.src j = s.chip.field.fcol.src j)) ∧
  (∀ (r : Request) (s : State),
    (srcHost r = true → hostTakes cmdGetSourceH r s → ∃ t, exec (.getSource r) s = .next t ∧ hostOnly s t ∧ t.chip.host.fcm = s.chip.host.fcm ∧
      hostAnswers s t r .ok (s.chip.host.fcm.getSource (r.u32 0))) ∧
    (srcHost r = false → fieldTakes cmdGetSource r s → ∃ t, exec (.getSource r) s = .next t ∧
      { t.chip.field with bar := s.chip.field.bar } = s.chip.field ∧ fieldAnswers s t r .ok (s.chip.field.fcol.getSource (r.u32 0)))) ∧
  (∀ (r : Request) (s : State), fieldTakes cmdGetFault r s → ∃ t, exec (.getFault r) s = .next t ∧
    { t.chip.field with bar := s.chip.field.bar } = s.chip.field ∧ fieldAnswers s t r .ok
      ((s.chip.field.fcol.status s.chip.field.power.winter s.chip.field.faultSeen).toNat + 2 ^ 32 * s.chip.field.fcol.lastData)) ∧
  (∀ (r : Request) (s : State),
    (srcHost r = false → fieldTakes cmdInjectEvent r s → ∃ t en, exec (.injectEvent r) s = .next t ∧
      s.chip.field.fcol.inject false s.chip.field.tick.tb (fieldEvent s (r.u32 0) (r.u32 4 / 2 ^ 24) (r.u32 4 % 2 ^ 24)) = some en ∧
      t.chip.field.fcol = s.chip.field.fcol.lastEntry en ∧ t.chip.field.power = s.chip.field.power ∧ fieldAnswers s t r .ok (injectResult en)) ∧
    (srcHost r = true → hostTakes cmdInjectEventH r s → ∃ t en, exec (.injectEvent r) s = .next t ∧ hostOnly s t ∧
      s.chip.host.fcm.inject true s.chip.host.htb (hostEvent s (r.u32 0) (r.u32 4 / 2 ^ 24) (r.u32 4 % 2 ^ 24)) = some en ∧
      t.chip.host.fcm = s.chip.host.fcm.lastEntry en ∧ t.chip.host.blk = s.chip.host.blk ∧ t.chip.host.booted = s.chip.host.booted ∧
      hostAnswers s t r .ok (injectResult en))) ∧
  (∀ (r : Request) (s : State),
    (srcHost r = true → hostTakes cmdClearRecoveryH r s → ∃ t, exec (.clearRecovery r) s = .next t ∧ hostOnly s t ∧ hostAnswers s t r .ok 0 ∧
      t.chip.host.fcm.src (r.u32 0) = { s.chip.host.fcm.src (r.u32 0) with recov := 0 }) ∧
    (srcHost r = false → r.u32 0 ≠ 0xFFFFFFFF → fieldTakes cmdClearRecovery r s → ∃ t, exec (.clearRecovery r) s = .next t ∧
      fieldAnswers s t r .ok 0 ∧ t.chip.field.fcol.src (r.u32 0) = { s.chip.field.fcol.src (r.u32 0) with recov := 0 } ∧
      ∀ j, j ≠ r.u32 0 → t.chip.field.fcol.src j = s.chip.field.fcol.src j) ∧
    (r.u32 0 = 0xFFFFFFFF → fieldTakes cmdClearRecovery r s → ∃ t, exec (.clearRecovery r) s = .next t ∧
      ∀ j, j < 256 → (Collector.judges true j = true → (t.chip.host.fcm.src j).recov = 0) ∧
        (Collector.judges false j = true → (t.chip.field.fcol.src j).recov = 0)))

/-- The commands of group 0x90 on both sides of the recorder (16 R411 to R413, R416, R420, R421, R424 to R426, R429). -/
def Obligations.RecorderCommandsSetAndAnswer : Prop :=
  (∀ (r : Request) (s : State), fieldTakes cmdRecSetTrigger r s → ∃ t, exec (.recSetTrigger r) s = .next t ∧ fieldAnswers s t r .ok 0 ∧
    t.chip.field.recf.trig.length = s.chip.field.recf.trig.length ∧
    ∀ i x, s.chip.field.recf.trig[i]? = some x → t.chip.field.recf.trig[i]? = some
      (if i = r.u32 0 ∨ (r.u32 0 = 0xFFFFFFFF ∧ i < 256) then { cond := r.u32 4, list := r.u32 8, trace := r.u32 12 == 1 } else x)) ∧
  (∀ (r : Request) (s : State), fieldTakes recSetListC r s → ∃ t, exec (.recSetList r) s = .next t ∧ fieldAnswers s t r .ok 0 ∧
    ((r.par 3 1).testBit 7 = false →
      (t.chip.field.recf.lists.getD (r.par 0 2) {}).ops = (s.chip.field.recf.lists.getD (r.par 0 2) {}).ops ∧
      (t.chip.field.recf.lists.getD (r.par 0 2) {}).gen = (s.chip.field.recf.lists.getD (r.par 0 2) {}).gen ∧
      t.chip.field.recf.queue = s.chip.field.recf.queue) ∧
    ((r.par 3 1).testBit 7 = true →
      (t.chip.field.recf.lists.getD (r.par 0 2) {}).gen = ((s.chip.field.recf.lists.getD (r.par 0 2) {}).gen + 1) % 2 ^ 16 ∧
      (t.chip.field.recf.lists.getD (r.par 0 2) {}).ops.length = r.par 2 1 + r.par 3 1 % 32 ∧
      (s.chip.field.recf.queue.length < 64 → t.chip.field.recf.queue.length = s.chip.field.recf.queue.length + 1)) ∧
    ∀ i, r.par 2 1 ≤ i → i < r.par 2 1 + r.par 3 1 % 32 →
      (t.chip.field.recf.lists.getD (r.par 0 2) {}).staged[i]? = some (r.par (4 + 2 * (i - r.par 2 1)) 2)) ∧
  (∀ (r : Request) (s : State), fieldTakes cmdRecSetTrace r s → ∃ t, exec (.recSetTrace r) s = .next t ∧
    (s.chip.field.recf.post.isSome = true → t.chip.field.recf = s.chip.field.recf ∧ fieldAnswers s t r .busy 0) ∧
    (s.chip.field.recf.post = none → t.chip.field.recf.chOp.getD (r.u32 0) 0 = r.u32 4 ∧ t.chip.field.recf.chShift.getD (r.u32 0) 0 = r.u32 8 ∧
      t.chip.field.recf.pre = (if r.u32 12 = 0xFFFFFFFF then s.chip.field.recf.pre else r.u32 12) ∧ fieldAnswers s t r .ok 0)) ∧
  (∀ (r : Request) (s : State), fieldTakes cmdRecSetLevel r s → ∃ t, exec (.recSetLevel r) s = .next t ∧ fieldAnswers s t r .ok 0 ∧
    t.chip.field.recf.levels.getD (r.u32 0) {} =
      { ch := r.u32 4, level := r.s32 8, dir := r.u32 12, list := r.u32 16, trace := r.u32 20 == 1, armed := true, backRun := 0, prev := none }) ∧
  (∀ (r : Request) (s : State), fieldTakes cmdRecTrigger r s → ∃ t, exec (.recTrigger r) s = .next t ∧ fieldWaits s t r ∧
    ∃ x : TrigHit, x.kind = 3 ∧ x.list = r.u32 0 ∧ x.trace = (r.u32 4 == 1) ∧ x.req.isSome = true ∧
      t.chip.field.recf.hits = s.chip.field.recf.hits ++ [x]) ∧
  (∀ (r : Request) (s : State), hostTakes cmdRecFreeze r s → ∃ t, exec (.recFreeze r) s = .next t ∧ hostOnly s t ∧
    (s.chip.host.rech.frozen = true → hostAnswers s t r .busy 0 ∧ t.chip.host.rech = s.chip.host.rech) ∧
    (s.chip.host.rech.frozen = false → s.chip.host.rech.thawAt = none → t.chip.host.rech.frozen = true ∧
      t.chip.host.rech.frozenAt = s.chip.host.htb ∧ t.chip.host.rech.endSeq = (s.chip.host.rech.nextSeq + 2 ^ 32 - 1) % 2 ^ 32 ∧
      hostAnswers s t r .ok ((s.chip.host.rech.nextSeq + 2 ^ 32 - 1) % 2 ^ 32))) ∧
  (∀ (r : Request) (s : State), hostTakes cmdRecThaw r s → ∃ t, exec (.recThaw r) s = .next t ∧ hostOnly s t ∧ hostAnswers s t r .ok 0 ∧
    t.chip.host.rech.frozen = false ∧
    t.chip.host.rech.thawAt = if s.chip.host.rech.frozen then some s.chip.host.htb else s.chip.host.rech.thawAt) ∧
  (∀ (r : Request) (s : State), hostTakes cmdRecFlush r s → ∃ t, exec (.recFlush r) s = .next t ∧ hostOnly s t ∧
    t.chip.host.rech.buffer = s.chip.host.rech.buffer ∧
    (s.chip.host.rech.buffer = [] → hostAnswers s t r .ok 0) ∧
    (s.chip.host.rech.buffer ≠ [] → hostWaits s t r ∧ t.chip.host.rech.urgent = true ∧
      t.chip.host.rech.flushCmds.length = s.chip.host.rech.flushCmds.length + 1)) ∧
  (∀ (r : Request) (s : State), hostTakes cmdRecClear r s → ∃ t, exec (.recClear r) s = .next t ∧ hostOnly s t ∧
    (s.chip.host.mode.winter = true → hostAnswers s t r .wrongMode 0 ∧ t.chip.host.rech = s.chip.host.rech) ∧
    (s.chip.host.mode.winter = false → s.chip.host.rech.frozen = true → hostAnswers s t r .busy 0 ∧ t.chip.host.rech = s.chip.host.rech) ∧
    (s.chip.host.mode.winter = false → s.chip.host.rech.frozen = false → 256 ≤ s.chip.host.rech.ledger.length →
      hostAnswers s t r .full 0 ∧ t.chip.host.rech = s.chip.host.rech) ∧
    (s.chip.host.mode.winter = false → s.chip.host.rech.frozen = false → s.chip.host.rech.ledger.length < 256 →
      hostWaits s t r ∧ t.chip.host.rech.log = s.chip.host.rech.log ∧ t.chip.host.rech.traces = s.chip.host.rech.traces ∧
      t.chip.host.rech.clearCmds.length = s.chip.host.rech.clearCmds.length + 1 ∧
      (.ledger ∈ t.chip.host.stor.ops ∨ t.chip.host.stor.current = some .ledger) ∧
      ∃ l : Ledger, l.index = s.chip.host.rech.ledger.length ∧ l.what = r.u32 0 ∧ l.keySlot = r.keySlot ∧ l.tb = s.chip.host.htb ∧
        l.cleared = false ∧ t.chip.host.rech.ledger = s.chip.host.rech.ledger ++ [l])) ∧
  (∀ (r : Request) (s : State), hostTakes cmdRecSetFlush r s → ∃ t, exec (.recSetFlush r) s = .next t ∧ hostOnly s t ∧
    hostAnswers s t r .ok 0 ∧ t.chip.host.rech = { s.chip.host.rech with flushDly := r.u32 0 }) ∧
  (∀ (r : Request) (s : State), hostTakes cmdRecStatus r s → ∃ t, exec (.recStatus r) s = .next t ∧ hostOnly s t ∧
    t.chip.host.rech = s.chip.host.rech ∧ hostAnswers s t r .ok (s.chip.host.recStatus.toNat + 2 ^ 32 * s.chip.host.rech.nextSeq)) ∧
  (∀ (r : Request) (s : State), hostTakes cmdRecRead r s → r.media = .good → ∃ t, exec (.recRead r) s = .next t ∧ hostOnly s t ∧
    t.chip.host.rech = s.chip.host.rech ∧
    t.chip.host.hif.mem = memWriteAll s.chip.host.hif.mem (r.par 8 8)
      (((s.chip.host.readable.filter (fun x => r.u32 0 ≤ x.seq)).take (r.u32 4)).flatMap Record.bytes)) ∧
  (∀ (r : Request) (s : State), hostTakes cmdRecReadTrace r s → r.media = .good → ∃ t, exec (.recReadTrace r) s = .next t ∧ hostOnly s t ∧
    (∀ x, s.chip.host.rech.traces.find? (fun y => y.1 == r.u32 0) = some x → hostAnswers s t r .ok 0 ∧
      t.chip.host.hif.mem = memWriteAll s.chip.host.hif.mem (r.par 8 8) (slice (r.u32 4) (r.u32 16) x.2)) ∧
    (s.chip.host.rech.traces.find? (fun y => y.1 == r.u32 0) = none → hostAnswers s t r .badParam 0)) ∧
  (∀ (r : Request) (s : State), hostTakes cmdRecReadLedger r s → r.media = .good → ∃ t, exec (.recReadLedger r) s = .next t ∧ hostOnly s t ∧
    t.chip.host.rech = s.chip.host.rech ∧
    (∀ x, s.chip.host.rech.ledger.find? (fun y => y.index == r.u32 0) = some x → hostAnswers s t r .ok 0 ∧
      t.chip.host.hif.mem = memWriteAll s.chip.host.hif.mem (r.par 8 8) (slice 0 32 (Config.ledgerLayout (HostDie.ledgerFields x)))) ∧
    (s.chip.host.rech.ledger.find? (fun y => y.index == r.u32 0) = none → hostAnswers s t r .badParam 0))

/-- What the recorder does by itself (16 R416, R422 to R424, R428). -/
def Obligations.RecorderActsOnItsOwn : Prop :=
  (∀ s : State, ∃ t, exec .recPageFlush s = .next t ∧ hostOnly s t ∧ t.chip.host.rech.buffer = s.chip.host.rech.buffer ∧
    (s.chip.host.rech.openAt = none → t = s) ∧
    (∀ a, s.chip.host.rech.openAt = some a → 40 * s.chip.host.rech.flushDly ≤ s.chip.host.htb - a →
      s.chip.host.rech.handed < s.chip.host.rech.buffer.length →
      t.chip.host.rech.handed = s.chip.host.rech.buffer.length ∧ t.chip.host.rech.openAt = none)) ∧
  (∀ s : State, ∃ t, exec .recAutoThaw s = .next t ∧ hostOnly s t ∧
    (s.chip.host.rech.frozen = true → s.chip.host.rech.frozenAt + 400000 ≤ s.chip.host.htb →
      t.chip.host.rech = { s.chip.host.rech with frozen := false, thawAt := some s.chip.host.htb }) ∧
    (s.chip.host.rech.frozen = false ∨ s.chip.host.htb < s.chip.host.rech.frozenAt + 400000 → t = s)) ∧
  (∀ s : State, ∃ t, exec .traceFreeze s = .next t ∧ fieldOnly s t ∧
    (∀ e, s.chip.field.recf.post = some e → s.chip.field.recf.rows ≠ [] → e ≤ s.chip.field.recf.rowAt →
      t.chip.field.recf.post = none ∧
      t.chip.field.recf.rows = s.chip.field.recf.rows.drop (s.chip.field.recf.rows.length - (s.chip.field.recf.rowAt - e)) ∧ ∃ x : Trace,
        x.id = s.chip.field.recf.postId ∧ x.tbTrig = s.chip.field.recf.postTrig ∧ x.rows.length = 4096 ∧
        t.chip.field.recf.held = s.chip.field.recf.held ++ [(s.chip.field.recf.ring, x)]) ∧
    (s.chip.field.recf.post = none ∨ s.chip.field.recf.rows = [] ∨ (∃ e, s.chip.field.recf.post = some e ∧ s.chip.field.recf.rowAt < e) → t = s)) ∧
  (∀ s : State, ∃ t, exec .traceCaptureWritten s = .next t ∧ fieldOnly s t ∧
    (∀ k x rest, s.chip.field.recf.held = (k, x) :: rest → 131136 ≤ s.chip.field.recf.sendOff → s.linked = true →
      (s.chip.host.rech.traces.getLast?.map (·.1)) = some x.id →
      t.chip.field.recf = { s.chip.field.recf with held := rest, sendOff := 0 }) ∧
    (s.chip.field.recf.held = [] ∨ s.chip.field.recf.sendOff < 131136 ∨ s.linked = false → t = s)) ∧
  (∀ s : State, s.chip.host.listens = true → ∃ t, exec .recStatusRead s = .next t ∧ t.chip.field = s.chip.field ∧
    t.chip.readData = [s.chip.host.recStatus] ∧ t.chip.host = { s.chip.host with rech := { s.chip.host.rech with missCnt := 0 } }) ∧
  (∀ s : State, ∃ t, exec .trCntRead s = .next t ∧ t.chip.host = s.chip.host ∧
    t.chip.readData = [BitVec.ofNat 32 (s.chip.field.recf.trMissed * 65536 + s.chip.field.recf.nextId)] ∧
    t.chip.field = { s.chip.field with recf := { s.chip.field.recf with trMissed := 0 } })

/-- Commands of group 0xA0 (17 R436, R442, R450 to R453): what each leaves in the boot header and the areas, and its completion. -/
def Obligations.UpdateCommandsChangeTheHeader : Prop :=
  (∀ (r : Request) (s : State), hostTakes cmdImgStage r s → ∃ t, exec (.imgStage r) s = .next t ∧ hostOnly s t ∧
    (s.chip.host.holdUp = true → t.chip.host.stor = s.chip.host.stor ∧ hostAnswers s t r .busy 0) ∧
    (s.chip.host.holdUp = false → hostWaits s t r ∧
      t.chip.host.stor.staged (r.u32 0) = (if r.u32 4 = 0 then [] else s.chip.host.stor.staged (r.u32 0)) ++
        s.chip.host.bufRead r (r.par 16 8) (r.u32 8))) ∧
  (∀ (r : Request) (s : State), hostTakes cmdImgCommit r s → ∃ t, exec (.imgCommit r) s = .next t ∧ hostOnly s t ∧ hostAnswers s t r .ok 0 ∧
    t.chip.host.stor.hdr.gen = (s.chip.host.stor.hdr.gen + 1) % 2 ^ 32 ∧ hostEvent s 246 1 ∈ t.chip.host.fcm.arisen ∧
    (r.u32 0 = 0 → t.chip.host.stor.hdr.pending = true ∧ t.chip.host.stor.hdr.stagedLen = r.u32 4) ∧
    (r.u32 0 = 1 → t.chip.host.stor.hdr.cfgPending = true ∧ t.chip.host.stor.hdr.cfgLen = r.u32 4)) ∧
  (∀ (r : Request) (s : State), hostTakes cmdStageCancel r s → ∃ t, exec (.stageCancel r) s = .next t ∧ hostOnly s t ∧ hostAnswers s t r .ok 0 ∧
    (r.u32 0 = 0 → t.chip.host.stor.hdr.pending = false) ∧ (r.u32 0 = 1 → t.chip.host.stor.hdr.cfgPending = false)) ∧
  (∀ (r : Request) (s : State), hostTakes cmdSetUpdateMode r s → ∃ t, exec (.setUpdateMode r) s = .next t ∧ hostOnly s t ∧
    hostAnswers s t r .ok 0 ∧ t.chip.host.stor.hdr.manifest = (r.u32 0 == 1) ∧ t.chip.host.stor.hdr.confirmT = r.u32 4) ∧
  (∀ (r : Request) (s : State), hostTakes updateFieldC r s → ∃ t, exec (.updateField r) s = .next t ∧ hostOnly s t ∧
    (s.chip.host.mode.fieldRunning = true → s.chip.host.mode.word.getLsbD 7 = true → r.u32 0 = 0 →
      hostAnswers s t r .wrongMode 0 ∧ t.chip.host.bar = s.chip.host.bar) ∧
    (s.chip.host.mode.fieldRunning = true → s.chip.host.mode.word.getLsbD 7 = false ∨ r.u32 0 = 1 →
      hostWaits s t r ∧ t.chip.host.bar.forward = s.chip.host.bar.forward ++ [ownCommand 0x0002 4] ∧
      t.chip.host.stor.updCmds.length = s.chip.host.stor.updCmds.length + 1) ∧
    (s.chip.host.mode.fieldRunning = false → t.chip.host.bar.forward = s.chip.host.bar.forward ∧
      (s.chip.host.booted = true → s.chip.host.stor.loading = false → t.chip.host.stor.loading = true ∧
        t.chip.host.bar.blocks = s.chip.host.stor.loadBlocks))) ∧
  (∀ (r : Request) (s : State), hostTakes cmdSetRollbackFloor r s → ∃ t, exec (.setRollbackFloor r) s = .next t ∧ hostOnly s t ∧
    hostAnswers s t r .ok 0 ∧ t.chip.host.stor.otpFloor = max s.chip.host.stor.otpFloor (r.u32 0)) ∧
  (∀ (r : Request) (s : State), hostTakes cmdStorFormat r s → ∃ t, exec (.storFormat r) s = .next t ∧ hostOnly s t ∧
    (s.chip.host.stor.recovery = false → hostAnswers s t r .wrongMode 0 ∧ t.chip.host.stor = s.chip.host.stor) ∧
    (s.chip.host.stor.recovery = true → hostAnswers s t r .ok 0 ∧ t.chip.host.stor.formatted = true ∧ t.chip.host.stor.slotA = [] ∧
      t.chip.host.stor.slotB = [] ∧ t.chip.host.stor.copies = [] ∧ t.chip.host.stor.learned = [] ∧ t.chip.host.rech.log = [] ∧
      t.chip.host.rech.traces = [] ∧ t.chip.host.rech.ledger = s.chip.host.rech.ledger ∧
      (∀ b ∈ s.chip.host.stor.blocks, b.retired = true → b ∈ t.chip.host.stor.blocks) ∧
      ∀ b ∈ t.chip.host.stor.blocks, b.retired = true ∨ b.part = 0xF ∨ (b.part = 6 ∧ b.logical < 2))) ∧
  (∀ (r : Request) (s : State), hostTakes cmdStorScrubNow r s → ∃ t, exec (.storScrubNow r) s = .next t ∧ hostOnly s t ∧
    (s.chip.host.holdUp = true → hostAnswers s t r .busy 0 ∧ t.chip.host.stor = s.chip.host.stor) ∧
    (s.chip.host.holdUp = false → s.chip.host.stor.formatted = false → hostAnswers s t r .mediaError 0 ∧ t.chip.host.stor = s.chip.host.stor) ∧
    (s.chip.host.holdUp = false → s.chip.host.stor.formatted = true → hostWaits s t r ∧
      t.chip.host.stor.scrubCmds.length = s.chip.host.stor.scrubCmds.length + 1 ∧
      (s.chip.host.booted = true → t.chip.host.stor.scrubbing = true))) ∧
  (∀ (r : Request) (s : State), hostTakes cmdGetUpdate r s → ∃ t, exec (.getUpdate r) s = .next t ∧ hostOnly s t ∧
    t.chip.host.stor = s.chip.host.stor ∧ hostAnswers s t r .ok (s.chip.host.updStatus.toNat + 2 ^ 32 * s.chip.host.stor.otpFloor)) ∧
  (∀ (r : Request) (s : State), hostTakes cmdGetStorage r s → ∃ t x, exec (.getStorage r) s = .next t ∧ hostOnly s t ∧
    t.chip.host.stor = { s.chip.host.stor with ueCnt := 0 } ∧ hostAnswers s t r .ok (s.chip.host.storStatus.toNat + 2 ^ 32 * x))

/-- The memory port and the partitions (17 R433, R436, R437, R449, R452). -/
def Obligations.StorageManagerServesThePort : Prop :=
  (∀ s : State, s.chip.host.stor.current = some .header → s.chip.host.stor.ops = [] → s.chip.host.levelCandidate = none →
    ∃ t, exec (.nandOpDone .good) s = .next t ∧ hostOnly s t ∧
      t.chip.host = { s.chip.host with stor := { s.chip.host.stor with current := none } }) ∧
  (∀ (s : State) (n : Nat), s.chip.host.stor.current = some (.records n) →
    (HostDie.pageFill n s.chip.host.pageRecords).length * s.chip.host.pageRecords ≤ s.chip.host.recFree →
    (∀ l ∈ (s.chip.host.opBlocks (.records n)).2, (s.chip.host.stor.find 6 l).isSome = true) →
    ∃ t, exec (.nandOpDone .good) s = .next t ∧ hostOnly s t ∧
      t.chip.host.rech.log = s.chip.host.rech.log ++ s.chip.host.rech.buffer.take n ∧
      t.chip.host.rech.buffer = s.chip.host.rech.buffer.drop n) ∧
  (∀ (s : State) (r : Request), s.chip.host.stor.current = some (.staging r) → r.silent = false →
    ((∀ l ∈ (s.chip.host.opBlocks (.staging r)).2, (s.chip.host.stor.find 3 l).isSome = true) →
      ∃ t, exec (.nandOpDone .good) s = .next t ∧ hostOnly s t ∧ hostAnswers s t r .ok 0) ∧
    ∀ (x : NandResult) (l : Nat) (ls : List Nat), (s.chip.host.opBlocks (.staging r)).2 = l :: ls → s.chip.host.stor.find 3 l = none →
      s.chip.host.stor.give 3 l 0 s.chip.host.day = none →
      ∃ t, exec (.nandOpDone x) s = .next t ∧ hostOnly s t ∧ hostAnswers s t r .mediaError 0) ∧
  (∀ (s : State) (r : Request), s.chip.host.stor.current = some .ledger → s.chip.host.rech.clearCmds = [r] → r.silent = false →
    ((s.chip.host.stor.find 6 0).isSome = true → (s.chip.host.stor.find 6 1).isSome = true →
      ∃ t, exec (.nandOpDone .good) s = .next t ∧ hostOnly s t ∧ hostAnswers s t r .ok 0 ∧ hostEvent s 241 1 ∈ t.chip.host.fcm.arisen ∧
        t.chip.host.rech.clearCmds = [] ∧
        ∀ l, s.chip.host.rech.ledger.filter (fun x => !x.cleared) = [l] →
          (∀ x ∈ t.chip.host.rech.ledger, x.cleared = true) ∧
          (l.what.testBit 0 = true → t.chip.host.rech.log = [] ∧ t.chip.host.rech.missCnt = 0) ∧
          (l.what.testBit 1 = true → t.chip.host.rech.traces = []) ∧
          (l.what.testBit 0 = false → t.chip.host.rech.log = s.chip.host.rech.log) ∧
          (l.what.testBit 1 = false → t.chip.host.rech.traces = s.chip.host.rech.traces)) ∧
    (s.chip.host.stor.find 6 0 = none → s.chip.host.stor.give 6 0 0 s.chip.host.day = none →
      ∃ t, exec (.nandOpDone .good) s = .next t ∧ hostOnly s t ∧ hostAnswers s t r .mediaError 0 ∧ t.chip.host.rech.clearCmds = [] ∧
        t.chip.host.rech.log = s.chip.host.rech.log ∧
        t.chip.host.rech.ledger = s.chip.host.rech.ledger.filter (fun x => x.cleared))) ∧
  (∀ s : State, ∃ t, exec .scrubPeriod s = .next t ∧ hostOnly s t ∧
    (s.chip.host.stor.scrubbing = true ∨ s.chip.host.stor.formatted = false ∨ s.chip.host.booted = false ∨ s.chip.host.listens = false ∨
      (s.chip.host.wallSet = true ∧ s.chip.host.day < s.chip.host.stor.scrubDay + s.chip.host.stor.scrubPeriod) → t = s) ∧
    (s.chip.host.stor.scrubbing = false → s.chip.host.stor.formatted = true → s.chip.host.booted = true → s.chip.host.listens = true →
      (s.chip.host.wallSet = true → s.chip.host.stor.scrubDay + s.chip.host.stor.scrubPeriod ≤ s.chip.host.day) →
      t.chip.host.stor.scrubbing = true ∧ t.chip.host.stor.rewritten = 0 ∧
      (.scrub 0 ∈ t.chip.host.stor.ops ∨ t.chip.host.stor.current = some (.scrub 0)))) ∧
  (∀ s : State, ∃ t, exec .learnedCompaction s = .next t ∧ hostOnly s t ∧
    (s.chip.host.booted = false ∨ s.chip.host.listens = false ∨ s.chip.host.stor.learnedUsed * 4 ≤ s.chip.host.learnedCapacity * 3 → t = s) ∧
    (s.chip.host.booted = true → s.chip.host.listens = true → s.chip.host.learnedCapacity * 3 < s.chip.host.stor.learnedUsed * 4 →
      t.chip.host.stor.learned = (newest (inForce s.chip.host.stor.learned)).take (s.chip.host.learnedCapacity * 3 / 4) ∧
      t.chip.host.stor.learnedUsed = t.chip.host.stor.learned.length)) ∧
  (∀ s : State, s.chip.host.listens = true → ∃ t, exec .storStatusRead s = .next t ∧ t.chip.field = s.chip.field ∧ t.chip.readData = [s.chip.host.storStatus] ∧
    t.chip.host = { s.chip.host with stor := { s.chip.host.stor with ueCnt := 0 } })

/-- The boot of region H and its updates (17 R443 to R447, 03 R79): recovery where the port or the header fails, a run of the active image, the
confirmation of a trial, the load of a stale field, and the start of the field image, with TB 0 in the tick that its edge begins. -/
def Obligations.BootRunsOrRecovers : Prop :=
  (∀ (o : BootOutcome) (s : State), ∃ t, exec (.hostBoot o) s = .next t ∧
    (s.chip.host.mayBoot = false → t = s) ∧
    (s.chip.host.mayBoot = true → o.portOk = false ∨ o.headerOk = false ∨ s.chip.host.stor.formatted = false →
      t.chip.host.stor = { s.chip.host.stor with recovery := true } ∧ t.chip.host.booted = false ∧ t.chip.field = s.chip.field ∧
      t.chip.host.sec.draws = s.chip.host.sec.draws + 8) ∧
    (s.chip.host.mayBoot = true → o.portOk = true → o.headerOk = true → s.chip.host.stor.formatted = true → s.linked = false →
      s.chip.host.stor.hdr.trial = false → s.chip.host.stor.hdr.pending = false → s.chip.host.stor.hdr.cfgPending = false →
      s.chip.host.stor.copies = [] → checkSlot s.chip.variant s.chip.host s.chip.host.stor.running = 0 →
      t.chip.host.booted = true ∧ t.chip.host.stor.recovery = s.chip.host.stor.recovery ∧ t.chip.host.runTicks = 0 ∧
      t.chip.host.stor.key = rd 1 6 s.chip.host.stor.running ∧ t.chip.host.stor.rollback = rd 4 0x0C s.chip.host.stor.running ∧
      hostEvent s 10 (if s.chip.host.mode.cause = 1 then 1 else 2) ∈ t.chip.host.fcm.arisen)) ∧
  (∀ s : State, ∃ t, exec .trialConfirm s = .next t ∧ hostOnly s t ∧
    (s.chip.host.booted = true → s.chip.host.stor.hdr.trial = true → 40000 * s.chip.host.stor.hdr.confirmT ≤ s.chip.host.runTicks →
      s.chip.host.stor.fieldLoaded = true → s.chip.host.stor.loading = false →
      t.chip.host.stor.hdr.trial = false ∧ hostEvent s 246 2 ∈ t.chip.host.fcm.arisen) ∧
    (s.chip.host.booted = false ∨ s.chip.host.stor.hdr.trial = false ∨ s.chip.host.runTicks < 40000 * s.chip.host.stor.hdr.confirmT → t = s)) ∧
  (∀ s : State, ∃ t, exec .fieldStaleLoad s = .next t ∧ hostOnly s t ∧
    (s.chip.host.booted = true → s.chip.host.stor.fieldStale = true → s.linked = true → s.chip.field.isActive = false →
      t.chip.host.stor.fieldStale = false ∧
      (s.chip.field.running = true → t.chip.host.bar.forward = s.chip.host.bar.forward ++ [ownCommand 0x0002 4]) ∧
      (s.chip.field.power.phase = .waiting → s.chip.field.power.ready = false → s.chip.host.stor.loading = false →
        t.chip.host.stor.loading = true ∧ t.chip.host.bar.blocks = s.chip.host.stor.loadBlocks)) ∧
    (s.chip.host.stor.fieldStale = false ∨ s.chip.field.isActive = true ∨ s.linked = false ∨ s.chip.host.booted = false → t = s)) ∧
  (∀ (b : Bool) (s : State), ∃ t, exec (.fieldImageStart b) s = .next t ∧
    (s.chip.field.waits s.chip.variant = false ∨ s.chip.field.power.ready = false → t = s) ∧
    (s.chip.field.waits s.chip.variant = true → s.chip.field.power.ready = true → ∃ g : FieldDie,
      g.power.phase = .spring ∧ g.power.ready = false ∧ g.tick.tb = 0 ∧ g.tick.fine = 0 ∧ g.twin.epoch = s.chip.field.twin.epoch ∧
      { t.chip.field with aon := (g.beginTick s.chip.variant).aon, power := { t.chip.field.power with
        startCause := (g.beginTick s.chip.variant).power.startCause } } = g.beginTick s.chip.variant))

/-- The rings of a queue (18 R461 to R466): doorbells, a fetch, a forward, a completion written, and completions held through a restart. -/
def Obligations.RingsMoveCommandsAndCompletions : Prop :=
  (∀ (q : Fin 32) (w : Word) (s : State), ∃ t, exec (.sqTailDoorbell q w) s = .next t ∧ hostOnly s t ∧
    (s.chip.host.listens = true → (s.chip.host.q q).en = true → (s.chip.host.q q).error = false →
      (bits 15 0 w < 2 ^ (s.chip.host.q q).sqLog2 → t.chip.host.q q = { s.chip.host.q q with sqTail := bits 15 0 w }) ∧
      (2 ^ (s.chip.host.q q).sqLog2 ≤ bits 15 0 w → t.chip.host.q q = { s.chip.host.q q with error := true, errCode := 1 })) ∧
    (s.chip.host.listens = false ∨ (s.chip.host.q q).en = false ∨ (s.chip.host.q q).error = true → t = s)) ∧
  (∀ (q : Fin 32) (w : Word) (s : State), ∃ t, exec (.cqHeadDoorbell q w) s = .next t ∧ hostOnly s t ∧
    (s.chip.host.listens = true → (s.chip.host.q q).en = true → (s.chip.host.q q).error = false →
      (bits 15 0 w < 2 ^ (s.chip.host.q q).cqLog2 → t.chip.host.q q = { s.chip.host.q q with cqHead := bits 15 0 w }) ∧
      (2 ^ (s.chip.host.q q).cqLog2 ≤ bits 15 0 w → t.chip.host.q q = { s.chip.host.q q with error := true, errCode := 1 })) ∧
    (s.chip.host.listens = false ∨ (s.chip.host.q q).en = false ∨ (s.chip.host.q q).error = true → t = s)) ∧
  (∀ (q : Fin 32) (w : Word) (s : State), s.chip.host.listens = true → ∃ t, exec (.qcfgWrite q w) s = .next t ∧ hostOnly s t ∧
    t.chip.host.q q = (s.chip.host.q q).writeCfg s.chip.host.ringsOk w ∧ ∀ k, k ≠ q.val → t.chip.host.q k = s.chip.host.q k) ∧
  (∀ (x : Fetch) (s : State), ∃ t, exec (.descriptorFetch x) s = .next t ∧ hostOnly s t ∧
    (s.chip.host.mailboxOn = false ∨ s.chip.host.nextQueue = none → t = s) ∧
    ∀ i, s.chip.host.mailboxOn = true → s.chip.host.nextQueue = some i →
      (x = .failed → t.chip.host.q i = { s.chip.host.q i with error := true, errCode := 2 } ∧ t.chip.host.hif.served = i) ∧
      ∀ d : Request, x = .good [d] → d.queue.val = i → d.authOk = false → d.peer = false → d.silent = false → d.arrival = 0 →
        s.chip.host.power.link = .pcie → opcodes.contains d.opcode = true → s.chip.host.needsCheck d = false →
        hostCmd d = none → d.opcode ≠ 0x1001 → s.chip.host.stor.recovery = false → s.chip.host.hif.check = [] →
        (t.chip.host.q i).sqHead = ((s.chip.host.q i).sqHead + 1) % 2 ^ (s.chip.host.q i).sqLog2 ∧
        (t.chip.host.q i).qcnt = (s.chip.host.q i).qcnt + 1 ∧
        t.chip.host.hif.ready.length = s.chip.host.hif.ready.length + 1) ∧
  (∀ s : State, ∃ t, exec .commandForward s = .next t ∧ hostOnly s t ∧
    (s.chip.host.hif.ready = [] ∨ s.chip.host.linkOn = false ∨ 3 ≤ s.chip.host.bar.forward.length → t = s) ∧
    ∀ r rest, s.chip.host.hif.ready = r :: rest → s.chip.host.linkOn = true → s.chip.host.bar.forward.length < 3 →
      t.chip.host.bar.forward = s.chip.host.bar.forward ++ [r] ∧ t.chip.host.hif.ready = rest ∧
      ∃ n, t.chip.host.hif.outstanding = s.chip.host.hif.outstanding ++ [(r.queue.val, r.tag, n)]) ∧
  (∀ (q : Fin 32) (ok : Bool) (s : State), ∃ t, exec (.completionWrite q ok) s = .next t ∧ hostOnly s t ∧
    (s.chip.host.listens = false ∨ ((s.chip.host.q q).waiting = [] ∧ (∀ c ∈ s.chip.host.held, c.queue ≠ q)) → t = s) ∧
    ∀ c rest, s.chip.host.listens = true → (∀ c ∈ s.chip.host.held, c.queue ≠ q) →
      (s.chip.host.q q).waiting = c :: rest → (s.chip.host.q q).en = true → (s.chip.host.q q).error = false →
      (s.chip.host.power.link = .qspi ∨ s.chip.host.power.linkUp = true) →
      ((s.chip.host.q q).room = false → t = s) ∧
      ((s.chip.host.q q).room = true → ok = false → (t.chip.host.q q).error = true ∧ (t.chip.host.q q).errCode = 3 ∧
        (t.chip.host.q q).waiting = rest ∧ t.chip.host.hif.mem = s.chip.host.hif.mem) ∧
      ((s.chip.host.q q).room = true → ok = true → (t.chip.host.q q).waiting = rest ∧
        (t.chip.host.q q).cqTail = ((s.chip.host.q q).cqTail + 1) % 2 ^ (s.chip.host.q q).cqLog2 ∧
        t.chip.host.hif.mem = memWriteAll s.chip.host.hif.mem ((s.chip.host.q q).cqBase + 16 * (s.chip.host.q q).cqTail)
          (c.bytes (s.chip.host.q q).phase))) ∧
  (∀ (q : Fin 32) (s : State), ∃ t, exec (.heldCompletionWrite q) s = .next t ∧ hostOnly s t ∧
    (s.chip.host.listens = true → s.chip.host.hif.mboxEn = true → (s.chip.host.q q).en = true →
      t.chip.host.held = s.chip.host.held.filter (fun c => c.queue != q) ∧
      (t.chip.host.q q).waiting.length = (s.chip.host.q q).waiting.length + (s.chip.host.held.filter (fun c => c.queue == q)).length) ∧
    (s.chip.host.listens = false ∨ s.chip.host.hif.mboxEn = false ∨ (s.chip.host.q q).en = false → t = s)) ∧
  (∀ s : State, ∃ t, exec .heldCompletionDiscard s = .next t ∧ hostOnly s t ∧
    (∀ n, s.chip.host.heldSince = some n → 400000 ≤ s.chip.host.htb - n → t.chip.host = { s.chip.host with held := [] }) ∧
    (∀ n, s.chip.host.heldSince = some n → s.chip.host.htb - n < 400000 → t = s) ∧ (s.chip.host.heldSince = none → t = s)) ∧
  (∀ (r : Request) (s : State), ∃ t, exec (.undefinedOpcode r) s = .next t ∧ hostOnly s t ∧
    (r.opcode ∈ opcodes ∨ s.chip.host.listens = false → t = s) ∧
    (s.chip.host.listens = true → r.opcode ∉ opcodes → r.silent = false → hostAnswers s t r .badOpcode 0))

/-- Command tokens (18 R474, R475): the head of the check list is judged, every judged check takes the nonce on, 16 failures in a row lock out,
and the lockout ends. -/
def Obligations.TokensAreJudgedInOrder : Prop :=
  (∀ s : State, ∃ t, exec .authCheckDone s = .next t ∧ hostOnly s t ∧ (s.chip.host.hif.check = [] → t = s) ∧
    ∀ r, s.chip.host.hif.check = [r] → r.silent = false →
      (s.chip.host.sec.lockout = true → t.chip.host.sec = s.chip.host.sec ∧ t.chip.host.fcm = s.chip.host.fcm ∧ hostAnswers s t r .authFail 0) ∧
      (s.chip.host.sec.lockout = false → (r.auth = false ∨ ∀ k, s.chip.host.sec.authKeys.getD r.keySlot none = some k →
          Hash.token k (tokenMessage s.chip.host.sec.nonce r) ≠ r.token) →
        t.chip.host.sec = { s.chip.host.sec with
          nonce := (s.chip.host.sec.nonce + 1) % 2 ^ 64, failures := s.chip.host.sec.failures + 1,
          lockout := s.chip.host.sec.failures + 1 == 16
          lockedAt := if s.chip.host.sec.failures + 1 = 16 then s.chip.host.htb else s.chip.host.sec.lockedAt } ∧
        t.chip.host.fcm.arisen = s.chip.host.fcm.arisen ++ [hostEvent s 248 1 r.opcode] ∧ hostAnswers s t r .authFail 0) ∧
      ∀ k, s.chip.host.sec.lockout = false → r.auth = true → s.chip.host.sec.authKeys.getD r.keySlot none = some k →
        Hash.token k (tokenMessage s.chip.host.sec.nonce r) = r.token → r.opcode ∈ opcodes → r.opcode ≠ 0x1001 → hostCmd r = none →
        s.chip.host.stor.recovery = false →
        t.chip.host.sec = { s.chip.host.sec with nonce := (s.chip.host.sec.nonce + 1) % 2 ^ 64, failures := 0, lockout := false } ∧
        t.chip.host.hif.ready = s.chip.host.hif.ready ++ [s.chip.host.withBuffer { r with authOk := true }] ∧
        t.chip.host.hif.check = []) ∧
  (∀ s : State, ∃ t, exec .authLockoutEnd s = .next t ∧ hostOnly s t ∧
    (s.chip.host.sec.lockout = true → s.chip.host.sec.lockedAt + 40000 ≤ s.chip.host.htb →
      t.chip.host = { s.chip.host with sec := { s.chip.host.sec with lockout := false, failures := 0 } }) ∧
    (s.chip.host.sec.lockout = false ∨ s.chip.host.htb < s.chip.host.sec.lockedAt + 40000 → t = s))

/-- The control registers, the vectors and the link events of the host interface (18 R456, R459, R460, R466, R468, R470). -/
def Obligations.InterfaceRegistersAndVectors : Prop :=
  (∀ (w : Word) (high : Bool) (v : Fin 64) (q : Fin 32) (x : BitVec 8) (s : State), s.chip.host.listens = false →
    ∀ c ∈ ([.hifCtrlWrite w, .evqHeadWrite w, .evqCfgRead, .evqOvfClear, .vecPendClear high w, .msixUnmask v, .vectorSignal v, .qcfgWrite q w,
      .pcieLinkDown, .pcieAerError, .pcieFlr, .qspiBadInstruction x, .htbLoRead, .authNonceRead, .modeStatusRead] : List Instr),
      exec c s = .next s) ∧
  (∀ (w : Word) (s : State), s.chip.host.listens = true → ∃ t, exec (.hifCtrlWrite w) s = .next t ∧ hostOnly s t ∧
    t.chip.host = { s.chip.host with hif := { s.chip.host.hif with
      evqEn := w.getLsbD 1, mboxEn := w.getLsbD 0, lock := s.chip.host.hif.lock || w.getLsbD 31
      irqPulse := if s.chip.host.hif.lock then s.chip.host.hif.irqPulse else w.getLsbD 2 } }) ∧
  (∀ (w : Word) (s : State), s.chip.host.listens = true → ∃ t, exec (.evqHeadWrite w) s = .next t ∧ hostOnly s t ∧
    t.chip.host = { s.chip.host with hif := { s.chip.host.hif with evqHead := bits 15 0 w % 2 ^ s.chip.host.hif.evqLog2 } }) ∧
  (∀ s : State, s.chip.host.listens = true → ∃ t, exec .evqCfgRead s = .next t ∧ t.chip.field = s.chip.field ∧ t.chip.readData = [s.chip.host.evqCfg] ∧
    t.chip.host = { s.chip.host with hif := { s.chip.host.hif with lost := 0 } }) ∧
  (∀ s : State, s.chip.host.listens = true → ∃ t, exec .evqOvfClear s = .next t ∧ hostOnly s t ∧
    t.chip.host = { s.chip.host with hif := { s.chip.host.hif with ovf := false } }) ∧
  (∀ (high : Bool) (w : Word) (s : State), s.chip.host.listens = true → ∃ t, exec (.vecPendClear high w) s = .next t ∧ hostOnly s t ∧
    t.chip.host = { s.chip.host with hif := { s.chip.host.hif with vecPend := t.chip.host.hif.vecPend } } ∧
    ∀ k : Nat, k < 64 → t.chip.host.hif.vecPend.getLsbD k = (s.chip.host.hif.vecPend.getLsbD k &&
      !(if high then decide (32 ≤ k) && w.getLsbD (k - 32) else w.getLsbD k))) ∧
  (∀ (v : Fin 64) (s : State), s.chip.host.listens = true → ∃ t, exec (.msixUnmask v) s = .next t ∧ hostOnly s t ∧
    (s.chip.host.power.link = .qspi → t = s) ∧
    (s.chip.host.power.link = .pcie → (t.chip.host.hif.msix.getD v {}).masked = false ∧
      (s.chip.host.hif.vecPend.getLsbD v = true → s.chip.host.hif.functionMask = false → s.chip.host.power.linkUp = true →
        t.chip.host.hif.vecPend.getLsbD v = false ∧
        t.chip.host.hif.lastMsi = some ((s.chip.host.hif.msix.getD v {}).addr, (s.chip.host.hif.msix.getD v {}).data)))) ∧
  (∀ (v : Fin 64) (s : State), s.chip.host.listens = true → ∃ t, exec (.vectorSignal v) s = .next t ∧ hostOnly s t ∧
    (s.chip.host.hif.vecPend.getLsbD v = false ∨ s.chip.host.masked v = true → t = s) ∧
    (s.chip.host.hif.vecPend.getLsbD v = true → s.chip.host.masked v = false →
      (s.chip.host.power.link = .pcie → s.chip.host.power.linkUp = true →
        t.chip.host.hif.vecPend.getLsbD v = false ∧
        t.chip.host.hif.lastMsi = some ((s.chip.host.hif.msix.getD v {}).addr, (s.chip.host.hif.msix.getD v {}).data)) ∧
      (s.chip.host.power.link = .qspi → t.chip.host.hif.vecPend = s.chip.host.hif.vecPend ∧
        (s.chip.host.hif.irqPulse = true → ∀ l, l < 8 → s.chip.host.hif.irqMap.getD v 0 = 8 + l →
          t.chip.host.hif.pulses.getD l 0 = s.chip.host.hif.pulses.getD l 0 + 1)))) ∧
  (∀ s : State, s.chip.host.listens = true → ∃ t, exec .pcieLinkDown s = .next t ∧ hostOnly s t ∧
    (s.chip.host.power.link = .qspi → t = s) ∧
    (s.chip.host.power.link = .pcie → t.chip.host.power.linkUp = false ∧
      t.chip.host.fcm.arisen = s.chip.host.fcm.arisen ++ [hostEvent s 6 1] ∧ t.chip.host.hif = s.chip.host.hif)) ∧
  (∀ s : State, s.chip.host.listens = true → ∃ t, exec .pcieAerError s = .next t ∧ hostOnly s t ∧ (s.chip.host.power.link = .qspi → t = s) ∧
    (s.chip.host.power.link = .pcie → t.chip.host.hif = s.chip.host.hif ∧ t.chip.host.power = s.chip.host.power ∧
      t.chip.host.fcm.arisen = s.chip.host.fcm.arisen ++ [hostEvent s 6 2])) ∧
  (∀ s : State, s.chip.host.listens = true → ∃ t, exec .pcieFlr s = .next t ∧ hostOnly s t ∧ (s.chip.host.power.link = .qspi → t = s) ∧
    (s.chip.host.power.link = .pcie → (∀ i, i < 32 → (t.chip.host.q i).en = false) ∧ t.chip.host.hif.check = [] ∧ t.chip.host.hif.ready = [] ∧
      t.chip.host.hif.outstanding = s.chip.host.hif.outstanding ∧ t.chip.host.hif.mem = s.chip.host.hif.mem ∧
      t.chip.host.sec = s.chip.host.sec ∧ t.chip.host.power.linkUp = true)) ∧
  (∀ (x : BitVec 8) (s : State), s.chip.host.listens = true → ∃ t, exec (.qspiBadInstruction x) s = .next t ∧ hostOnly s t ∧
    (s.chip.host.power.link = .qspi → x ≠ 0x0B → x ≠ 0xEB → x ≠ 0x02 → x ≠ 0x38 →
      t.chip.host = s.chip.host.raise 6 3) ∧
    (s.chip.host.power.link = .pcie ∨ x = 0x0B ∨ x = 0xEB ∨ x = 0x02 ∨ x = 0x38 → t = s))

/-- The QSPI window (18 R457 to R460): words of registers and of the shared area at their addresses. A side that is off or asleep serves nothing
(02 R60), and neither does the window under PCIe. The model's reading (log entry 5): an offset between two registers is none of the map, so it reads
0 and a write of it changes nothing. -/
def Obligations.TheWindowServesAlignedWords : Prop :=
  (∀ (a n : Nat) (ws : List Word) (b : Bool) (s : State), s.chip.host.power.link = .pcie ∨ s.chip.host.listens = false →
    exec (.qspiRead a n) s = .next s ∧ exec (.qspiQread a n) s = .next s ∧ exec (.qspiWrite a ws) s = .next s ∧
    exec (.qspiQwrite a ws) s = .next s ∧ exec (.qspiCsAbort a ws b) s = .next s) ∧
  (∀ (a : Nat) (w : Word) (s : State), s.chip.host.listens = true → s.chip.host.power.link = .qspi → a % 4 ≠ 0 → a < 0x010000 →
    (∃ t, exec (.qspiRead a 1) s = .next t ∧ exec (.qspiQread a 1) s = .next t ∧ t = { s with chip := { s.chip with readData := [0] } }) ∧
    (s.chip.host.hif.doorbells = [] → exec (.qspiWrite a [w]) s = .next s ∧ exec (.qspiQwrite a [w]) s = .next s ∧
      exec (.qspiCsAbort a [w] true) s = .next s)) ∧
  (∀ (a : Nat) (s : State), s.chip.host.listens = true → s.chip.host.power.link = .qspi → 0x080000 ≤ a → a + 4 ≤ 0x140000 →
    ∃ t, exec (.qspiRead a 1) s = .next t ∧ exec (.qspiQread a 1) s = .next t ∧ (∀ w : Word, exec (.qspiCsAbort a [w] false) s = .next t) ∧
      t = { s with chip := { s.chip with readData := [BitVec.ofNat 32 (ofLe (memReadAll s.chip.host.hif.mem a 4))] } }) ∧
  (∀ (a : Nat) (w : Word) (s : State), s.chip.host.listens = true → s.chip.host.power.link = .qspi → 0x080000 ≤ a → a + 4 ≤ 0x140000 →
    s.chip.host.hif.doorbells = [] →
    ∃ t, exec (.qspiWrite a [w]) s = .next t ∧ exec (.qspiQwrite a [w]) s = .next t ∧ exec (.qspiCsAbort a [w] true) s = .next t ∧
      t.chip.host = s.chip.host.bufWrite a (leBytes 4 w.toNat) ∧ hostOnly s t) ∧
  (∀ (a : Nat) (s : State), s.chip.host.listens = true → s.chip.host.power.link = .qspi → a % 4 = 0 → a < 0x010000 →
    ∃ t, exec (.qspiRead a 1) s = .next t ∧ t.chip.readData = [s.chip.host.reg s.chip.variant a] ∧ t.chip.field = s.chip.field) ∧
  (∀ (q : Fin 32) (w : Word) (s : State), s.chip.host.listens = true → s.chip.host.power.link = .qspi → s.chip.host.hif.doorbells = [] →
    ∃ t, exec (.qspiWrite (0x3000 + 8 * q.val) [w]) s = .next t ∧ exec (.sqTailDoorbell q w) s = .next t)

/-- Registers read and written through a window or an OP number (02 Table 02-1; 03 R82 to R84; 19 R495, R496): a read of TB_LO or HTB_LO latches
its high word, a read of MODE_STATUS clears HOST_LOST, and a masked write leaves the other bits. -/
def Obligations.RegistersAreReadAndWritten : Prop :=
  (∀ (i : Initiator) (n : Fin 10000) (s : State), ∃ t, exec (.tbLoRead ⟨i, n⟩) s = .next t ∧ t.chip.host = s.chip.host ∧
    t.chip.readData = [BitVec.ofNat 32 s.chip.field.tick.tb] ∧ t.chip.field.tick.tb = s.chip.field.tick.tb ∧ t.chip.field.tick.fine = n ∧
    (t.chip.field.tick.shadows.getD (initiatorRow i) {}).hi = s.chip.field.tick.tb / 2 ^ 32 % 2 ^ 32 ∧
    (t.chip.field.tick.shadows.getD (initiatorRow i) {}).fine = n ∧
    ∀ k, k ≠ initiatorRow i → t.chip.field.tick.shadows.getD k {} = s.chip.field.tick.shadows.getD k {}) ∧
  (∀ s : State, ∃ t, exec .dispTimeRead s = .next t ∧ t.chip.host = s.chip.host ∧
    t.chip.readData = [pack [(16, s.chip.field.tick.dispMax), (0, s.chip.field.tick.dispLast)]] ∧
    t.chip.field = { s.chip.field with tick := { s.chip.field.tick with dispMax := 0 } }) ∧
  (∀ s : State, s.chip.host.listens = true → ∃ t, exec .htbLoRead s = .next t ∧ t.chip.field = s.chip.field ∧
    t.chip.readData = [BitVec.ofNat 32 s.chip.host.htb] ∧
    t.chip.host = { s.chip.host with htbHi := s.chip.host.htbHi.modifyNat 0 (fun _ => s.chip.host.htb / 2 ^ 32 % 2 ^ 32) }) ∧
  (∀ s : State, s.chip.host.listens = true → ∃ t, exec .authNonceRead s = .next t ∧ t.chip.field = s.chip.field ∧
    t.chip.readData = [BitVec.ofNat 32 s.chip.host.sec.nonce] ∧
    t.chip.host = { s.chip.host with sec := { s.chip.host.sec with
      nonceHi := s.chip.host.sec.nonceHi.modifyNat 0 (fun _ => s.chip.host.sec.nonce / 2 ^ 32 % 2 ^ 32) } }) ∧
  (∀ s : State, s.chip.host.listens = true → ∃ t, exec .modeStatusRead s = .next t ∧ t.chip.field = s.chip.field ∧ t.chip.readData = [s.chip.host.modeStatus] ∧
    t.chip.host = { s.chip.host with mode := { s.chip.host.mode with hostLost := false } }) ∧
  (∀ (w m : Word) (s : State), ∃ t, exec (.registerWrite true 0x0020 w m) s = .next t ∧ exec (.hifCtrlWrite w) s = .next t) ∧
  (∀ (w m : Word) (s : State), ∃ t, exec (.registerWrite false 0x2209 w m) s = .next t ∧
    t = { s with chip := { s.chip with field := { s.chip.field with fcol := { s.chip.field.fcol with
      sel := bits 7 0 (merge (BitVec.ofNat 32 s.chip.field.fcol.sel) w m) } } } }) ∧
  (∀ (a : BitVec 16) (w m : Word) (s : State), opRegion a.toNat ≠ 0 → ∃ t, exec (.registerWrite false a w m) s = .next t ∧ fieldOnly s t ∧
    (s.chip.field.peek s.chip.variant a.toNat = none → t = s)) ∧
  (∀ (a : BitVec 16) (w m : Word) (s : State), opRegion a.toNat = 0 → ∃ t, exec (.registerWrite false a w m) s = .next t ∧ hostOnly s t ∧
    (s.chip.host.listens = false ∨ HostDie.peek s.chip.variant s.chip.host a.toNat = none → t = s)) ∧
  (∀ (r : Request) (s : State), hostTakes opReadH r s → opRegion (r.u32 0) = 0 → ∃ t, exec (.opRead r) s = .next t ∧ hostOnly s t ∧
    (r.par 8 8 = 0 → r.u32 4 = 1 → hostAnswers s t r .ok (opResult (HostDie.peek s.chip.variant s.chip.host (r.u32 0))))) ∧
  (∀ (r : Request) (s : State), fieldTakes opReadC r s → opRegion (r.u32 0) ≠ 0 → ∃ t, exec (.opRead r) s = .next t ∧
    (r.par 8 8 = 0 → r.u32 4 = 1 → fieldAnswers s t r .ok (opResult (s.chip.field.peek s.chip.variant (r.u32 0))))) ∧
  (∀ (r : Request) (s : State), hostTakes opWriteH r s → opRegion (r.u32 0) = 0 → ∃ t, exec (.opWrite r) s = .next t ∧ hostOnly s t ∧
    hostAnswers s t r .ok ((HostDie.peek s.chip.variant t.chip.host (r.u32 0)).getD 0).toNat) ∧
  (∀ (r : Request) (s : State), fieldTakes opWriteC r s → opRegion (r.u32 0) ≠ 0 → ∃ t, exec (.opWrite r) s = .next t ∧
    t.chip.host.hif.outstanding = s.chip.host.hif.outstanding ++ [(r.queue.val, r.tag, 0)] ∧
    (s.chip.field.peek s.chip.variant (r.u32 0) = none → fieldAnswers s t r .ok 0) ∧
    (r.u32 0 = 0x2209 → t.chip.field.fcol.sel =
      bits 7 0 (merge (BitVec.ofNat 32 s.chip.field.fcol.sel) (BitVec.ofNat 32 (r.u32 4)) (BitVec.ofNat 32 (r.u32 8)))))

/-- The device commands of group 0x00 that region H runs (00 R5; 02 R60; 19 R482, R484). -/
def Obligations.DeviceCommandsOfTheHost : Prop :=
  (∀ (r : Request) (s : State), hostTakes cmdIdentify r s → ∃ t, exec (.identify r) s = .next t ∧ hostOnly s t ∧
    t.chip.host.sec = s.chip.host.sec ∧ hostAnswers s t r .ok (s.chip.variant.cap0.toNat + 2 ^ 32 * cap1.toNat)) ∧
  (∀ (r : Request) (s : State), hostTakes cmdEcho r s → ∃ t, exec (.echo r) s = .next t ∧ hostOnly s t ∧
    t.chip.host.sec = s.chip.host.sec ∧ hostAnswers s t r .ok (r.par 0 8)) ∧
  (∀ (r : Request) (s : State), hostTakes cmdSleep r s → ∃ t, exec (.sleep r) s = .next t ∧ hostOnly s t ∧
    (s.chip.host.mode.mode ≠ 1 → t.chip.host.power = s.chip.host.power ∧ hostAnswers s t r .wrongMode 0) ∧
    (s.chip.host.mode.mode = 1 → t.chip.host.power.asleep = true ∧ t.chip.host.power.linkUp = false ∧
      t.chip.host.power.dom.getD 0 .off = s.chip.host.power.dom.getD 0 .off ∧ t.chip.host.power.dom.getD 2 .good = .off ∧
      t.chip.host.power.dom.getD 3 .good = .off)) ∧
  (∀ (r : Request) (s : State), hostTakes cmdSetWallClock r s → ∃ t, exec (.setWallClock r) s = .next t ∧ hostOnly s t ∧
    t.chip.host.wall = r.u32 0 ∧ t.chip.host.wallSet = true ∧ t.chip.host.wallTicks = 0 ∧ t.chip.host.htb = s.chip.host.htb ∧
    hostAnswers s t r .ok (if s.chip.host.wallSet then s.chip.host.wall else 0))

/-- The configuration commands of region H (19 R488 to R492). -/
def Obligations.ConfigurationCommandsOfTheHost : Prop :=
  (∀ (r : Request) (s : State), s.chip.host.listens = false → exec (.cfgLoad r) s = .next s) ∧
  (∀ (r : Request) (s : State), s.chip.host.listens = true → tokenBad true { r with opcode := 0x1001 } = true →
    ∃ t, exec (.cfgLoad r) s = .next t ∧ hostOnly s t ∧ t.chip.host.cfg = s.chip.host.cfg ∧ hostEvent s 248 1 0x1001 ∈ t.chip.host.fcm.arisen ∧ (r.silent = false → hostAnswers s t r .authFail 0)) ∧
  (∀ (r : Request) (s : State), s.chip.host.listens = true → tokenBad true { r with opcode := 0x1001 } = false → s.chip.host.stor.recovery = false →
    r.epoch = s.chip.host.mode.epoch → s.chip.host.standby = false → r.unit = 0xFF → r.flags < 16 → r.u32 16 ≤ 1 →
    s.chip.host.bufOk (r.par 8 8) (r.u32 0) = true →
    (blobOk s.chip.variant (s.chip.host.bufRead r (r.par 8 8) (r.u32 0)) = false →
      ∃ t, exec (.cfgLoad r) s = .next t ∧ hostOnly s t ∧ t.chip.host.cfg = s.chip.host.cfg ∧ (r.silent = false → hostAnswers s t r .badParam 0)) ∧
    (blobOk s.chip.variant (s.chip.host.bufRead r (r.par 8 8) (r.u32 0)) = true → s.chip.host.cfg.pushing = none →
      s.chip.host.modeIn [1, 2, 11] = false → s.chip.host.mode.word.getLsbD 14 = false → s.chip.host.mode.word.getLsbD 13 = false →
      s.chip.host.mode.word.getLsbD 12 = false → s.chip.host.fieldDrives = false →
      ∃ t, exec (.cfgLoad r) s = .next t ∧ hostOnly s t ∧ t.chip.host.cfg.pushing.isSome = true ∧
        t.chip.host.cfg.pushed = s.chip.host.bufRead r (r.par 8 8) (r.u32 0) ∧
        t.chip.host.hif.outstanding = s.chip.host.hif.outstanding ++ [(r.queue.val, r.tag, 0)])) ∧
  (∀ (r : Request) (s : State), hostTakes cmdCfgSave r s → ∃ t, exec (.cfgSave r) s = .next t ∧ hostOnly s t ∧
    t.chip.host.cfg = s.chip.host.cfg ∧ (s.chip.host.cfg.blob = none → hostAnswers s t r .notConfigured 0)) ∧
  (∀ (r : Request) (s : State), hostTakes cmdCfgRead r s → ∃ t, exec (.cfgRead r) s = .next t ∧ hostOnly s t ∧
    t.chip.host.cfg = s.chip.host.cfg ∧
    (s.chip.host.cfg.blob = none ∨ s.chip.host.mode.notConfigured = true → t.chip.host.hif.mem = s.chip.host.hif.mem ∧ hostAnswers s t r .notConfigured 0) ∧
    (∀ b, s.chip.host.cfg.blob = some b → s.chip.host.mode.notConfigured = false →
      t.chip.host.hif.mem = memWriteAll s.chip.host.hif.mem (r.par 8 8) ((b.drop (r.u32 0)).take (r.u32 4)) ∧ hostAnswers s t r .ok b.length)) ∧
  (∀ (r : Request) (s : State), hostTakes cmdCfgInfo r s → ∃ t, exec (.cfgInfo r) s = .next t ∧ hostOnly s t ∧
    t.chip.host.cfg = s.chip.host.cfg ∧ (s.chip.host.mode.notConfigured = true → hostAnswers s t r .notConfigured 0) ∧
    (s.chip.host.mode.notConfigured = false → s.chip.host.standby = false → s.chip.host.cfg.blob.isSome = true →
      hostAnswers s t r .ok (s.chip.host.cfg.crc + 2 ^ 32 * s.chip.host.cfg.gen)))

/-- The commands of the security engine (19 R493, R494, Table 19-9): keys set, cleared and revoked, the identity, the signature over the
challenge, random bytes, and which slots are filled. -/
def Obligations.SecurityCommandsKeepTheKeys : Prop :=
  (∀ (r : Request) (s : State), hostTakes cmdSecSetAuthKey r s → ∃ t, exec (.secSetAuthKey r) s = .next t ∧ hostOnly s t ∧
    hostAnswers s t r .ok 0 ∧ t.chip.host.sec.authKeys.getD (r.u32 0) none = some (s.chip.host.bufRead r (r.par 8 8) 32) ∧
    (∀ k, k ≠ r.u32 0 → t.chip.host.sec.authKeys.getD k none = s.chip.host.sec.authKeys.getD k none) ∧
    t.chip.host.sec.fwKeys = s.chip.host.sec.fwKeys ∧ t.chip.host.hif.check = s.chip.host.hif.check ∧
    t.chip.host.hif.ready = s.chip.host.hif.ready) ∧
  (∀ (r : Request) (s : State), hostTakes cmdSecClearAuthKey r s → ∃ t, exec (.secClearAuthKey r) s = .next t ∧ hostOnly s t ∧
    hostAnswers s t r .ok 0 ∧ t.chip.host.sec.authKeys.getD (r.u32 0) none = none ∧ r.keySlot ≠ r.u32 0 ∧
    (∀ k, k ≠ r.u32 0 → t.chip.host.sec.authKeys.getD k none = s.chip.host.sec.authKeys.getD k none) ∧
    t.chip.host.sec.fwKeys = s.chip.host.sec.fwKeys ∧ t.chip.host.hif.check = s.chip.host.hif.check ∧
    t.chip.host.hif.ready = s.chip.host.hif.ready) ∧
  (∀ (r : Request) (s : State), hostTakes cmdSecAddFwKey r s → ∃ t, exec (.secAddFwKey r) s = .next t ∧ hostOnly s t ∧
    hostAnswers s t r .ok 0 ∧ (s.chip.host.sec.fwKeys.getD (r.u32 0) {}).programmed = false ∧
    t.chip.host.sec.fwKeys.getD (r.u32 0) {} = { programmed := true, hash := s.chip.host.bufRead r (r.par 8 8) 32 } ∧
    t.chip.host.sec.authKeys = s.chip.host.sec.authKeys) ∧
  (∀ (r : Request) (s : State), hostTakes cmdSecRevokeFwKey r s → ∃ t, exec (.secRevokeFwKey r) s = .next t ∧ hostOnly s t ∧
    hostAnswers s t r .ok 0 ∧ (t.chip.host.sec.fwKeys.getD (r.u32 0) {}).revoked = true ∧
    (t.chip.host.sec.fwKeys.getD (r.u32 0) {}).hash = (s.chip.host.sec.fwKeys.getD (r.u32 0) {}).hash ∧
    t.chip.host.fcm.arisen = s.chip.host.fcm.arisen ++ [hostEvent s 250 1 (r.u32 0)]) ∧
  (∀ (r : Request) (s : State), hostTakes cmdSecGetIdentity r s → ∃ t, exec (.secGetIdentity r) s = .next t ∧ hostOnly s t ∧
    hostAnswers s t r .ok devId ∧ t.chip.host.hif.mem = memWriteAll s.chip.host.hif.mem (r.par 8 8) (slice 0 64 Config.identityKey)) ∧
  (∀ (r : Request) (s : State), hostTakes cmdSecAttest r s → ∃ t, exec (.secAttest r) s = .next t ∧ hostOnly s t ∧
    hostAnswers s t r .ok s.chip.host.htb ∧ t.chip.host.hif.mem = memWriteAll s.chip.host.hif.mem (r.par 8 8 + 32)
      (slice 0 64 (Config.ecdsaSign (s.chip.host.bufRead r (r.par 8 8) 32 ++ leBytes 4 s.chip.variant.cap0.toNat ++ leBytes 4 cap1.toNat ++
        leBytes 8 s.chip.host.htb)))) ∧
  (∀ (r : Request) (s : State), hostTakes cmdSecRandom r s → ∃ t, exec (.secRandom r) s = .next t ∧ hostOnly s t ∧
    t.chip.host.sec.draws = s.chip.host.sec.draws + r.u32 0 ∧
    (Config.rngHealthy s.chip.host.sec.draws = true → hostAnswers s t r .ok 0 ∧ t.chip.host.hif.mem = memWriteAll s.chip.host.hif.mem (r.par 8 8)
      ((List.range (r.u32 0)).map fun i => Config.random (s.chip.host.sec.draws + i))) ∧
    (Config.rngHealthy s.chip.host.sec.draws = false → hostAnswers s t r .aborted 0 ∧ t.chip.host.hif.mem = s.chip.host.hif.mem ∧
      t.chip.host.fcm.arisen = s.chip.host.fcm.arisen ++ [hostEvent s 251 1])) ∧
  (∀ (r : Request) (s : State), hostTakes cmdSecGetKeys r s → ∃ t x, exec (.secGetKeys r) s = .next t ∧ hostOnly s t ∧
    t.chip.host.sec = s.chip.host.sec ∧ hostAnswers s t r .ok x ∧ x / 2 ^ 16 % 4 = s.chip.host.stor.key % 4 ∧
    ∀ k, k < 4 → (x.testBit k = (s.chip.host.sec.authKeys.getD k none).isSome ∧
      x.testBit (8 + k) = (s.chip.host.sec.fwKeys.getD k {}).programmed ∧ x.testBit (12 + k) = (s.chip.host.sec.fwKeys.getD k {}).revoked))

/-- Blocks in trouble (01 R31 to R38, R42, R43; 03 R78): self-tests and spares, scrubbed row groups, and the ends of an operation. -/
def Obligations.BlocksAreTestedMovedAndIsolated : Prop :=
  (∀ (k : Fin 96) (pass : Bool) (s : State), ∃ t, exec (.transceiverSelftest k pass) s = .next t ∧ fieldOnly s t ∧
    ((s.chip.field.sl k).port.line ≠ 0 ∨ pass = true → t = s) ∧
    ((s.chip.field.sl k).port.line = 0 → pass = false → k.val < s.chip.variant.slots →
      ((s.chip.field.qd (slotQuad k)).blk.getD 1 {}).failedCells = [] →
      (t.chip.field.sl k).port = { (s.chip.field.sl k).port with bad := true } ∧ ∀ j, j ≠ k.val → t.chip.field.sl j = s.chip.field.sl j)) ∧
  (∀ (q : Fin 4) (c : Fin 24) (s : State), ∃ t, exec (.spareSwap q 1 c) s = .next t ∧ fieldOnly s t ∧
    ((s.chip.field.sl (24 * q.val + c.val)).port.bad = false → t = s) ∧
    (q.val < s.chip.variant.quads → (s.chip.field.sl (24 * q.val + c.val)).port.bad = true →
      (s.chip.field.sl (24 * q.val + c.val)).port.line = 0 → c.val % 6 = 0 →
      (s.chip.field.qd q).portSpare.getD (c.val / 6) none = none →
      (t.chip.field.sl (24 * q.val + c.val)).port.bad = false ∧ (t.chip.field.qd q).portSpare.getD (c.val / 6) none = some c.val ∧
      t.chip.field.fcol.arisen = s.chip.field.fcol.arisen ++ [fieldEvent s (qSrc q 5) 1 (256 + c.val)])) ∧
  (∀ (g : Fin 8) (b : Fin 32) (n : Nat) (s : State), ∃ t, exec (.sramRowMove g b n) s = .next t ∧
    (hasSram g b = false → t = s) ∧
    (g = 0 → b = 6 → 3 ≤ ((s.chip.host.blk.getD 6 {}).recentErrs n s.chip.host.htb).length → t.chip.field = s.chip.field ∧
      (t.chip.host.blk.getD 6 {}).rowsUsed = (s.chip.host.blk.getD 6 {}).rowsUsed +
        (if (s.chip.host.blk.getD 6 {}).rowsUsed < (Config.rowGroups 0 6).toNat then 1 else 0) ∧
      ((Config.rowGroups 0 6).toNat ≤ (s.chip.host.blk.getD 6 {}).rowsUsed → n ∈ (t.chip.host.blk.getD 6 {}).failedCells))) ∧
  (∀ (g : Fin 8) (b : Fin 32) (a : Nat) (e : Fin 3) (s : State), ∃ t, exec (.sramScrub g b a e) s = .next t ∧
    (sramWord g b a = false ∨ e = 0 → t = s) ∧
    (g = 1 → sramWord g b a = true → e = 2 → fieldOnly s t ∧ t.chip.field = s.chip.field.raise 34 1 b) ∧
    (g = 1 → sramWord g b a = true → e = 1 → fieldOnly s t ∧
      t.chip.field.fcol.arisen = s.chip.field.fcol.arisen ++ [fieldEvent s 33 1 b]) ∧
    (g = 0 → sramWord g b a = true → e = 2 → hostOnly s t ∧ t.chip.host = s.chip.host.raise 3 1 b) ∧
    (g = 0 → sramWord g b a = true → e = 1 → hostOnly s t ∧ t.chip.host.fcm.arisen = s.chip.host.fcm.arisen ++ [hostEvent s 2 1 b] ∧
      (t.chip.host.blk.getD b {}).rowErrs.length ≤ (s.chip.host.blk.getD b {}).rowErrs.length + 1)) ∧
  (∀ (b : Fin 32) (x : BitVec 24) (s : State), ∃ t, exec (.blockOpEnd 0 ⟨b, x⟩) s = .next t ∧ hostOnly s t ∧
    ((s.chip.host.blk.getD b {}).op = none → t = s) ∧
    ∀ o, (s.chip.host.blk.getD b {}).op = some o → (t.chip.host.blk.getD b {}).state = 1 ∧ (t.chip.host.blk.getD b {}).op = none ∧
      ∀ r, o.waits = [r] → r.silent = false → hostAnswers s t r .ok 0) ∧
  (∀ (g : Fin 8) (b : Fin 32) (x : BitVec 24) (s : State), g ≠ 0 → ∃ t, exec (.blockOpEnd g ⟨b, x⟩) s = .next t ∧ fieldOnly s t ∧
    ((s.chip.field.blkAt s.chip.variant g b).bind (·.op) = none → t = s) ∧
    ∀ o, (s.chip.field.blkAt s.chip.variant g b).bind (·.op) = some o →
      (0 < o.stepsLeft ∨ (o.kind = 2 ∧ s.chip.field.sweepDone (g.val - 4) = false) → t = s) ∧
      (g = 1 → b = 8 → o.waits = [] → o.stepsLeft = 0 → o.kind ≠ 2 →
        t.chip.field = s.chip.field.modFBlk 8 (fun x => { x with state := 1, op := none })) ∧
      (4 ≤ g.val → b = 1 → o.kind = 1 → o.stepsLeft = 0 → o.waits = [] →
        ((t.chip.field.qd (g.val - 4)).blk.getD 1 {}).state = (if s.chip.field.power.isolated.getD (g.val - 4) false then 5 else 1) ∧
        ∀ c, c < 24 → x.getLsbD c = true → ((s.chip.field.qd (g.val - 4)).blk.getD 1 {}).failedCells = [] →
          (t.chip.field.sl (24 * (g.val - 4) + c)).port.bad = true)) ∧
  (∀ (b : Fin 32) (s : State), ∃ t, exec (.blockOpTimeout 0 b) s = .next t ∧ hostOnly s t ∧
    ((s.chip.host.blk.getD b {}).op = none → t = s) ∧
    ∀ o, (s.chip.host.blk.getD b {}).op = some o → (t.chip.host.blk.getD b {}).state = 6 ∧ (t.chip.host.blk.getD b {}).op = none ∧
      hostEvent s 9 1 b ∈ t.chip.host.fcm.arisen ∧ ∀ r, o.waits = [r] → r.silent = false → hostAnswers s t r .aborted 0) ∧
  (∀ (g : Fin 8) (b : Fin 32) (s : State), g ≠ 0 → ∃ t, exec (.blockOpTimeout g b) s = .next t ∧ fieldOnly s t ∧
    ((s.chip.field.blkAt s.chip.variant g b).bind (·.op) = none → t = s) ∧
    ∀ o, (s.chip.field.blkAt s.chip.variant g b).bind (·.op) = some o → o.waits = [] →
      (g = 1 → t.chip.field.power.pendIsolate = s.chip.field.power.pendIsolate ∧
        t.chip.field.fcol.arisen = s.chip.field.fcol.arisen ++ [fieldEvent s 48 1 b]) ∧
      (g ≠ 1 → t.chip.field.power.pendIsolate = s.chip.field.power.pendIsolate ++ [(g.val - 4, none)] ∧
        t.chip.field.fcol.arisen = s.chip.field.fcol.arisen ++ [fieldEvent s (qSrc (g.val - 4) 4) 1 b])) ∧
  (∀ (q : Fin 4) (s : State), ∃ t, exec (.tbeEngineResetNext q) s = .next t ∧ fieldOnly s t ∧
    (((s.chip.field.qd q).blk.getD 2 {}).op = none → t = s) ∧
    ∀ o, ((s.chip.field.qd q).blk.getD 2 {}).op = some o → o.kind = 1 → o.stepsLeft ≠ 0 →
      ((t.chip.field.qd q).blk.getD 2 {}).op = some { o with stepsLeft := o.stepsLeft - 1 } ∧
      (t.chip.field.qd q).tbe.resetting =
        (s.chip.field.engineOrder q)[(s.chip.field.engineOrder q).length - o.stepsLeft]?) ∧
  (∀ s : State, ∃ t, exec .blockResetReaction s = .next t ∧ fieldOnly s t ∧ (s.chip.field.power.pendBlocks = [] → t = s) ∧
    ∀ g b e rest, s.chip.field.power.pendBlocks = (g, b, e) :: rest → s.chip.field.blkAt s.chip.variant g b = none →
      t.chip.field = { s.chip.field with power := { s.chip.field.power with pendBlocks := rest } }) ∧
  (∀ s : State, s.chip.field.power.pendBlocks = [(1, 8, 0)] → ∃ t, exec .blockResetReaction s = .next t ∧ fieldOnly s t ∧
    t.chip.field.power.pendBlocks = [] ∧ (t.chip.field.blk.getD 8 {}).state = 2 ∧ (t.chip.field.blk.getD 8 {}).lastOp = 1 ∧
    (t.chip.field.blk.getD 8 {}).resetCnt = satN 16 ((s.chip.field.blk.getD 8 {}).resetCnt + 1)) ∧
  (∀ (q : Fin 4) (s : State), ∃ t, exec (.quadrantIsolate q) s = .next t ∧ fieldOnly s t ∧
    ((∀ x ∈ s.chip.field.power.pendIsolate, x.1 ≠ q.val) → t = s) ∧
    ((∃ x ∈ s.chip.field.power.pendIsolate, x.1 = q.val) → t.chip.field.power.isolated.getD q false = true ∧
      (∀ x ∈ (t.chip.field.qd q).blk.rows, x.state = 5 ∧ x.lastOp = 4 ∧ x.op = none) ∧
      fieldEvent s (qSrc q 31) 1 ∈ t.chip.field.fcol.arisen)) ∧
  (∀ (q : Fin 4) (s : State), ∃ t u, exec (.qcWatchdog q) s = .next t ∧ exec (.qcLockstepMismatch q) s = .next u ∧ fieldOnly s t ∧ fieldOnly s u ∧
    (s.chip.variant.quads ≤ q.val → t = s ∧ u = s) ∧ (s.chip.field.tick.qcLate.getD q 0 < 4 → t = s) ∧
    (q.val < s.chip.variant.quads → fieldEvent s (qSrc q 1) 1 ∈ u.chip.field.fcol.arisen ∧ ((u.chip.field.qd q).blk.getD 0 {}).state = 2 ∧
      (4 ≤ s.chip.field.tick.qcLate.getD q 0 → fieldEvent s (qSrc q 0) 1 ∈ t.chip.field.fcol.arisen ∧
        ((t.chip.field.qd q).blk.getD 0 {}).state = 2 ∧ t.chip.field.tick.qcLate.getD q 0 = 0))) ∧
  (∀ (q : Fin 4) (s : State), ∃ t, exec (.qcRestart q) s = .next t ∧ fieldOnly s t ∧
    (((s.chip.field.qd q).blk.getD 0 {}).op = none → t = s) ∧
    ∀ o, q.val < s.chip.variant.quads → ((s.chip.field.qd q).blk.getD 0 {}).op = some o → o.kind = 1 → o.stepsLeft = 0 → o.waits = [] →
      ((t.chip.field.qd q).blk.getD 0 {}).state = (if s.chip.field.power.isolated.getD q false then 5 else 1) ∧
      ((t.chip.field.qd q).blk.getD 0 {}).op = none)

/-- RESET, BLOCK_OP, GET_BLOCK and GET_DIAG (19 R483, R495, R497) on the side of their target. -/
def Obligations.BlockCommandsRunAtTheirTarget : Prop :=
  (∀ (r : Request) (s : State), hostTakes resetH r s → resetOnHost r = true → ∃ t, exec (.reset r) s = .next t ∧ hostOnly s t ∧
    (r.u32 0 ≠ 0 ∨ r.u32 8 = 0 → t.chip.host.resetIn = some s.chip.host.htb ∧ hostAnswers s t r .ok 0) ∧
    (r.u32 0 = 0 → r.u32 8 ≠ 0 → (t.chip.host.blk.getD (r.u32 8) {}).state = 2 ∧ (t.chip.host.blk.getD (r.u32 8) {}).lastOp = 1)) ∧
  (∀ (r : Request) (s : State), fieldTakes resetC r s → resetOnHost r = false → ∃ t, exec (.reset r) s = .next t ∧
    (r.u32 0 = 2 → t.chip.field.power.resetAt = some ((arriving resetC r s).applyTick + 40, 6) ∧ fieldAnswers s t r .ok 0) ∧
    (r.u32 0 = 4 → t.chip.field.power.resetAt = some ((arriving resetC r s).applyTick + 40, 9) ∧ fieldAnswers s t r .ok 0) ∧
    (r.u32 0 = 0 → r.u32 4 = 1 → r.u32 8 = 5 → fieldWaits s t r ∧ (t.chip.field.blk.getD 5 {}).state = 2) ∧
    (r.u32 0 = 1 → ∀ b, b < 7 → ((t.chip.field.qd (r.u32 4 - 4)).blk.getD b {}).state = 2)) ∧
  (∀ (r : Request) (s : State), hostTakes blockOpH r s → r.u32 0 = 0 → ∃ t, exec (.blockOp r) s = .next t ∧ hostOnly s t ∧
    (t.chip.host.blk.getD (r.u32 4) {}).state = 2 ∧ (t.chip.host.blk.getD (r.u32 4) {}).lastOp = 1) ∧
  (∀ (r : Request) (s : State), fieldTakes blockOpC r s → r.u32 0 ≠ 0 → ∃ t, exec (.blockOp r) s = .next t ∧
    (r.u32 8 = 5 → t.chip.field = { s.chip.field with power := { s.chip.field.power with
      pendIsolate := s.chip.field.power.pendIsolate ++ [(r.u32 0 - 4, some (arriving blockOpC r s))] } } ∧ fieldWaits s t r) ∧
    (r.u32 0 = 1 → r.u32 4 = 0 → r.u32 8 = 3 → s.chip.field.isStandby = false → fieldAnswers s t r .wrongMode 0) ∧
    (r.u32 8 = 2 → (∀ x ∈ (s.chip.field.qd (r.u32 0 - 4)).meas.cal.rows, 4 ≤ x.state) → fieldAnswers s t r .busy 0) ∧
    (r.u32 8 = 1 → (t.chip.field.blkAt s.chip.variant (r.u32 0) (r.u32 4)).map (fun x => (x.state, x.lastOp)) = some (2, 1)) ∧
    (r.u32 8 = 2 → (∃ x ∈ (s.chip.field.qd (r.u32 0 - 4)).meas.cal.rows, x.state < 4) →
      (t.chip.field.blkAt s.chip.variant (r.u32 0) (r.u32 4)).map (fun x => (x.state, x.lastOp)) = some (3, 2)) ∧
    (r.u32 8 = 3 ∨ r.u32 8 = 4 → r.u32 0 ≠ 1 ∨ r.u32 4 ≠ 0 ∨ s.chip.field.isStandby = true →
      (t.chip.field.blkAt s.chip.variant (r.u32 0) (r.u32 4)).map (fun x => (x.state, x.lastOp)) = some (4, 3))) ∧
  (∀ (r : Request) (s : State), hostTakes getBlockH r s → r.u32 0 = 0 → ∃ t, exec (.getBlock r) s = .next t ∧ hostOnly s t ∧
    t.chip.host.blk = s.chip.host.blk ∧ hostAnswers s t r .ok (((HostDie.peek s.chip.variant s.chip.host (256 * r.u32 4)).getD 0).toNat +
      2 ^ 32 * ((HostDie.peek s.chip.variant s.chip.host (256 * r.u32 4 + 1)).getD 0).toNat)) ∧
  (∀ (r : Request) (s : State), fieldTakes getBlockC r s → r.u32 0 ≠ 0 → ∃ t, exec (.getBlock r) s = .next t ∧
    { t.chip.field with bar := s.chip.field.bar } = s.chip.field ∧
    fieldAnswers s t r .ok (((s.chip.field.peek s.chip.variant (8192 * r.u32 0 + 256 * r.u32 4)).getD 0).toNat +
      2 ^ 32 * ((s.chip.field.peek s.chip.variant (8192 * r.u32 0 + 256 * r.u32 4 + 1)).getD 0).toNat)) ∧
  (∀ (r : Request) (s : State), hostTakes getDiagH r s → r.u32 0 = 5 → ∃ t, exec (.getDiag r) s = .next t ∧ hostOnly s t ∧
    (r.u32 4 ≠ r.queue.val → hostAnswers s t r .ok ((s.chip.host.q (r.u32 4)).fetched + 2 ^ 32 * (s.chip.host.q (r.u32 4)).refused))) ∧
  (∀ (r : Request) (s : State), fieldTakes getDiagC r s → r.u32 0 ≠ 5 → ∃ t, exec (.getDiag r) s = .next t ∧
    { t.chip.field with bar := s.chip.field.bar } = s.chip.field ∧
    ∃ x, t.chip.field.bar.completions = s.chip.field.bar.completions ++
        [{ queue := r.queue, tag := r.tag, status := .ok, result := x % 2 ^ 64, epoch := s.chip.field.twin.epoch }] ∧
      (r.u32 0 = 1 → x = (s.chip.field.sl (r.u32 4)).port.deferred) ∧ (r.u32 0 = 2 → x = s.chip.field.bar.drops) ∧
      (r.u32 0 = 3 → x = s.chip.field.bar.overflow + 2 ^ 32 * s.chip.field.bar.events.length) ∧
      (r.u32 0 = 4 → x = s.chip.field.tick.schedule.length ∧
        t.chip.host.hif.outstanding = s.chip.host.hif.outstanding ++ [(r.queue.val, r.tag, 2 ^ 32 * s.chip.host.hif.ready.length)]))

/-- Timers (21 R519 to R526, R529, R530): matches, captures, PWM restarts, snapshots and reads of a channel, and the commands of group 0xD0. -/
def Obligations.TimersMatchCaptureAndRead : Prop :=
  (∀ (ch : Fin 24) (i : Fin 4) (s : State), ∃ t, exec (.timerCompareMatch ch i) s = .next t ∧ timerOnly s t ch ∧
    (s.hasTimer ch = false → t = s) ∧
    ((s.timer ch).outMode = 2 → i = 0 ∨ i = 3 → t = s) ∧
    ((s.timer ch).en = false → s.chained ch = false → t = s) ∧
    (s.hasTimer ch = true → (s.timer ch).en = true → s.chained ch = false → (s.timer ch).outMode ≠ 2 →
      (s.timer ch).resetNext = false → (s.timer ch).count < 2 ^ 32 → (s.timer ch).cmp.get i < 2 ^ 32 →
      (t.timer ch).count = (s.timer ch).cmp.get i ∧
      ((s.timer ch).act.get i ≠ 0 → (t.timer ch).cmpf.get i = true) ∧
      ((s.timer ch).act.get i = 1 → timerRaised s t ch) ∧
      ((s.timer ch).act.get i = 2 → (t.timer (TimerBlk.linked ch)).resetNext = true) ∧
      ((s.timer ch).act.get i = 3 → (t.timer (TimerBlk.linked ch)).en = true))) ∧
  (∀ (ch : Fin 24) (rising : Bool) (n : Word) (s : State), ∃ t, exec (.timerCapture ch rising n) s = .next t ∧ timerOnly s t ch ∧
    (s.hasTimer ch = false → t = s) ∧
    (s.hasTimer ch = true → (s.timer ch).en = false →
      ((s.timer ch).captures rising = false → t.timer ch = { s.timer ch with input := rising }) ∧
      ((s.timer ch).captures rising = true → (s.timer ch).lockedAt = none →
        (rising = true → t.timer ch = { s.timer ch with
          input := true, rise := n.toNat, period := (n.toNat + 2 ^ 32 - (s.timer ch).rise) % 2 ^ 32, risef := true, rose := true }) ∧
        (rising = false → (t.timer ch).fall = n.toNat ∧ (t.timer ch).fallf = true ∧ (t.timer ch).rise = (s.timer ch).rise ∧
          ((s.timer ch).capMode = 3 → (s.timer ch).rose = true → (t.timer ch).width = (n.toNat + 2 ^ 32 - (s.timer ch).rise) % 2 ^ 32)) ∧
        ((s.timer ch).capIrq = true → timerRaised s t ch)) ∧
      ((s.timer ch).captures rising = true → (s.timer ch).lockedAt = some (s.timer ch).count → (t.timer ch).capPending = true ∧
        (t.timer ch).rise = (s.timer ch).rise ∧ (t.timer ch).waiting = some (rising, n.toNat)))) ∧
  (∀ (ch : Fin 24) (s : State), ∃ t, exec (.timerPwmPeriod ch) s = .next t ∧ timerOnly s t ch ∧
    (s.hasTimer ch = true → ((s.timer ch).outMode ≠ 2 → t.timer ch = s.timer ch) ∧
      ((s.timer ch).outMode = 2 → (t.timer ch).pcnt = 0 ∧ (t.timer ch).cmp0Next = none ∧ (t.timer ch).cmp3Next = none ∧
        (t.timer ch).cmp.get 0 = (s.timer ch).cmp0Next.getD ((s.timer ch).cmp.get 0) ∧
        (t.timer ch).cmp.get 3 = (s.timer ch).cmp3Next.getD ((s.timer ch).cmp.get 3)))) ∧
  (∀ (ch : Fin 24) (m : Word) (s : State), ∃ t, exec (.tstatClear ch m) s = .next t ∧ timerOnly s t ch ∧
    (s.hasTimer ch = true → (t.timer ch).capPending = ((s.timer ch).capPending && !m.getLsbD 27) ∧
      (t.timer ch).risef = ((s.timer ch).risef && !m.getLsbD 26) ∧ (t.timer ch).fallf = ((s.timer ch).fallf && !m.getLsbD 25) ∧
      (t.timer ch).count = (s.timer ch).count ∧
      ∀ i : Fin 4, (t.timer ch).cmpf.get i = ((s.timer ch).cmpf.get i && !m.getLsbD (28 + i.val)))) ∧
  (∀ (b : Fin 5) (ps : BitVec 4) (s : State), ∃ t, exec (.timerSnapWrite b ps) s = .next t ∧
    ∀ p, s.hasTimer (if b.val = 0 then 0 else 4 + 4 * b.val) = true → p < (if b.val = 0 then 4 else 2) → ps.getLsbD p = true →
      (t.timer ((if b.val = 0 then 0 else 4 + 4 * b.val) + 2 * p)).snapLo =
        (s.timer ((if b.val = 0 then 0 else 4 + 4 * b.val) + 2 * p)).count ∧
      (t.timer ((if b.val = 0 then 0 else 4 + 4 * b.val) + 2 * p)).snapHi =
        (s.timer ((if b.val = 0 then 0 else 4 + 4 * b.val) + 2 * p + 1)).count) ∧
  (∀ (ch : Fin 24) (op : Bool) (s : State), ∃ t, exec (.timerCountRead ch op) s = .next t ∧
    (s.chained ch = false → t.chip.readData = [BitVec.ofNat 32 (s.timer ch).count] ∧ t.timer ch = s.timer ch) ∧
    (s.chained ch = true → (ch.val % 2 = 0 → t.chip.readData = [BitVec.ofNat 32 (s.timer ch).count] ∧ (s.hasTimer ch = true →
        (if op then (t.timer ch).shadowOp else (t.timer ch).shadowProc) = (s.timer (ch + 1)).count)) ∧
      (ch.val % 2 = 1 → t.chip.readData =
        [BitVec.ofNat 32 (if op then (s.timer (ch.val - 1)).shadowOp else (s.timer (ch.val - 1)).shadowProc)]))) ∧
  (∀ (ch : Fin 24) (g : CapReg) (s : State), ∃ t, exec (.captureReadLock ch g) s = .next t ∧
    t.chip.readData = [BitVec.ofNat 32 (match g with
      | .width => (s.timer ch).width | .rise => (s.timer ch).rise | .fall => (s.timer ch).fall | .period => (s.timer ch).period)] ∧
    (s.hasTimer ch = true → t.timer ch = { s.timer ch with lockedAt := some (s.timer ch).count })) ∧
  (∀ (r : Request) (s : State),
    (r.u32 0 < 8 → hostTakes cmdTmrSetH r s → ∃ t, exec (.tmrSet r) s = .next t ∧ hostOnly s t ∧
      hostAnswers s t r .ok 0 ∧ (t.timer (r.u32 0)).en = (BitVec.ofNat 32 (r.u32 4)).getLsbD 31 ∧
      (t.timer (r.u32 0)).filt = bits 23 16 (BitVec.ofNat 32 (r.u32 4))) ∧
    (8 ≤ r.u32 0 → fieldTakes cmdTmrSet r s → ∃ t, exec (.tmrSet r) s = .next t ∧
      (s.chip.field.fixedTimer (r.u32 0) = true → t.chip.field.quad = s.chip.field.quad ∧ fieldAnswers s t r .wrongMode 0) ∧
      (s.chip.field.fixedTimer (r.u32 0) = false →
        fieldAnswers s t r .ok 0 ∧ (t.timer (r.u32 0)).en = (BitVec.ofNat 32 (r.u32 4)).getLsbD 31))) ∧
  (∀ (r : Request) (s : State),
    (r.u32 0 < 8 → hostTakes cmdTmrCompareH r s → ∃ t, exec (.tmrCompare r) s = .next t ∧ hostOnly s t ∧
      hostAnswers s t r .ok 0 ∧ (t.timer (r.u32 0)).act.getD (r.u32 4) 0 = r.u32 12 ∧
      ((s.timer (r.u32 0)).outMode ≠ 2 → (t.timer (r.u32 0)).cmp.getD (r.u32 4) 0 = r.u32 8)) ∧
    (8 ≤ r.u32 0 → fieldTakes cmdTmrCompare r s → ∃ t, exec (.tmrCompare r) s = .next t ∧
      (s.chip.field.fixedTimer (r.u32 0) = true → t.chip.field.quad = s.chip.field.quad ∧ fieldAnswers s t r .wrongMode 0) ∧
      (s.chip.field.fixedTimer (r.u32 0) = false →
        fieldAnswers s t r .ok 0 ∧ (t.timer (r.u32 0)).act.getD (r.u32 4) 0 = r.u32 12 ∧
        ((s.timer (r.u32 0)).outMode ≠ 2 → (t.timer (r.u32 0)).cmp.getD (r.u32 4) 0 = r.u32 8)))) ∧
  (∀ (r : Request) (s : State),
    (r.u32 0 < 8 → hostTakes cmdTmrSnapshotH r s → ∃ t, exec (.tmrSnapshot r) s = .next t ∧ hostOnly s t ∧
      hostAnswers s t r .ok ((s.timer (r.u32 0)).count + 2 ^ 32 * (s.timer (r.u32 0 + 1)).count)) ∧
    (8 ≤ r.u32 0 → fieldTakes cmdTmrSnapshot r s → s.chip.field.fixedTimer (r.u32 0) = false →
      ∃ t, exec (.tmrSnapshot r) s = .next t ∧
        fieldAnswers s t r .ok ((s.timer (r.u32 0)).count + 2 ^ 32 * (s.timer (r.u32 0 + 1)).count))) ∧
  (∀ (r : Request) (s : State),
    (r.u32 0 < 8 → hostTakes cmdTmrGetH r s → ∃ t, exec (.tmrGet r) s = .next t ∧ hostOnly s t ∧
      (r.u32 4 = 0 → s.chained (r.u32 0) = false → hostAnswers s t r .ok (s.timer (r.u32 0)).count) ∧
      (r.u32 4 = 1 → hostAnswers s t r .ok ((s.timer (r.u32 0)).width + 2 ^ 32 * bit (s.timer (r.u32 0)).capPending)) ∧
      (r.u32 4 = 2 → hostAnswers s t r .ok ((s.timer (r.u32 0)).cmp.getD (r.u32 8) 0))) ∧
    (8 ≤ r.u32 0 → fieldTakes cmdTmrGet r s → ∃ t, exec (.tmrGet r) s = .next t ∧
      (r.u32 4 = 0 → s.chained (r.u32 0) = false → fieldAnswers s t r .ok (s.timer (r.u32 0)).count) ∧
      (r.u32 4 = 1 → fieldAnswers s t r .ok ((s.timer (r.u32 0)).width + 2 ^ 32 * bit (s.timer (r.u32 0)).capPending)) ∧
      (r.u32 4 = 2 → fieldAnswers s t r .ok ((s.timer (r.u32 0)).cmp.getD (r.u32 8) 0))))

/-- Two-wire buses as controllers (20 R504 to R508, R515, R517): what waits starts once the bus is free, and each way a transfer ends frees it.
-/
def Obligations.TwoWireTransfersStartAndEnd : Prop :=
  (∀ (b : Fin 6) (x : TwStart) (s : State), ∃ t, exec (.twTransactionStart b x) s = .next t ∧
    (s.hasBus b = false ∨ s.busSleeps b = true ∨ (s.bus b).tgtAct = true ∨ (s.bus b).job.isSome = true ∨ (s.bus b).queue = [] → t = s) ∧
    ∀ j rest, s.hasBus b = true → s.busSleeps b = false → (s.bus b).tgtAct = false → (s.bus b).job = none → (s.bus b).queue = j :: rest →
      (∀ r, j = .setBus r → (t.bus b).queue = rest ∧ (t.bus b).speed = r.u32 4 ∧ (t.bus b).role = r.u32 8 ∧ (t.bus b).taddr = r.u32 12 ∧
        (t.bus b).job = none) ∧
      ((∀ r, j ≠ .setBus r) → x.sdaLow = true → x.freed = false → (t.bus b).job = some j ∧ (t.bus b).tries = 1 ∧
        (t.bus b).stuckCnt = satN 4 ((s.bus b).stuckCnt + 1) ∧ (t.bus b).ctrlAct = (s.bus b).ctrlAct ∧ busEvent s t b 1) ∧
      ((∀ r, j ≠ .setBus r) → x.sdaLow = false ∨ x.freed = true → (t.bus b).job = some j ∧ (t.bus b).queue = rest ∧
        (t.bus b).busy = true ∧ (t.bus b).ctrlAct = true ∧ (t.bus b).stuckCnt = (s.bus b).stuckCnt)) ∧
  (∀ (b : Fin 6) (x : TwResult) (s : State), ∃ t, exec (.twTransactionEnd b x) s = .next t ∧
    (s.hasBus b = false ∨ (s.bus b).job = none ∨ (s.bus b).ctrlAct = false → t = s) ∧
    ∀ r, s.hasBus b = true → (s.bus b).ctrlAct = true → (s.bus b).job = some (.xfer r) → (t.bus b).job = none ∧ (t.bus b).busy = false ∧
      (t.bus b).queue = (s.bus b).queue ∧ (t.bus b).pecCnt = (if x.outcome = 6 then satN 4 ((s.bus b).pecCnt + 1) else (s.bus b).pecCnt) ∧
      (b.val < 2 → r.silent = false → hostAnswers s t r (twStatus x.outcome)
        (x.outcome.val + 2 ^ 8 * x.acked.val + 2 ^ 16 * (x.data.length % 2 ^ 16)))) ∧
  (∀ (b : Fin 6) (low : Bool) (s : State), ∃ t, exec (.twStuckRetry b low) s = .next t ∧
    (s.hasBus b = false ∨ (s.bus b).tries = 0 → t = s) ∧
    (s.hasBus b = true → (s.bus b).job = none → (s.bus b).tries ≠ 0 →
      (low = false → t.bus b = { s.bus b with tries := 0, sda := true }) ∧
      (low = true → (t.bus b).sda = false ∧ (t.bus b).stuckCnt = satN 4 ((s.bus b).stuckCnt + 1) ∧ busEvent s t b 1 ∧
        (t.bus b).tries = (if 4 ≤ (s.bus b).tries then 0 else (s.bus b).tries + 1))) ∧
    ∀ j, s.hasBus b = true → (s.bus b).job = some j → (s.bus b).tries ≠ 0 →
      (low = false → (t.bus b).job = some j ∧ (t.bus b).tries = 0 ∧ (t.bus b).ctrlAct = true) ∧
      (low = true → (t.bus b).stuckCnt = satN 4 ((s.bus b).stuckCnt + 1) ∧ busEvent s t b 1 ∧
        ((s.bus b).tries < 3 → (t.bus b).job = some j ∧ (t.bus b).tries = (s.bus b).tries + 1) ∧
        (3 ≤ (s.bus b).tries → (t.bus b).job = none ∧ (t.bus b).busy = false))) ∧
  (∀ (b : Fin 6) (s : State), ∃ t, exec (.twControllerTimeout b) s = .next t ∧
    (s.hasBus b = false ∨ (s.bus b).job = none ∨ (s.bus b).ctrlAct = false → t = s) ∧
    ∀ j, s.hasBus b = true → (s.bus b).job = some j → (s.bus b).ctrlAct = true →
      (t.bus b).job = none ∧ (t.bus b).busy = false ∧ (t.bus b).toutCnt = satN 4 ((s.bus b).toutCnt + 1)) ∧
  (∀ (b : Fin 6) (a : Bool) (w : BitVec 8) (s : State), ∃ t, exec (.twArbitrationLost b a w) s = .next t ∧
    (s.hasBus b = false ∨ (s.bus b).job = none ∨ (s.bus b).ctrlAct = false → t = s) ∧
    ∀ j, s.hasBus b = true → (s.bus b).job = some j → (s.bus b).ctrlAct = true →
      (t.bus b).job = none ∧ (t.bus b).busy = true ∧ (t.bus b).ctrlAct = false ∧
      ((t.bus b).tgtAct = true ↔ a = true ∧ s.busSleeps b = false ∧ (s.bus b).role = 2 ∧ w.toNat / 2 = (s.bus b).taddr)) ∧
  (∀ (b : Fin 6) (s : State), ∃ t, exec (.twStatusRead b) s = .next t ∧ t.chip.readData = [(s.bus b).status] ∧
    (s.hasBus b = true → t.bus b = { s.bus b with stuckCnt := 0, toutCnt := 0, protoCnt := 0, pecCnt := 0 })) ∧
  (∀ (q : Fin 4) (s : State), ∃ t, exec (.legacyPoll q) s = .next t ∧ fieldOnly s t ∧
    (s.chip.field.isActive = false ∨ s.chip.variant.quads ≤ q.val ∨ s.chip.field.power.isolated.getD q false = true ∨
      ((s.chip.field.qd q).blk.getD 6 {}).state ≠ 1 → t = s) ∧
    (s.chip.field.isActive = true → q.val < s.chip.variant.quads → s.chip.field.power.isolated.getD q false = false → ((s.chip.field.qd q).blk.getD 6 {}).state = 1 →
      (s.bus (q + 2)).queue <+: (t.bus (q + 2)).queue ∧
      ∀ d : Fin 8, ((s.chip.field.qd q).ftw.devs.get d).addr ≠ 0 → ∀ k, k < 7 → TwJob.poll d k ∈ (t.bus (q + 2)).queue))

/-- Two-wire buses as targets (20 R509 to R513), and the commands of group 0xE0 (20 R500, R501, R517; 19 R500, R501). -/
def Obligations.TwoWireTargetsCommitWhole : Prop :=
  (∀ (b : Fin 2) (a : BitVec 7) (rd : Bool) (s : State), ∃ t, exec (.twTargetAddressed b a rd) s = .next t ∧ hostOnly s t ∧
    (s.chip.host.listens = false ∨ (s.bus b).role = 0 ∨ (s.bus b).taddr ≠ a.toNat → t = s) ∧
    (s.chip.host.listens = true → (s.bus b).role ≠ 0 → (s.bus b).taddr = a.toNat →
      t.bus b = { s.bus b with busy := true, tgtAct := true, tgtRead := rd })) ∧
  (∀ (b : Fin 2) (bs : List Byte) (s : State), ∃ t, exec (.twTargetWriteCommit b bs) s = .next t ∧ hostOnly s t ∧
    ((s.bus b).tgtAct = false ∨ (s.bus b).tgtRead = true → t = s) ∧
    ∀ x y d, (s.bus b).tgtAct = true → (s.bus b).tgtRead = false → (s.bus b).pecEn = false → bs = [x, y, d] →
      memWf s.chip.host.area = true → (t.bus b).tgtAct = false ∧ ∀ p, p = x.toNat * 256 + y.toNat →
        (t.bus b).pointer = p / 32 * 32 + (p + 1) % 32 ∧
        (0x0800 ≤ p → p < 0x1000 → memRead t.chip.host.area (p - 0x0800) = d ∧
          ∀ a, a ≠ p - 0x0800 → memRead t.chip.host.area a = memRead s.chip.host.area a) ∧
        (p < 0x0800 ∨ 0x1000 ≤ p → t.chip.host.area = s.chip.host.area)) ∧
  (∀ (b : Fin 2) (n : Nat) (s : State), ∃ t, exec (.twTargetStop b n) s = .next t ∧ (t.bus b).tgtAct = false ∧
    ((s.bus b).tgtAct = false ∨ (s.bus b).tgtRead = false → t.chip.readData = [] ∧ t.chip.field = s.chip.field ∧
      (t.bus b).pointer = (s.bus b).pointer)) ∧
  (∀ (b : Fin 2) (pec : Bool) (s : State), ∃ t, exec (.twProtoErr b pec) s = .next t ∧ hostOnly s t ∧
    t.chip.host.area = s.chip.host.area ∧ ((s.bus b).tgtAct = false ∨ (s.bus b).tgtRead = true → t = s) ∧
    ((s.bus b).tgtAct = true → (s.bus b).tgtRead = false →
      (t.bus b).tgtAct = false ∧ (t.bus b).protoCnt = satN 4 ((s.bus b).protoCnt + 1) ∧
      (t.bus b).pecCnt = (if pec then satN 4 ((s.bus b).pecCnt + 1) else (s.bus b).pecCnt) ∧ busEvent s t b 2)) ∧
  (∀ (b : Fin 2) (s : State), ∃ t, exec (.twTargetTimeout b) s = .next t ∧ hostOnly s t ∧ t.chip.host.area = s.chip.host.area ∧
    ((s.bus b).tgtAct = false → t = s) ∧
    ((s.bus b).tgtAct = true → (t.bus b).tgtAct = false ∧ (t.bus b).scl = true ∧ (t.bus b).sda = true ∧
      (t.bus b).toutCnt = satN 4 ((s.bus b).toutCnt + 1) ∧ busEvent s t b 3)) ∧
  (∀ (r : Request) (s : State),
    (r.u32 0 < 2 → hostTakes cmdTwXferH r s → ∃ t, exec (.twXfer r) s = .next t ∧ hostOnly s t ∧
      (8 ≤ (s.bus (r.u32 0)).queued → hostAnswers s t r .full 0 ∧ t.chip.host.mb = s.chip.host.mb) ∧
      ((s.bus (r.u32 0)).queued < 8 → hostWaits s t r ∧
        ∃ q, (t.bus (r.u32 0)).queue = (s.bus (r.u32 0)).queue ++ [.xfer q] ∧ q.tag = r.tag ∧ q.queue = r.queue)) ∧
    (2 ≤ r.u32 0 → fieldTakes cmdTwXfer r s → ∃ t, exec (.twXfer r) s = .next t ∧
      (s.chip.field.power.isolated.getD (r.u32 0 - 2) false = true → fieldAnswers s t r .wrongMode 0) ∧
      (s.chip.field.power.isolated.getD (r.u32 0 - 2) false = false → 8 ≤ (s.bus (r.u32 0)).queued → fieldAnswers s t r .full 0) ∧
      (s.chip.field.power.isolated.getD (r.u32 0 - 2) false = false → (s.bus (r.u32 0)).queued < 8 → fieldWaits s t r ∧
        (t.bus (r.u32 0)).queue = (s.bus (r.u32 0)).queue ++ [.xfer (arriving cmdTwXfer r s)]))) ∧
  (∀ (r : Request) (s : State),
    (r.u32 0 < 2 → hostTakes cmdTwSetBusH r s → ∃ t, exec (.twSetBus r) s = .next t ∧ hostOnly s t ∧
      ((s.bus (r.u32 0)).idle = true → hostAnswers s t r .ok 0 ∧
        t.bus (r.u32 0) = { s.bus (r.u32 0) with speed := r.u32 4, role := r.u32 8, taddr := r.u32 12 }) ∧
      ((s.bus (r.u32 0)).idle = false → 8 ≤ (s.bus (r.u32 0)).queued → hostAnswers s t r .full 0) ∧
      ((s.bus (r.u32 0)).idle = false → (s.bus (r.u32 0)).queued < 8 → hostWaits s t r ∧
        ∃ q, (t.bus (r.u32 0)).queue = (s.bus (r.u32 0)).queue ++ [.setBus q] ∧ q.tag = r.tag ∧ q.queue = r.queue)) ∧
    (2 ≤ r.u32 0 → fieldTakes cmdTwSetBus r s → ∃ t, exec (.twSetBus r) s = .next t ∧
      (s.chip.field.power.isolated.getD (r.u32 0 - 2) false = true → fieldAnswers s t r .wrongMode 0) ∧
      (s.chip.field.power.isolated.getD (r.u32 0 - 2) false = false → (s.bus (r.u32 0)).idle = true → fieldAnswers s t r .ok 0 ∧
        t.bus (r.u32 0) = { s.bus (r.u32 0) with speed := r.u32 4, role := r.u32 8, taddr := r.u32 12 }) ∧
      (s.chip.field.power.isolated.getD (r.u32 0 - 2) false = false → (s.bus (r.u32 0)).idle = false → (s.bus (r.u32 0)).queued < 8 →
        fieldWaits s t r))) ∧
  (∀ (r : Request) (s : State),
    (r.u32 0 < 2 → hostTakes cmdTwGetBusH r s → ∃ t, exec (.twGetBus r) s = .next t ∧ hostOnly s t ∧
      hostAnswers s t r .ok (s.bus (r.u32 0)).status.toNat ∧ t.bus (r.u32 0) = (s.bus (r.u32 0)).clearCounts) ∧
    (2 ≤ r.u32 0 → fieldTakes cmdTwGetBus r s → ∃ t, exec (.twGetBus r) s = .next t ∧
      (s.chip.field.power.isolated.getD (r.u32 0 - 2) false = true → fieldAnswers s t r .wrongMode 0) ∧
      (s.chip.field.power.isolated.getD (r.u32 0 - 2) false = false →
        fieldAnswers s t r .ok (s.bus (r.u32 0)).status.toNat ∧ t.bus (r.u32 0) = (s.bus (r.u32 0)).clearCounts)))
end

