-- ==== Sys2Proof/Laws/State.lean ====
section
/-! SUPPORT. One lemma per field and shared update: what each leaves of a die, so that no later proof unfolds a record update. -/

namespace Sys2Proof

namespace Machine

@[simp] theorem State.on_pending (f : Chip → Chip) (s : State) : (s.on f).pending = s.pending := rfl
@[simp] theorem State.onHost_pending (f : HostDie → HostDie) (s : State) : (s.onHost f).pending = s.pending := rfl
@[simp] theorem State.onField_pending (f : FieldDie → FieldDie) (s : State) : (s.onField f).pending = s.pending := rfl
@[simp] theorem State.on_chip (f : Chip → Chip) (s : State) : (s.on f).chip = f s.chip := rfl
@[simp] theorem State.onHost_host (f : HostDie → HostDie) (s : State) : (s.onHost f).chip.host = f s.chip.host := rfl
@[simp] theorem State.onHost_field (f : HostDie → HostDie) (s : State) : (s.onHost f).chip.field = s.chip.field := rfl
@[simp] theorem State.onHost_variant (f : HostDie → HostDie) (s : State) : (s.onHost f).chip.variant = s.chip.variant := rfl
@[simp] theorem State.onHost_readData (f : HostDie → HostDie) (s : State) : (s.onHost f).chip.readData = s.chip.readData := rfl
@[simp] theorem State.onField_field (f : FieldDie → FieldDie) (s : State) : (s.onField f).chip.field = f s.chip.field := rfl
@[simp] theorem State.onField_host (f : FieldDie → FieldDie) (s : State) : (s.onField f).chip.host = s.chip.host := rfl
@[simp] theorem State.onField_variant (f : FieldDie → FieldDie) (s : State) : (s.onField f).chip.variant = s.chip.variant := rfl
@[simp] theorem State.onField_readData (f : FieldDie → FieldDie) (s : State) : (s.onField f).chip.readData = s.chip.readData := rfl

end Machine

namespace HostDie

@[simp] theorem raise_power (h : HostDie) (src code n : Nat) : (h.raise src code n).power = h.power := rfl
@[simp] theorem raise_mode (h : HostDie) (src code n : Nat) : (h.raise src code n).mode = h.mode := rfl
@[simp] theorem raise_blk (h : HostDie) (src code n : Nat) : (h.raise src code n).blk = h.blk := rfl
@[simp] theorem raise_bar (h : HostDie) (src code n : Nat) : (h.raise src code n).bar = h.bar := rfl
@[simp] theorem raise_hif (h : HostDie) (src code n : Nat) : (h.raise src code n).hif = h.hif := rfl
@[simp] theorem raise_sec (h : HostDie) (src code n : Nat) : (h.raise src code n).sec = h.sec := rfl
@[simp] theorem raise_stor (h : HostDie) (src code n : Nat) : (h.raise src code n).stor = h.stor := rfl
@[simp] theorem raise_rech (h : HostDie) (src code n : Nat) : (h.raise src code n).rech = h.rech := rfl
@[simp] theorem raise_cfg (h : HostDie) (src code n : Nat) : (h.raise src code n).cfg = h.cfg := rfl
@[simp] theorem raise_htim (h : HostDie) (src code n : Nat) : (h.raise src code n).htim = h.htim := rfl
@[simp] theorem raise_mb (h : HostDie) (src code n : Nat) : (h.raise src code n).mb = h.mb := rfl
@[simp] theorem raise_area (h : HostDie) (src code n : Nat) : (h.raise src code n).area = h.area := rfl
@[simp] theorem raise_htb (h : HostDie) (src code n : Nat) : (h.raise src code n).htb = h.htb := rfl
@[simp] theorem raise_htbHi (h : HostDie) (src code n : Nat) : (h.raise src code n).htbHi = h.htbHi := rfl
@[simp] theorem raise_wall (h : HostDie) (src code n : Nat) : (h.raise src code n).wall = h.wall := rfl
@[simp] theorem raise_wallSet (h : HostDie) (src code n : Nat) : (h.raise src code n).wallSet = h.wallSet := rfl
@[simp] theorem raise_wallTicks (h : HostDie) (src code n : Nat) : (h.raise src code n).wallTicks = h.wallTicks := rfl
@[simp] theorem raise_booted (h : HostDie) (src code n : Nat) : (h.raise src code n).booted = h.booted := rfl
@[simp] theorem raise_held (h : HostDie) (src code n : Nat) : (h.raise src code n).held = h.held := rfl
@[simp] theorem raise_heldSince (h : HostDie) (src code n : Nat) : (h.raise src code n).heldSince = h.heldSince := rfl
@[simp] theorem raise_resetIn (h : HostDie) (src code n : Nat) : (h.raise src code n).resetIn = h.resetIn := rfl
@[simp] theorem raise_runTicks (h : HostDie) (src code n : Nat) : (h.raise src code n).runTicks = h.runTicks := rfl

@[simp] theorem vector_power (h : HostDie) (v : Nat) : (h.vector v).power = h.power := by unfold vector; split <;> rfl
@[simp] theorem vector_mode (h : HostDie) (v : Nat) : (h.vector v).mode = h.mode := by unfold vector; split <;> rfl
@[simp] theorem vector_blk (h : HostDie) (v : Nat) : (h.vector v).blk = h.blk := by unfold vector; split <;> rfl
@[simp] theorem vector_bar (h : HostDie) (v : Nat) : (h.vector v).bar = h.bar := by unfold vector; split <;> rfl
@[simp] theorem vector_sec (h : HostDie) (v : Nat) : (h.vector v).sec = h.sec := by unfold vector; split <;> rfl
@[simp] theorem vector_stor (h : HostDie) (v : Nat) : (h.vector v).stor = h.stor := by unfold vector; split <;> rfl
@[simp] theorem vector_rech (h : HostDie) (v : Nat) : (h.vector v).rech = h.rech := by unfold vector; split <;> rfl
@[simp] theorem vector_cfg (h : HostDie) (v : Nat) : (h.vector v).cfg = h.cfg := by unfold vector; split <;> rfl
@[simp] theorem vector_fcm (h : HostDie) (v : Nat) : (h.vector v).fcm = h.fcm := by unfold vector; split <;> rfl
@[simp] theorem vector_htim (h : HostDie) (v : Nat) : (h.vector v).htim = h.htim := by unfold vector; split <;> rfl
@[simp] theorem vector_mb (h : HostDie) (v : Nat) : (h.vector v).mb = h.mb := by unfold vector; split <;> rfl
@[simp] theorem vector_area (h : HostDie) (v : Nat) : (h.vector v).area = h.area := by unfold vector; split <;> rfl
@[simp] theorem vector_htb (h : HostDie) (v : Nat) : (h.vector v).htb = h.htb := by unfold vector; split <;> rfl
@[simp] theorem vector_htbHi (h : HostDie) (v : Nat) : (h.vector v).htbHi = h.htbHi := by unfold vector; split <;> rfl
@[simp] theorem vector_wall (h : HostDie) (v : Nat) : (h.vector v).wall = h.wall := by unfold vector; split <;> rfl
@[simp] theorem vector_wallSet (h : HostDie) (v : Nat) : (h.vector v).wallSet = h.wallSet := by unfold vector; split <;> rfl
@[simp] theorem vector_wallTicks (h : HostDie) (v : Nat) : (h.vector v).wallTicks = h.wallTicks := by unfold vector; split <;> rfl
@[simp] theorem vector_booted (h : HostDie) (v : Nat) : (h.vector v).booted = h.booted := by unfold vector; split <;> rfl
@[simp] theorem vector_held (h : HostDie) (v : Nat) : (h.vector v).held = h.held := by unfold vector; split <;> rfl
@[simp] theorem vector_heldSince (h : HostDie) (v : Nat) : (h.vector v).heldSince = h.heldSince := by unfold vector; split <;> rfl
@[simp] theorem vector_resetIn (h : HostDie) (v : Nat) : (h.vector v).resetIn = h.resetIn := by unfold vector; split <;> rfl
@[simp] theorem vector_runTicks (h : HostDie) (v : Nat) : (h.vector v).runTicks = h.runTicks := by unfold vector; split <;> rfl

@[simp] theorem post_power (h : HostDie) (c : Completion) : (h.post c).power = h.power := rfl
@[simp] theorem post_mode (h : HostDie) (c : Completion) : (h.post c).mode = h.mode := rfl
@[simp] theorem post_blk (h : HostDie) (c : Completion) : (h.post c).blk = h.blk := rfl
@[simp] theorem post_bar (h : HostDie) (c : Completion) : (h.post c).bar = h.bar := rfl
@[simp] theorem post_sec (h : HostDie) (c : Completion) : (h.post c).sec = h.sec := rfl
@[simp] theorem post_stor (h : HostDie) (c : Completion) : (h.post c).stor = h.stor := rfl
@[simp] theorem post_rech (h : HostDie) (c : Completion) : (h.post c).rech = h.rech := rfl
@[simp] theorem post_cfg (h : HostDie) (c : Completion) : (h.post c).cfg = h.cfg := rfl
@[simp] theorem post_fcm (h : HostDie) (c : Completion) : (h.post c).fcm = h.fcm := rfl
@[simp] theorem post_htim (h : HostDie) (c : Completion) : (h.post c).htim = h.htim := rfl
@[simp] theorem post_mb (h : HostDie) (c : Completion) : (h.post c).mb = h.mb := rfl
@[simp] theorem post_area (h : HostDie) (c : Completion) : (h.post c).area = h.area := rfl
@[simp] theorem post_htb (h : HostDie) (c : Completion) : (h.post c).htb = h.htb := rfl
@[simp] theorem post_htbHi (h : HostDie) (c : Completion) : (h.post c).htbHi = h.htbHi := rfl
@[simp] theorem post_wall (h : HostDie) (c : Completion) : (h.post c).wall = h.wall := rfl
@[simp] theorem post_wallSet (h : HostDie) (c : Completion) : (h.post c).wallSet = h.wallSet := rfl
@[simp] theorem post_wallTicks (h : HostDie) (c : Completion) : (h.post c).wallTicks = h.wallTicks := rfl
@[simp] theorem post_booted (h : HostDie) (c : Completion) : (h.post c).booted = h.booted := rfl
@[simp] theorem post_held (h : HostDie) (c : Completion) : (h.post c).held = h.held := rfl
@[simp] theorem post_heldSince (h : HostDie) (c : Completion) : (h.post c).heldSince = h.heldSince := rfl
@[simp] theorem post_resetIn (h : HostDie) (c : Completion) : (h.post c).resetIn = h.resetIn := rfl
@[simp] theorem post_runTicks (h : HostDie) (c : Completion) : (h.post c).runTicks = h.runTicks := rfl

@[simp] theorem complete_power (h : HostDie) (r : Request) (st : Status) (n : Nat) : (h.complete r st n).power = h.power := by unfold complete; split <;> rfl
@[simp] theorem complete_mode (h : HostDie) (r : Request) (st : Status) (n : Nat) : (h.complete r st n).mode = h.mode := by unfold complete; split <;> rfl
@[simp] theorem complete_blk (h : HostDie) (r : Request) (st : Status) (n : Nat) : (h.complete r st n).blk = h.blk := by unfold complete; split <;> rfl
@[simp] theorem complete_bar (h : HostDie) (r : Request) (st : Status) (n : Nat) : (h.complete r st n).bar = h.bar := by unfold complete; split <;> rfl
@[simp] theorem complete_sec (h : HostDie) (r : Request) (st : Status) (n : Nat) : (h.complete r st n).sec = h.sec := by unfold complete; split <;> rfl
@[simp] theorem complete_stor (h : HostDie) (r : Request) (st : Status) (n : Nat) : (h.complete r st n).stor = h.stor := by unfold complete; split <;> rfl
@[simp] theorem complete_rech (h : HostDie) (r : Request) (st : Status) (n : Nat) : (h.complete r st n).rech = h.rech := by unfold complete; split <;> rfl
@[simp] theorem complete_cfg (h : HostDie) (r : Request) (st : Status) (n : Nat) : (h.complete r st n).cfg = h.cfg := by unfold complete; split <;> rfl
@[simp] theorem complete_fcm (h : HostDie) (r : Request) (st : Status) (n : Nat) : (h.complete r st n).fcm = h.fcm := by unfold complete; split <;> rfl
@[simp] theorem complete_htim (h : HostDie) (r : Request) (st : Status) (n : Nat) : (h.complete r st n).htim = h.htim := by unfold complete; split <;> rfl
@[simp] theorem complete_mb (h : HostDie) (r : Request) (st : Status) (n : Nat) : (h.complete r st n).mb = h.mb := by unfold complete; split <;> rfl
@[simp] theorem complete_area (h : HostDie) (r : Request) (st : Status) (n : Nat) : (h.complete r st n).area = h.area := by unfold complete; split <;> rfl
@[simp] theorem complete_htb (h : HostDie) (r : Request) (st : Status) (n : Nat) : (h.complete r st n).htb = h.htb := by unfold complete; split <;> rfl
@[simp] theorem complete_htbHi (h : HostDie) (r : Request) (st : Status) (n : Nat) : (h.complete r st n).htbHi = h.htbHi := by unfold complete; split <;> rfl
@[simp] theorem complete_wall (h : HostDie) (r : Request) (st : Status) (n : Nat) : (h.complete r st n).wall = h.wall := by unfold complete; split <;> rfl
@[simp] theorem complete_wallSet (h : HostDie) (r : Request) (st : Status) (n : Nat) : (h.complete r st n).wallSet = h.wallSet := by unfold complete; split <;> rfl
@[simp] theorem complete_wallTicks (h : HostDie) (r : Request) (st : Status) (n : Nat) : (h.complete r st n).wallTicks = h.wallTicks := by unfold complete; split <;> rfl
@[simp] theorem complete_booted (h : HostDie) (r : Request) (st : Status) (n : Nat) : (h.complete r st n).booted = h.booted := by unfold complete; split <;> rfl
@[simp] theorem complete_held (h : HostDie) (r : Request) (st : Status) (n : Nat) : (h.complete r st n).held = h.held := by unfold complete; split <;> rfl
@[simp] theorem complete_heldSince (h : HostDie) (r : Request) (st : Status) (n : Nat) : (h.complete r st n).heldSince = h.heldSince := by unfold complete; split <;> rfl
@[simp] theorem complete_resetIn (h : HostDie) (r : Request) (st : Status) (n : Nat) : (h.complete r st n).resetIn = h.resetIn := by unfold complete; split <;> rfl
@[simp] theorem complete_runTicks (h : HostDie) (r : Request) (st : Status) (n : Nat) : (h.complete r st n).runTicks = h.runTicks := by unfold complete; split <;> rfl

@[simp] theorem accept_power (h : HostDie) (r : Request) : (h.accept r).power = h.power := rfl
@[simp] theorem accept_mode (h : HostDie) (r : Request) : (h.accept r).mode = h.mode := rfl
@[simp] theorem accept_blk (h : HostDie) (r : Request) : (h.accept r).blk = h.blk := rfl
@[simp] theorem accept_bar (h : HostDie) (r : Request) : (h.accept r).bar = h.bar := rfl
@[simp] theorem accept_sec (h : HostDie) (r : Request) : (h.accept r).sec = h.sec := rfl
@[simp] theorem accept_stor (h : HostDie) (r : Request) : (h.accept r).stor = h.stor := rfl
@[simp] theorem accept_rech (h : HostDie) (r : Request) : (h.accept r).rech = h.rech := rfl
@[simp] theorem accept_cfg (h : HostDie) (r : Request) : (h.accept r).cfg = h.cfg := rfl
@[simp] theorem accept_fcm (h : HostDie) (r : Request) : (h.accept r).fcm = h.fcm := rfl
@[simp] theorem accept_htim (h : HostDie) (r : Request) : (h.accept r).htim = h.htim := rfl
@[simp] theorem accept_mb (h : HostDie) (r : Request) : (h.accept r).mb = h.mb := rfl
@[simp] theorem accept_area (h : HostDie) (r : Request) : (h.accept r).area = h.area := rfl
@[simp] theorem accept_htb (h : HostDie) (r : Request) : (h.accept r).htb = h.htb := rfl
@[simp] theorem accept_htbHi (h : HostDie) (r : Request) : (h.accept r).htbHi = h.htbHi := rfl
@[simp] theorem accept_wall (h : HostDie) (r : Request) : (h.accept r).wall = h.wall := rfl
@[simp] theorem accept_wallSet (h : HostDie) (r : Request) : (h.accept r).wallSet = h.wallSet := rfl
@[simp] theorem accept_wallTicks (h : HostDie) (r : Request) : (h.accept r).wallTicks = h.wallTicks := rfl
@[simp] theorem accept_booted (h : HostDie) (r : Request) : (h.accept r).booted = h.booted := rfl
@[simp] theorem accept_held (h : HostDie) (r : Request) : (h.accept r).held = h.held := rfl
@[simp] theorem accept_heldSince (h : HostDie) (r : Request) : (h.accept r).heldSince = h.heldSince := rfl
@[simp] theorem accept_resetIn (h : HostDie) (r : Request) : (h.accept r).resetIn = h.resetIn := rfl
@[simp] theorem accept_runTicks (h : HostDie) (r : Request) : (h.accept r).runTicks = h.runTicks := rfl

@[simp] theorem await_power (h : HostDie) (r : Request) (n : Nat) : (h.await r n).power = h.power := rfl
@[simp] theorem await_mode (h : HostDie) (r : Request) (n : Nat) : (h.await r n).mode = h.mode := rfl
@[simp] theorem await_blk (h : HostDie) (r : Request) (n : Nat) : (h.await r n).blk = h.blk := rfl
@[simp] theorem await_bar (h : HostDie) (r : Request) (n : Nat) : (h.await r n).bar = h.bar := rfl
@[simp] theorem await_sec (h : HostDie) (r : Request) (n : Nat) : (h.await r n).sec = h.sec := rfl
@[simp] theorem await_stor (h : HostDie) (r : Request) (n : Nat) : (h.await r n).stor = h.stor := rfl
@[simp] theorem await_rech (h : HostDie) (r : Request) (n : Nat) : (h.await r n).rech = h.rech := rfl
@[simp] theorem await_cfg (h : HostDie) (r : Request) (n : Nat) : (h.await r n).cfg = h.cfg := rfl
@[simp] theorem await_fcm (h : HostDie) (r : Request) (n : Nat) : (h.await r n).fcm = h.fcm := rfl
@[simp] theorem await_htim (h : HostDie) (r : Request) (n : Nat) : (h.await r n).htim = h.htim := rfl
@[simp] theorem await_mb (h : HostDie) (r : Request) (n : Nat) : (h.await r n).mb = h.mb := rfl
@[simp] theorem await_area (h : HostDie) (r : Request) (n : Nat) : (h.await r n).area = h.area := rfl
@[simp] theorem await_htb (h : HostDie) (r : Request) (n : Nat) : (h.await r n).htb = h.htb := rfl
@[simp] theorem await_htbHi (h : HostDie) (r : Request) (n : Nat) : (h.await r n).htbHi = h.htbHi := rfl
@[simp] theorem await_wall (h : HostDie) (r : Request) (n : Nat) : (h.await r n).wall = h.wall := rfl
@[simp] theorem await_wallSet (h : HostDie) (r : Request) (n : Nat) : (h.await r n).wallSet = h.wallSet := rfl
@[simp] theorem await_wallTicks (h : HostDie) (r : Request) (n : Nat) : (h.await r n).wallTicks = h.wallTicks := rfl
@[simp] theorem await_booted (h : HostDie) (r : Request) (n : Nat) : (h.await r n).booted = h.booted := rfl
@[simp] theorem await_held (h : HostDie) (r : Request) (n : Nat) : (h.await r n).held = h.held := rfl
@[simp] theorem await_heldSince (h : HostDie) (r : Request) (n : Nat) : (h.await r n).heldSince = h.heldSince := rfl
@[simp] theorem await_resetIn (h : HostDie) (r : Request) (n : Nat) : (h.await r n).resetIn = h.resetIn := rfl
@[simp] theorem await_runTicks (h : HostDie) (r : Request) (n : Nat) : (h.await r n).runTicks = h.runTicks := rfl

@[simp] theorem modBlk_power (h : HostDie) (b : Nat) (g : Blk → Blk) : (h.modBlk b g).power = h.power := rfl
@[simp] theorem modBlk_mode (h : HostDie) (b : Nat) (g : Blk → Blk) : (h.modBlk b g).mode = h.mode := rfl
@[simp] theorem modBlk_bar (h : HostDie) (b : Nat) (g : Blk → Blk) : (h.modBlk b g).bar = h.bar := rfl
@[simp] theorem modBlk_hif (h : HostDie) (b : Nat) (g : Blk → Blk) : (h.modBlk b g).hif = h.hif := rfl
@[simp] theorem modBlk_sec (h : HostDie) (b : Nat) (g : Blk → Blk) : (h.modBlk b g).sec = h.sec := rfl
@[simp] theorem modBlk_stor (h : HostDie) (b : Nat) (g : Blk → Blk) : (h.modBlk b g).stor = h.stor := rfl
@[simp] theorem modBlk_rech (h : HostDie) (b : Nat) (g : Blk → Blk) : (h.modBlk b g).rech = h.rech := rfl
@[simp] theorem modBlk_cfg (h : HostDie) (b : Nat) (g : Blk → Blk) : (h.modBlk b g).cfg = h.cfg := rfl
@[simp] theorem modBlk_fcm (h : HostDie) (b : Nat) (g : Blk → Blk) : (h.modBlk b g).fcm = h.fcm := rfl
@[simp] theorem modBlk_htim (h : HostDie) (b : Nat) (g : Blk → Blk) : (h.modBlk b g).htim = h.htim := rfl
@[simp] theorem modBlk_mb (h : HostDie) (b : Nat) (g : Blk → Blk) : (h.modBlk b g).mb = h.mb := rfl
@[simp] theorem modBlk_area (h : HostDie) (b : Nat) (g : Blk → Blk) : (h.modBlk b g).area = h.area := rfl
@[simp] theorem modBlk_htb (h : HostDie) (b : Nat) (g : Blk → Blk) : (h.modBlk b g).htb = h.htb := rfl
@[simp] theorem modBlk_htbHi (h : HostDie) (b : Nat) (g : Blk → Blk) : (h.modBlk b g).htbHi = h.htbHi := rfl
@[simp] theorem modBlk_wall (h : HostDie) (b : Nat) (g : Blk → Blk) : (h.modBlk b g).wall = h.wall := rfl
@[simp] theorem modBlk_wallSet (h : HostDie) (b : Nat) (g : Blk → Blk) : (h.modBlk b g).wallSet = h.wallSet := rfl
@[simp] theorem modBlk_wallTicks (h : HostDie) (b : Nat) (g : Blk → Blk) : (h.modBlk b g).wallTicks = h.wallTicks := rfl
@[simp] theorem modBlk_booted (h : HostDie) (b : Nat) (g : Blk → Blk) : (h.modBlk b g).booted = h.booted := rfl
@[simp] theorem modBlk_held (h : HostDie) (b : Nat) (g : Blk → Blk) : (h.modBlk b g).held = h.held := rfl
@[simp] theorem modBlk_heldSince (h : HostDie) (b : Nat) (g : Blk → Blk) : (h.modBlk b g).heldSince = h.heldSince := rfl
@[simp] theorem modBlk_resetIn (h : HostDie) (b : Nat) (g : Blk → Blk) : (h.modBlk b g).resetIn = h.resetIn := rfl
@[simp] theorem modBlk_runTicks (h : HostDie) (b : Nat) (g : Blk → Blk) : (h.modBlk b g).runTicks = h.runTicks := rfl

@[simp] theorem bufWrite_power (h : HostDie) (a : Nat) (bs : List Byte) : (h.bufWrite a bs).power = h.power := rfl
@[simp] theorem bufWrite_mode (h : HostDie) (a : Nat) (bs : List Byte) : (h.bufWrite a bs).mode = h.mode := rfl
@[simp] theorem bufWrite_blk (h : HostDie) (a : Nat) (bs : List Byte) : (h.bufWrite a bs).blk = h.blk := rfl
@[simp] theorem bufWrite_bar (h : HostDie) (a : Nat) (bs : List Byte) : (h.bufWrite a bs).bar = h.bar := rfl
@[simp] theorem bufWrite_sec (h : HostDie) (a : Nat) (bs : List Byte) : (h.bufWrite a bs).sec = h.sec := rfl
@[simp] theorem bufWrite_stor (h : HostDie) (a : Nat) (bs : List Byte) : (h.bufWrite a bs).stor = h.stor := rfl
@[simp] theorem bufWrite_rech (h : HostDie) (a : Nat) (bs : List Byte) : (h.bufWrite a bs).rech = h.rech := rfl
@[simp] theorem bufWrite_cfg (h : HostDie) (a : Nat) (bs : List Byte) : (h.bufWrite a bs).cfg = h.cfg := rfl
@[simp] theorem bufWrite_fcm (h : HostDie) (a : Nat) (bs : List Byte) : (h.bufWrite a bs).fcm = h.fcm := rfl
@[simp] theorem bufWrite_htim (h : HostDie) (a : Nat) (bs : List Byte) : (h.bufWrite a bs).htim = h.htim := rfl
@[simp] theorem bufWrite_mb (h : HostDie) (a : Nat) (bs : List Byte) : (h.bufWrite a bs).mb = h.mb := rfl
@[simp] theorem bufWrite_area (h : HostDie) (a : Nat) (bs : List Byte) : (h.bufWrite a bs).area = h.area := rfl
@[simp] theorem bufWrite_htb (h : HostDie) (a : Nat) (bs : List Byte) : (h.bufWrite a bs).htb = h.htb := rfl
@[simp] theorem bufWrite_htbHi (h : HostDie) (a : Nat) (bs : List Byte) : (h.bufWrite a bs).htbHi = h.htbHi := rfl
@[simp] theorem bufWrite_wall (h : HostDie) (a : Nat) (bs : List Byte) : (h.bufWrite a bs).wall = h.wall := rfl
@[simp] theorem bufWrite_wallSet (h : HostDie) (a : Nat) (bs : List Byte) : (h.bufWrite a bs).wallSet = h.wallSet := rfl
@[simp] theorem bufWrite_wallTicks (h : HostDie) (a : Nat) (bs : List Byte) : (h.bufWrite a bs).wallTicks = h.wallTicks := rfl
@[simp] theorem bufWrite_booted (h : HostDie) (a : Nat) (bs : List Byte) : (h.bufWrite a bs).booted = h.booted := rfl
@[simp] theorem bufWrite_held (h : HostDie) (a : Nat) (bs : List Byte) : (h.bufWrite a bs).held = h.held := rfl
@[simp] theorem bufWrite_heldSince (h : HostDie) (a : Nat) (bs : List Byte) : (h.bufWrite a bs).heldSince = h.heldSince := rfl
@[simp] theorem bufWrite_resetIn (h : HostDie) (a : Nat) (bs : List Byte) : (h.bufWrite a bs).resetIn = h.resetIn := rfl
@[simp] theorem bufWrite_runTicks (h : HostDie) (a : Nat) (bs : List Byte) : (h.bufWrite a bs).runTicks = h.runTicks := rfl

@[simp] theorem modQ_power (h : HostDie) (i : Nat) (g : QPair → QPair) : (h.modQ i g).power = h.power := rfl
@[simp] theorem modQ_mode (h : HostDie) (i : Nat) (g : QPair → QPair) : (h.modQ i g).mode = h.mode := rfl
@[simp] theorem modQ_blk (h : HostDie) (i : Nat) (g : QPair → QPair) : (h.modQ i g).blk = h.blk := rfl
@[simp] theorem modQ_bar (h : HostDie) (i : Nat) (g : QPair → QPair) : (h.modQ i g).bar = h.bar := rfl
@[simp] theorem modQ_sec (h : HostDie) (i : Nat) (g : QPair → QPair) : (h.modQ i g).sec = h.sec := rfl
@[simp] theorem modQ_stor (h : HostDie) (i : Nat) (g : QPair → QPair) : (h.modQ i g).stor = h.stor := rfl
@[simp] theorem modQ_rech (h : HostDie) (i : Nat) (g : QPair → QPair) : (h.modQ i g).rech = h.rech := rfl
@[simp] theorem modQ_cfg (h : HostDie) (i : Nat) (g : QPair → QPair) : (h.modQ i g).cfg = h.cfg := rfl
@[simp] theorem modQ_fcm (h : HostDie) (i : Nat) (g : QPair → QPair) : (h.modQ i g).fcm = h.fcm := rfl
@[simp] theorem modQ_htim (h : HostDie) (i : Nat) (g : QPair → QPair) : (h.modQ i g).htim = h.htim := rfl
@[simp] theorem modQ_mb (h : HostDie) (i : Nat) (g : QPair → QPair) : (h.modQ i g).mb = h.mb := rfl
@[simp] theorem modQ_area (h : HostDie) (i : Nat) (g : QPair → QPair) : (h.modQ i g).area = h.area := rfl
@[simp] theorem modQ_htb (h : HostDie) (i : Nat) (g : QPair → QPair) : (h.modQ i g).htb = h.htb := rfl
@[simp] theorem modQ_htbHi (h : HostDie) (i : Nat) (g : QPair → QPair) : (h.modQ i g).htbHi = h.htbHi := rfl
@[simp] theorem modQ_wall (h : HostDie) (i : Nat) (g : QPair → QPair) : (h.modQ i g).wall = h.wall := rfl
@[simp] theorem modQ_wallSet (h : HostDie) (i : Nat) (g : QPair → QPair) : (h.modQ i g).wallSet = h.wallSet := rfl
@[simp] theorem modQ_wallTicks (h : HostDie) (i : Nat) (g : QPair → QPair) : (h.modQ i g).wallTicks = h.wallTicks := rfl
@[simp] theorem modQ_booted (h : HostDie) (i : Nat) (g : QPair → QPair) : (h.modQ i g).booted = h.booted := rfl
@[simp] theorem modQ_held (h : HostDie) (i : Nat) (g : QPair → QPair) : (h.modQ i g).held = h.held := rfl
@[simp] theorem modQ_heldSince (h : HostDie) (i : Nat) (g : QPair → QPair) : (h.modQ i g).heldSince = h.heldSince := rfl
@[simp] theorem modQ_resetIn (h : HostDie) (i : Nat) (g : QPair → QPair) : (h.modQ i g).resetIn = h.resetIn := rfl
@[simp] theorem modQ_runTicks (h : HostDie) (i : Nat) (g : QPair → QPair) : (h.modQ i g).runTicks = h.runTicks := rfl

end HostDie

namespace FieldDie

@[simp] theorem modSl_power (f : FieldDie) (k : Nat) (g : Slot → Slot) : (f.modSl k g).power = f.power := rfl
@[simp] theorem modSl_blk (f : FieldDie) (k : Nat) (g : Slot → Slot) : (f.modSl k g).blk = f.blk := rfl
@[simp] theorem modSl_tick (f : FieldDie) (k : Nat) (g : Slot → Slot) : (f.modSl k g).tick = f.tick := rfl
@[simp] theorem modSl_quad (f : FieldDie) (k : Nat) (g : Slot → Slot) : (f.modSl k g).quad = f.quad := rfl
@[simp] theorem modSl_volt (f : FieldDie) (k : Nat) (g : Slot → Slot) : (f.modSl k g).volt = f.volt := rfl
@[simp] theorem modSl_branch (f : FieldDie) (k : Nat) (g : Slot → Slot) : (f.modSl k g).branch = f.branch := rfl
@[simp] theorem modSl_disp (f : FieldDie) (k : Nat) (g : Slot → Slot) : (f.modSl k g).disp = f.disp := rfl
@[simp] theorem modSl_grid (f : FieldDie) (k : Nat) (g : Slot → Slot) : (f.modSl k g).grid = f.grid := rfl
@[simp] theorem modSl_cap (f : FieldDie) (k : Nat) (g : Slot → Slot) : (f.modSl k g).cap = f.cap := rfl
@[simp] theorem modSl_march (f : FieldDie) (k : Nat) (g : Slot → Slot) : (f.modSl k g).march = f.march := rfl
@[simp] theorem modSl_brk (f : FieldDie) (k : Nat) (g : Slot → Slot) : (f.modSl k g).brk = f.brk := rfl
@[simp] theorem modSl_bat (f : FieldDie) (k : Nat) (g : Slot → Slot) : (f.modSl k g).bat = f.bat := rfl
@[simp] theorem modSl_twin (f : FieldDie) (k : Nat) (g : Slot → Slot) : (f.modSl k g).twin = f.twin := rfl
@[simp] theorem modSl_hand (f : FieldDie) (k : Nat) (g : Slot → Slot) : (f.modSl k g).hand = f.hand := rfl
@[simp] theorem modSl_fcol (f : FieldDie) (k : Nat) (g : Slot → Slot) : (f.modSl k g).fcol = f.fcol := rfl
@[simp] theorem modSl_recf (f : FieldDie) (k : Nat) (g : Slot → Slot) : (f.modSl k g).recf = f.recf := rfl
@[simp] theorem modSl_aon (f : FieldDie) (k : Nat) (g : Slot → Slot) : (f.modSl k g).aon = f.aon := rfl
@[simp] theorem modSl_cfg (f : FieldDie) (k : Nat) (g : Slot → Slot) : (f.modSl k g).cfg = f.cfg := rfl
@[simp] theorem modSl_bar (f : FieldDie) (k : Nat) (g : Slot → Slot) : (f.modSl k g).bar = f.bar := rfl
@[simp] theorem modSl_fans (f : FieldDie) (k : Nat) (g : Slot → Slot) : (f.modSl k g).fans = f.fans := rfl
@[simp] theorem modSl_coldTurn (f : FieldDie) (k : Nat) (g : Slot → Slot) : (f.modSl k g).coldTurn = f.coldTurn := rfl
@[simp] theorem modSl_free (f : FieldDie) (k : Nat) (g : Slot → Slot) : (f.modSl k g).free = f.free := rfl

@[simp] theorem modBr_power (f : FieldDie) (b : Nat) (g : Branch → Branch) : (f.modBr b g).power = f.power := rfl
@[simp] theorem modBr_blk (f : FieldDie) (b : Nat) (g : Branch → Branch) : (f.modBr b g).blk = f.blk := rfl
@[simp] theorem modBr_tick (f : FieldDie) (b : Nat) (g : Branch → Branch) : (f.modBr b g).tick = f.tick := rfl
@[simp] theorem modBr_quad (f : FieldDie) (b : Nat) (g : Branch → Branch) : (f.modBr b g).quad = f.quad := rfl
@[simp] theorem modBr_volt (f : FieldDie) (b : Nat) (g : Branch → Branch) : (f.modBr b g).volt = f.volt := rfl
@[simp] theorem modBr_slot (f : FieldDie) (b : Nat) (g : Branch → Branch) : (f.modBr b g).slot = f.slot := rfl
@[simp] theorem modBr_disp (f : FieldDie) (b : Nat) (g : Branch → Branch) : (f.modBr b g).disp = f.disp := rfl
@[simp] theorem modBr_grid (f : FieldDie) (b : Nat) (g : Branch → Branch) : (f.modBr b g).grid = f.grid := rfl
@[simp] theorem modBr_cap (f : FieldDie) (b : Nat) (g : Branch → Branch) : (f.modBr b g).cap = f.cap := rfl
@[simp] theorem modBr_march (f : FieldDie) (b : Nat) (g : Branch → Branch) : (f.modBr b g).march = f.march := rfl
@[simp] theorem modBr_brk (f : FieldDie) (b : Nat) (g : Branch → Branch) : (f.modBr b g).brk = f.brk := rfl
@[simp] theorem modBr_bat (f : FieldDie) (b : Nat) (g : Branch → Branch) : (f.modBr b g).bat = f.bat := rfl
@[simp] theorem modBr_twin (f : FieldDie) (b : Nat) (g : Branch → Branch) : (f.modBr b g).twin = f.twin := rfl
@[simp] theorem modBr_hand (f : FieldDie) (b : Nat) (g : Branch → Branch) : (f.modBr b g).hand = f.hand := rfl
@[simp] theorem modBr_fcol (f : FieldDie) (b : Nat) (g : Branch → Branch) : (f.modBr b g).fcol = f.fcol := rfl
@[simp] theorem modBr_recf (f : FieldDie) (b : Nat) (g : Branch → Branch) : (f.modBr b g).recf = f.recf := rfl
@[simp] theorem modBr_aon (f : FieldDie) (b : Nat) (g : Branch → Branch) : (f.modBr b g).aon = f.aon := rfl
@[simp] theorem modBr_cfg (f : FieldDie) (b : Nat) (g : Branch → Branch) : (f.modBr b g).cfg = f.cfg := rfl
@[simp] theorem modBr_bar (f : FieldDie) (b : Nat) (g : Branch → Branch) : (f.modBr b g).bar = f.bar := rfl
@[simp] theorem modBr_fans (f : FieldDie) (b : Nat) (g : Branch → Branch) : (f.modBr b g).fans = f.fans := rfl
@[simp] theorem modBr_coldTurn (f : FieldDie) (b : Nat) (g : Branch → Branch) : (f.modBr b g).coldTurn = f.coldTurn := rfl
@[simp] theorem modBr_free (f : FieldDie) (b : Nat) (g : Branch → Branch) : (f.modBr b g).free = f.free := rfl

@[simp] theorem modQd_power (f : FieldDie) (q : Nat) (g : Quad → Quad) : (f.modQd q g).power = f.power := rfl
@[simp] theorem modQd_blk (f : FieldDie) (q : Nat) (g : Quad → Quad) : (f.modQd q g).blk = f.blk := rfl
@[simp] theorem modQd_tick (f : FieldDie) (q : Nat) (g : Quad → Quad) : (f.modQd q g).tick = f.tick := rfl
@[simp] theorem modQd_volt (f : FieldDie) (q : Nat) (g : Quad → Quad) : (f.modQd q g).volt = f.volt := rfl
@[simp] theorem modQd_slot (f : FieldDie) (q : Nat) (g : Quad → Quad) : (f.modQd q g).slot = f.slot := rfl
@[simp] theorem modQd_branch (f : FieldDie) (q : Nat) (g : Quad → Quad) : (f.modQd q g).branch = f.branch := rfl
@[simp] theorem modQd_disp (f : FieldDie) (q : Nat) (g : Quad → Quad) : (f.modQd q g).disp = f.disp := rfl
@[simp] theorem modQd_grid (f : FieldDie) (q : Nat) (g : Quad → Quad) : (f.modQd q g).grid = f.grid := rfl
@[simp] theorem modQd_cap (f : FieldDie) (q : Nat) (g : Quad → Quad) : (f.modQd q g).cap = f.cap := rfl
@[simp] theorem modQd_march (f : FieldDie) (q : Nat) (g : Quad → Quad) : (f.modQd q g).march = f.march := rfl
@[simp] theorem modQd_brk (f : FieldDie) (q : Nat) (g : Quad → Quad) : (f.modQd q g).brk = f.brk := rfl
@[simp] theorem modQd_bat (f : FieldDie) (q : Nat) (g : Quad → Quad) : (f.modQd q g).bat = f.bat := rfl
@[simp] theorem modQd_twin (f : FieldDie) (q : Nat) (g : Quad → Quad) : (f.modQd q g).twin = f.twin := rfl
@[simp] theorem modQd_hand (f : FieldDie) (q : Nat) (g : Quad → Quad) : (f.modQd q g).hand = f.hand := rfl
@[simp] theorem modQd_fcol (f : FieldDie) (q : Nat) (g : Quad → Quad) : (f.modQd q g).fcol = f.fcol := rfl
@[simp] theorem modQd_recf (f : FieldDie) (q : Nat) (g : Quad → Quad) : (f.modQd q g).recf = f.recf := rfl
@[simp] theorem modQd_aon (f : FieldDie) (q : Nat) (g : Quad → Quad) : (f.modQd q g).aon = f.aon := rfl
@[simp] theorem modQd_cfg (f : FieldDie) (q : Nat) (g : Quad → Quad) : (f.modQd q g).cfg = f.cfg := rfl
@[simp] theorem modQd_bar (f : FieldDie) (q : Nat) (g : Quad → Quad) : (f.modQd q g).bar = f.bar := rfl
@[simp] theorem modQd_fans (f : FieldDie) (q : Nat) (g : Quad → Quad) : (f.modQd q g).fans = f.fans := rfl
@[simp] theorem modQd_coldTurn (f : FieldDie) (q : Nat) (g : Quad → Quad) : (f.modQd q g).coldTurn = f.coldTurn := rfl
@[simp] theorem modQd_free (f : FieldDie) (q : Nat) (g : Quad → Quad) : (f.modQd q g).free = f.free := rfl

@[simp] theorem raise_power (f : FieldDie) (src code n : Nat) : (f.raise src code n).power = f.power := rfl
@[simp] theorem raise_blk (f : FieldDie) (src code n : Nat) : (f.raise src code n).blk = f.blk := rfl
@[simp] theorem raise_tick (f : FieldDie) (src code n : Nat) : (f.raise src code n).tick = f.tick := rfl
@[simp] theorem raise_quad (f : FieldDie) (src code n : Nat) : (f.raise src code n).quad = f.quad := rfl
@[simp] theorem raise_volt (f : FieldDie) (src code n : Nat) : (f.raise src code n).volt = f.volt := rfl
@[simp] theorem raise_slot (f : FieldDie) (src code n : Nat) : (f.raise src code n).slot = f.slot := rfl
@[simp] theorem raise_branch (f : FieldDie) (src code n : Nat) : (f.raise src code n).branch = f.branch := rfl
@[simp] theorem raise_disp (f : FieldDie) (src code n : Nat) : (f.raise src code n).disp = f.disp := rfl
@[simp] theorem raise_grid (f : FieldDie) (src code n : Nat) : (f.raise src code n).grid = f.grid := rfl
@[simp] theorem raise_cap (f : FieldDie) (src code n : Nat) : (f.raise src code n).cap = f.cap := rfl
@[simp] theorem raise_march (f : FieldDie) (src code n : Nat) : (f.raise src code n).march = f.march := rfl
@[simp] theorem raise_brk (f : FieldDie) (src code n : Nat) : (f.raise src code n).brk = f.brk := rfl
@[simp] theorem raise_bat (f : FieldDie) (src code n : Nat) : (f.raise src code n).bat = f.bat := rfl
@[simp] theorem raise_twin (f : FieldDie) (src code n : Nat) : (f.raise src code n).twin = f.twin := rfl
@[simp] theorem raise_hand (f : FieldDie) (src code n : Nat) : (f.raise src code n).hand = f.hand := rfl
@[simp] theorem raise_recf (f : FieldDie) (src code n : Nat) : (f.raise src code n).recf = f.recf := rfl
@[simp] theorem raise_aon (f : FieldDie) (src code n : Nat) : (f.raise src code n).aon = f.aon := rfl
@[simp] theorem raise_cfg (f : FieldDie) (src code n : Nat) : (f.raise src code n).cfg = f.cfg := rfl
@[simp] theorem raise_bar (f : FieldDie) (src code n : Nat) : (f.raise src code n).bar = f.bar := rfl
@[simp] theorem raise_fans (f : FieldDie) (src code n : Nat) : (f.raise src code n).fans = f.fans := rfl
@[simp] theorem raise_coldTurn (f : FieldDie) (src code n : Nat) : (f.raise src code n).coldTurn = f.coldTurn := rfl
@[simp] theorem raise_free (f : FieldDie) (src code n : Nat) : (f.raise src code n).free = f.free := rfl

@[simp] theorem vector_power (f : FieldDie) (v : Nat) : (f.vector v).power = f.power := by unfold vector; split <;> rfl
@[simp] theorem vector_blk (f : FieldDie) (v : Nat) : (f.vector v).blk = f.blk := by unfold vector; split <;> rfl
@[simp] theorem vector_tick (f : FieldDie) (v : Nat) : (f.vector v).tick = f.tick := by unfold vector; split <;> rfl
@[simp] theorem vector_quad (f : FieldDie) (v : Nat) : (f.vector v).quad = f.quad := by unfold vector; split <;> rfl
@[simp] theorem vector_volt (f : FieldDie) (v : Nat) : (f.vector v).volt = f.volt := by unfold vector; split <;> rfl
@[simp] theorem vector_slot (f : FieldDie) (v : Nat) : (f.vector v).slot = f.slot := by unfold vector; split <;> rfl
@[simp] theorem vector_branch (f : FieldDie) (v : Nat) : (f.vector v).branch = f.branch := by unfold vector; split <;> rfl
@[simp] theorem vector_disp (f : FieldDie) (v : Nat) : (f.vector v).disp = f.disp := by unfold vector; split <;> rfl
@[simp] theorem vector_grid (f : FieldDie) (v : Nat) : (f.vector v).grid = f.grid := by unfold vector; split <;> rfl
@[simp] theorem vector_cap (f : FieldDie) (v : Nat) : (f.vector v).cap = f.cap := by unfold vector; split <;> rfl
@[simp] theorem vector_march (f : FieldDie) (v : Nat) : (f.vector v).march = f.march := by unfold vector; split <;> rfl
@[simp] theorem vector_brk (f : FieldDie) (v : Nat) : (f.vector v).brk = f.brk := by unfold vector; split <;> rfl
@[simp] theorem vector_bat (f : FieldDie) (v : Nat) : (f.vector v).bat = f.bat := by unfold vector; split <;> rfl
@[simp] theorem vector_twin (f : FieldDie) (v : Nat) : (f.vector v).twin = f.twin := by unfold vector; split <;> rfl
@[simp] theorem vector_hand (f : FieldDie) (v : Nat) : (f.vector v).hand = f.hand := by unfold vector; split <;> rfl
@[simp] theorem vector_fcol (f : FieldDie) (v : Nat) : (f.vector v).fcol = f.fcol := by unfold vector; split <;> rfl
@[simp] theorem vector_recf (f : FieldDie) (v : Nat) : (f.vector v).recf = f.recf := by unfold vector; split <;> rfl
@[simp] theorem vector_aon (f : FieldDie) (v : Nat) : (f.vector v).aon = f.aon := by unfold vector; split <;> rfl
@[simp] theorem vector_cfg (f : FieldDie) (v : Nat) : (f.vector v).cfg = f.cfg := by unfold vector; split <;> rfl
@[simp] theorem vector_fans (f : FieldDie) (v : Nat) : (f.vector v).fans = f.fans := by unfold vector; split <;> rfl
@[simp] theorem vector_coldTurn (f : FieldDie) (v : Nat) : (f.vector v).coldTurn = f.coldTurn := by unfold vector; split <;> rfl
@[simp] theorem vector_free (f : FieldDie) (v : Nat) : (f.vector v).free = f.free := by unfold vector; split <;> rfl

@[simp] theorem complete_power (f : FieldDie) (r : Request) (st : Status) (n a : Nat) (bs : List Byte) : (f.complete r st n a bs).power = f.power := by simp only [complete]; repeat' (first | rfl | split)
@[simp] theorem complete_blk (f : FieldDie) (r : Request) (st : Status) (n a : Nat) (bs : List Byte) : (f.complete r st n a bs).blk = f.blk := by simp only [complete]; repeat' (first | rfl | split)
@[simp] theorem complete_tick (f : FieldDie) (r : Request) (st : Status) (n a : Nat) (bs : List Byte) : (f.complete r st n a bs).tick = f.tick := by simp only [complete]; repeat' (first | rfl | split)
@[simp] theorem complete_quad (f : FieldDie) (r : Request) (st : Status) (n a : Nat) (bs : List Byte) : (f.complete r st n a bs).quad = f.quad := by simp only [complete]; repeat' (first | rfl | split)
@[simp] theorem complete_volt (f : FieldDie) (r : Request) (st : Status) (n a : Nat) (bs : List Byte) : (f.complete r st n a bs).volt = f.volt := by simp only [complete]; repeat' (first | rfl | split)
@[simp] theorem complete_slot (f : FieldDie) (r : Request) (st : Status) (n a : Nat) (bs : List Byte) : (f.complete r st n a bs).slot = f.slot := by simp only [complete]; repeat' (first | rfl | split)
@[simp] theorem complete_branch (f : FieldDie) (r : Request) (st : Status) (n a : Nat) (bs : List Byte) : (f.complete r st n a bs).branch = f.branch := by simp only [complete]; repeat' (first | rfl | split)
@[simp] theorem complete_disp (f : FieldDie) (r : Request) (st : Status) (n a : Nat) (bs : List Byte) : (f.complete r st n a bs).disp = f.disp := by simp only [complete]; repeat' (first | rfl | split)
@[simp] theorem complete_grid (f : FieldDie) (r : Request) (st : Status) (n a : Nat) (bs : List Byte) : (f.complete r st n a bs).grid = f.grid := by simp only [complete]; repeat' (first | rfl | split)
@[simp] theorem complete_cap (f : FieldDie) (r : Request) (st : Status) (n a : Nat) (bs : List Byte) : (f.complete r st n a bs).cap = f.cap := by simp only [complete]; repeat' (first | rfl | split)
@[simp] theorem complete_march (f : FieldDie) (r : Request) (st : Status) (n a : Nat) (bs : List Byte) : (f.complete r st n a bs).march = f.march := by simp only [complete]; repeat' (first | rfl | split)
@[simp] theorem complete_brk (f : FieldDie) (r : Request) (st : Status) (n a : Nat) (bs : List Byte) : (f.complete r st n a bs).brk = f.brk := by simp only [complete]; repeat' (first | rfl | split)
@[simp] theorem complete_bat (f : FieldDie) (r : Request) (st : Status) (n a : Nat) (bs : List Byte) : (f.complete r st n a bs).bat = f.bat := by simp only [complete]; repeat' (first | rfl | split)
@[simp] theorem complete_hand (f : FieldDie) (r : Request) (st : Status) (n a : Nat) (bs : List Byte) : (f.complete r st n a bs).hand = f.hand := by simp only [complete]; repeat' (first | rfl | split)
@[simp] theorem complete_fcol (f : FieldDie) (r : Request) (st : Status) (n a : Nat) (bs : List Byte) : (f.complete r st n a bs).fcol = f.fcol := by simp only [complete]; repeat' (first | rfl | split)
@[simp] theorem complete_recf (f : FieldDie) (r : Request) (st : Status) (n a : Nat) (bs : List Byte) : (f.complete r st n a bs).recf = f.recf := by simp only [complete]; repeat' (first | rfl | split)
@[simp] theorem complete_aon (f : FieldDie) (r : Request) (st : Status) (n a : Nat) (bs : List Byte) : (f.complete r st n a bs).aon = f.aon := by simp only [complete]; repeat' (first | rfl | split)
@[simp] theorem complete_cfg (f : FieldDie) (r : Request) (st : Status) (n a : Nat) (bs : List Byte) : (f.complete r st n a bs).cfg = f.cfg := by simp only [complete]; repeat' (first | rfl | split)
@[simp] theorem complete_fans (f : FieldDie) (r : Request) (st : Status) (n a : Nat) (bs : List Byte) : (f.complete r st n a bs).fans = f.fans := by simp only [complete]; repeat' (first | rfl | split)
@[simp] theorem complete_coldTurn (f : FieldDie) (r : Request) (st : Status) (n a : Nat) (bs : List Byte) : (f.complete r st n a bs).coldTurn = f.coldTurn := by simp only [complete]; repeat' (first | rfl | split)
@[simp] theorem complete_free (f : FieldDie) (r : Request) (st : Status) (n a : Nat) (bs : List Byte) : (f.complete r st n a bs).free = f.free := by simp only [complete]; repeat' (first | rfl | split)

@[simp] theorem atCycle_power (f : FieldDie) (c : Nat) : (f.atCycle c).power = f.power := rfl
@[simp] theorem atCycle_blk (f : FieldDie) (c : Nat) : (f.atCycle c).blk = f.blk := rfl
@[simp] theorem atCycle_quad (f : FieldDie) (c : Nat) : (f.atCycle c).quad = f.quad := rfl
@[simp] theorem atCycle_volt (f : FieldDie) (c : Nat) : (f.atCycle c).volt = f.volt := rfl
@[simp] theorem atCycle_slot (f : FieldDie) (c : Nat) : (f.atCycle c).slot = f.slot := rfl
@[simp] theorem atCycle_branch (f : FieldDie) (c : Nat) : (f.atCycle c).branch = f.branch := rfl
@[simp] theorem atCycle_disp (f : FieldDie) (c : Nat) : (f.atCycle c).disp = f.disp := rfl
@[simp] theorem atCycle_grid (f : FieldDie) (c : Nat) : (f.atCycle c).grid = f.grid := rfl
@[simp] theorem atCycle_cap (f : FieldDie) (c : Nat) : (f.atCycle c).cap = f.cap := rfl
@[simp] theorem atCycle_march (f : FieldDie) (c : Nat) : (f.atCycle c).march = f.march := rfl
@[simp] theorem atCycle_brk (f : FieldDie) (c : Nat) : (f.atCycle c).brk = f.brk := rfl
@[simp] theorem atCycle_bat (f : FieldDie) (c : Nat) : (f.atCycle c).bat = f.bat := rfl
@[simp] theorem atCycle_twin (f : FieldDie) (c : Nat) : (f.atCycle c).twin = f.twin := rfl
@[simp] theorem atCycle_hand (f : FieldDie) (c : Nat) : (f.atCycle c).hand = f.hand := rfl
@[simp] theorem atCycle_fcol (f : FieldDie) (c : Nat) : (f.atCycle c).fcol = f.fcol := rfl
@[simp] theorem atCycle_recf (f : FieldDie) (c : Nat) : (f.atCycle c).recf = f.recf := rfl
@[simp] theorem atCycle_aon (f : FieldDie) (c : Nat) : (f.atCycle c).aon = f.aon := rfl
@[simp] theorem atCycle_cfg (f : FieldDie) (c : Nat) : (f.atCycle c).cfg = f.cfg := rfl
@[simp] theorem atCycle_bar (f : FieldDie) (c : Nat) : (f.atCycle c).bar = f.bar := rfl
@[simp] theorem atCycle_fans (f : FieldDie) (c : Nat) : (f.atCycle c).fans = f.fans := rfl
@[simp] theorem atCycle_coldTurn (f : FieldDie) (c : Nat) : (f.atCycle c).coldTurn = f.coldTurn := rfl
@[simp] theorem atCycle_free (f : FieldDie) (c : Nat) : (f.atCycle c).free = f.free := rfl
@[simp] theorem atCycle_fine (f : FieldDie) (c : Nat) : (f.atCycle c).tick.fine = c := rfl
@[simp] theorem atCycle_tb (f : FieldDie) (c : Nat) : (f.atCycle c).tick.tb = f.tick.tb := rfl
@[simp] theorem atCycle_schedule (f : FieldDie) (c : Nat) : (f.atCycle c).tick.schedule = f.tick.schedule := rfl
@[simp] theorem atCycle_staging (f : FieldDie) (c : Nat) : (f.atCycle c).tick.staging = f.tick.staging := rfl

end FieldDie

end Sys2Proof
end

