-- ==== Sys2Proof/Laws/Ops.lean ====
section
/-! SUPPORT. The shared operations said once: tables, memories in canonical form, and what a command does that its checks let through. -/

namespace Sys2Proof

namespace Tab

variable {α : Type} {n : Nat}

theorem get_modify_self (t : Tab α n) (i : Fin n) (f : α → α) : (t.modify i f).get i = f (t.get i) := by
  simp [Tab.modify, Tab.get]

theorem get_modify_ne (t : Tab α n) (i j : Fin n) (f : α → α) (h : j ≠ i) : (t.modify i f).get j = t.get j := by
  have h' : i.val ≠ j.val := fun e => h (Fin.ext e.symm)
  simp [Tab.modify, Tab.get, h']

theorem getD_modifyNat_self (t : Tab α n) (i : Nat) (f : α → α) (d : α) (h : i < n) :
    (t.modifyNat i f).getD i d = f (t.getD i d) := by
  have h' : i < t.rows.length := by rw [t.size_eq]; exact h
  simp [Tab.modifyNat, Tab.getD, List.getD_eq_getElem?_getD, h']

theorem getD_modifyNat_ne (t : Tab α n) (i j : Nat) (f : α → α) (d : α) (h : j ≠ i) :
    (t.modifyNat i f).getD j d = t.getD j d := by
  simp [Tab.modifyNat, Tab.getD, List.getD_eq_getElem?_getD, Ne.symm h]

theorem getD_fill (i : Nat) (a : α) : (Tab.fill n a).getD i a = a := by
  simp [Tab.fill, Tab.getD, List.getD_eq_getElem?_getD, List.getElem?_replicate]
  split <;> rfl

theorem getD_get (t : Tab α n) (i : Fin n) (d : α) : t.getD i d = t.get i := by
  have h' : i.val < t.rows.length := by rw [t.size_eq]; exact i.isLt
  simp [Tab.getD, Tab.get, List.getD_eq_getElem?_getD, h']

end Tab

/-- A byte written is the byte read there. -/
theorem memRead_memWrite_self (m : List Host.Cell) (a : Nat) (v : Byte) (h : memWf m = true) : memRead (memWrite m a v) a = v := by
  induction m with
  | nil => unfold memWrite; split <;> simp_all [memRead]
  | cons c rest ih =>
    obtain ⟨b, w⟩ := c
    have above : ∀ l : List Host.Cell, ∀ x u, memWf ((x, u) :: l) = true → a ≤ x → memRead l a = 0 := by
      intro l
      induction l with
      | nil => intros; rfl
      | cons d l ih =>
        intro x u hw hx
        obtain ⟨y, z⟩ := d
        simp only [memWf, Bool.and_eq_true, decide_eq_true_eq] at hw
        have : a ≠ y := by omega
        simp only [memRead, this, if_false]
        exact ih y z hw.2 (by omega)
    unfold memWrite
    split
    · split
      · have h1 : a ≠ b := by omega
        simp only [memRead, h1, if_false, above rest b w h (by omega)]
        simp_all
      · simp [memRead]
    · split
      · split
        · rename_i h1 h2
          subst h2
          simp_all
          exact above rest b w h (Nat.le_refl _)
        · simp [memRead]
      · rename_i h1 h2
        simp only [memRead, h2, if_false]
        refine ih ?_
        cases rest with
        | nil => rfl
        | cons d l => obtain ⟨y, z⟩ := d; simp only [memWf, Bool.and_eq_true] at h; exact h.2

/-- A write leaves every other address as it reads. -/
theorem memRead_memWrite_ne (m : List Host.Cell) (a b : Nat) (v : Byte) (h : b ≠ a) (hw : memWf m = true) :
    memRead (memWrite m a v) b = memRead m b := by
  induction m with
  | nil => unfold memWrite; split <;> simp_all [memRead]
  | cons c rest ih =>
    obtain ⟨x, w⟩ := c
    unfold memWrite
    split
    · split <;> simp [memRead, h]
    · split
      · rename_i h1 h2
        split <;> simp [memRead, ← h2, h]
      · simp only [memRead]
        split
        · rfl
        · refine ih ?_
          cases rest with
          | nil => rfl
          | cons d l => obtain ⟨y, z⟩ := d; simp only [memWf, Bool.and_eq_true] at hw; exact hw.2

/-- A write keeps the canonical form. -/
theorem memWf_memWrite (m : List Host.Cell) (a : Nat) (v : Byte) (h : memWf m = true) : memWf (memWrite m a v) = true := by
  have key : ∀ m : List Host.Cell, memWf m = true → memWf (memWrite m a v) = true ∧
      ∀ x u, x < a → memWf ((x, u) :: m) = true → memWf ((x, u) :: memWrite m a v) = true := by
    intro m
    induction m with
    | nil =>
      intro _
      unfold memWrite
      split
      · exact ⟨rfl, fun x u hx hm => hm⟩
      · rename_i hv
        have hv : (v != 0) = true := bne_iff_ne.mpr hv
        refine ⟨hv, fun x u hx hm => ?_⟩
        simp only [memWf] at hm
        simp only [memWf, Bool.and_eq_true, decide_eq_true_eq]
        exact ⟨⟨hm, hx⟩, hv⟩
    | cons c rest ih =>
      obtain ⟨b, w⟩ := c
      intro hm
      have hr : memWf rest = true := by
        cases rest with
        | nil => rfl
        | cons d l => obtain ⟨y, z⟩ := d; simp only [memWf, Bool.and_eq_true] at hm; exact hm.2
      unfold memWrite
      split
      · rename_i hab
        split
        · exact ⟨hm, fun x u _ h => h⟩
        · rename_i hv
          have hv : (v != 0) = true := bne_iff_ne.mpr hv
          have hc : memWf ((a, v) :: (b, w) :: rest) = true := by
            simp only [memWf, Bool.and_eq_true, decide_eq_true_eq]
            exact ⟨⟨hv, hab⟩, hm⟩
          refine ⟨hc, fun x u hx h => ?_⟩
          simp only [memWf, Bool.and_eq_true, decide_eq_true_eq] at h hc
          simp only [memWf, Bool.and_eq_true, decide_eq_true_eq]
          exact ⟨⟨h.1.1, hx⟩, hc⟩
      · split
        · rename_i h1 h2
          subst h2
          split
          · refine ⟨hr, fun x u hx h => ?_⟩
            cases rest with
            | nil => simp only [memWf, Bool.and_eq_true, decide_eq_true_eq] at h ⊢; exact h.1.1
            | cons d l =>
              obtain ⟨y, z⟩ := d
              simp only [memWf, Bool.and_eq_true, decide_eq_true_eq] at h ⊢
              exact ⟨⟨h.1.1, by omega⟩, h.2.2⟩
          · rename_i hv
            have hv : (v != 0) = true := bne_iff_ne.mpr hv
            have hb : memWf ((a, v) :: rest) = true := by
              cases rest with
              | nil => exact hv
              | cons d l =>
                obtain ⟨y, z⟩ := d
                simp only [memWf, Bool.and_eq_true, decide_eq_true_eq] at hm
                simp only [memWf, Bool.and_eq_true, decide_eq_true_eq]
                exact ⟨⟨hv, hm.1.2⟩, hm.2⟩
            refine ⟨hb, fun x u hx h => ?_⟩
            simp only [memWf, Bool.and_eq_true, decide_eq_true_eq] at h
            simp only [memWf, Bool.and_eq_true, decide_eq_true_eq]
            exact ⟨⟨h.1.1, hx⟩, hb⟩
        · rename_i h1 h2
          have hab : b < a := by omega
          refine ⟨(ih hr).2 b w hab hm, fun x u hx h => ?_⟩
          simp only [memWf, Bool.and_eq_true, decide_eq_true_eq] at h
          simp only [memWf, Bool.and_eq_true, decide_eq_true_eq]
          exact ⟨h.1, (ih hr).2 b w hab hm⟩
  exact (key m h).1

/-- Writes keep the canonical form. -/
theorem memWf_memWriteAll (bs : List Byte) (m : List Host.Cell) (a : Nat) (h : memWf m = true) : memWf (memWriteAll m a bs) = true := by
  induction bs generalizing m a with
  | nil => exact h
  | cons b bs ih => exact ih _ _ (memWf_memWrite m a b h)

/-- Writes leave every address outside their bytes as it reads. -/
theorem memRead_memWriteAll_out (bs : List Byte) (m : List Host.Cell) (a x : Nat) (h : memWf m = true) (hx : x < a ∨ a + bs.length ≤ x) :
    memRead (memWriteAll m a bs) x = memRead m x := by
  induction bs generalizing m a with
  | nil => rfl
  | cons b bs ih =>
    simp only [List.length_cons] at hx
    rw [memWriteAll, ih _ _ (memWf_memWrite m a b h) (by omega), memRead_memWrite_ne _ _ _ _ (by omega) h]

namespace HostDie

/-- What a completion adds to its queue. -/
theorem complete_waiting (h : HostDie) (r : Request) (st : Status) (n : Nat) (hs : r.silent = false) :
    ((h.complete r st n).hif.queues.get r.queue).waiting = (h.hif.queues.get r.queue).waiting ++
      [{ queue := r.queue, tag := r.tag, status := st, result := n % 2 ^ 64, epoch := h.mode.epoch }] := by
  simp [complete, hs, post, Tab.get_modify_self]

@[simp] theorem accept_waiting (h : HostDie) (r : Request) (i : Fin 32) :
    ((h.accept r).hif.queues.get i).waiting = (h.hif.queues.get i).waiting := by
  by_cases e : i = r.queue
  · subst e; simp [accept, Tab.get_modify_self]
  · simp [accept, Tab.get_modify_ne _ _ _ _ e]

@[simp] theorem accept_mem (h : HostDie) (r : Request) : (h.accept r).hif.mem = h.hif.mem := rfl
@[simp] theorem accept_outstanding (h : HostDie) (r : Request) : (h.accept r).hif.outstanding = h.hif.outstanding := rfl
@[simp] theorem await_mem (h : HostDie) (r : Request) (n : Nat) : (h.await r n).hif.mem = h.hif.mem := rfl
@[simp] theorem await_outstanding (h : HostDie) (r : Request) (n : Nat) :
    (h.await r n).hif.outstanding = h.hif.outstanding ++ [(r.queue.val, r.tag, n)] := rfl
@[simp] theorem complete_mem (h : HostDie) (r : Request) (st : Status) (n : Nat) : (h.complete r st n).hif.mem = h.hif.mem := by
  unfold complete; split <;> rfl
@[simp] theorem vector_mem (h : HostDie) (v : Nat) : (h.vector v).hif.mem = h.hif.mem := by unfold vector; split <;> rfl
@[simp] theorem vector_queues (h : HostDie) (v : Nat) : (h.vector v).hif.queues = h.hif.queues := by unfold vector; split <;> rfl
@[simp] theorem bufWrite_queues (h : HostDie) (a : Nat) (bs : List Byte) : (h.bufWrite a bs).hif.queues = h.hif.queues := rfl
@[simp] theorem bufWrite_mem (h : HostDie) (a : Nat) (bs : List Byte) : (h.bufWrite a bs).hif.mem = memWriteAll h.hif.mem a bs := rfl
@[simp] theorem raise_arisen (h : HostDie) (src code n : Nat) : (h.raise src code n).fcm.arisen =
    h.fcm.arisen ++ [{ tb := h.htb, fine := 0xFFFF, src := src, code := code, value := n }] := rfl

end HostDie

namespace FieldDie

@[simp] theorem raise_arisen (f : FieldDie) (src code n : Nat) : (f.raise src code n).fcol.arisen =
    f.fcol.arisen ++ [{ tb := f.tick.tb, fine := f.tick.fine, src := src, code := code, value := n }] := rfl

/-- A command of a host completes: its completion waits to cross. -/
theorem complete_host (f : FieldDie) (r : Request) (st : Status) (x : Nat) (h1 : r.silent = false) (h2 : r.peer = false) :
    f.complete r st x = { f with bar := { f.bar with completions := f.bar.completions ++
      [{ queue := r.queue, tag := r.tag, status := st, result := x % 2 ^ 64, epoch := f.twin.epoch }] } } := by
  simp [complete, h1, h2]

theorem sl_modSl_self (f : FieldDie) (k : Nat) (g : Slot → Slot) (h : k < 96) : (f.modSl k g).sl k = g (f.sl k) :=
  Tab.getD_modifyNat_self _ _ _ _ h

theorem sl_modSl_ne (f : FieldDie) (k j : Nat) (g : Slot → Slot) (h : j ≠ k) : (f.modSl k g).sl j = f.sl j :=
  Tab.getD_modifyNat_ne _ _ _ _ _ h

theorem br_modBr_self (f : FieldDie) (b : Nat) (g : Branch → Branch) (h : b < 32) : (f.modBr b g).br b = g (f.br b) :=
  Tab.getD_modifyNat_self _ _ _ _ h

theorem br_modBr_ne (f : FieldDie) (b j : Nat) (g : Branch → Branch) (h : j ≠ b) : (f.modBr b g).br j = f.br j :=
  Tab.getD_modifyNat_ne _ _ _ _ _ h

theorem qd_modQd_self (f : FieldDie) (q : Nat) (g : Quad → Quad) (h : q < 4) : (f.modQd q g).qd q = g (f.qd q) :=
  Tab.getD_modifyNat_self _ _ _ _ h

theorem qd_modQd_ne (f : FieldDie) (q j : Nat) (g : Quad → Quad) (h : j ≠ q) : (f.modQd q g).qd j = f.qd j :=
  Tab.getD_modifyNat_ne _ _ _ _ _ h

end FieldDie

theorem Variant.slots_le (v : Variant) : v.slots ≤ 96 := by cases v <;> decide
theorem Variant.branches_le (v : Variant) : v.branches ≤ 32 := by cases v <;> decide

/-- A command that names a slot takes effect only on one that exists. -/
theorem admitF_slot {v : Variant} {f : FieldDie} {c : FCmd} {r : Request} (hc : c.unit = .slot) (h : admitF v f c r = none) :
    r.unit < v.slots := by
  unfold admitF admitUnit unitStatus at h
  rw [hc] at h
  grind

/-- What region H adds to a field command says nothing new of its parameters. -/
@[simp] theorem HostDie.withBuffer_params (h : HostDie) (r : Request) : (h.withBuffer r).params = r.params := rfl
@[simp] theorem HostDie.withBuffer_unit (h : HostDie) (r : Request) : (h.withBuffer r).unit = r.unit := rfl
@[simp] theorem HostDie.withBuffer_tag (h : HostDie) (r : Request) : (h.withBuffer r).tag = r.tag := rfl
@[simp] theorem HostDie.withBuffer_queue (h : HostDie) (r : Request) : (h.withBuffer r).queue = r.queue := rfl

/-- A line on which the device sends nothing of its own. -/
@[simp] theorem Port.silence_sending (p : Port) : p.silence.sending = none := rfl
@[simp] theorem Port.silence_queue (p : Port) : p.silence.queue = p.queue := rfl

namespace Machine

/-- An event on a slot that the part has, and on one that it lacks. -/
theorem State.onSlot_present {k : Nat} {g : FieldDie → FieldDie} {s : State} (h : k < s.chip.variant.slots) : s.onSlot k g = s.onField g := by
  simp [State.onSlot, h]

theorem State.onSlot_absent {k : Nat} {g : FieldDie → FieldDie} {s : State} (h : s.chip.variant.slots ≤ k) : s.onSlot k g = s := by
  simp [State.onSlot, Nat.not_lt.mpr h]

theorem State.onBranch_present {b : Nat} {g : FieldDie → FieldDie} {s : State} (h : b < s.chip.variant.branches) :
    s.onBranch b g = s.onField g := by
  simp [State.onBranch, h]

theorem State.onBranch_absent {b : Nat} {g : FieldDie → FieldDie} {s : State} (h : s.chip.variant.branches ≤ b) : s.onBranch b g = s := by
  simp [State.onBranch, Nat.not_lt.mpr h]

/-- A register with RC fields read, on a part that has it. -/
theorem State.readRc_present {w : FieldDie → Word} {g : FieldDie → FieldDie} {s : State} :
    s.readRc true w g = { s with chip := { s.chip with field := g s.chip.field, readData := [w s.chip.field] } } := rfl

theorem State.readRc_absent {w : FieldDie → Word} {g : FieldDie → FieldDie} {s : State} :
    s.readRc false w g = { s with chip := { s.chip with readData := [0] } } := rfl

/-- An access of a host side that listens, and of one that is off or asleep. -/
theorem State.hostAccess_on {g : HostDie → HostDie} {s : State} (h : s.chip.host.listens = true) : s.hostAccess g = s.onHost g := by
  simp [State.hostAccess, h]

theorem State.hostAccess_off {g : HostDie → HostDie} {s : State} (h : s.chip.host.listens = false) : s.hostAccess g = s := by
  simp [State.hostAccess, h]

theorem State.hostRead_on {g : Variant → HostDie → List Word × HostDie} {s : State} (h : s.chip.host.listens = true) :
    s.hostRead g = { s with chip := { s.chip with
      host := (g s.chip.variant s.chip.host).2, readData := (g s.chip.variant s.chip.host).1 } } := by
  simp [State.hostRead, h]

theorem State.hostRead_off {g : Variant → HostDie → List Word × HostDie} {s : State} (h : s.chip.host.listens = false) : s.hostRead g = s := by
  simp [State.hostRead, h]

/-- Nothing of a command reaches a side that is off or asleep. -/
theorem State.field_off {c : FCmd} {r : Request} {s : State} (h : s.chip.host.listens = false) : s.field c r = s := by
  simp [State.field, State.fieldShare, h]

theorem State.host_off {c : HCmd} {r : Request} {s : State} (h : s.chip.host.listens = false) : s.host c r = s := by
  simp [State.host, h]

/-- What a field-executed command of a host does once its checks let it through. -/
theorem State.field_takes {c : FCmd} {r : Request} {s : State} (h : fieldTakes c r s) :
    s.field c r =
      { s with chip := { s.chip with
          host := (s.chip.host.accept { r with opcode := c.code }).await { r with opcode := c.code } 0
          field := match (c.op s.chip.variant s.chip.field (arriving c r s)).2 with
            | some (st, x) => (c.op s.chip.variant s.chip.field (arriving c r s)).1.complete (arriving c r s) st x
            | none => (c.op s.chip.variant s.chip.field (arriving c r s)).1 } } := by
  obtain ⟨h1, h2, _, _, h3, h4, h5, h6⟩ := h
  have hr : runF s.chip.variant c (arriving c r s) s.chip.field =
      match (c.op s.chip.variant s.chip.field (arriving c r s)).2 with
      | some (st, x) => (c.op s.chip.variant s.chip.field (arriving c r s)).1.complete (arriving c r s) st x
      | none => (c.op s.chip.variant s.chip.field (arriving c r s)).1 := by
    simp only [runF, h5, applyF, h6]
    all_goals rfl
  rw [← hr]
  unfold State.field State.fieldShare
  have ha : ({ r with opcode := c.code } : Request).atTick = false := h1
  simp only [h2, h3, h4, ha, not_true_eq_false, Bool.false_eq_true, if_false]
  rfl

/-- What a host-executed command of a host does once its checks let it through. -/
theorem State.host_takes {c : HCmd} {r : Request} {s : State} (h : hostTakes c r s) :
    s.host c r =
      let q : Request := { r with opcode := c.code }
      let h := s.chip.host.accept q
      { s with chip := { s.chip with host := match (c.op s.chip.variant h q).2 with
          | some (st, x) => (c.op s.chip.variant h q).1.complete q st x
          | none => (c.op s.chip.variant h q).1 } } := by
  obtain ⟨h1, _, h2⟩ := h
  simp only [State.host, State.onHost, runH, h1, h2, not_true_eq_false, if_false]
  all_goals rfl

end Machine

end Sys2Proof
end

