-- ==== Sys2Proof/Tests/Slice0.lean ====
section
/-! SUPPORT. The model's own tests: the ill-formed commands that `wf` refuses, worked examples of the spec's text, and for each obligation with
hypotheses states and operands that meet them. -/

namespace Sys2Proof.Tests

open Sys2Proof Sys2Proof.Machine

set_option Elab.async false

/-- PARAMS made of u32 words, the first at offset 0. -/
def ws (l : List Nat) : BitVec 256 := BitVec.ofNat 256 (l.zipIdx.foldl (fun a x => a + x.1 * 2 ^ (32 * x.2)) 0)

/-- A field side that runs, configured and active. -/
def fieldUp : FieldDie := { FieldDie.reset with
  power := { FieldDie.reset.power with phase := .running }, cfg := { FieldDie.reset.cfg with loaded := true }
  twin := { FieldDie.reset.twin with role := 2, activeN := true } }

/-- The device with that field side. -/
def up : State := { State.reset with chip := { State.reset.chip with field := fieldUp } }

/-- `up` with a change of one side. -/
def fs (g : FieldDie → FieldDie) : State := up.onField g
def hs (g : HostDie → HostDie) : State := up.onHost g

/-- `up` with a change of one slot, and of one branch. -/
def sls (k : Nat) (g : Slot → Slot) : State := fs (fun f => f.modSl k g)
def brs (b : Nat) (g : Branch → Branch) : State := fs (fun f => f.modBr b g)

/-- A command with an accepted token, of the device, of slot 5, of branch 3. -/
def rq (l : List Nat) : Request := { flags := 1, authOk := true, params := ws l }
def rs (l : List Nat) : Request := { rq l with unit := 5 }
def rb (l : List Nat) : Request := { rq l with unit := 99 }

/-- `up` as a standby of a pair, in step. -/
def standbyUp : FieldDie := { fieldUp with
  twin := { fieldUp.twin with role := 1, activeN := false, inStep := true, cfg := { fieldUp.twin.cfg with pairEn := true } } }

/-- `up` with a change of one part of the field side. -/
def gr (g : Grid → Grid) : State := fs fun f => { f with grid := g f.grid }
def cp (g : Capping → Capping) : State := fs fun f => { f with cap := g f.cap }
def ma (g : March → March) : State := fs fun f => { f with march := g f.march }
def vo (g : Volt → Volt) : State := fs fun f => { f with volt := g f.volt }
def tk (g : TickSt → TickSt) : State := fs fun f => { f with tick := g f.tick }
def tw (g : Twin → Twin) : State := fs fun f => { f with twin := g f.twin }
def ba (g : FBarrier → FBarrier) : State := fs fun f => { f with bar := g f.bar }
def co (g : Coord → Coord) : State := fs fun f => { f with bat := { f.bat with coord := g f.bat.coord } }

/-- `up` with its host side asleep, and `up` as a part of one quadrant. -/
def asleep : State := hs fun h => { h with power := { h.power with asleep := true } }
def small : State := { up with chip := { up.chip with variant := .fls6420 } }

/-- `fieldTakes` as a test. -/
def fOk (c : FCmd) (r : Request) (s : State) : Bool :=
  !r.atTick && s.chip.host.listens && !r.silent && !r.peer && !tokenBad (c.auth { r with opcode := c.code }) { r with opcode := c.code } && !s.chip.host.stor.recovery &&
    (admitF s.chip.variant s.chip.field c (arriving c r s)).isNone && (gateF s.chip.field c (arriving c r s)).isNone

/-- `hostTakes` as a test. -/
def hOk (c : HCmd) (r : Request) (s : State) : Bool :=
  s.chip.host.listens && !r.silent && (admitH s.chip.variant (s.chip.host.accept { r with opcode := c.code }) c { r with opcode := c.code }).isNone

/-- Field-executed commands that their states take. -/
def takesF (l : List (FCmd × Request × State)) : Prop := ∀ x ∈ l, fieldTakes x.1 x.2.1 x.2.2
theorem takesF_of {l : List (FCmd × Request × State)} (h : l.all (fun x => fOk x.1 x.2.1 x.2.2) = true) : takesF l := by
  intro x hx
  have := List.all_eq_true.1 h x hx
  simpa [fOk, fieldTakes, and_assoc] using this

/-- Host-executed commands that their states take. -/
def takesH (l : List (HCmd × Request × State)) : Prop := ∀ x ∈ l, hostTakes x.1 x.2.1 x.2.2
theorem takesH_of {l : List (HCmd × Request × State)} (h : l.all (fun x => hOk x.1 x.2.1 x.2.2) = true) : takesH l := by
  intro x hx
  have := List.all_eq_true.1 h x hx
  simpa [hOk, hostTakes, and_assoc] using this

/-! ## Commands that are not well formed -/

/-- Each field of a descriptor beyond its width (Table 19-3), and what a host cannot send. -/
theorem wf_request_refuses :
    Instr.wf (.echo { opcode := 0x10000 }) = false ∧ Instr.wf (.echo { flags := 0x100 }) = false ∧
    Instr.wf (.echo { unit := 0x100 }) = false ∧ Instr.wf (.echo { tag := 0x10000 }) = false ∧
    Instr.wf (.echo { epoch := 0x10000 }) = false ∧ Instr.wf (.echo { applyTick := 2 ^ 64 }) = false ∧
    Instr.wf (.echo { peer := true }) = false ∧ Instr.wf (.echo { silent := true }) = false ∧
    Instr.wf (.echo { opcode := 0xFFFF, tag := 0xFFFF, applyTick := 2 ^ 64 - 1 }) = true := by decide

/-- A measurement code of 17 bits (04 R99). -/
theorem wf_samples_refuses :
    Instr.wf (.tickEdge (Tab.fill 64 (Tab.fill 25 (0x8000 : Int))) 0) = false ∧ Instr.wf (.tickEdge (Tab.fill 64 (Tab.fill 25 (-0x8001 : Int))) 0) = false ∧
    Instr.wf (.tickEdge (Tab.fill 64 (Tab.fill 25 (0x7FFF : Int))) 0) = true := by decide

/-- A window address that is no multiple of 4, or of 25 bits (18 R457). -/
theorem wf_window_refuses :
    Instr.wf (.qspiRead 2 1) = false ∧ Instr.wf (.qspiQread 0x1000000 1) = false ∧ Instr.wf (.qspiWrite 1 [0]) = false ∧
    Instr.wf (.qspiQwrite 3 [0]) = false ∧ Instr.wf (.qspiCsAbort 6 [0] true) = false ∧ Instr.wf (.qspiRead 0xFFFFFC 1) = true := by decide

/-- A moisture sample of 13 bits, a target write of 36 bytes, a fetch of 5 descriptors, and one with a field beyond its width. -/
theorem wf_operands_refuse :
    Instr.wf (.moistureCheckEnd 0 (Tab.fill 8 4096) true) = false ∧ Instr.wf (.moistureCheckEnd 0 (Tab.fill 8 4095) true) = true ∧
    Instr.wf (.twTargetWriteCommit 0 (List.replicate 36 0)) = false ∧ Instr.wf (.twTargetWriteCommit 0 (List.replicate 35 0)) = true ∧
    Instr.wf (.descriptorFetch (.good (List.replicate 5 {}))) = false ∧ Instr.wf (.descriptorFetch (.good [{ tag := 0x10000 }])) = false ∧
    Instr.wf (.descriptorFetch .failed) = true := by decide

/-! ## Worked examples of the spec -/

/-- 00_scope, worked example: slot 61, unit ID 115 on an FLS-6440, OP 0x8325 and OP 0x8A05. -/
theorem example_units :
    slotQuad 61 = 2 ∧ slotBus 61 = 5 ∧ branchQuad 19 = 2 ∧ unitStatus .fls6440 .branch 115 = some .unitAbsent ∧
    opRegion 0x8325 = 4 ∧ FieldDie.reset.peek .fls6420 0x8A05 = none ∧ (FieldDie.reset.peek .fls6420 0x8325).isSome = true := by
  decide +kernel

/-- 02_modes, worked example: MODE_STATUS under hold-up. -/
def heldUp : FieldDie := { fieldUp with
  power := { fieldUp.power with mode := 6, prevMode := 8, changes := 0x1D, cond := 0x2C00 }, twin := { fieldUp.twin with twinned := true } }
theorem example_mode_status : heldUp.modeStatus = 0x681D2CC0 ∧ heldUp.modeOf = 6 := by decide +kernel

/-- 09_contract_line, worked example: the terms of the GRANT to slot 61. -/
def asking : FieldDie := fieldUp.modSl 61 (fun s => { s with
  sess := { s.sess with request := some [pack [(30, 1), (16, 150)], 220000, 0] } })
theorem example_grant : asking.grantTerms .fls6480 61 = [0x68880000, 0x00C83D00, 0x96035B60, 0] := by decide +kernel

/-- 22_pins_packages_and_electrical, worked example: the frame of Q2 with the feed of slot 61 off and slot 50 at the high limit. -/
theorem example_slot_frame :
    ((fieldUp.modSl 61 fun s => { s with landSrcN := true }).modSl 50 fun s => { s with landHigh := true }).slotFrame 2 = 0x04000020 := by
  decide +kernel

/-- 12_branch_breakers, worked example: curve 2, the current multiple 163,839 and its increment 12,075; FT_CODE of 1,500,000 mA. -/
def curve2 : Tab CurvePt 8 := ⟨[curvePt 0x12000 24000000, curvePt 0x18000 2400000, curvePt 0x20000 800000, curvePt 0x30000 200000,
  curvePt 0x40000 80000, curvePt 0x60000 20000, curvePt 0x80000 4000, curvePt 0xA0000 800], rfl⟩
theorem example_curve :
    curve2.rows.map (·.lm) = [1056768, 1081344, 1114112, 1146880, 1179648, 1212416, 1245184, 1261568] ∧
    curve2.rows.map (·.lt) = [1601078, 1385720, 1279648, 1148576, 1063040, 931968, 783360, 626688] ∧
    log2Q 163839 = 1130495 ∧ curveStep curve2 163839 = some 12075 ∧ ftCode 1500000 1000 = 600 := by decide +kernel

/-- 15_faults, worked example: the fifth event of source 140, on Q2's UPLINK_LOST, in the tick T0 + 40,000 (T0 = 100). -/
def uplinkLost (n fine k : Nat) : Event := { tb := 100 + n, fine := fine, src := 140, code := 1, value := k }
def judged : Collector × Option Entry :=
  let c := (FieldDie.reset.fcol.judge false 100 (uplinkLost 0 3000 61)).1
  let c := (c.ack (· == 140)).1
  let c := (c.judge false 10100 (uplinkLost 10000 2000 61)).1
  let c := (c.ack (· == 140)).1
  let c := (c.judge false 25100 (uplinkLost 25000 1500 61)).1
  let c := (c.ack (· == 140)).1
  (c.judge false 40100 (uplinkLost 40000 1200 61)).1.judge false 40100 (uplinkLost 40000 6100 63)
theorem example_severe :
    (judged.2.map fun e => (e.cls, e.rung, e.severe, e.escalated)) = some (1, 2, true, true) ∧
    (judged.1.src 140).winCnt = 4 ∧ (judged.1.src 140).severe = true ∧
    (judged.1.recover 140 440099).src 140 = judged.1.src 140 ∧ ((judged.1.recover 140 440100).src 140).severe = false ∧
    ((judged.1.recover 140 440100).src 140).recov = 1 := by decide +kernel

/-- FIPS 180-4, the one-block message "abc" (PRESUMED in the log: the spec names SHA-256 and leaves the algorithm to its standard). -/
theorem example_sha256 : (Hash.sha256 [0x61, 0x62, 0x63]).take 8 = [0xBA, 0x78, 0x16, 0xBF, 0x8F, 0x01, 0xCF, 0xEA] := by decide +kernel

/-! ## States and operands that meet the hypotheses of the obligations -/

/-- The checks pass for every command of groups 0x20 to 0x38 on `up`. -/
theorem wit_DispatcherCountsAndCommands :
    takesF [
      (setVsetC, rq [1000], up),
      (setVsetC, rq [54000, 10], fs fun f => { f with grid := { f.grid with
      cfg := { f.grid.cfg with winLo := 53999, winHi := 54001 } } }),
      (setLoopC, rq [], up),
      (setSharingC, rq [0, 1, 1, 0], up),
      (setUnitWeightC, rs [0], up),
      (setUnitWeightC, rs [0x10000], up),
      (excludeUnitC, rs [1], up),
      (getUnitC, rs [], up),
      (getWearC, rs [], up),
      (getDispatchC, rq [0], up),
      (getDispatchC, rq [2], up)] ∧
    up.chip.field.runs = true ∧
    up.chip.field.tick.ranThisTick = false ∧
    up.chip.field.tick.overran = false :=
  ⟨takesF_of (by decide +kernel), by decide +kernel⟩

theorem wit_GridCommandsSetAndAnswer :
    takesF [
      (setWindowC, rq [40000, 60000, 1000], up),
      (setHoldupC, rq [0x199A, 0x0CCD, 40, 0, 0, 1], up),
      (setReentryC, rq [1], up),
      (setWarnLeadC, rq [3600000], up),
      (setChargeC, rq [0x8000, 0x028F], up),
      (setRampC, rq [1, 1, 100000000, 10000000], up),
      (setFreqRespC, rq [1, 45000, 2000, 5, 5, 15], up),
      (setFreqSrcC, rq [7, 1, 40, 1], up),
      (putHostFreqC, rq [70000], up),
      (getHoldupC, rq [], up),
      (getGridC, rq [], up),
      (getReserveC, rq [], up)] :=
  takesF_of (by decide +kernel)

/-- The input recovers from a dip and from a loss, a batch is due, a unit is due for its release. -/
theorem wit_InputRecoveryReleasesBatches :
    up.chip.field.grid.cfg.recov ≤ (gr fun g => { g with inputState := 1, recovCnt := 400 }).chip.field.grid.recovCnt ∧
    (gr fun g => { g with inputState := 1, recovCnt := 400 }).chip.field.grid.batches = [] ∧
    (gr fun g => { g with inputState := 2, recovCnt := 400 }).chip.field.grid.inputState = 2 ∧
    (gr fun g => { g with batches := [{ start := 0, units := [5] }] }).chip.field.grid.batches.map (·.begun) = [false] ∧
    ((sls 5 fun s => { s with bus := { s.bus with status := 16 }, ctx := { s.ctx with held := true } }).onField fun f => { f with grid := { f.grid with
      batches := [{ start := 0, units := [5], begun := true, due := [(5, 0)] }] } }).chip.field.releaseDue 5 = true ∧
    up.chip.field.march.startEdge ≠ some up.chip.field.tick.tb :=
  by decide +kernel

theorem wit_CapCommandsSetAndAnswer :
    takesF [
      (setCapC, rq [0, 1000, 1, 0], up),
      (setCapC, rq [1, 1000, 1, 0], up),
      (setCapPolicyC, rq [600000, 1, 1, 100, 0xFFFFFFFF], up),
      (setBranchCapC, rb [7, 1], up),
      (setBranchCapC, rb [7, 0], brs 3 fun x => { x with pending := true }),
      (restoreBranchC, rb [], up),
      (restoreBranchC, rb [], brs 3 fun x => { x with state := 6 }),
      (restoreBranchC, rb [], (brs 3 fun x => { x with state := 6 }).onField fun f => { f with cap := { f.cap with capped := true } }),
      (getCapC, rq [], up),
      (getBudgetC, rb [], up)] :=
  takesF_of (by decide +kernel)

/-- A shed branch that the automatic restore takes, with its delay past and room for it. -/
def shed : FieldDie := (fieldUp.modBr 3 (fun x => { x with state := 6, cfg := { x.cfg with configured := true } })).modCap
  (fun c => { c with autoRestore := true, restoreDly := 0 })
theorem wit_CapsLapseReleaseAndRestore :
    shed.cap.autoRestore = true ∧
    shed.cap.capped = false ∧
    (shed.shedOrder ((FieldDie.branches .fls6480).filter fun b => (shed.br b).state == 6)).getLast? = some 3 ∧
    shed.cap.restoreRef + shed.cap.restoreDly * 40 ≤ shed.tick.tb ∧
    (shed.br 3).dLast + shed.cap.allow / 16 ≤ shed.cap.allow - shed.cap.iLoad ∧
    shed.cfg.loaded = true ∧
    shed.power.winter = false :=
  by decide +kernel

theorem wit_SlotCommandsActOnTheSession :
    takesF [
      (setSlotPolicyC, rs [3, 1000, 4000000, 150, 95], up),
      (resetSlotC, rs [0, 1], up),
      (resetSlotC, rs [0, 0], sls 5 fun s => { s with sess := { s.sess with state := 5 } }),
      (swapAuxC, rs [0, 1, 150], sls 5 fun s => { s with sess := { s.sess with state := 5, capability := some [0x02000000] } }),
      (enableSlotC, rs [1], sls 5 fun s => { s with sess := { s.sess with state := 9 } }),
      (enableSlotC, rs [0], up),
      (getSlotC, rs [], up),
      (getModuleDataC, rs [8, 0, 0], up),
      (getModuleDataC, rs [8, 0, 1], up),
      (getModuleDataC, rs [0xD, 0, 1], sls 5 fun s => { s with sess := { s.sess with state := 5 } })] ∧
    staleCep (sls 5 fun s => { s with sess := { s.sess with state := 5 } }).chip.field (rs [0, 0]) = false ∧
    ((sls 5 fun s => { s with sess := { s.sess with state := 5, capability := some [0x02000000] } }).chip.field.sl 5).sess.auxSrc = true ∧
    up.chip.field.driving = true ∧
    staleCep up.chip.field (rs [3, 0]) = true ∧
    (sls 5 fun s => { s with sess := { s.sess with outstanding := some { type := 6 } } }).chip.field.slotBusy 5 = true ∧
    up.chip.field.slotBusy 5 = false :=
  ⟨takesF_of (by decide +kernel), by decide +kernel⟩

/-- SET_BRANCH with a defined curve and FT codes in range, 100 µΩ shunt. -/
def curved : FieldDie := { fieldUp with
  brk := { fieldUp.brk with curves := Tab.fill 8 curve2 }
  quad := fieldUp.quad.map fun q => { q with meas := { q.meas with ch := q.meas.ch.map fun c => { c with scale := 1000 } } } }
def setB : Request := rb [300000, 1500000, 2000000, 100, 0x5F020620, 22, 0x003C0001, 1000]
theorem wit_BranchCommandsSetOpenAndClose :
    takesF [
      (setBranchC, setB, up),
      (setBranchC, setB, fs fun _ => curved),
      (setCurvePointC, rq [7, 7, 0x10000, 1, 0], up),
      (setCurvePointC, rq [7, 7, 0x10000, 1, 1], up),
      (closeBranchC, rb [], up),
      (closeBranchC, rb [], brs 3 fun x => { x with state := 5 }),
      (openBranchC, rb [], brs 3 fun x => { x with state := 4 }),
      (clearLockoutC, rb [], brs 3 fun x => { x with state := 7 }),
      (testPfwC, rq [0xFF, 10], up),
      (getBranchC, rb [], up),
      (getAccC, rb [], up)] ∧
    ftOk (ftCode (setB.u32 4) 0) = false ∧
    ftOk (ftCode (setB.u32 4) (curved.shunt 3).scale) = true ∧
    ftOk (ftCode (setB.u32 8) (curved.shunt 3).scale) = true ∧
    curveOk (curved.brk.curves.getD (setB.par 18 1) (Tab.fill 8 {})) = true ∧
    curveOk (curved.brk.curves.getD (setB.par 17 1) (Tab.fill 8 {})) = true ∧
    ((brs 3 fun x => { x with state := 4 }).chip.field.br 3).closed = true :=
  ⟨takesF_of (by decide +kernel), by decide +kernel⟩
theorem wit_StepRunsTheFrontCommand : ({ up with pending := [.busUp, .vinhFall] } : State).pending = .busUp :: [.vinhFall] ∧ up.pending = [] := by
  decide +kernel

theorem wit_EveryCommandCompletes : Instr.wf .busUp = true ∧ Instr.wf (.qspiRead 0xFFFFFC 1) = true := by decide +kernel

theorem wit_EveryStepKeepsMemoryCanonical :
    State.reset.memOk = true ∧ (hs fun h => { h with hif := { h.hif with mem := [(0x80000, 1)] } }).memOk = true := by decide +kernel

/-- A command that each check turns away, in the order of 00 R9. -/
theorem wit_ChecksComeInOrderAndLeaveNoEffect :
    tokenBad (setWindowC.auth (rq [])) { rq [] with authOk := false } = true ∧
    admitF .fls6480 up.chip.field setWindowC { rq [] with epoch := 1 } = some .staleRole ∧
    admitF .fls6480 up.chip.field getUnitC { rq [] with unit := 96 } = some .badParam ∧
    admitF .fls6420 up.chip.field getUnitC { rq [] with unit := 24 } = some .unitAbsent ∧
    admitF .fls6480 up.chip.field setSharingC (rq [0xFFFFFFFF]) = some .badParam ∧
    gateF (fs fun f => { f with cfg := { f.cfg with loaded := false } }).chip.field setLoopC (rq []) = some .notConfigured ∧
    admitH .fls6480 up.chip.host cmdEcho { rq [] with epoch := 1, opcode := 0x0005 } = some .staleRole ∧
    asleep.chip.host.listens = false ∧
    up.chip.host.listens = true ∧
    up.chip.field.running = true ∧
    (rq []).epoch = up.chip.field.twin.epoch ∧
    up.chip.field.isStandby = false ∧
    unitStatus .fls6480 setSharingC.unit 0xFF = none ∧
    setSharingC.grid = false ∧
    (rq []).bufOk = true := by decide +kernel

def winterUp : State := fs fun f => { f with power := { f.power with winter := true } }
theorem wit_WinterAcceptsFourGroups :
    takesF [(cmdGetFault, rq [], winterUp), (opReadC, rq [0x2209, 1], winterUp)] ∧
    winterUp.chip.field.power.winter = true ∧
    admitF .fls6480 winterUp.chip.field setLoopC (arriving setLoopC (rq []) winterUp) = none ∧
    (hs fun h => { h with mode := { h.mode with winter := true } }).chip.host.mode.winter = true ∧
    cmdEcho.chk .fls6480 State.reset.chip.host (rq []) = none ∧
    cmdRecStatus.chk .fls6480 State.reset.chip.host (rq []) = none ∧
    (rq []).atTick = false ∧
    (rq []).flags < 16 ∧
    (hs fun h => { h with mode := { h.mode with winter := true } }).chip.host.listens = true ∧
    (rq []).epoch = (hs fun h => { h with mode := { h.mode with winter := true } }).chip.host.mode.epoch :=
  ⟨takesF_of (by decide +kernel), by decide +kernel⟩

/-- A source of each side that is severe, its quiet period just past. -/
def severeAt (c : Collector) (i : Nat) : Collector :=
  { c with sources := c.sources.modifyNat i fun s => { s with severe := true, q := 5, last := 0 } }
theorem wit_SevereSourcesRecoverAfterQuiet :
    Collector.judges true 1 = true ∧ Collector.judges false 140 = true ∧ Collector.judges true 140 = false ∧
    ((hs fun h => { h with htb := 5, fcm := severeAt h.fcm 1 }).chip.host.fcm.src 1).q ≤ 5 - 0 ∧
    ((hs fun h => { h with htb := 5, fcm := severeAt h.fcm 1 }).chip.host.fcm.src 1).severe = true ∧
    ((fs fun f => { f with fcol := severeAt f.fcol 140 }).chip.field.fcol.src 140).severe = true := by decide +kernel

/-- A domain that is next on each side. -/
theorem wit_PowerEventsAndDomains :
    nextDomain (fun _ => true) up.chip.host.power.dom.rows = some 1 ∧ nextDomain Variant.fls6480.hasDomain up.chip.field.power.dom.rows = some 1 ∧
    up.chip.host.power.vinh = true ∧ up.chip.field.power.vinf = true ∧ up.chip.host.power.marchFailed = false ∧ up.chip.host.power.asleep = false ∧
    hasSram 0 6 = true ∧
    (hs fun h => { h with power := { h.power with marchFailed := true } }).chip.host.power.marchFailed = true ∧
    (fs fun f => { f with power := { f.power with marchFailed := true } }).chip.field.power.marchFailed = true := by
  decide +kernel

theorem wit_ResetsRecordTheirCause :
    (hs fun h => { h with resetIn := some 0 }).chip.host.resetIn.isSome = true ∧
    (fs fun f => { f with power := { f.power with resetAt := some (0, 6) } }).chip.field.chipCause = some 6 ∧
    (fs fun f => { f with power := { f.power with resetAt := some (0, 9) } }).chip.field.fieldResetDue = true ∧
    up.chip.field.chipCause = none ∧
    up.chip.field.fieldResetDue = false ∧
    up.chip.host.resetIn = none ∧
    up.chip.field.power.pendWinter = none := by decide +kernel

theorem wit_ResetsRecordTheirCause_winter :
    (fs fun f => { f with power := { f.power with pendWinter := some { ev := fieldEvent up 33 1, cls := 2, rung := 4, severe := false, escalated := false } } }
      ).chip.field.power.pendWinter.isSome = true := by decide +kernel

/-- Twin B of a pair, and its lock lost by bad and by missing edges. -/
def twinB (g : TickSt → TickSt) : State :=
  (tw fun t => { t with twinB := true, cfg := { t.cfg with pairEn := true } }).onField fun f => { f with tick := g f.tick }
theorem wit_TickSyncLocksAndLoses :
    (twinB id).chip.field.takesPulse = true ∧ (-1000 : Int).natAbs ≤ 1000 ∧ (-20 : Int).natAbs ≤ 20 ∧
    decide (16 ≤ (twinB fun t => { t with goodEdges := 16 }).chip.field.tick.goodEdges) = true ∧
    4 ≤ (twinB fun t => { t with locked := true, badEdges := 4 }).chip.field.tick.badEdges ∧
    4 ≤ (twinB fun t => { t with locked := true, missing := 4 }).chip.field.tick.missing ∧
    (twinB fun t => { t with locked := true }).chip.field.running = true := by decide +kernel

theorem wit_TickEventsInTheirOrder :
    up.chip.field.running = true ∧ up.chip.field.twin.adopt = false ∧ (0x1FFF : BitVec 13).getLsbD 12 = true ∧
    (fs fun f => { f with power := { f.power with pendReset := some 6 } }).chip.field.leavesRole = true ∧
    (tw fun t => { t with activeN := false }).chip.field.driving = false ∧ up.chip.variant.quads = 4 ∧
    State.reset.chip.field.running = false ∧
    (tk fun t => { t with staging := { t.staging with contract := Tab.fill 4 true } }).chip.field.tick.staging.battery.getD 3 false = false ∧
    (tk fun t => { t with staging := { t.staging with weights := Tab.fill 4 true } }).chip.field.tick.staging.contract.getD 3 false = false ∧
    (tk fun t => { t with schedule := [{ req := rq [], apply := 0, arrival := 0 }] }).chip.field.tick.schedule.map (·.apply) = [up.chip.field.tick.tb] ∧
    (List.range 4).all up.chip.field.qcUp = true ∧
    up.chip.field.driving = true ∧
    (fs fun f => f.modBus 7 fun b => { b with en := true }).chip.field.busUp .fls6480 7 = true ∧
    up.chip.field.drillBus = none ∧
    up.chip.field.disp.blind = false ∧
    up.chip.field.isStandby = false ∧
    up.chip.field.leavesRole = false := by decide +kernel

theorem wit_DispatchRunCommitsItsResult :
    up.chip.field.runs = true ∧ up.chip.field.tick.ranThisTick = false ∧ up.chip.field.tick.overran = false ∧ 1920 ≤ 1920 := by decide +kernel

/-- Three units, one of them of another role, with bounds and separate numbers. -/
def lanes : List UnitLane :=
  [{ k := 0, role := .supply, pin := 0, lo := 0, hi := 100, cPos := 7, cNeg := 7, x := 0 },
   { k := 1, role := .storage, pin := 0, lo := -5, hi := 5, cPos := 7, cNeg := 7, x := 0 },
   { k := 2, role := .supply, pin := 0, lo := 0, hi := 0, cPos := 7, cNeg := 7, x := 0 }]
theorem wit_FillStaysInBounds :
    (∀ l ∈ lanes, l.lo ≤ l.hi) ∧ (lanes.map (·.k)).Nodup ∧ (lanes.map (·.free .supply)) = [true, false, true] := by decide +kernel

/-- The last tick of a second, and the first of an hour with a module whose identity is known. -/
theorem wit_WearClosesItsSecond :
    (tk fun t => { t with tb := 39999 }).chip.field.tick.tb % 40000 = 39999 ∧ (tk fun t => { t with tb := 39999 }).chip.field.runs = true ∧
    (tk fun t => { t with tb := 144000000 }).chip.field.running = true ∧ 144000000 % 144000000 = 0 ∧
    ((sls 5 fun s => { s with wear := { s.wear with known := true }, sess := { s.sess with identity := some [1, 2, 3] } }).chip.field.sl 5).ident.isSome = true ∧
    5 < up.chip.variant.slots ∧
    up.chip.field.disp.cfg.policy = 0 ∧
    ((sls 5 fun s => { s with wear := { s.wear with inSet := true } }).chip.field.sl 5).wear.inSet = true := by decide +kernel

/-- Both ends of the barrier powered, and the counts of R46. -/
def linkUp : State := (fs fun f => { f with power := { f.power with dom := Tab.fill 8 .good } }).onHost fun h =>
  { h with power := { h.power with dom := Tab.fill 4 .good } }
theorem wit_HeartbeatsTimeAndLossesCross :
    linkUp.linked = true ∧ up.linked = false ∧ 40 ≤ (ba fun b => { b with since := 40 }).chip.field.bar.since ∧
    (ba fun b => { b with since := 40 }).chip.field.bar.hostLost = false ∧
    40 ≤ (hs fun h => { h with bar := { h.bar with since := 40 } }).chip.host.bar.since ∧ up.chip.host.mode.fieldLost = false ∧
    40 * up.chip.field.cfg.hostLimit ≤ (ba fun b => { b with hostLost := true, lostTicks := 80000 }).chip.field.bar.lostTicks ∧
    up.chip.field.bar.limitRaised = false ∧ Arrival.badCrc ≠ .good ∧
    (linkUp.slotFor false .heartbeat).isSome = true ∧
    (linkUp.slotFor true .heartbeat).isSome = true ∧
    (linkUp.slotFor true .timeSync).isSome = true ∧
    (linkUp.slotFor false .timeSync).isSome = true ∧
    linkUp.chip.field.bar.crossed = [] ∧
    (fs fun f => { f with power := { f.power with startCause := some (9, 3) } }).chip.field.power.startCause = some (9, 3) ∧
    up.chip.field.power.startCause = none ∧
    MsgClass.size .timeSync true = some (List.replicate 8 (0 : Byte)).length := by decide +kernel

/-- A forwarded GET that passes, and a completion that region H awaits. -/
def forwarded : State := linkUp.onHost fun h => { h with bar := { h.bar with forward := [{ rq [] with opcode := 0x2010, unit := 5 }] } }
def returned : State := (linkUp.onHost fun h => { h with heldSince := some 0, hif := { h.hif with outstanding := [(3, 7, 2)] } }).onField fun f =>
  { f with bar := { f.bar with completions := [{ queue := 3, tag := 7, status := .ok, result := 1, epoch := 0 }] } }
theorem wit_CommandsCrossAndReturn :
    forwarded.linked = true ∧ (fieldCmd 0x2010).map (·.code) = some 0x2010 ∧ (rq []).atTick = false ∧
    forwarded.chip.field.tick.schedule.length < 64 ∧ forwarded.chip.field.power.winter = false ∧
    admitF .fls6480 forwarded.chip.field getUnitC { rq [] with opcode := 0x2010, unit := 5, applyTick := 2 } = none ∧
    returned.linked = true ∧ returned.chip.field.bar.hostLost = false ∧ returned.chip.host.cfg.pushing = none ∧
    returned.chip.host.awaited { queue := 3, tag := 7, status := .ok, result := 1, epoch := 0 } = some (3, 7, 2) ∧
    (forwarded.slotFor false .cmdForward).isSome = true ∧
    (returned.slotFor true .cmdComplete).isSome = true ∧
    returned.chip.host.heldSince.isSome = true ∧
    ({ rq [] with flags := 3 } : Request).atTick = true ∧
    (fieldUp.tick.tb + 2 = 2 ∧ admitF .fls6480 forwarded.chip.field getUnitC { rq [] with opcode := 0x2010, unit := 5, flags := 3, applyTick := 1 } = none) := by decide +kernel

/-- Each stream with something to carry. -/
theorem wit_StreamsCrossHeadFirst :
    (linkUp.onHost fun h => { h with hif := { h.hif with evqEn := true } }).linked = true ∧ (0 + 1) % 2 ^ 6 ≠ 0 ∧ linkUp.chip.field.bar.episode = none ∧
    linkUp.chip.field.running = true ∧ (linkUp.onField fun f => { f with tick := { f.tick with tb := 39 } }).chip.field.tick.tb % 40 = 39 ∧
    linkUp.chip.host.rech.frozen = false ∧ linkUp.chip.host.rech.full = false ∧ linkUp.chip.host.rech.buffer.length < 1024 ∧
    130992 + 72 < traceSize ∧
    (linkUp.onField fun f => { f with power := { f.power with phase := .waiting } }).chip.field.waits .fls6480 = true ∧
    [MsgClass.event, .telemetry, .recSnapshot, .traceBlock].all (fun c => (linkUp.slotFor true c).isSome) = true ∧
    [MsgClass.configPush, .fwBlock].all (fun c => (linkUp.slotFor false c).isSome) = true := by decide +kernel

theorem wit_BootRunsOrRecovers_image :
    (linkUp.onField fun f => { f with power := { f.power with phase := .waiting, ready := true } }).chip.field.waits .fls6480 = true ∧
    (linkUp.onField fun f => { f with power := { f.power with phase := .waiting, ready := true } }).chip.field.power.ready = true := by decide +kernel

/-! Sessions and the contract line. -/

/-- Slot 5 in CONTRACTED, its port up and its module present, with a frame that awaits its ACK and a GET whose reply has not come. -/
def contracted (fr : CtFrame) (st : Nat) : State := sls 5 fun s => { s with
  sess := { s.sess with state := st, epoch := 3, outstanding := some fr }, port := { s.port with present := true, awaiting := some { fr with epoch := 3 } } }
/-- `frameRuns` as a test. -/
def frameOk (k type id epoch : Nat) (s : State) : Bool :=
  decide (k < s.chip.variant.slots) && s.chip.field.sessLive && s.chip.field.portUp k && (s.chip.field.sl k).port.present && (s.chip.field.sl k).sess.state != 0 &&
    (s.chip.field.sl k).sess.state != 1 && (s.chip.field.sl k).sess.state != 9 && epoch == (s.chip.field.sl k).sess.epoch &&
    (s.chip.field.sl k).port.lastExec != some (type, id)
theorem frameRuns_of {k type id epoch : Nat} {s : State} (h : frameOk k type id epoch s = true) : frameRuns k type id epoch s := by
  simpa [frameOk, frameRuns, and_assoc] using h
theorem wit_FramesMoveTheSession :
    (∀ type < 15, frameRuns 5 type 0 3 (contracted { type := 6, terms := [0x80000000] } 5)) ∧ frameRuns 5 3 0 3 (contracted { type := 0xA } 4) ∧
    ({ type := 6 } : CtFrame).asks = true ∧
    capOk [0x10010100, 1000, 0x00010001, 0, 0, 0x00000100] = true ∧ capOk [0] = false ∧ faultOk 7 = true ∧ faultOk 0x80 = true ∧
    (contracted { type := 6, terms := [0x80000000] } 5).chip.field.hears = true := by
  refine ⟨fun t ht => ?_, frameRuns_of (by decide +kernel), by decide +kernel⟩
  exact frameRuns_of (by revert t; decide +kernel)
/-- A REQUEST that is well formed and neither refused nor, without the role offered, granted. -/
def requesting (cap0 : Word) : State := sls 5 fun s => { s with
  sess := { s.sess with state := 3, capability := some [cap0, 1000, 0x00010001, 0, 0, 0xFFFFFF00] }, port := { s.port with present := true } }
theorem wit_requests :
    frameRuns 5 9 0 0 (requesting 0x18010100) ∧ ((requesting 0x18010100).chip.field.sl 5).sess.reqOk [0x40960000, 1000, 0] = true ∧
    (requesting 0x10010100).chip.field.refuses 5 [0x40960000, 1000, 0] = true ∧
    (requesting 0x18010100).chip.field.refuses 5 [0x00960000, 0, 0] = false :=
  ⟨frameRuns_of (by decide +kernel), by decide +kernel⟩

/-- A module that asks for a SWAP to its own feed in a session that allows it. -/
def swapping : State := sls 5 fun s => { s with
  sess := { s.sess with state := 5, capability := some [0x02000000], auxGrant := 150 }, port := { s.port with present := true } }
theorem wit_swaps :
    frameRuns 5 0xE 0 0 swapping ∧ (swapping.chip.field.sl 5).sess.auxSrc = true ∧
    (swapping.chip.field.sl 5).sess.auxMod = (bits 31 30 (0x40960000 : Word) == 0) ∧
    (swapping.chip.field.sl 5).sess.auxGrant ≤ bits 23 16 (0x40960000 : Word) ∧ (swapping.chip.field.sl 5).sess.swapStage = 0 ∧
    frameRuns 5 0xE 0 0 (requesting 0x10010100) ∧ ((requesting 0x10010100).chip.field.sl 5).sess.auxSrc = false :=
  ⟨frameRuns_of (by decide +kernel), by decide +kernel, by decide +kernel, by decide +kernel, by decide +kernel, frameRuns_of (by decide +kernel),
    by decide +kernel⟩

theorem wit_SessionTimersExpire :
    ((sls 5 fun s => { s with port := { s.port with awaiting := some { type := 6, sends := 1 } }, sess := { s.sess with t := { s.sess.t with ack := true } } }
      ).chip.field.sl 5).sess.t.ack = true ∧
    ((sls 5 fun s => { s with sess := { s.sess with t := { s.sess.t with response := true } } }).chip.field.sl 5).sess.t.response = true ∧
    ((sls 5 fun s => { s with sess := { s.sess with t := { s.sess.t with swap := true } } }).chip.field.sl 5).port.line < 2 ∧
    ((sls 5 fun s => { s with sess := { s.sess with t := { s.sess.t with hardDone := true } } }).chip.field.sl 5).sess.presSince = false ∧
    FieldDie.statusBusy ((sls 5 fun s => { s with sess := { s.sess with state := 5, t := { s.sess.t with poll := true } } }).chip.field.sl 5) = false ∧
    up.chip.field.sessLive = true ∧
    0 + 80 ≤ (tk fun t => { t with tb := 80 }).chip.field.tick.tb ∧
    ((sls 5 fun s => { s with sess := { s.sess with state := 7, presSince := true, t := { s.sess.t with hardDone := true } } }).chip.field.sl 5).sess.presSince = true ∧
    ((sls 5 fun s => { s with srcClearedAt := some 0, sess := { s.sess with swapStage := 2 } }).chip.field.sl 5).landSrcN = false ∧
    small.chip.variant.slots ≤ 24 ∧
    95 < up.chip.variant.slots := by decide +kernel

/-- The bytes of an ACK of the module with MSG_ID 0 in epoch 0: header and CRC-32C, most significant byte first (09 Table 09-6, R234). -/
def ackBytes : List Byte := [0x00, 0x20, 0xD1, 0xDC, 0xF9, 0x0C]
theorem wit_LineEventsMarkThePort :
    up.chip.field.hears = true ∧ (up.chip.field.sl 5).sess.state ≠ 9 ∧ (up.chip.field.sl 5).port.line < 2 ∧ up.chip.field.portUp 5 = true ∧
    (tw fun t => { t with role := 1, activeN := false }).chip.field.sessLive = false ∧
    ((sls 5 fun s => { s with port := { s.port with line := 2 } }).chip.field.sl 5).port.line = 2 ∧
    ((sls 5 fun s => { s with port := { s.port with sending := some { type := 0 } } }).chip.field.sl 5).port.sending.any (·.owed) = true ∧
    ((sls 5 fun s => { s with port := { s.port with queue := [{ type := 6 }] } }).chip.field.sl 5).port.queue.find?
      (FieldDie.sendable (up.chip.field.sl 5)) = some { type := 6 } ∧
    ({ type := 6 } : CtFrame).owed = false ∧
    (up.chip.field.sl 5).port.lowByUs = false ∧
    FieldDie.pick (up.chip.field.sl 5) [{ type := 6 }] false = some { type := 6 } ∧
    ({ sync := true, clean := true, bytes := [], loose := 1 } : CtRaw).countOk = false ∧
    ({ sync := true, clean := true, bytes := ackBytes, loose := 0 } : CtRaw).countOk = true ∧
    ({ sync := true, clean := true, bytes := ackBytes, loose := 0 } : CtRaw).crcOk = true ∧
    ({ sync := true, clean := true, bytes := ackBytes, loose := 0 } : CtRaw).fromModule = true := by decide +kernel

/-- The round of the moisture checks has come to port 5. -/
def dueMoist : State := fs fun f => f.modQd 0 fun q => { q with moistPort := 5 }
theorem wit_MoistureChecksAndPortCounters :
    up.chip.field.driving = true ∧ (up.chip.field.qd 0).moistEn = true ∧ (up.chip.field.sl 5).port.checking = false ∧
    (up.chip.field.sl 5).port.frames = [] ∧ (up.chip.field.sl 5).sess.t.response = false ∧
    ((sls 5 fun s => { s with port := { s.port with checking := true } }).chip.field.sl 5).port.checking = true ∧
    (up.chip.field.sl 5).port.mstate = 3 ∧ (up.chip.field.sl 5).port.moist = [] ∧ 2750 < 3300 ∧
    dueMoist.chip.field.moistDue 5 = true ∧
    dueMoist.chip.field.moistTurn 5 = true ∧
    FieldDie.moistFree (dueMoist.chip.field.sl 5) = true ∧
    FieldDie.moistFree ((sls 5 fun s => { s with port := { s.port with queue := [{ type := 6 }] } }).chip.field.sl 5) = false ∧
    dueMoist.chip.field.moistDue 6 = false := by decide +kernel

/-- A start that is next in the March, with the pause ended, and the ends of a start phase. -/
def marching : State := (sls 5 fun s => { s with ins := { s.ins with state := 2 } })
theorem wit_UnitsMarchOneAtATime :
    marching.chip.field.marchPaused = false ∧ marching.chip.field.march.phaseOn = false ∧ marching.chip.field.march.startEdge ≠ some 0 ∧
    marching.chip.field.anyRelease .fls6480 = false ∧ marching.chip.field.marchList .fls6480 = [(0, 5)] ∧
    (ma fun m => { m with phaseOn := true }).chip.field.phaseSlots .fls6480 = [] ∧
    (sls 5 fun s => { s with
      sess := { s.sess with state := 5 }, ctx := { s.ctx with member := true, role := .supply }
      ins := { s.ins with state := 1, qualRuns := 20000, ulRun := 40 } }).chip.field.meetsR286 5 = true ∧
    400 * up.chip.field.march.insBr ≤ ((brs 3 fun b => { b with state := 2, winRun := 4000 }).chip.field.br 3).winRun ∧
    40 ≤ (ma fun m => { m with busUpRun := 40 }).chip.field.march.busUpRun ∧
    80000 ≤ (tk fun t => { t with tb := 80000 }).chip.field.tick.tb := by decide +kernel

theorem wit_OvervoltageTripsStopTheShelf :
    (vo fun o => { o with ovLimit := 60000 }).chip.field.volt.ovLimit ≠ 0 ∧ (vo fun o => { o with ovLimit := 60000 }).chip.field.volt.gate ≠ some 1 ∧
    (vo fun o => { o with ovLimit := 60000, aValid := true }).chip.field.volt.aValid = true ∧ decide (8 ≤ up.chip.field.volt.aSense) = false ∧
    (vo fun o => { o with stopLatched := true }).chip.field.bothBelow = true ∧ up.chip.field.ovLimitOk .fls6480 60000 = true ∧
    (vo fun o => { o with gate := some 0 }).chip.field.volt.aSense < 16 := by decide +kernel

theorem wit_CalibrationLinesAndFans :
    2 < up.chip.variant.quads ∧ (500000 : Nat) < 1428572 ∧ up.chip.field.volt.zc.get 0 = {} ∧ (up.chip.field.qd 0).meas.hottest = none ∧
    ((fs fun f => { f with fans := f.fans.modifyNat 0 fun x => { x with en := true } }).chip.field.fans.getD 0 {}).en = true ∧
    2000 ≤ (tk fun t => { t with tb := 2000 }).chip.field.tick.tb - (up.chip.field.volt.zc.get 0).since ∧
    (({ state := 1 } : CalSpare).stage = 0) ∧ ({ state := 1 } : CalSpare).ch < 16 := by decide +kernel

/-- A calibration step whose repeat agrees with its first result, and one that lies beyond the last calibration, whatever the factory stored. -/
theorem wit_judgeCal :
    let g := (Config.factoryGain 0 0).toNat
    let o := (Config.factoryOffset 0 0).toInt
    FieldDie.judgeCal 0 0 {} (some (g, o)) g o = .accept true ∧ FieldDie.judgeCal 0 0 { lastOffset := o + 17 } none g o = .again ∧
    ((fs fun f => f.modCal 0 1 fun x => { x with state := 2, stage := 1 }).chip.field.qd 0).meas.cal.getD 1 {} = { state := 2, stage := 1 } ∧
    FieldDie.cellRow ({ state := 2, stage := 2 } : CalSpare).own = 0 := by
  refine ⟨by simp [FieldDie.judgeCal, FieldDie.factoryCheck, FieldDie.repeatAgrees], ?_, by decide +kernel, by decide +kernel⟩
  have far : ((Config.factoryOffset 0 0).toInt - ((Config.factoryOffset 0 0).toInt + 17)).natAbs = 17 := by omega
  simp [FieldDie.judgeCal, FieldDie.factoryCheck, FieldDie.lastCheck, far]

/-- A good uplink of slot 13, which is position 1 of its bus, from a member in epoch 3, and the CRC that makes it good. -/
def member : State := sls 13 fun s => { s with ctx := { s.ctx with member := true }, sess := { s.sess with epoch := 3 } }
def goodUplink : UplinkFrame := { delimiter := true, offsetNs := 60, violation := false, header := 0x13, payload := 5, crc := 13933 }
def marked : State := member.onField fun f => f.modBus (slotBus 13) fun b => { b with markSent := true }
theorem wit_UplinksAreCheckedAndCounted :
    (member.chip.field.sl 13).ctx.member = true ∧ member.chip.field.follows = false ∧
    ({ delimiter := false, offsetNs := 0, violation := false, header := 0x13, payload := 0, crc := 0 } : UplinkFrame).check 1 3 ≠ none ∧
    8 ≤ ((sls 13 fun s => { s with bus := { s.bus with missRun := 8 } }).chip.field.sl 13).bus.missRun ∧
    goodUplink.check 1 3 = none ∧
    (marked.chip.field.tbus (slotBus 13)).markSent = true ∧
    marked.chip.field.isStandby = false ∧
    (marked.chip.field.sl 13).ctx.member = true ∧
    (member.chip.field.tbus (slotBus 13)).markSent = false ∧
    (member.onField fun f => { f with twin := standbyUp.twin }).chip.field.isStandby = true ∧
    (up.chip.field.sl 13).ctx.member = false ∧
    (tw fun t => { t with activeN := false }).chip.field.driving = false := by decide +kernel

theorem wit_BreakersTripRecloseAndLockOut :
    ((brs 3 fun b => { b with armed := true, state := 3 }).chip.field.br 3).armed = true ∧
    ((brs 3 fun b => { b with state := 3, cfg := { b.cfg with inrushT := 0 } }).chip.field.br 3).startTick + 0 * 40 ≤ 0 ∧
    (brs 3 fun b => { b with state := 5, reclosing := true }).chip.field.closeBarred 3 = false ∧
    ((brs 3 fun b => { b with state := 4 }).chip.field.br 3).closed = true ∧ ((brs 3 fun b => { b with state := 1 }).chip.field.br 3).closed = false ∧
    ((brs 3 fun b => { b with openRun := 40 }).chip.field.br 3).openRun = 40 ∧ up.chip.field.brk.bseqLock = false := by decide +kernel

/-- Storage slot 5 that may be probed. -/
def storing : State := sls 5 fun s => { s with
  ctx := { s.ctx with role := .storage, run := true, member := true }, sess := { s.sess with state := 5, role := .storage, capability := some [0x01000000] } }
theorem wit_ProbesAndLearningRun :
    up.chip.field.sessLive = true ∧ up.chip.field.bat.coord.phase = 0 ∧ up.chip.field.bat.coord.halt = false ∧ up.chip.field.bat.cfg.probeEn = true ∧
    (co fun c => { c with phase := 1, start := some 0, unit := 5 }).chip.field.bat.coord.start = some 0 ∧
    (co fun c => { c with phase := 2, start := some 0 }).chip.field.bat.coord.vp = none ∧
    40000 ≤ (co fun c => { c with halt := true, haltRun := 40000 }).chip.field.bat.coord.haltRun ∧
    (co fun c => { c with learnStep := 1, learnUnit := 5 }).chip.field.bat.coord.learnUnit < 96 ∧
    (storing.chip.field.sl 5).ctx.role = .storage ∧ FieldDie.statusBusy (storing.chip.field.sl 5) = false ∧
    (gr fun g => { g with inputState := 2 }).chip.field.grid.inputState = 2 := by decide +kernel
/-- Three storage units in service, one of them due for a learning cycle. -/
def learning : FieldDie :=
  let f := [5, 6, 7].foldl (fun (f : FieldDie) k => f.modSl k fun s => { s with
    ctx := { s.ctx with role := .storage, run := true, member := true, res := 2000000 }, bus := { s.bus with valid := true }
    ins := { s.ins with state := 4 }, bat := { s.bat with grantAt := if k = 5 then 0 else 1 }
    sess := { s.sess with state := 5, role := .storage, capability := some [0x01000000] } }) fieldUp
  { f with grid := { f.grid with eRes := 2 ^ 40 }, bar := { f.bar with wall := 1 }, tick := { f.tick with tb := 7 * 86400 * 40000 }
           bat := { f.bat with cfg := { f.bat.cfg with learnEn := true } } }
theorem wit_learning :
    learning.learnAllowed .fls6480 = true ∧ learning.learnQualifies 5 = true ∧ learning.overdue 5 = some 0 ∧ learning.overdue 6 = none ∧
    learning.overdue 7 = none ∧ learning.nextProbe .fls6480 = some 5 ∧ learning.bat.cfg.learnEn = true := by decide +kernel

/-- Slot 5 in a step of a learning cycle. -/
def learningAt (n : Nat) : State := storing.onField fun f => { f with bat := { f.bat with coord := { f.bat.coord with learnUnit := 5, learnStep := n } } }
theorem wit_BatteryCommandsSetAndAnswer :
    takesF [(setProbeC, rq [0, 655, 4000, 0, 60], up), (setCountingC, rq [0, 0, 655, 655, 100, 0], up),
      (setBatWarnC, rq [3277, 655, 1311, 0x10000], up), (setLearningC, rq [0, 7, 3277, 6554, 1, 1], up), (startLearnC, rs [], up),
      (startLearnC, rs [], storing), (startLearnC, rs [], fs fun _ => learning), (abortLearnC, rs [], up), (abortLearnC, rs [], storing),
      (abortLearnC, rs [], learningAt 1), (abortLearnC, rs [], learningAt 3),
      (setSocC, rs [0, 0x10000], up), (setSocC, rs [0x10000, 0x028F], storing), (setCapacityC, rs [1, 0, 1, 0], storing),
      (getBatC, rs [], storing), (getBatValueC, rs [3], storing), (getLearnC, rs [], up)] :=
  takesF_of (by decide +kernel)

/-! Twin operation. -/

def standby : State := fs fun _ => standbyUp
def pair (g : Twin → Twin) : State := tw fun t => g { t with cfg := { t.cfg with pairEn := true } }
def hand (g : Handover → Handover) : State :=
  (pair id).onField fun f => { f with hand := g f.hand }
/-- A peer that reports its versions, none of its conditions, and the role of an active. -/
def beat : PeerBeat := { role := 2, cap1 := cap1 }
theorem wit_TwinMessagesActInTheirPhase :
    (pair id).chip.field.isActive = true ∧ (pair id).chip.field.running = true ∧ (pair id).chip.field.tick.fine < 9376 ∧
    standby.chip.field.isStandby = true ∧ standby.chip.field.twin.inStep = true ∧ standby.chip.field.follows = true ∧
    (hand fun h => { h with phase := 1, asking := true }).chip.field.hand.stamp = 0 ∧
    (hand fun h => { h with phase := 2 }).chip.field.hand.asking = false ∧
    (pair id).chip.field.hand.lastStamp ≠ some 0 ∧ (pair fun t => { t with join := 4 }).chip.field.twin.join = 4 ∧
    standby.chip.field.twin.sections.contains 5 = false ∧ standby.chip.field.twin.evq + 256 ≤ 256 ∧
    (pair fun t => { t with twinB := true }).chip.field.isStandby = false ∧
    (beat.part = up.chip.variant.partCode ∨ beat.state ≠ 5) ∧
    (tk fun t => { t with fine := 9376 }).chip.field.running = true ∧
    (hand fun h => { h with phase := 3, asking := true }).chip.field.hand.newEpoch = 0 ∧
    (hand fun h => { h with drillOn := true }).chip.field.hand.drillOn = true := by decide +kernel

theorem wit_RolesAreTakenAndLeft :
    (tw fun t => { t with role := 0 }).chip.field.running = true ∧ (tw fun t => { t with role := 0 }).chip.field.power.winter = false ∧
    400 * (pair fun t => { t with role := 0, waitTicks := 4000 }).chip.field.twin.cfg.roleWait ≤ 4000 ∧
    (pair fun t => { t with role := 0 }).chip.field.beatFresh = false ∧
    (pair fun t => { t with role := 0, lanes := Tab.fill 2 { up := true } }).chip.field.linkUp = true ∧
    (standby.onField fun f => { f with twin := { f.twin with missRun := 2 } }).chip.field.isStandby = true ∧
    (pair fun t => { t with sampling := true, twinB := true }).chip.field.twin.sampling = true ∧
    (standby.onField fun f => { f with twin := { f.twin with inStep := false, join := 6, joinDigests := 400 } }).chip.field.isStandby = true ∧
    40000 ≤ (tk fun t => { t with tb := 40000 }).chip.field.tick.tb ∧
    (pair fun t => { t with role := 0, peerActive := true }).chip.field.twin.peerActive = true ∧
    (standby.onField fun f => { f with twin := { f.twin with inStep := false } }).chip.field.twin.join = 0 ∧
    up.chip.field.cfg.loaded = true := by decide +kernel

theorem wit_HandoverSwitchesTheRole :
    (hand fun h => { h with phase := 4, asking := true, acked := true, switchEdge := 1 }).chip.field.hand.switchEdge = 0 + 1 ∧
    (hand fun h => { h with phase := 4, tries := 2 }).chip.field.hand.tries < 3 ∧ (hand fun h => { h with phase := 4, tries := 3 }).chip.field.hand.tries = 3 ∧
    (hand fun h => { h with cold := some (rq []) }).chip.field.hand.cold.isSome = true ∧
    (pair fun t => { t with twinB := true, inStep := true, beat := some beat }).chip.field.reverting = true ∧
    (hand fun h => { h with drillOn := true, drillStep := 7 }).chip.field.hand.drillStep < 8 ∧
    (hand fun h => { h with drillOn := true, drillStep := 7 }).chip.field.isActive = true ∧
    (standby.onField fun f => { f with hand := { f.hand with drillOn := true, drillKind := 1 } }).chip.field.isStandby = true ∧
    (hand fun h => { h with drillOn := true, drillStep := 9 }).chip.field.hand.drillStep = 9 ∧
    winterUp.chip.field.power.winter = true ∧
    (hand fun h => { h with phase := 4, switchEdge := 0 }).chip.field.hand.switchEdge ≤ up.chip.field.tick.tb := by decide +kernel

def mated : State := pair fun t => { t with inStep := true, beat := some beat }
theorem wit_TwinCommandsMoveTheRole :
    takesF [(handoverC, rq [], up), (handoverC, rq [], mated), (setRevertC, rq [1, 10, 0], up), (setRevertC, rq [1, 3600, 1], mated),
      (drillC, rq [0, 1], mated), (drillC, rq [1, 1000], mated), (leaveStepC, rq [], standby), (joinC, rq [], standby),
      (coldSwapC, rq [], mated), (getTwinC, rq [], up)] ∧
    mated.chip.field.hfMatch = true ∧
    mated.chip.field.beatFresh = true ∧
    mated.chip.field.peerIs (fun b => b.role == 2 && !b.health1 0 && !b.health1 5) = true ∧
    mated.chip.field.hand.lastStamp ≠ some 0 :=
  ⟨takesF_of (by decide +kernel), by decide +kernel⟩

/-! Faults, the recorder, storage. -/

theorem wit_FaultSourcesAreJudgedAndSet :
    takesF [(cmdAckFault, rq [140], up), (cmdAckFault, rq [0xFFFFFFFF], up), (cmdSetSource, rq [140, 0, 1, 1, 1, 1, 1], up),
      (cmdGetSource, rq [140], up), (cmdGetFault, rq [], up), (cmdInjectEvent, rq [140, 0x01000005], up), (cmdClearRecovery, rq [140], up), (cmdClearRecovery, rq [0xFFFFFFFF], up)] ∧
    takesH [(cmdAckFaultH, rq [1], up), (cmdSetSourceH, rq [1, 0, 1, 1, 1, 1, 1], up), (cmdGetSourceH, rq [1], up), (cmdClearRecoveryH, rq [1], up), (cmdInjectEventH, rq [1, 0x01000005], up)] ∧
    srcHost (rq [1]) = true ∧
    srcHost (rq [140]) = false ∧
    ((up.chip.host.fcm.evaluate true { cls := 0, ev := 1, sv := 1, flt := false, scope := .h } 0 (hostEvent up 10 1)).2.1) < 2 ∧
    (srcRow 9).isSome = true ∧ 3 ≤ ((up.chip.host.fcm.evaluate true ((srcRow 9).getD { cls := 0, ev := 0, sv := 0, flt := false, scope := .h }) 0 (hostEvent up 9 1)).2.1) :=
  ⟨takesF_of (by decide +kernel), takesH_of (by decide +kernel), by decide +kernel⟩

theorem wit_RecorderCommandsSetAndAnswer :
    takesF [(cmdRecSetTrigger, rq [0, 1, 0, 1], up), (recSetListC, { rq [] with params := ws [0x81000000, 0x2209] }, up),
      (cmdRecSetTrace, rq [0, 0xFFFF, 0, 0xFFFFFFFF], up), (cmdRecSetLevel, rq [0, 0, 0, 0, 0, 0], up), (cmdRecTrigger, rq [0, 1], up)] ∧
    takesH [(cmdRecFreeze, rq [], up), (cmdRecThaw, rq [], up), (cmdRecFlush, rq [], up), (cmdRecClear, rq [3], up),
      (cmdRecFlush, rq [], hs fun h => { h with rech := { h.rech with buffer := [{ type := 1 }] } }),
      (cmdRecClear, rq [3], hs fun h => { h with mode := { h.mode with winter := true } }),
      (cmdRecClear, rq [3], hs fun h => { h with rech := { h.rech with frozen := true } }), (cmdRecSetFlush, rq [10], up),
      (cmdRecStatus, rq [], up), (cmdRecRead, rq [0, 64, 0x80000, 0], up), (cmdRecReadTrace, rq [0, 0, 0x80000, 0, 1], up),
      (cmdRecReadLedger, rq [255, 0, 0x80000, 0], up)] ∧
    up.chip.host.rech.ledger.length < 256 :=
  ⟨takesF_of (by decide +kernel), takesH_of (by decide +kernel), by decide +kernel⟩

theorem wit_RecorderActsOnItsOwn :
    (hs fun h => { h with htb := 4000, rech := { h.rech with openAt := some 0 } }).chip.host.rech.openAt = some 0 ∧ 40 * 100 ≤ 4000 - 0 ∧
    (hs fun h => { h with htb := 400000, rech := { h.rech with frozen := true } }).chip.host.rech.frozenAt + 400000 ≤ 400000 ∧
    (fs fun f => { f with recf := { f.recf with post := some 0 } }).chip.field.recf.post = some 0 ∧
    131136 ≤ (fs fun f => { f with recf := { f.recf with sendOff := 131136 } }).chip.field.recf.sendOff ∧
    up.chip.host.listens = true ∧
    (fs fun f => { f with recf := { f.recf with post := some 0, rows := [[]], rowAt := 0 } }).chip.field.recf.rowAt = 0 := by decide +kernel

def recovering : State := hs fun h => { h with stor := { h.stor with recovery := true } }
theorem wit_UpdateCommandsChangeTheHeader :
    takesH [(cmdImgStage, rq [0, 0, 1, 0, 0x80000, 0], up),
      (cmdImgCommit, rq [0, 1], hs fun h => { h with stor := { h.stor with stagedImg := [0] } }), (cmdStageCancel, rq [1], up),
      (cmdImgCommit, rq [1, 1], hs fun h => { h with stor := { h.stor with stagedCfg := [0] } }), (cmdSetUpdateMode, rq [1, 5], up),
      (updateFieldC, rq [0], up), (updateFieldC, rq [1], up),
      (updateFieldC, rq [0], hs fun h => { h with mode := { h.mode with fieldRunning := true, word := 0x80 } }),
      (cmdStorScrubNow, rq [], hs fun h => { h with stor := { h.stor with formatted := true } }), (cmdSetRollbackFloor, rq [0], up), (cmdStorFormat, rq [0, 16, 4, 16], up),
      (cmdStorFormat, rq [0, 16, 4, 16], recovering), (cmdStorScrubNow, rq [], up), (cmdGetUpdate, rq [], up), (cmdGetStorage, rq [7], up)] ∧
    up.chip.host.holdUp = false ∧
    (hs fun h => { h with mode := { h.mode with fieldRunning := true, word := 0x80 } }).chip.host.mode.word.getLsbD 7 = true :=
  ⟨takesH_of (by decide +kernel), by decide +kernel⟩

theorem wit_StorageManagerServesThePort :
    up.chip.host.stor.ops = [] ∧ up.chip.host.levelCandidate = none ∧
    ((hs fun h => { h with stor := { h.stor with blocks := [{ phys := 9, part := 6, logical := 2 }] } }).chip.host.stor.find 6 2).isSome = true ∧
    up.chip.host.stor.find 3 0 = none ∧ up.chip.host.stor.formatted = false ∧
    (hs fun h => { h with stor := { h.stor with formatted := true } }).chip.host.stor.scrubbing = false ∧
    up.chip.host.learnedCapacity * 3 < (hs fun h => { h with stor := { h.stor with learnedUsed := 10 ^ 9 } }).chip.host.stor.learnedUsed * 4 ∧
    ((fun h : HostDie => h.opBlocks (.staging { rq [] with opcode := 0xA001, params := ws [0, 0, 1, 0, 0x80000, 0] })) up.chip.host).1 = 3 ∧
    up.chip.host.stor.find 6 0 = none ∧
    (hs fun h => { h with booted := true, stor := { h.stor with formatted := true } }).chip.host.wallSet = false ∧
    (hs fun h => { h with booted := true }).chip.host.listens = true ∧
    ((hs fun h => { h with stor := { h.stor with blocks := [{ phys := 9, part := 6, logical := 0 }, { phys := 10, part := 6, logical := 1 }] } }).chip.host.stor.find 6 1).isSome = true := by
  decide +kernel
/-! The host interface, registers, blocks, timers, buses. -/

def booted : State := hs fun h => { h with power := { h.power with dom := Tab.fill 4 .good } }
theorem wit_BootRunsOrRecovers :
    booted.chip.host.mayBoot = true ∧ booted.linked = false ∧ booted.chip.host.stor.hdr.trial = false ∧ booted.chip.host.stor.copies = [] ∧
    40000 * 30 ≤ (hs fun h => { h with booted := true, runTicks := 1200000 }).chip.host.runTicks ∧ up.chip.host.stor.fieldLoaded = true ∧
    up.chip.host.stor.loading = false ∧ linkUp.linked = true ∧ (linkUp.onField fun f => { f with twin := { f.twin with role := 1 } }).chip.field.isActive = false ∧
    (hs fun h => { h with booted := true, stor := { h.stor with fieldStale := true } }).chip.host.stor.fieldStale = true ∧
    (linkUp.onField fun f => { f with power := { f.power with phase := .waiting }, twin := { f.twin with role := 0 } }).chip.field.isActive = false := by
  decide +kernel

/-- Queue 2 on, with a descriptor in its ring, and with a completion that waits. -/
def queueOn (g : QPair → QPair) : State := hs fun h => { h with
  booted := true, power := { h.power with linkUp := true, dom := Tab.fill 4 .good }
  hif := { h.hif with mboxEn := true, queues := h.hif.queues.modifyNat 2 fun q => g { q with en := true } } }
def desc : Request := { opcode := 0x2010, queue := 2 }
theorem wit_RingsMoveCommandsAndCompletions :
    ((queueOn id).chip.host.q 2).en = true ∧ ((queueOn id).chip.host.q 2).error = false ∧
    (queueOn fun q => { q with sqTail := 1 }).chip.host.mailboxOn = true ∧ (queueOn fun q => { q with sqTail := 1 }).chip.host.nextQueue = some 2 ∧
    (queueOn id).chip.host.nextQueue = none ∧ opcodes.contains desc.opcode = true ∧ (queueOn id).chip.host.needsCheck desc = false ∧
    (hostCmd desc).isNone = true ∧ (queueOn id).chip.host.linkOn = true ∧ (queueOn id).chip.host.bar.forward.length < 3 ∧
    ((queueOn id).chip.host.q 2).room = true ∧ ((queueOn fun q => { q with cqTail := 15 }).chip.host.q 2).room = false ∧
    asleep.chip.host.listens = false ∧
    (queueOn id).chip.host.listens = true ∧
    (queueOn id).chip.host.held = [] ∧
    bits 15 0 (15 : Word) < 2 ^ ((queueOn id).chip.host.q 2).sqLog2 ∧
    2 ^ ((queueOn id).chip.host.q 2).sqLog2 ≤ bits 15 0 (0xFFFF : Word) := by decide +kernel
theorem wit_held :
    (hs fun h => { h with heldSince := some 0, htb := 400000 }).chip.host.heldSince = some 0 ∧ 400000 ≤ 400000 - 0 ∧
    0 ∉ opcodes ∧ (hs fun h => { h with hif := { h.hif with ready := [desc] } }).chip.host.hif.ready = [desc] := by decide +kernel

/-- A command with a token, and one without, where the key of slot 0 is set. -/
def key : List Byte := List.replicate 32 1
def signed (t : BitVec 128) : Request := { opcode := 0x4002, unit := 5, flags := 1, token := t }
def keyed : State := hs fun h => { h with sec := { h.sec with authKeys := h.sec.authKeys.modifyNat 0 fun _ => some key } }
theorem tokenMessage_signed (n : Nat) (t : BitVec 128) : tokenMessage n (signed t) = tokenMessage n (signed 0) := rfl
theorem wit_TokensAreJudgedInOrder :
    keyed.chip.host.sec.authKeys.getD (signed 0).keySlot none = some key ∧ (signed 0).auth = true ∧ (signed 0).opcode ∈ opcodes ∧
    (∃ t, Hash.token key (tokenMessage 0 (signed t)) = (signed t).token) ∧ (hostCmd { opcode := 0x4002 }).isNone = true ∧
    ({ signed 0 with flags := 0 } : Request).auth = false ∧ (hs fun h => { h with sec := { h.sec with lockout := true } }).chip.host.sec.lockout = true :=
  ⟨by decide +kernel, by decide +kernel, by decide +kernel, ⟨Hash.token key (tokenMessage 0 (signed 0)), congrArg (Hash.token key) (tokenMessage_signed 0 _)⟩,
    by decide +kernel, by decide +kernel, by decide +kernel⟩

theorem wit_InterfaceRegistersAndVectors :
    up.chip.host.power.link = .pcie ∧ (hs fun h => { h with power := { h.power with link := .qspi } }).chip.host.power.link = .qspi ∧
    (hs fun h => { h with hif := { h.hif with vecPend := 1 <<< 55, msix := Tab.fill 64 { masked := false } } }).chip.host.masked 55 = false ∧
    up.chip.host.masked 55 = true ∧ up.chip.host.hif.functionMask = false ∧ up.chip.host.hif.irqMap.getD 55 0 = 8 + 6 ∧ (0x0C : BitVec 8) ≠ 0x0B ∧
    asleep.chip.host.listens = false ∧
    up.chip.host.listens = true ∧
    (hs fun h => { h with power := { h.power with linkUp := true } }).chip.host.power.linkUp = true := by
  decide +kernel

theorem wit_TheWindowServesAlignedWords :
    0x080002 % 4 ≠ 0 ∧ 0x080000 % 4 = 0 ∧ 0x13FFFC % 4 = 0 ∧ (hs fun h => { h with power := { h.power with link := .qspi } }).chip.host.hif.doorbells = [] ∧
    0x00FFFC < 0x010000 ∧
    asleep.chip.host.listens = false ∧
    (hs fun h => { h with power := { h.power with link := .qspi } }).chip.host.listens = true := by decide +kernel

theorem wit_RegistersAreReadAndWritten :
    takesF [(opReadC, rq [0x2209, 1], up), (opWriteC, rq [0x2209, 5, 0xFF], up), (opWriteC, rq [0x8A05, 5, 0xFF], up)] ∧
    takesH [(opReadH, rq [0x0B09, 1], up), (opWriteH, rq [0x0B09, 5, 0xFF], up)] ∧
    opRegion 0x0B09 = 0 ∧
    opRegion 0x2209 = 1 ∧
    opRegion 0xE0FF = 7 ∧
    up.chip.field.peek .fls6480 0x8A05 = none ∧
    asleep.chip.host.listens = false ∧
    up.chip.host.listens = true ∧
    HostDie.peek .fls6420 up.chip.host 0x0100 = none ∧
    opRegion 0x0100 = 0 :=
  ⟨takesF_of (by decide +kernel), takesH_of (by decide +kernel), by decide +kernel⟩

theorem wit_CapabilityWordsAreReported :
    takesH [(cmdIdentify, rq [], up)] ∧ (hs fun h => { h with power := { h.power with link := .qspi } }).chip.host.power.link = .qspi ∧
    up.chip.host.hif.doorbells = [] ∧
    (hs fun h => { h with power := { h.power with link := .qspi } }).chip.host.listens = true :=
  ⟨takesH_of (by decide +kernel), by decide +kernel⟩

/-- UNIT at both ends of the range that names none, and no unit where one is needed, on both sides. -/
theorem wit_UnitsThatNameNoneAreBadParameters :
    (rq []).silent = false ∧ (rq []).peer = false ∧ tokenBad (getUnitC.auth { rq [] with opcode := getUnitC.code }) { rq [] with opcode := getUnitC.code } = false ∧
    up.chip.host.stor.recovery = false ∧ up.chip.field.running = true ∧ (rq []).epoch = up.chip.field.twin.epoch ∧ up.chip.field.isStandby = false ∧
    getUnitC.unit ≠ .none ∧ (rq []).unit = 0xFF ∧ setWindowC.unit = .none ∧ (rq []).epoch = up.chip.host.mode.epoch ∧ up.chip.host.standby = false ∧
    admitF .fls6480 up.chip.field getUnitC { rq [] with unit := 128 } = some .badParam ∧
    admitF .fls6480 up.chip.field setWindowC { rq [] with unit := 254 } = some .badParam ∧
    admitH .fls6480 up.chip.host cmdEcho { rq [] with unit := 128, opcode := 0x0005 } = some .badParam ∧
    (rq []).atTick = false ∧
    up.chip.host.listens = true := by decide +kernel

theorem wit_DeviceCommandsOfTheHost :
    takesH [(cmdIdentify, rq [], up), (cmdEcho, rq [1, 2], up), (cmdSleep, rq [], up),
      (cmdSleep, rq [], hs fun h => { h with mode := { h.mode with mode := 1 } }), (cmdSetWallClock, rq [1], up)] :=
  takesH_of (by decide +kernel)

theorem wit_ConfigurationCommandsOfTheHost :
    takesH [(cmdCfgSave, rq [], up), (cmdCfgRead, rq [0, 65536, 0x80000, 0], up), (cmdCfgInfo, rq [], up)] ∧
    tokenBad true { rq [] with opcode := 0x1001 } = false ∧
    tokenBad true { (rq []) with opcode := 0x1001, authOk := false } = true ∧
    up.chip.host.bufOk 0x80000 64 = true ∧
    blobOk .fls6480 [] = false ∧
    up.chip.host.cfg.pushing = none ∧
    (hs fun h => { h with mode := { h.mode with mode := 4 } }).chip.host.modeIn [1, 2, 11] = false ∧
    (tw fun t => { t with activeN := false }).chip.field.driving = false ∧
    up.chip.host.fieldDrives = false ∧
    asleep.chip.host.listens = false ∧
    up.chip.host.listens = true :=
  ⟨takesH_of (by decide +kernel), by decide +kernel⟩

def fwKeyed : State := hs fun h => { h with sec := { h.sec with
  authKeys := Tab.fill 4 (some key), fwKeys := Tab.fill 4 { programmed := true } } }
theorem wit_SecurityCommandsKeepTheKeys :
    takesH [(cmdSecSetAuthKey, rq [3, 0, 0x80000, 0], up), (cmdSecClearAuthKey, rq [3], fwKeyed), (cmdSecAddFwKey, rq [3, 0, 0x80000, 0], up),
      (cmdSecRevokeFwKey, rq [3], fwKeyed), (cmdSecGetIdentity, rq [0, 0, 0x80000, 0], up), (cmdSecAttest, rq [0, 0, 0x80000, 0], up),
      (cmdSecRandom, rq [256, 0, 0x80000, 0], up), (cmdSecGetKeys, rq [], up)] :=
  takesH_of (by decide +kernel)

def opOn (k : Nat) : Blk := { state := 2, op := some { kind := k, stepsLeft := 1 } }
theorem wit_BlocksAreTestedMovedAndIsolated :
    (up.chip.field.sl 5).port.line = 0 ∧ 5 < up.chip.variant.slots ∧ ((up.chip.field.qd 0).blk.getD 1 {}).failedCells = [] ∧
    ((sls 6 fun s => { s with port := { s.port with bad := true } }).chip.field.sl 6).port.bad = true ∧ 6 % 6 = 0 ∧
    (up.chip.field.qd 0).portSpare.getD 1 none = none ∧ hasSram 1 4 = false ∧ hasSram 0 6 = true ∧ hasSram 1 5 = true ∧
    (fs fun f => f.modQd 0 fun q => { q with blk := Tab.fill 7 (opOn 1) }).chip.field.blkAt .fls6480 4 2 = some (opOn 1) ∧
    up.chip.field.sweepDone 0 = true ∧
    sramWord 1 5 0x201FFFF8 = true ∧
    sramWord 1 5 0x20200000 = false ∧
    sramWord 0 6 0x00400000 = true ∧
    sramWord 0 6 0x00400004 = false ∧
    (fs fun f => { f with tick := { f.tick with qcLate := Tab.fill 4 4 } }).chip.field.tick.qcLate.getD 3 0 = 4 ∧
    up.chip.field.power.isolated.getD 3 false = false := by decide +kernel
theorem wit_pendingBlocks :
    (fs fun f => f.modFBlk 8 fun _ => opOn 1).chip.field.blkAt .fls6480 1 8 = some (opOn 1) ∧ up.chip.field.blkAt .fls6480 1 9 = none ∧
    (fs fun f => { f with power := { f.power with pendBlocks := [(1, 9, 0)] } }).chip.field.power.pendBlocks = [(1, 9, 0)] ∧
    (fs fun f => { f with power := { f.power with pendIsolate := [(2, none)] } }).chip.field.power.pendIsolate.map (·.1) = [2] ∧
    ((hs fun h => { h with blk := h.blk.modifyNat 8 fun _ => opOn 1 }).chip.host.blk.getD 8 {}).op.isSome = true := by decide +kernel

theorem wit_BlockCommandsRunAtTheirTarget :
    takesF [(resetC, rq [2, 0, 0], up), (resetC, rq [4, 0, 0], up), (resetC, rq [0, 1, 5], up), (resetC, rq [1, 7, 0], up), (blockOpC, rq [4, 3, 2], up),
      (blockOpC, rq [4, 1, 1], up), (blockOpC, rq [4, 0, 3], up),
      (blockOpC, rq [4, 0, 5], up), (blockOpC, rq [1, 0, 3], up), (getBlockC, rq [7, 6], up), (getDiagC, rq [1, 95], up),
      (getDiagC, rq [4, 0], up)] ∧
    takesH [(resetH, rq [0, 1, 0], up), (resetH, rq [0, 1, 8], up), (resetH, rq [1, 0, 0], up), (blockOpH, rq [0, 8, 1], up),
      (getBlockH, rq [0, 31], up), (getDiagH, rq [5, 31], up)] ∧
    resetOnHost (rq [0, 1, 5]) = false ∧
    resetOnHost (rq [0, 0, 8]) = true ∧
    resetOnHost (rq [1, 0, 0]) = true ∧
    resetOnHost (rq [4, 0, 0]) = false ∧
    (∃ x ∈ (up.chip.field.qd 0).meas.cal.rows, x.state < 4) :=
  ⟨takesF_of (by decide +kernel), takesH_of (by decide +kernel), by decide +kernel⟩

def timed (g : TimerCh → TimerCh) : State := fs fun f => f.modQd 0 fun q => { q with ftim := q.ftim.mod 1 g }
theorem wit_TimersMatchCaptureAndRead :
    takesF [(cmdTmrSet, rq [9, 0x80040000], up), (cmdTmrCompare, rq [23, 3, 9, 3], up), (cmdTmrSnapshot, rq [8], up), (cmdTmrGet, rq [23, 0, 0], up), (cmdTmrGet, rq [23, 1, 0], up),
      (cmdTmrSet, rq [10, 0x80040000], up), (cmdTmrCompare, rq [11, 3, 9, 3], up),
      (cmdTmrGet, rq [23, 2, 3], up)] ∧
    takesH [(cmdTmrSetH, rq [7, 0x80040000], up), (cmdTmrCompareH, rq [0, 3, 9, 3], up), (cmdTmrSnapshotH, rq [6], up), (cmdTmrGetH, rq [7, 2, 3], up)] ∧
    up.chip.field.fixedTimer 9 = false ∧
    (timed fun t => { t with en := true }).hasTimer 9 = true ∧
    (timed fun t => { t with en := true }).chained 9 = false ∧
    ((timed fun t => { t with capMode := 3 }).timer 9).captures true = true ∧
    ((timed fun t => { t with lockedAt := some 0 }).timer 9).lockedAt = some 0 ∧
    up.chip.field.fixedTimer 10 = true :=
  ⟨takesF_of (by decide +kernel), takesH_of (by decide +kernel), by decide +kernel⟩

def bused (g : TwBus → TwBus) : State := hs fun h => { h with mb := h.mb.modifyNat 1 g }
theorem wit_TwoWireTransfersStartAndEnd :
    up.hasBus 5 = true ∧ up.hasBus 1 = true ∧ ((bused fun b => { b with queue := [.xfer (rq [])] }).bus 1).queue = [.xfer (rq [])] ∧
    ((bused fun b => { b with ctrlAct := true, job := some (.xfer (rq [])) }).bus 1).job = some (.xfer (rq [])) ∧
    ((bused fun b => { b with ctrlAct := true, job := some (.poll 0 0), tries := 3 }).bus 1).tries ≠ 0 ∧
    up.chip.field.power.isolated.getD 3 false = false ∧ ((up.chip.field.qd 3).blk.getD 6 {}).state = 1 ∧
    up.busSleeps 1 = false ∧
    asleep.busSleeps 1 = true ∧
    up.busSleeps 2 = false ∧
    up.chip.field.isActive = true := by decide +kernel

theorem wit_TwoWireTargetsCommitWhole :
    takesF [(cmdTwXfer, rq [5, 0x58, 1, 0, 0, 0, 0x80000, 0], up), (cmdTwSetBus, rq [5, 0, 0, 0x58], up), (cmdTwGetBus, rq [5], up)] ∧
    takesH [(cmdTwXferH, rq [1, 0x58, 1, 0, 0, 0, 0x80000, 0], up), (cmdTwSetBusH, rq [1, 0, 0, 0x58], up), (cmdTwGetBusH, rq [1], up)] ∧
    TwBus.xferOk (rq [1, 0x58, 1, 0, 0, 0, 0x80000, 0]) = true ∧
    TwBus.xferOk (rq [1, 0x58, 33, 33]) = false ∧
    TwBus.setOk true (rq [1, 0, 0, 0x58]) = true ∧
    ((bused fun b => { b with role := 2 }).bus 1).taddr = 0x5A ∧
    up.chip.host.power.asleep = false ∧
    memWf up.chip.host.area = true ∧
    ((bused fun b => { b with tgtAct := true, tgtRead := false }).bus 1).pecEn = false ∧
    (up.bus 1).idle = true ∧
    asleep.chip.host.listens = false ∧
    (up.bus 1).queued < 8 ∧
    ((bused fun b => { b with ctrlAct := true, job := some (.xfer (rq [])) }).bus 1).idle = false ∧
    (fs fun f => { f with power := { f.power with isolated := Tab.fill 4 true } }).chip.field.power.isolated.getD 3 false = true :=
  ⟨takesF_of (by decide +kernel), takesH_of (by decide +kernel), by decide +kernel⟩

end Sys2Proof.Tests
end

/-! Proofs of the statements of 00_scope.md. The unit check first, then the checks of R9 on each side, then what a command that they turn away
leaves, and the capability words; each statement is assembled from these. -/

namespace Sys2Proof

section UnitCheck

variable (v : Variant) {u : Nat}

theorem unitStatus_none_eq_none_iff : unitStatus v .none u = none ↔ u = 0xFF := by simp [unitStatus]

theorem unitStatus_none_of_ne (h : u ≠ 0xFF) : unitStatus v .none u = some .badParam := by simp [unitStatus, h]

theorem unitStatus_slot_of_le (h : 96 ≤ u) : unitStatus v .slot u = some .badParam := by simp [unitStatus, h]

theorem unitStatus_slot_of_lt (h : u < 96) : unitStatus v .slot u = if u < v.slots then none else some .unitAbsent := by
  simp [unitStatus, Nat.not_le.mpr h]

theorem unitStatus_slot_eq_none_iff : unitStatus v .slot u = none ↔ u < v.slots := by
  rcases Nat.lt_or_ge u 96 with h | h
  · simp [unitStatus_slot_of_lt v h]
  · have := v.slots_le
    simp only [unitStatus_slot_of_le v h, reduceCtorEq, false_iff]
    omega

/-- No kind of unit reaches into 128 to 254 (00 R8). -/
theorem unitStatus_of_nameless (k : UnitKind) (hlo : 128 ≤ u) (hhi : u ≤ 254) : unitStatus v k u = some .badParam := by
  cases k with
  | none => exact unitStatus_none_of_ne v (by omega)
  | slot => exact unitStatus_slot_of_le v (by omega)
  | branch => simp [unitStatus, hlo]

/-- 0xFF names no slot and no branch (00 R8). -/
theorem unitStatus_device (k : UnitKind) (h : k ≠ .none) : unitStatus v k 0xFF = some .badParam := by
  cases k with
  | none => exact absurd rfl h
  | slot => exact unitStatus_slot_of_le v (by decide)
  | branch => simp [unitStatus]

end UnitCheck

section FieldChecks

variable {v : Variant} {f : FieldDie} {c : FCmd} {r : Request} {st : Status}

theorem admitF_of_admitUnit (h : admitUnit v f c r = some st) : admitF v f c r = some st := by
  simp [admitF, h]

theorem admitF_of_epoch_ne (hrun : f.running = true) (hs : r.silent = false) (he : r.epoch ≠ f.twin.epoch) :
    admitF v f c r = some .staleRole :=
  admitF_of_admitUnit (by simp [admitUnit, hrun, hs, he])

/-- Past the epoch and the role, the unit check decides before the parameters do. -/
theorem admitF_of_unitStatus (hrun : f.running = true) (he : r.epoch = f.twin.epoch) (hsb : f.isStandby = false)
    (hu : unitStatus v c.unit r.unit = some st) : admitF v f c r = some st :=
  admitF_of_admitUnit (by simp [admitUnit, hrun, he, hsb, hu])

/-- Past every other check, the ranges of the parameters decide. -/
theorem admitF_eq_chk (hrun : f.running = true) (he : r.epoch = f.twin.epoch) (hsb : f.isStandby = false)
    (hu : unitStatus v c.unit r.unit = none) (hg : c.grid = false) (hf : r.flags < 16) (hb : r.bufOk = true) :
    admitF v f c r = c.chk v f r := by
  have hunit : admitUnit v f c r = none := by simp [admitUnit, hrun, he, hsb, hu, hg]
  simp [admitF, hunit, Nat.not_le.mpr hf, hb]

/-- A command that a check turns away, at arrival or at its apply tick, does nothing but complete. -/
theorem runF_of_refused (h : admitF v f c r = some st ∨ admitF v f c r = none ∧ gateF f c r = some st) :
    runF v c r f = f.complete r st := by
  rcases h with ha | ⟨ha, hg⟩
  · simp [runF, ha]
  · simp [runF, ha, applyF, hg]

end FieldChecks

section HostChecks

variable {v : Variant} {h : HostDie} {c : HCmd} {r : Request} {st : Status}

theorem admitH_of_unitStatus (ht : tokenBad (c.auth h r) r = false) (hrec : h.stor.recovery = false) (he : r.epoch = h.mode.epoch)
    (hsb : h.standby = false) (hu : unitStatus v .none r.unit = some st) : admitH v h c r = some st := by
  simp [admitH, ht, hrec, he, hsb, hu]

/-- What region H admits is a command of the whole device. -/
theorem unit_of_admitH (ha : admitH v h c r = none) : r.unit = 0xFF := by
  refine Decidable.byContradiction fun hu => ?_
  simp only [admitH, unitStatus_none_of_ne v hu] at ha
  repeat' split at ha
  all_goals exact Option.some_ne_none _ ha

theorem runH_of_refused (hst : st ≠ .authFail) (ha : admitH v h c r = some st) : runH v c r h = h.complete r st := by
  unfold runH
  split
  next hauth => exact absurd (Option.some.inj (ha.symm.trans hauth)) hst
  next hother => rw [Option.some.inj (ha.symm.trans hother)]
  next hnone => exact absurd (ha.symm.trans hnone) (Option.some_ne_none st)

end HostChecks

namespace HostDie

/-- Entering and completing touch nothing of region H but its host interface. -/
theorem accept_complete_frame (h : HostDie) (q r : Request) (st : Status) (n : Nat) :
    { (h.accept q).complete r st n with hif := h.hif } = h := by
  unfold complete
  split <;> rfl

@[simp] theorem authFailed_sec (h : HostDie) (r : Request) : (h.authFailed r).sec = h.sec := by simp [authFailed]

theorem authFailed_waiting (h : HostDie) (r : Request) (hs : r.silent = false) :
    ((h.authFailed r).hif.queues.get r.queue).waiting = (h.hif.queues.get r.queue).waiting ++
      [{ queue := r.queue, tag := r.tag, status := .authFail, result := 0, epoch := h.mode.epoch }] := by
  simp [authFailed, complete_waiting _ _ _ _ hs, Tab.get_modify_self]

end HostDie

namespace Machine

/-- A command of a host, sent without APPLY_AT_TICK, comes through region H to the checks of the field side. -/
def reachesField (c : FCmd) (r : Request) (s : State) : Prop :=
  r.atTick = false ∧ s.chip.host.listens = true ∧ r.silent = false ∧ r.peer = false ∧
  tokenBad (c.auth { r with opcode := c.code }) { r with opcode := c.code } = false ∧ s.chip.host.stor.recovery = false

section Refusals

variable {c : FCmd} {r : Request} {s : State} {st : Status}

theorem State.field_of_tokenBad (hl : s.chip.host.listens = true)
    (ht : tokenBad (c.auth { r with opcode := c.code }) { r with opcode := c.code } = true) :
    s.field c r = s.onHost fun h => (h.accept { r with opcode := c.code }).authFailed { r with opcode := c.code } := by
  simp [State.field, State.fieldShare, hl, ht]

theorem State.field_of_reachesField (h : reachesField c r s) :
    s.field c r = (s.onHost fun h => (h.accept { r with opcode := c.code }).await { r with opcode := c.code } 0).onField
      (runF s.chip.variant c (arriving c r s)) := by
  obtain ⟨hat, hl, _, _, ht, hrec⟩ := h
  have hat' : ({ r with opcode := c.code } : Request).atTick = false := hat
  simp only [State.field, State.fieldShare, hl, ht, hrec, hat', not_true_eq_false, Bool.false_eq_true, if_false]
  rfl

/-- A command that the field side turns away leaves its completion there and its entry in region H's host interface, and no more. -/
theorem State.field_refused (h : reachesField c r s)
    (hst : admitF s.chip.variant s.chip.field c (arriving c r s) = some st ∨
      admitF s.chip.variant s.chip.field c (arriving c r s) = none ∧ gateF s.chip.field c (arriving c r s) = some st) :
    fieldAnswers s (s.field c r) r st 0 ∧ { (s.field c r).chip.field with bar := s.chip.field.bar } = s.chip.field ∧
      { (s.field c r).chip.host with hif := s.chip.host.hif } = s.chip.host := by
  have ⟨_, _, hs, hp, _, _⟩ := h
  have hrun := (runF_of_refused hst).trans (FieldDie.complete_host _ (arriving c r s) st 0 hs hp)
  rw [State.field_of_reachesField h]
  refine ⟨⟨?_, rfl⟩, ?_, rfl⟩
  · simp only [State.onField_field, State.onHost_field, hrun]
    rfl
  · simp only [State.onField_field, State.onHost_field, hrun]

end Refusals

/-- A command that region H turns away leaves its completion and its entry in the host interface, and no more. -/
theorem State.host_refused {c : HCmd} {r : Request} {s : State} {st : Status} (hl : s.chip.host.listens = true) (hs : r.silent = false)
    (hst : st ≠ .authFail)
    (ha : admitH s.chip.variant (s.chip.host.accept { r with opcode := c.code }) c { r with opcode := c.code } = some st) :
    (s.host c r).chip.field = s.chip.field ∧ hostAnswers s (s.host c r) r st 0 ∧
      { (s.host c r).chip.host with hif := s.chip.host.hif } = s.chip.host ∧ (s.host c r).chip.host.hif.mem = s.chip.host.hif.mem := by
  have heq : s.host c r = s.onHost fun h => (h.accept { r with opcode := c.code }).complete { r with opcode := c.code } st := by
    simp [State.host, State.onHost, hl, runH_of_refused hst ha]
  have hw := HostDie.complete_waiting (s.chip.host.accept { r with opcode := c.code }) { r with opcode := c.code } st 0 hs
  rw [heq]
  exact ⟨rfl, hw.trans (by simp), HostDie.accept_complete_frame _ _ _ _ _, by simp⟩

/-- A command whose token fails is answered by region H, and the security engine stands (18 R475). -/
theorem State.field_authFail {c : FCmd} {r : Request} {s : State} (hl : s.chip.host.listens = true) (hs : r.silent = false)
    (ht : tokenBad (c.auth { r with opcode := c.code }) { r with opcode := c.code } = true) :
    (s.field c r).chip.field = s.chip.field ∧ hostAnswers s (s.field c r) r .authFail 0 ∧ (s.field c r).chip.host.sec = s.chip.host.sec := by
  have hw := HostDie.authFailed_waiting (s.chip.host.accept { r with opcode := c.code }) { r with opcode := c.code } hs
  rw [State.field_of_tokenBad hl ht]
  exact ⟨rfl, hw.trans (by simp), by simp⟩

/-- Settles O5: what each check that turns a command away leaves, and the checks in their order. -/
theorem checksComeInOrderAndLeaveNoEffect : Obligations.ChecksComeInOrderAndLeaveNoEffect := by
  refine ⟨?_, ?_, ?_, ?_, ?_, ?_, ?_, ?_⟩
  · intro c r s st hat hl hs hp ht hrec hst
    exact State.field_refused ⟨hat, hl, hs, hp, ht, hrec⟩ hst
  · intro c r s hl hs ht
    exact State.field_authFail hl hs ht
  · intro c r s h
    rw [State.field_takes h]
  · intro c r s st hl hs hst ha
    exact State.host_refused hl hs hst ha
  · intro v f c r hrun
    refine ⟨fun hs he => admitF_of_epoch_ne hrun hs he, fun he hsb st hu => admitF_of_unitStatus hrun he hsb hu, ?_⟩
    intro he hsb hu hg hf hb
    exact admitF_eq_chk hrun he hsb hu hg hf hb
  · intro c r s hl
    exact State.field_off hl
  · intro c r s hl
    exact State.host_off hl
  · intro v u
    refine ⟨unitStatus_slot_eq_none_iff v, fun hlo hhi => ?_, unitStatus_slot_of_le v, unitStatus_none_eq_none_iff v, unitStatus_none_of_ne v⟩
    rw [unitStatus_slot_of_lt v hhi, if_neg (Nat.not_lt.mpr hlo)]

/-- Settles O10: on each side the unit check turns the command away, once the checks before it have passed. -/
theorem unitsThatNameNoneAreBadParameters : Obligations.UnitsThatNameNoneAreBadParameters := by
  refine ⟨?_, ?_, ?_, ?_⟩
  · intro c r s hat hl hs hp ht hrec hrun he hsb hu
    have hunit : unitStatus s.chip.variant c.unit r.unit = some .badParam := by
      rcases hu with ⟨hlo, hhi⟩ | ⟨hk, hu⟩
      · exact unitStatus_of_nameless _ _ hlo hhi
      · exact hu ▸ unitStatus_device _ _ hk
    exact State.field_refused ⟨hat, hl, hs, hp, ht, hrec⟩ (.inl (admitF_of_unitStatus hrun he hsb hunit))
  · intro c r s hl hs ht hrec he hsb hlo hhi
    have ha := admitH_of_unitStatus (v := s.chip.variant) (h := s.chip.host.accept { r with opcode := c.code }) ht hrec he hsb
      (unitStatus_of_nameless _ .none hlo hhi)
    obtain ⟨hfield, hans, hhost, _⟩ := State.host_refused hl hs (by decide) ha
    exact ⟨hans, hfield, hhost⟩
  · intro c v hc u
    rw [hc]
    exact unitStatus_none_eq_none_iff v
  · intro c r s ha
    exact unit_of_admitH ha

end Machine

namespace HostDie

/-- A word of the register window is read through the register map (18 R460). -/
theorem burstRead_reg (v : Variant) (h : HostDie) {a : Nat} (ha : a < 0x010000) (h4 : a % 4 = 0) :
    h.burstRead v a 1 = ([h.reg v a], (h.latch a).readClear a) := by
  simp [burstRead, windowRead, ha, h4, regRead]

/-- A transaction without doorbells ends as it stands. -/
theorem csRise_of_doorbells_nil {h : HostDie} (hd : h.hif.doorbells = []) : h.csRise = h := by
  rw [csRise, hd, List.foldl_nil, ← hd]

/-- CAP0 and CAP1 read at their offsets (18 Table 18-2), and reading them latches and clears nothing. -/
theorem burstRead_cap0 (v : Variant) (h : HostDie) : h.burstRead v 0x0004 1 = ([v.cap0], h) :=
  burstRead_reg v h (by decide) (by decide)

theorem burstRead_cap1 (v : Variant) (h : HostDie) : h.burstRead v 0x0008 1 = ([cap1], h) :=
  burstRead_reg v h (by decide) (by decide)

/-- CAP0 and CAP1 ignore a write (18 R460). -/
theorem burstWrite_capability (h : HostDie) {a : Nat} (ha : a = 0x0004 ∨ a = 0x0008) (w : Word) : h.burstWrite a [w] = h := by
  rcases ha with rfl | rfl <;> simp [burstWrite, windowWrite, regWrite]

end HostDie

namespace Machine

theorem exec_qspiRead {s : State} {a n : Nat} {ws : List Word} (hl : s.chip.host.listens = true) (hq : s.chip.host.power.link = .qspi)
    (hb : s.chip.host.burstRead s.chip.variant a n = (ws, s.chip.host)) :
    exec (.qspiRead a n) s = .next { s with chip := { s.chip with readData := ws } } := by
  change qspiRead a n s = _
  simp [qspiRead, hq, State.hostRead_on hl, hb]

/-- A write that no register takes leaves the state, whatever the link and whether or not the side listens. -/
theorem exec_qspiWrite_ignored {s : State} {a : Nat} {ws : List Word} (hd : s.chip.host.hif.doorbells = [])
    (hb : s.chip.host.burstWrite a ws = s.chip.host) : exec (.qspiWrite a ws) s = .next s := by
  change qspiWrite a ws s = _
  have hkeep : s.hostAccess (fun h => (h.burstWrite a ws).csRise) = s := by
    simp [State.hostAccess, State.onHost, hb, HostDie.csRise_of_doorbells_nil hd]
  cases hq : s.chip.host.power.link <;> simp [qspiWrite, hq, hkeep]

/-- IDENTIFY answers with CAP0 in the low word and CAP1 in the high one (00 R5). -/
theorem exec_identify {r : Request} {s : State} (h : hostTakes cmdIdentify r s) :
    exec (.identify r) s = .next (s.onHost fun h => (h.accept { r with opcode := 0x0001 }).complete { r with opcode := 0x0001 } .ok
      (s.chip.variant.cap0.toNat + 2 ^ 32 * cap1.toNat)) := by
  change Host.Outcome.next (s.host cmdIdentify r) = _
  rw [State.host_takes h]
  rfl

/-- Settles O9: the fields of both words, part by part, and each way to read them. -/
theorem capabilityWordsAreReported : Obligations.CapabilityWordsAreReported := by
  refine ⟨?_, by decide, ?_, ?_, ?_⟩
  · intro v
    cases v <;> decide
  · intro r s h
    have ⟨_, hs, _⟩ := h
    refine ⟨_, s.chip.variant.cap0.toNat + 2 ^ 32 * cap1.toNat, exec_identify h, rfl, ?_, ?_⟩
    · have hw := HostDie.complete_waiting (s.chip.host.accept { r with opcode := 0x0001 }) { r with opcode := 0x0001 } .ok
        (s.chip.variant.cap0.toNat + 2 ^ 32 * cap1.toNat) hs
      exact hw.trans (by simp)
    · have h0 := s.chip.variant.cap0.isLt
      have h1 := cap1.isLt
      omega
  · intro s hl hq
    exact ⟨_, _, exec_qspiRead hl hq (HostDie.burstRead_cap0 _ _), exec_qspiRead hl hq (HostDie.burstRead_cap1 _ _), rfl, rfl, rfl, rfl⟩
  · intro w s hd
    exact ⟨exec_qspiWrite_ignored hd (HostDie.burstWrite_capability _ (.inl rfl) w),
      exec_qspiWrite_ignored hd (HostDie.burstWrite_capability _ (.inr rfl) w)⟩

end Machine

end Sys2Proof

/-! Proofs of the statements of 02_modes_power_and_reset.md. What WINTER admits first, then the device commands of region H, the power events
and the March of the domains, and last the resets and the entry to WINTER. -/

namespace Sys2Proof

/-- What each step of a fold keeps, the fold keeps. -/
theorem foldl_keeps {σ α β : Type} (view : σ → β) {op : σ → α → σ} (h : ∀ s x, view (op s x) = view s) (l : List α) (s : σ) :
    view (l.foldl op s) = view s :=
  List.foldlRecOn (motive := fun b => view b = view s) l op rfl fun b hb x _ => (h b x).trans hb

namespace Tab

variable {α β : Type} {n : Nat}

theorem getD_mapIdx (t : Tab α n) (g : Nat → α → β) (d : β) (e : α) {i : Nat} (h : i < n) :
    (t.mapIdx g).getD i d = g i (t.getD i e) := by
  have hi : i < t.rows.length := t.size_eq.symm ▸ h
  simp [Tab.mapIdx, Tab.getD, List.getD_eq_getElem?_getD, hi]

end Tab

section WinterGroups

variable {v : Variant} {f : FieldDie} {h : HostDie} {r : Request} {op : Nat} {ro : Bool}

/-- The four groups of R68. -/
theorem winterOk_iff : winterOk op ro = true ↔ op / 256 = 0x00 ∨ op / 256 = 0x80 ∨ op / 256 = 0x90 ∨ (op / 256 = 0xC0 ∧ ro = true) := by
  simp [winterOk, or_assoc]

theorem winterOk_eq_false (h0 : op / 256 ≠ 0x00) (h8 : op / 256 ≠ 0x80) (h9 : op / 256 ≠ 0x90) (hc : op / 256 ≠ 0xC0 ∨ ro = false) :
    winterOk op ro = false := by
  refine Bool.eq_false_iff.mpr fun hok => ?_
  rcases winterOk_iff.mp hok with h | h | h | ⟨h, hr⟩
  · exact h0 h
  · exact h8 h
  · exact h9 h
  · exact hc.elim (fun hn => hn h) (fun hf => Bool.noConfusion (hf.symm.trans hr))

/-- A standby executes every group that WINTER admits (14 R364), so none of them needs the active role. -/
theorem standbyOk_of_winterOk (hok : winterOk op ro = true) : standbyOk op ro = true := by
  rcases winterOk_iff.mp hok with h | h | h | ⟨h, _⟩ <;> simp [standbyOk, h]

/-- A command of a group that WINTER admits passes the gate, where it has the configuration that it needs. -/
theorem gateF_of_winterOk {c : FCmd} (hok : winterOk r.opcode c.ro = true) (hcfg : c.cfg = true → f.cfg.loaded = true) :
    gateF f c r = none := by
  have hsb := standbyOk_of_winterOk hok
  have hneed : ¬ (¬ f.cfg.loaded = true ∧ c.cfg = true) := fun ⟨hn, hc⟩ => hn (hcfg hc)
  simpa [gateF, hok, hsb] using hneed

theorem gateF_of_winter {c : FCmd} (hw : f.power.winter = true) (hno : winterOk r.opcode c.ro = false) : gateF f c r = some .wrongMode := by
  simp [gateF, hw, hno]

/-- Past the parameters, WINTER alone decides on region H. -/
theorem admitH_eq_winter {c : HCmd} (ht : tokenBad (c.auth h r) r = false) (hrec : h.stor.recovery = false) (he : r.epoch = h.mode.epoch)
    (hsb : h.standby = false) (hu : r.unit = 0xFF) (hf : r.flags < 16) (hat : r.atTick = false) (hc : c.chk v h r = none) :
    admitH v h c r = if h.mode.winter = true ∧ winterOk r.opcode c.ro = false then some .wrongMode else none := by
  simp [admitH, ht, hrec, he, hsb, (unitStatus_none_eq_none_iff v).mpr hu, Nat.not_le.mpr hf, hat, hc]

end WinterGroups

namespace Machine

/-- Settles O6: the gate of the field side and the last check of region H, each by the group of the opcode. -/
theorem winterAcceptsFourGroups : Obligations.WinterAcceptsFourGroups := by
  refine ⟨?field, ?host⟩
  case field =>
    intro c r s hat hl hs hp ht hrec ha hw
    refine ⟨fun hg hcfg => ?_, fun h0 h8 h9 hc => ?_⟩
    · exact ⟨hat, hl, hs, hp, ht, hrec, ha, gateF_of_winterOk (winterOk_iff.mpr hg) hcfg⟩
    · have hgate := gateF_of_winter (r := arriving c r s) hw (winterOk_eq_false h0 h8 h9 hc)
      obtain ⟨hans, hfield, _⟩ := State.field_refused ⟨hat, hl, hs, hp, ht, hrec⟩ (.inr ⟨ha, hgate⟩)
      exact ⟨hans, hfield⟩
  case host =>
    intro c r s hl hs hrec hw ht he hsb hu hf hat hchk
    have hadm := admitH_eq_winter (h := s.chip.host.accept { r with opcode := c.code }) (r := { r with opcode := c.code })
      ht hrec he hsb hu hf hat hchk
    refine ⟨fun hg => ?_, fun h0 h8 h9 hc => ?_⟩
    · have hok := winterOk_iff.mpr hg
      exact ⟨hl, hs, by simpa [hok] using hadm⟩
    · have hno := winterOk_eq_false h0 h8 h9 hc
      obtain ⟨hfield, hans, _⟩ := State.host_refused hl hs (by decide) (hadm.trans (if_pos ⟨hw, hno⟩))
      exact ⟨hans, hfield⟩

end Machine

namespace HostDie

@[simp] theorem nandNext_power (h : HostDie) : h.nandNext.power = h.power := by
  unfold nandNext
  repeat' split
  all_goals rfl

@[simp] theorem nandOp_power (h : HostDie) (o : NandOp) : (h.nandOp o).power = h.power := nandNext_power _

/-- Handing the buffered records on is work of the recorder and of the storage manager alone. -/
@[simp] theorem handAll_power (h : HostDie) : h.handAll.power = h.power := by
  simp only [handAll]
  split
  · rfl
  · exact nandOp_power _ _

end HostDie

namespace Machine

section HostAnswers

variable {c : HCmd} {r : Request} {s : State} {g : HostDie} {st : Status} {x : Nat}

/-- A host-executed command whose meaning answers at once. -/
theorem State.host_completes (h : hostTakes c r s)
    (hop : c.op s.chip.variant (s.chip.host.accept { r with opcode := c.code }) { r with opcode := c.code } = (g, some (st, x))) :
    s.host c r = s.onHost fun _ => g.complete { r with opcode := c.code } st x := by
  rw [State.host_takes h]
  simp only [hop]
  rfl

theorem hostAnswers_complete {n : Nat} (hs : r.silent = false) (hg : g.hif = (s.chip.host.accept { r with opcode := n }).hif)
    (he : g.mode = s.chip.host.mode) : hostAnswers s (s.onHost fun _ => g.complete { r with opcode := n } st x) r st x := by
  have hw := HostDie.complete_waiting g { r with opcode := n } st x hs
  rw [he, hg] at hw
  exact hw.trans (by simp)

end HostAnswers

theorem exec_echo {r : Request} {s : State} (h : hostTakes cmdEcho r s) :
    exec (.echo r) s = .next (s.onHost fun _ =>
      (s.chip.host.accept { r with opcode := 0x0005 }).complete { r with opcode := 0x0005 } .ok (r.par 0 8)) :=
  congrArg Host.Outcome.next (State.host_completes h rfl)

theorem exec_setWallClock {r : Request} {s : State} (h : hostTakes cmdSetWallClock r s) :
    exec (.setWallClock r) s = .next (s.onHost fun _ =>
      { s.chip.host.accept { r with opcode := 0x0004 } with wall := r.u32 0, wallSet := true, wallTicks := 0 }.complete
        { r with opcode := 0x0004 } .ok (if s.chip.host.wallSet then s.chip.host.wall else 0)) :=
  congrArg Host.Outcome.next (State.host_completes h rfl)

/-- SLEEP outside HOST_ONLY (02 R60). -/
theorem exec_sleep_refused {r : Request} {s : State} (h : hostTakes cmdSleep r s) (hm : s.chip.host.mode.mode ≠ 1) :
    exec (.sleep r) s = .next (s.onHost fun _ =>
      (s.chip.host.accept { r with opcode := 0x0003 }).complete { r with opcode := 0x0003 } .wrongMode) :=
  congrArg Host.Outcome.next (State.host_completes h (if_pos hm))

/-- Region H as SLEEP leaves its power: H_HIF and H_STO off (02 R60). -/
def fallenAsleep (p : HPower) : HPower :=
  { p with asleep := true, linkUp := false, dom := (p.dom.modifyNat 2 (fun _ => .off)).modifyNat 3 (fun _ => .off) }

theorem exec_sleep_taken {r : Request} {s : State} (h : hostTakes cmdSleep r s) (hm : s.chip.host.mode.mode = 1) :
    exec (.sleep r) s = .next (s.onHost fun _ =>
      let g := (s.chip.host.accept { r with opcode := 0x0003 }).handAll
      { g with power := fallenAsleep g.power }.complete { r with opcode := 0x0003 } .ok) :=
  congrArg Host.Outcome.next (State.host_completes h (if_neg (not_not_intro hm)))

/-- Settles O53: each command by what its meaning answers. -/
theorem deviceCommandsOfTheHost : Obligations.DeviceCommandsOfTheHost := by
  refine ⟨?identify, ?echo, ?sleep, ?setWallClock⟩
  case identify =>
    intro r s h
    have ⟨_, hs, _⟩ := h
    exact ⟨_, exec_identify h, rfl, by simp, hostAnswers_complete hs rfl rfl⟩
  case echo =>
    intro r s h
    have ⟨_, hs, _⟩ := h
    exact ⟨_, exec_echo h, rfl, by simp, hostAnswers_complete hs rfl rfl⟩
  case sleep =>
    intro r s h
    have ⟨_, hs, _⟩ := h
    by_cases hm : s.chip.host.mode.mode = 1
    · refine ⟨_, exec_sleep_taken h hm, rfl, fun hne => absurd hm hne, fun _ => ?_⟩
      simp [fallenAsleep, Tab.getD_modifyNat_self, Tab.getD_modifyNat_ne]
    · exact ⟨_, exec_sleep_refused h hm, rfl, fun _ => ⟨by simp, hostAnswers_complete hs rfl rfl⟩, fun he => absurd he hm⟩
  case setWallClock =>
    intro r s h
    have ⟨_, hs, _⟩ := h
    exact ⟨_, exec_setWallClock h, rfl, by simp, by simp, by simp, by simp, hostAnswers_complete hs rfl rfl⟩

end Machine

/-- Parts with PCIe: the FLS-6480 alone (00 Table 00-1). -/
theorem Variant.pcie_eq_false_iff {v : Variant} : v.pcie = false ↔ v ≠ .fls6480 := by
  cases v <;> decide

/-- Of the blocks of region H, only those below 13 hold memory (01 Table 01-13). -/
theorem lt_of_hasSram_zero {b : Nat} (h : hasSram 0 b = true) : b < 13 := by
  by_cases h0 : b = 0
  · omega
  · by_cases h6 : b = 6
    · omega
    · simp [hasSram, sramMap, h0, h6] at h

namespace HostDie

/-- The blocks after a power-on whose self-test found one bad row group (01 R34). -/
theorem powerOn_blk_of_one (h : HostDie) (link : Link) (twinB : Bool) {b : Nat} (row : Nat) (hb : hasSram 0 b = true) :
    (h.powerOn link [(b, row)] twinB).blk.getD b {} = (HostDie.reset.blk.getD b {}).repair 0 b row := by
  simp only [powerOn, List.foldl_cons, List.foldl_nil, hb, if_true]
  exact Tab.getD_modifyNat_self _ _ _ _ (lt_of_hasSram_zero hb)

end HostDie

namespace FieldDie

@[simp] theorem modBlk_power (f : FieldDie) (r b : Nat) (g : Blk → Blk) : (f.modBlk r b g).power = f.power := by
  unfold modBlk; split <;> rfl

@[simp] theorem modBlk_twin (f : FieldDie) (r b : Nat) (g : Blk → Blk) : (f.modBlk r b g).twin = f.twin := by
  unfold modBlk; split <;> rfl

theorem repairRow_power (f : FieldDie) (x : Nat × Nat × Nat) : (f.repairRow x).power = f.power := by
  unfold repairRow; split <;> simp

theorem repairRow_twin (f : FieldDie) (x : Nat × Nat × Nat) : (f.repairRow x).twin = f.twin := by
  unfold repairRow; split <;> simp

/-- The self-test's repairs leave F_AON's start as it is. -/
theorem powerOn_power (f : FieldDie) (twinB : Bool) (bad : List (Nat × Nat × Nat)) :
    (f.powerOn twinB bad).power = { FieldDie.reset.power with startCause := some (2, 3) } :=
  foldl_keeps FieldDie.power repairRow_power bad _

theorem powerOn_twin (f : FieldDie) (twinB : Bool) (bad : List (Nat × Nat × Nat)) :
    (f.powerOn twinB bad).twin = { FieldDie.reset.twin with twinB := twinB } :=
  foldl_keeps FieldDie.twin repairRow_twin bad _

/-- The lines that ACTIVE_N's release lets go (14 R354). -/
def released (f : FieldDie) : FieldDie :=
  { f with
    twin := { f.twin with activeN := false, sampling := false }
    brk := { f.brk with pfwLand := Tab.fill 8 false, thrLand := Tab.fill 8 false }
    slot := f.slot.map fun s => { s with port := { s.port with tx := false } } }

theorem released_tx (f : FieldDie) : ∀ x ∈ f.released.slot.rows, x.port.tx = false := by simp [released, Tab.map]

theorem driving_of_activeN_false {f : FieldDie} (h : f.twin.activeN = false) : f.driving = false := by simp [driving, h]

/-- The vector of PFW_N's change waits for the barrier; nothing else of a release does more than let the lines go. -/
theorem releaseActive_with_bar (f : FieldDie) : { f.releaseActive with bar := f.bar } = f.released := by
  simp only [releaseActive]
  split
  · unfold vector
    split <;> rfl
  · rfl

end FieldDie

namespace Machine

/-- Settles O8: each power event by what its die's start, fall or release leaves, and each March by its next domain. -/
theorem powerEventsAndDomains : Obligations.PowerEventsAndDomains := by
  refine ⟨?vinhPowerOn, ?vinfPowerOn, ?vinhFall, ?vinfFall, ?wakeNFall, ?deadManRelease, ?hostStep, ?fieldStep, ?hostFail, ?fieldFail, ?failedMarch⟩
  case vinhPowerOn =>
    intro sel bad s
    refine ⟨_, rfl, rfl, rfl, rfl, rfl, rfl, ?_, rfl, rfl, rfl, rfl, fun hb => ?_, fun b row hb hs => ?_⟩
    -- the strap, a self-test that found nothing, and one that found one row group
    · simp [HostDie.powerOn, Variant.pcie_eq_false_iff]
    · rw [hb]
      rfl
    · rw [hb]
      exact HostDie.powerOn_blk_of_one _ _ _ row hs
  case vinfPowerOn =>
    intro b bad s
    refine ⟨_, rfl, rfl, ?_⟩
    simp only [State.onField_field, FieldDie.powerOn_power, FieldDie.powerOn_twin]
    exact ⟨trivial, trivial, rfl, rfl, rfl, rfl⟩
  case vinhFall =>
    intro s
    exact ⟨_, rfl, rfl, rfl, rfl⟩
  case vinfFall =>
    intro s
    exact ⟨_, rfl, rfl, rfl, rfl, rfl, rfl⟩
  case wakeNFall =>
    intro s
    refine ⟨_, rfl, rfl, ?_⟩
    cases ha : s.chip.host.power.asleep <;> simp [ha]
  case deadManRelease =>
    intro s
    have hrel := FieldDie.releaseActive_with_bar s.chip.field
    have hact : s.chip.field.releaseActive.twin.activeN = false := congrArg (·.twin.activeN) hrel
    refine ⟨_, rfl, rfl, hact, ?_, congrArg (·.brk.pfwLand) hrel, congrArg (·.brk.thrLand) hrel, ?_, ?_⟩
    · exact FieldDie.driving_of_activeN_false hact
    · have hslot : s.chip.field.releaseActive.slot = s.chip.field.released.slot := congrArg (·.slot) hrel
      exact hslot ▸ FieldDie.released_tx s.chip.field
    · exact congrArg (fun g : FieldDie =>
        { g with twin := s.chip.field.twin, brk := s.chip.field.brk, slot := s.chip.field.slot }) hrel
  case hostStep =>
    intro s
    refine ⟨_, rfl, rfl, fun hv hm ha i hi => ?_⟩
    simp [hv, hm, ha, hi]
  case fieldStep =>
    intro s
    refine ⟨_, rfl, rfl, fun hv hm i hi => ?_⟩
    simp [hv, hm, hi]
  case hostFail =>
    intro s
    refine ⟨_, rfl, rfl, fun i hi => ?_⟩
    simp only [State.onHost_host, hi]
    refine ⟨trivial, trivial, fun j hj => ?_⟩
    rw [Tab.getD_mapIdx _ _ _ .off hj]
    split
    · rfl
    · split
      next h0 => rw [h0]
      next => rfl
  case fieldFail =>
    intro s
    refine ⟨_, rfl, fun i hi => ?_⟩
    simp only [hi]
    refine ⟨rfl, fun j h0 hj => ?_, rfl⟩
    exact (Tab.getD_mapIdx _ _ _ .off hj).trans (if_neg (Nat.ne_of_gt h0))
  case failedMarch =>
    intro s side hh hf
    change execDomainStep side s = _
    cases side <;> simp [execDomainStep, State.onHost, State.onField, hh, hf]

end Machine

namespace FieldDie

/-- The field side without what completions, the end of a handover and the recorder's trigger write. -/
def bare (f : FieldDie) : FieldDie :=
  { f with bar := {}, fcol := {}, hand := {}, recf := {}, twin := { f.twin with kept := [] } }

theorem of_bare_eq {f g : FieldDie} (h : f.bare = g) : f.power = g.power ∧ f.tick = g.tick ∧ f.slot = g.slot ∧ f.branch = g.branch ∧
    f.volt = g.volt ∧ f.twin.activeN = g.twin.activeN ∧ f.twin.inStep = g.twin.inStep ∧ f.twin.twinned = g.twin.twinned := by
  subst h
  exact ⟨rfl, rfl, rfl, rfl, rfl, rfl, rfl, rfl⟩

theorem bare_complete (f : FieldDie) (r : Request) (st : Status) (n a : Nat) (bs : List Byte) : (f.complete r st n a bs).bare = f.bare := by
  simp only [complete]
  repeat' split
  all_goals rfl

theorem bare_drillEnd (f : FieldDie) (st : Status) : (f.drillEnd st).bare = f.bare := by
  simp only [drillEnd]
  split
  · exact bare_complete _ _ _ _ _ _
  · rfl

theorem bare_drillFailed (f : FieldDie) (g : Handover → Handover) : (f.drillFailed g).bare = f.bare := rfl

theorem bare_modHand (f : FieldDie) (g : Handover → Handover) : (f.modHand g).bare = f.bare := rfl

theorem bare_trigger (f : FieldDie) (t : TrigHit) : (f.trigger t).bare = f.bare := rfl

theorem quietLines_quiet (f : FieldDie) : ∀ x ∈ f.quietLines.slot.rows, x.port.sending = none ∧ x.port.tx = false ∧ x.port.queue = [] := by
  simp [quietLines, Tab.map]

theorem bare_quietLines (f : FieldDie) : f.quietLines.bare = f.bare.quietLines := rfl

theorem bare_releaseActive (f : FieldDie) : f.releaseActive.bare = f.released.bare := by
  have hbar : ({ f.releaseActive with bar := f.bar } : FieldDie).bare = f.released.bare := by rw [releaseActive_with_bar]
  exact hbar

theorem bare_ite {p : Prop} [Decidable p] {f g k : FieldDie} (hg : g.bare = f.bare) (hk : k.bare = f.bare) :
    (if p then g else k).bare = f.bare := by
  split
  · exact hg
  · exact hk

/-- A handover that ends with the role moved starts no other: it only completes commands, and may fail a DRILL. -/
theorem bare_handEnd_moved (f : FieldDie) (outcome : Nat) (st : Status) : (f.handEnd outcome st true).bare = f.bare := by
  simp only [handEnd, if_true]
  refine (bare_ite ((bare_drillEnd _ _).trans (bare_drillFailed _ _)) rfl).trans (foldl_keeps bare (fun g x => ?_) _ _)
  split
  · exact bare_ite (bare_complete _ _ _ _ _ _) (bare_complete _ _ _ _ _ _)
  · rfl

theorem bare_winterHand (f : FieldDie) : f.winterHand.bare = f.bare := by
  simp only [winterHand]
  refine (foldl_keeps bare (fun g r => bare_complete g r _ _ _ _) _ _).trans ((bare_modHand _ _).trans ?_)
  exact (bare_ite (bare_drillEnd _ _) rfl).trans (bare_ite rfl (bare_handEnd_moved _ _ _))

/-- The schedule with the waiting commands that WINTER accepts alone (R68). -/
def winterKept (f : FieldDie) : FieldDie :=
  { f with tick := { f.tick with schedule := f.tick.schedule.filter fun x => winterOk x.req.opcode (16 ≤ x.req.opcode % 256) } }

theorem winterOk_of_mem_winterKept {f : FieldDie} {x : Sched} (h : x ∈ f.winterKept.tick.schedule) :
    winterOk x.req.opcode (16 ≤ x.req.opcode % 256) = true := by
  simp only [winterKept, List.mem_filter] at h
  exact h.2

theorem bare_winterSchedule (f : FieldDie) : f.winterSchedule.bare = f.bare.winterKept := by
  simp only [winterSchedule]
  exact foldl_keeps bare (fun g (x : Sched) => bare_complete g x.req _ _ _ _) _ _

/-- What entry to WINTER ends of the pair, the throttling and the reactions that wait (R66, R67). -/
def winterStart (f : FieldDie) : FieldDie :=
  { f with
    power := { f.power with winter := true, pendWinter := none, pendReset := none, pendBlocks := [] }
    twin := { f.twin with inStep := false, twinned := false, join := 0 }
    cap := { f.cap with thr := Tab.fill 8 false }
    recf := { f.recf with frozen := false } }

theorem bare_winterStart (f : FieldDie) : f.winterStart.bare = f.bare.winterStart := rfl

/-- Reports aside, entry to WINTER is the release of the lines and of the pair, the lines quiet and the schedule cut to what WINTER accepts
(R66 to R68). -/
theorem bare_enterWinter (f : FieldDie) (e : Entry) :
    (f.enterWinter e).bare = f.released.bare.winterStart.quietLines.winterKept := by
  have hbegin : (f.releaseActive.winterStart.winterHand.quietLines.winterSchedule).bare =
      f.released.bare.winterStart.quietLines.winterKept := by
    rw [bare_winterSchedule, bare_quietLines, bare_winterHand, bare_winterStart, bare_releaseActive]
  exact (bare_trigger _ _).trans hbegin

end FieldDie

namespace Machine

section RegionResets

variable (s : State) (cause scope : Nat)

/-- What a reset of region H keeps and returns to its start (R63, R65; 01 R44). -/
theorem regionWasReset_regionReset : regionWasReset s (s.onHost fun h => h.regionReset cause scope) cause scope :=
  ⟨rfl, rfl, rfl, rfl, rfl, rfl, rfl, rfl, rfl, rfl, rfl⟩

/-- The event that names the reset is raised as region H starts again. -/
theorem regionWasReset_regionReset_raise (src code : Nat) :
    regionWasReset s (s.onHost fun h => (h.regionReset cause scope).raise src code) cause scope :=
  regionWasReset_regionReset s cause scope

/-- What F_AON keeps through a field start (R64), whatever becomes of region H. -/
theorem fieldStarted_fieldStart (chip : Bool) (g : HostDie → HostDie) :
    fieldStarted s ((s.onField (FieldDie.fieldStart chip)).onHost g) :=
  ⟨rfl, rfl, rfl, rfl, rfl, rfl, rfl, rfl, rfl, rfl, rfl, rfl⟩

end RegionResets

section ResetSteps

variable {s : State}

theorem exec_hRegionReset_none (h : s.chip.host.resetIn = none) : exec .hRegionReset s = .next s := by
  change execHRegionReset s = _
  simp [execHRegionReset, State.onHost, h]

theorem exec_hRegionReset_some {n : Nat} (h : s.chip.host.resetIn = some n) :
    exec .hRegionReset s = .next (s.onHost fun h => h.regionReset 6 1) := by
  change execHRegionReset s = _
  simp [execHRegionReset, State.onHost, h]

theorem exec_chipReset_none (h : s.chip.field.chipCause = none) : exec .chipReset s = .next s := by
  change execChipReset s = _
  simp [execChipReset, h]

theorem exec_chipReset_some {c : Nat} (h : s.chip.field.chipCause = some c) :
    exec .chipReset s = .next ((s.onField (FieldDie.fieldStart true)).onHost fun h => h.regionReset c 2) := by
  change execChipReset s = _
  simp [execChipReset, h]

theorem exec_fieldReset_not (h : s.chip.field.fieldResetDue = false) : exec .fieldReset s = .next s := by
  change execFieldReset s = _
  simp [execFieldReset, h]

theorem exec_fieldReset_due (h : s.chip.field.fieldResetDue = true) :
    exec .fieldReset s = .next (s.onField (FieldDie.fieldStart false)) := by
  change execFieldReset s = _
  simp [execFieldReset, h]

theorem exec_winterEntry_none (h : s.chip.field.power.pendWinter = none) : exec .winterEntry s = .next s := by
  change execWinterEntry s = _
  simp [execWinterEntry, State.onField, h]

theorem exec_winterEntry_some {e : Entry} (h : s.chip.field.power.pendWinter = some e) :
    exec .winterEntry s = .next (s.onField fun f => f.enterWinter e) := by
  change execWinterEntry s = _
  simp [execWinterEntry, State.onField, h]

end ResetSteps

/-- Settles O11: each reset by the start that it makes of its sides, and entry to WINTER by what it leaves of the field side. -/
theorem resetsRecordTheirCause : Obligations.ResetsRecordTheirCause := by
  refine ⟨?hrstNAssert, ?hostWatchdog, ?hpcLockstepMismatch, ?hRegionReset, ?chipReset, ?fieldReset, ?winterEntry⟩
  case hrstNAssert =>
    intro s
    exact ⟨_, rfl, regionWasReset_regionReset s 3 1, rfl⟩
  case hostWatchdog =>
    intro s
    exact ⟨_, rfl, regionWasReset_regionReset_raise s 4 1 0 1, rfl⟩
  case hpcLockstepMismatch =>
    intro s
    exact ⟨_, rfl, regionWasReset_regionReset_raise s 5 1 1 1, rfl⟩
  case hRegionReset =>
    intro s
    cases hr : s.chip.host.resetIn with
    | none => exact ⟨s, exec_hRegionReset_none hr, fun h => by simp at h, fun _ => rfl⟩
    | some n => exact ⟨_, exec_hRegionReset_some hr, fun _ => ⟨regionWasReset_regionReset s 6 1, rfl⟩, fun h => by simp at h⟩
  case chipReset =>
    intro s
    cases hc : s.chip.field.chipCause with
    | none => exact ⟨s, exec_chipReset_none hc, fun _ => rfl, fun c h => by simp at h⟩
    | some c =>
      refine ⟨_, exec_chipReset_some hc, fun h => by simp at h, fun c' h => ?_⟩
      obtain rfl := Option.some.inj h
      exact ⟨fieldStarted_fieldStart s true _, rfl, rfl, rfl, rfl, rfl, rfl⟩
  case fieldReset =>
    intro s
    cases hd : s.chip.field.fieldResetDue with
    | false => exact ⟨s, exec_fieldReset_not hd, fun _ => rfl, fun h => by simp at h⟩
    | true => exact ⟨_, exec_fieldReset_due hd, fun h => by simp at h, fun _ => ⟨fieldStarted_fieldStart s false id, rfl, rfl⟩⟩
  case winterEntry =>
    intro s
    cases hp : s.chip.field.power.pendWinter with
    | none => exact ⟨s, exec_winterEntry_none hp, rfl, fun _ => rfl, fun e h => by simp at h⟩
    | some e =>
      refine ⟨_, exec_winterEntry_some hp, rfl, fun h => by simp at h, fun _ _ => ?_⟩
      obtain ⟨hpower, htick, hslot, hbranch, hvolt, hact, hstep, htwinned⟩ :=
        FieldDie.of_bare_eq (FieldDie.bare_enterWinter s.chip.field e)
      simp only [State.onField_field, hbranch, hvolt, hslot, htick]
      exact ⟨congrArg (·.winter) hpower, congrArg (·.pendWinter) hpower, congrArg (·.pendReset) hpower, hact, hstep, htwinned,
        FieldDie.driving_of_activeN_false hact, FieldDie.quietLines_quiet _, rfl, rfl, fun x hx => FieldDie.winterOk_of_mem_winterKept hx⟩

end Machine

end Sys2Proof

/-! Proofs of the statements of 04_measurement.md. The rules of the volt block, the calibration and the line inputs first, then each event by the
branch of its meaning that runs, and the two statements from these. -/

namespace Sys2Proof

theorem Tab.get_set_self {α : Type} {n : Nat} (t : Tab α n) (i : Fin n) (a : α) : (t.set i a).get i = a := by
  simp [Tab.set, Tab.get]

/-- A path's comparator output stands high (R111). -/
def Volt.cmpHigh (o : Volt) (b : Bool) : Volt := if b then { o with bCmp := true } else { o with aCmp := true }

namespace Volt

variable (o : Volt) (b : Bool)

@[simp] theorem cmpHigh_cmp : (if b then (o.cmpHigh b).bCmp else (o.cmpHigh b).aCmp) = true := by cases b <;> rfl
@[simp] theorem cmpHigh_stopLatched : (o.cmpHigh b).stopLatched = o.stopLatched := by cases b <;> rfl
@[simp] theorem cmpHigh_stopCnt : (o.cmpHigh b).stopCnt = o.stopCnt := by cases b <;> rfl

end Volt

namespace LineZc

variable {z : LineZc} {stamp tb l p : Nat}

theorem edge_first (h : z.lastEdge = none) : z.edge stamp tb = { z with lastEdge := some stamp } := by
  simp [edge, h]

/-- An edge within 5 ms of the last one is ignored (R123). -/
theorem edge_bounce (h : z.lastEdge = some l) (hp : p = (stamp + 2 ^ 32 - l) % 2 ^ 32) (hlt : p < 500000) : z.edge stamp tb = z := by
  subst hp
  simp only [edge, h, if_pos hlt]

theorem edge_accepted (h : z.lastEdge = some l) (hp : p = (stamp + 2 ^ 32 - l) % 2 ^ 32) (hlo : 1428572 ≤ p) (hhi : p ≤ 2500000) :
    z.edge stamp tb = { z with lastEdge := some stamp, valid := true, freq := (roundDiv 100000000000 p).toNat, since := tb } := by
  have hge : ¬ p < 500000 := by omega
  subst hp
  simp only [edge, h, if_neg hge, if_pos (And.intro hlo hhi)]

/-- A period that no line has gives no frequency, and the edge starts the next one (R123). -/
theorem edge_rejected (h : z.lastEdge = some l) (hp : p = (stamp + 2 ^ 32 - l) % 2 ^ 32) (hge : 500000 ≤ p)
    (hout : p < 1428572 ∨ 2500000 < p) : z.edge stamp tb = { z with lastEdge := some stamp } := by
  have hno : ¬ (1428572 ≤ p ∧ p ≤ 2500000) := by omega
  subst hp
  simp only [edge, h, if_neg (Nat.not_lt.mpr hge), if_neg hno]

end LineZc

namespace FieldDie

variable {f : FieldDie} {q k i : Nat}

theorem shelfStop_volt (f : FieldDie) (n : Nat) :
    (f.shelfStop n).volt = { f.volt with shelfStop := true, stopLatched := true, stopCnt := satN 16 (f.volt.stopCnt + 1) } := rfl

theorem shelfStop_arisen (f : FieldDie) (n : Nat) :
    (f.shelfStop n).fcol.arisen = f.fcol.arisen ++ [{ tb := f.tick.tb, fine := f.tick.fine, src := 47, code := 1, value := n }] := rfl

theorem analogLost_dom (f : FieldDie) (high : Bool) :
    (f.analogLost high).power.dom = f.power.dom.modifyNat (if high then 5 else 2) (fun _ => .off) := by
  simp only [analogLost]
  split <;> rfl

theorem analogLost_off (f : FieldDie) (high : Bool) : (f.analogLost high).power.dom.getD (if high then 5 else 2) .good = .off := by
  have hdom : (if high then 5 else 2) < 8 := by cases high <;> decide
  rw [analogLost_dom, Tab.getD_modifyNat_self _ _ _ _ hdom]

theorem analogLost_disarmed {high : Bool} (h : f.volt.ovLimit = 0) : (f.analogLost high).volt = f.volt := by
  simp [analogLost, h]

/-- Path A is served by the domain of its quadrant: F_ANA23 from sense 8 on (R109, R114). -/
theorem servesPath_of_aSense {high : Bool} (hv : f.volt.aValid = true) (hs : decide (8 ≤ f.volt.aSense) = high) :
    f.servesPath high = true := by
  have hq : (2 ≤ f.volt.aSense / 4) ↔ 8 ≤ f.volt.aSense := by omega
  simp [servesPath, hv, hq, hs]

theorem analogLost_armed {high : Bool} (h : f.volt.ovLimit ≠ 0) (hs : f.servesPath high = true) :
    (f.analogLost high).volt = (f.shelfStop (2 + bit high)).volt ∧
    (f.analogLost high).fcol = (f.shelfStop (2 + bit high)).fcol := by
  simp only [analogLost, if_pos (And.intro h hs)]
  exact ⟨rfl, rfl⟩

theorem clearStop_allowed (hl : f.volt.stopLatched = true) (ha : f.volt.aCmp = false) (hb : f.volt.bCmp = false) (hu : f.bothBelow = true) :
    f.clearStop = { f with volt := { f.volt with stopLatched := false, shelfStop := false } } := by
  simp [clearStop, hl, ha, hb, hu]

theorem clearStop_refused (h : f.volt.aCmp = true ∨ f.volt.bCmp = true ∨ f.bothBelow = false) : f.clearStop = f := by
  rcases h with h | h | h <;> simp [clearStop, h]

theorem writeOvLimit_allowed {v : Variant} {n : Nat} (hl : f.volt.ovLock = false) (hok : f.ovLimitOk v n = true) :
    f.writeOvLimit v n false = { f with volt := { f.volt with ovLimit := n } } := by
  simp [writeOvLimit, hl, hok]

theorem writeOvLimit_refused {v : Variant} {n : Nat} (h : f.volt.ovLock = true ∨ f.ovLimitOk v n = false) :
    f.writeOvLimit v n false = f := by
  rcases h with h | h <;> simp [writeOvLimit, h]

@[simp] theorem qd_raiseQ (f : FieldDie) (p x code n : Nat) : (f.raiseQ p x code n).qd q = f.qd q := rfl

theorem meas_modMeas_self (f : FieldDie) (g : MeasQ → MeasQ) (hq : q < 4) : ((f.modMeas q g).qd q).meas = g (f.qd q).meas :=
  congrArg Quad.meas (qd_modQd_self f q _ hq)

theorem chan_modChan_self (f : FieldDie) (c : Nat) (g : Chan → Chan) (hq : q < 4) (hc : c < 16) :
    (f.modChan q c g).chan q c = g (f.chan q c) :=
  (congrArg (fun m => m.ch.getD c {}) (meas_modMeas_self f _ hq)).trans (Tab.getD_modifyNat_self _ _ _ _ hc)

theorem cal_modCal_self (f : FieldDie) (g : CalSpare → CalSpare) (hq : q < 4) (hk : k < 2) :
    ((f.modCal q k g).qd q).meas.cal.getD k {} = g ((f.qd q).meas.cal.getD k {}) :=
  (congrArg (fun m => m.cal.getD k {}) (meas_modMeas_self f _ hq)).trans (Tab.getD_modifyNat_self _ _ _ _ hk)

theorem cells_modCal (f : FieldDie) (g : CalSpare → CalSpare) (hq : q < 4) :
    ((f.modCal q k g).qd q).meas.cells = (f.qd q).meas.cells :=
  (congrArg MeasQ.cells (meas_modMeas_self f _ hq)).trans rfl

theorem chan_modCal (f : FieldDie) (g : CalSpare → CalSpare) (c : Nat) (hq : q < 4) : (f.modCal q k g).chan q c = f.chan q c :=
  congrArg (fun m => m.ch.getD c {}) (meas_modMeas_self f _ hq)

theorem cell_acceptCal_self (f : FieldDie) (gain : Nat) (off : Int) (hq : q < 4) (hi : i < 18) :
    ((f.acceptCal q i gain off).qd q).meas.cells.getD i {} =
      { (f.qd q).meas.cells.getD i {} with gain := gain, offset := off, lastGain := gain, lastOffset := off, calibrated := true } :=
  (congrArg (fun m => m.cells.getD i {}) (meas_modMeas_self f _ hq)).trans (Tab.getD_modifyNat_self _ _ _ _ hi)

section CalibrationStages

variable {r : CalResult} {x : CalSpare} (hx : (f.qd q).meas.cal.getD k {} = x)
include hx

/-- A spare in permanent use, or failed, has no stages. -/
theorem calStageEnd_of_done (hs : 4 ≤ x.state) : f.calStageEnd q k r = f := by
  simp only [calStageEnd, hx, if_pos hs]

/-- The spare has settled on its channel and carries it from here on (R115). -/
theorem calStageEnd_settled (hs : x.state = 1) (hg : x.stage = 0) :
    f.calStageEnd q k r =
      (f.modChan q x.ch (fun c => { c with cell := 0x80 + k })).modCal q k (fun y => { y with state := 2, stage := 1 }) := by
  simp [calStageEnd, hx, hs, hg]

theorem calStageEnd_offset (hs : x.state = 2) (hg : x.stage = 1) :
    f.calStageEnd q k r = f.modCal q k (fun y => { y with stage := 2, newOff := r.offset }) := by
  simp [calStageEnd, hx, hs, hg]

/-- The reference stage stores the coefficients that its judgement accepts, and reports a step of them (R116). -/
theorem calStageEnd_accept {step : Bool} (hs : x.state = 2) (hg : x.stage = 2)
    (hj : judgeCal q (cellRow x.own) ((f.qd q).meas.cells.getD (cellRow x.own) {}) x.first r.gain x.newOff = .accept step) :
    f.calStageEnd q k r =
      (let g := f.acceptCal q (cellRow x.own) r.gain x.newOff
       if step then g.raiseQ q 7 1 x.ch else g).modCal q k (fun y => { y with stage := 3, first := none }) := by
  simp [calStageEnd, hx, hs, hg, hj]

theorem calStageEnd_again (hs : x.state = 2) (hg : x.stage = 2)
    (hj : judgeCal q (cellRow x.own) ((f.qd q).meas.cells.getD (cellRow x.own) {}) x.first r.gain x.newOff = .again) :
    f.calStageEnd q k r = f.modCal q k (fun y => { y with stage := 1, first := some (r.gain, x.newOff) }) := by
  simp [calStageEnd, hx, hs, hg, hj]

end CalibrationStages

end FieldDie

namespace Machine

/-- An event that changes nothing of the field side. -/
theorem State.onField_eq_self {g : FieldDie → FieldDie} {s : State} (h : g s.chip.field = s.chip.field) : s.onField g = s := by
  simp only [State.onField, h]

section OvervoltageEvents

variable {s : State}

theorem exec_ovComparatorTrip_armed {b : Bool} (h0 : s.chip.field.volt.ovLimit ≠ 0) (hg : s.chip.field.volt.gate ≠ some (bit b)) :
    exec (.ovComparatorTrip b) s =
      .next (s.onField fun f => { f with volt := f.volt.cmpHigh b }.shelfStop (bit b)) := by
  change execOvComparatorTrip b s = _
  cases b <;> simp [execOvComparatorTrip, State.onField, Volt.cmpHigh, h0, hg]

/-- A path that is disarmed, or under its self-test, shows its comparator and does no more (R111, R112). -/
theorem exec_ovComparatorTrip_mute {b : Bool} (h : s.chip.field.volt.ovLimit = 0 ∨ s.chip.field.volt.gate = some (bit b)) :
    exec (.ovComparatorTrip b) s = .next (s.onField fun f => { f with volt := f.volt.cmpHigh b }) := by
  change execOvComparatorTrip b s = _
  cases b <;> simp [execOvComparatorTrip, State.onField, Volt.cmpHigh, h]

theorem exec_ovSelftestGateEnd_none {pass : Bool} (h : s.chip.field.volt.gate = none) : exec (.ovSelftestGateEnd pass) s = .next s := by
  change execOvSelftestGateEnd pass s = _
  simp [execOvSelftestGateEnd, State.onField, h]

theorem exec_ovSelftestGateEnd_some {pass : Bool} {g j : Nat} (h : s.chip.field.volt.gate = some g)
    (hj : (if g = 1 then s.chip.field.volt.bSense else s.chip.field.volt.aSense) = j) :
    exec (.ovSelftestGateEnd pass) s = .next (s.onField fun f =>
      { f with volt := { f.volt with gate := none } }.modChan (j / 4) (8 + j % 4) (fun x => { x with cmpPass := pass })) := by
  change execOvSelftestGateEnd pass s = _
  simp [execOvSelftestGateEnd, State.onField, h, hj]

/-- The comparator's result lands on the channel of the sense that the path under test uses (R112). -/
theorem chan_selftested (f : FieldDie) (pass : Bool) {j : Nat} (hj : j < 16) :
    ((f.modChan (j / 4) (8 + j % 4) (fun x => { x with cmpPass := pass })).chan (j / 4) (8 + j % 4)).cmpPass = pass := by
  rw [FieldDie.chan_modChan_self f _ _ (by omega) (by omega)]

end OvervoltageEvents

/-- Settles O31: each event of the overvoltage paths by the branch that runs, with what an assertion of SHELF_STOP_N leaves. -/
theorem overvoltageTripsStopTheShelf : Obligations.OvervoltageTripsStopTheShelf := by
  refine ⟨?trip, ?loss, ?back, ?selftest, ?gateEnd, ?clear, ?limit⟩
  case trip =>
    intro b s
    by_cases h : s.chip.field.volt.ovLimit = 0 ∨ s.chip.field.volt.gate = some (bit b)
    · refine ⟨_, exec_ovComparatorTrip_mute h, rfl, Volt.cmpHigh_cmp _ _, fun h0 hg => (h.elim h0 hg).elim, fun _ => ?_⟩
      exact ⟨Volt.cmpHigh_stopLatched _ _, rfl⟩
    · obtain ⟨h0, hg⟩ := not_or.mp h
      refine ⟨_, exec_ovComparatorTrip_armed h0 hg, rfl, Volt.cmpHigh_cmp _ _, fun _ _ => ?_, fun hm => (h hm).elim⟩
      exact ⟨rfl, rfl, by simp [FieldDie.shelfStop_volt], rfl⟩
  case loss =>
    intro b s
    refine ⟨_, rfl, rfl, FieldDie.analogLost_off _ b, FieldDie.analogLost_disarmed, fun h0 hv hs => ?_⟩
    obtain ⟨hvolt, hcol⟩ := FieldDie.analogLost_armed h0 (FieldDie.servesPath_of_aSense hv hs)
    exact ⟨congrArg Volt.stopLatched hvolt, congrArg (·.arisen) hcol⟩
  case back =>
    intro b s
    have hdom : (if b then 5 else 2) < 8 := by cases b <;> decide
    have hbit : bit b < 2 := by cases b <;> decide
    exact ⟨_, rfl, rfl, Tab.getD_modifyNat_self _ _ _ _ hdom, Tab.getD_modifyNat_self _ _ _ _ hbit, rfl⟩
  case selftest =>
    intro s
    refine ⟨_, rfl, rfl, fun h => ?_, fun h => ?_, fun ha hb => State.onField_eq_self ?_⟩
    · simp [h]
    · simp [h]
    · simp [ha, hb]
  case gateEnd =>
    intro pass s
    cases hg : s.chip.field.volt.gate with
    | none => exact ⟨s, exec_ovSelftestGateEnd_none hg, rfl, fun _ => rfl, fun h => by simp at h, fun h => by simp at h⟩
    | some g =>
      refine ⟨_, exec_ovSelftestGateEnd_some hg rfl, rfl, fun h => by simp at h, fun h => ?_, fun h => ?_⟩
      · obtain rfl := Option.some.inj h
        exact ⟨rfl, chan_selftested _ pass⟩
      · obtain rfl := Option.some.inj h
        exact ⟨rfl, chan_selftested _ pass⟩
  case clear =>
    intro s
    refine ⟨_, rfl, rfl, fun hl ha hb hu => ?_, fun h => State.onField_eq_self (FieldDie.clearStop_refused h)⟩
    exact congrArg FieldDie.volt (FieldDie.clearStop_allowed hl ha hb hu)
  case limit =>
    intro w s
    exact ⟨_, rfl, rfl, fun hl hok => FieldDie.writeOvLimit_allowed hl hok,
      fun h => State.onField_eq_self (FieldDie.writeOvLimit_refused h)⟩

section CalibrationEvents

variable {q : Fin 4} {k : Fin 2} {r : CalResult} {s : State}

theorem exec_calStageEnd_absent (h : s.chip.variant.quads ≤ q.val) : exec (.calStageEnd q k r) s = .next s := by
  change execCalStageEnd q k r s = _
  simp [execCalStageEnd, Nat.not_lt.mpr h]

theorem exec_calStageEnd_present (h : q.val < s.chip.variant.quads) :
    exec (.calStageEnd q k r) s = .next (s.onField fun f => f.calStageEnd q k r) := by
  change execCalStageEnd q k r s = _
  simp [execCalStageEnd, h]

end CalibrationEvents

/-- The Q0 timers' capture of an edge of a line input, with the vector that it raises (21 R528). -/
def zcCaptured (i : Fin 2) (stamp : Nat) (f : FieldDie) : FieldDie :=
  let c := (f.qd 0).ftim.capture (2 + i.val) true stamp
  let g := f.modQd 0 (fun x => { x with ftim := c.1 })
  if c.2 then { g with bar := { g.bar with timerVec := true } } else g

section LineEvents

variable {i : Fin 2} {n : Nat} {f : FieldDie} {s : State}

theorem zcCaptured_qd : (zcCaptured i n f).qd 0 = { f.qd 0 with ftim := ((f.qd 0).ftim.capture (2 + i.val) true n).1 } := by
  simp only [zcCaptured]
  split <;> exact f.qd_modQd_self 0 _ (by decide)

@[simp] theorem zcCaptured_volt : (zcCaptured i n f).volt = f.volt := by
  simp only [zcCaptured]
  split <;> rfl

@[simp] theorem zcCaptured_tick : (zcCaptured i n f).tick = f.tick := by
  simp only [zcCaptured]
  split <;> rfl

@[simp] theorem zcCaptured_power : (zcCaptured i n f).power = f.power := by
  simp only [zcCaptured]
  split <;> rfl

@[simp] theorem zcCaptured_running : (zcCaptured i n f).running = f.running := by simp [FieldDie.running]

@[simp] theorem zcCaptured_qcUp : (zcCaptured i n f).qcUp 0 = f.qcUp 0 := by simp [FieldDie.qcUp, zcCaptured_qd]

theorem exec_lineZcEdge : exec (.lineZcEdge i n) s = .next (s.onField fun f =>
    let g := zcCaptured i (n % 2 ^ 32) f
    if ¬ g.running ∨ ¬ g.qcUp 0 then g
    else { g with volt := { g.volt with zc := g.volt.zc.set i ((g.volt.zc.get i).edge (n % 2 ^ 32) g.tick.tb) } }) := rfl

/-- With no Q0 controller to judge the edge, the timers alone see it. -/
theorem exec_lineZcEdge_down (h : s.chip.field.running = false ∨ s.chip.field.qcUp 0 = false) :
    exec (.lineZcEdge i n) s = .next (s.onField (zcCaptured i (n % 2 ^ 32))) := by
  rw [exec_lineZcEdge]
  rcases h with h | h <;> simp [State.onField, h]

theorem exec_lineZcEdge_up (hr : s.chip.field.running = true) (hq : s.chip.field.qcUp 0 = true) :
    exec (.lineZcEdge i n) s = .next (s.onField fun f => { zcCaptured i (n % 2 ^ 32) f with
      volt := { f.volt with zc := f.volt.zc.set i ((f.volt.zc.get i).edge (n % 2 ^ 32) f.tick.tb) } }) := by
  rw [exec_lineZcEdge]
  simp [State.onField, hr, hq]

theorem exec_lineZcLost_due (hv : (s.chip.field.volt.zc.get i).valid = true)
    (ht : 2000 ≤ s.chip.field.tick.tb - (s.chip.field.volt.zc.get i).since) :
    exec (.lineZcLost i) s = .next (s.onField fun f =>
      { f with volt := { f.volt with zc := f.volt.zc.set i { f.volt.zc.get i with valid := false } } }.raiseQ 0 10 2 i) := by
  change execLineZcLost i s = _
  simp [execLineZcLost, State.onField, hv, ht]

theorem exec_lineZcLost_not (h : (s.chip.field.volt.zc.get i).valid = false ∨
    s.chip.field.tick.tb - (s.chip.field.volt.zc.get i).since < 2000) : exec (.lineZcLost i) s = .next s := by
  have hno : ¬ ((s.chip.field.volt.zc.get i).valid = true ∧ 2000 ≤ s.chip.field.tick.tb - (s.chip.field.volt.zc.get i).since) := by
    rintro ⟨hv, ht⟩
    rcases h with h | h
    · exact Bool.noConfusion (hv.symm.trans h)
    · omega
  change execLineZcLost i s = _
  simp only [execLineZcLost, State.onField, if_neg hno]

end LineEvents

section FanEvents

variable {q : Fin 4} {s : State}

theorem exec_fanControl_disabled (h0 : (s.chip.field.fans.getD (2 * q.val) {}).en = false)
    (h1 : (s.chip.field.fans.getD (2 * q.val + 1) {}).en = false) : exec (.fanControl q) s = .next s := by
  change execFanControl q s = _
  simp [execFanControl, State.onField, List.range_succ, h0, h1]

/-- The first fan of a quadrant alone, with no valid temperature: its output follows a duty of 100 % (21 R527). -/
theorem exec_fanControl_full (hq : q.val < s.chip.variant.quads) (h0 : (s.chip.field.fans.getD (2 * q.val) {}).en = true)
    (h1 : (s.chip.field.fans.getD (2 * q.val + 1) {}).en = false) (ht : (s.chip.field.qd q).meas.hottest = none) :
    exec (.fanControl q) s = .next (s.onField fun f => f.modQd q (fun x => { x with ftim := x.ftim.mod 0 (fun c =>
      c.setCmp 0 (((c.cmp.getD 3 0 + 1) * 0x10000 + 0x8000) / 0x10000)) })) := by
  change execFanControl q s = _
  simp [execFanControl, State.onField, List.range_succ, Nat.not_le.mpr hq, h0, h1, ht]

end FanEvents

/-- Settles O32: a stage of a calibration by its equation, an edge of a line input by its period, and the fan without a temperature. -/
theorem calibrationLinesAndFans : Obligations.CalibrationLinesAndFans := by
  refine ⟨?stage, ?zcEdge, ?zcLost, ?fan⟩
  case stage =>
    intro q k r s
    rcases Nat.lt_or_ge q.val s.chip.variant.quads with hq | hq
    · have h4 := q.isLt
      have hk := k.isLt
      refine ⟨_, exec_calStageEnd_present hq, rfl, fun h => absurd hq (Nat.not_lt.mpr h), fun _ hs => ?_, fun _ hs hg hc => ?_,
        fun _ hs hg => ?_, fun _ hs hg => ?_⟩
      · exact State.onField_eq_self (FieldDie.calStageEnd_of_done rfl hs)
      · simp only [State.onField_field, FieldDie.calStageEnd_settled rfl hs hg]
        rw [FieldDie.cal_modCal_self _ _ h4 hk, FieldDie.chan_modCal _ _ _ h4, FieldDie.chan_modChan_self _ _ _ h4 hc]
        exact ⟨rfl, rfl, rfl⟩
      · simp only [State.onField_field, FieldDie.calStageEnd_offset rfl hs hg]
        rw [FieldDie.cal_modCal_self _ _ h4 hk]
        exact ⟨rfl, rfl⟩
      · rintro x i hx rfl hi
        rw [hx] at hs hg
        refine ⟨fun step hj => ?_, fun hj => FieldDie.calStageEnd_again hx hs hg hj⟩
        simp only [State.onField_field, FieldDie.calStageEnd_accept hx hs hg hj]
        rw [FieldDie.cal_modCal_self _ _ h4 hk, FieldDie.cells_modCal _ _ h4]
        refine ⟨rfl, ?_⟩
        split
        · rw [FieldDie.qd_raiseQ, FieldDie.cell_acceptCal_self _ _ _ h4 hi]
        · exact FieldDie.cell_acceptCal_self _ _ _ h4 hi
    · have hno := Nat.not_lt.mpr hq
      exact ⟨s, exec_calStageEnd_absent hq, rfl, fun _ => rfl, fun h => absurd h hno, fun h => absurd h hno, fun h => absurd h hno,
        fun h => absurd h hno⟩
  case zcEdge =>
    intro i n s
    by_cases hdown : s.chip.field.running = false ∨ s.chip.field.qcUp 0 = false
    · have hup : ¬ (s.chip.field.running = true ∧ s.chip.field.qcUp 0 = true) := fun ⟨hr, hq⟩ => by simp [hr, hq] at hdown
      exact ⟨_, exec_lineZcEdge_down hdown, rfl, congrArg Quad.ftim zcCaptured_qd, fun _ => zcCaptured_volt,
        fun hr hq => absurd ⟨hr, hq⟩ hup, fun _ _ hr hq => absurd ⟨hr, hq⟩ hup⟩
    · obtain ⟨hr, hq⟩ : s.chip.field.running = true ∧ s.chip.field.qcUp 0 = true := by simpa using hdown
      have hget : ∀ z, (s.chip.field.volt.zc.set i z).get i = z := Tab.get_set_self _ i
      refine ⟨_, exec_lineZcEdge_up hr hq, rfl, congrArg Quad.ftim zcCaptured_qd, fun h => absurd h hdown, fun _ _ hfirst => ?_,
        fun l p _ _ hl hp => ⟨fun hlt => ?_, fun hlo hhi => ?_, fun hge hout => ?_⟩⟩
      · exact (hget _).trans (LineZc.edge_first hfirst)
      · exact (hget _).trans (LineZc.edge_bounce hl hp hlt)
      · have hz := (hget _).trans (LineZc.edge_accepted (tb := s.chip.field.tick.tb) hl hp hlo hhi)
        exact ⟨congrArg LineZc.valid hz, congrArg LineZc.freq hz, congrArg LineZc.since hz, congrArg LineZc.lastEdge hz⟩
      · exact (hget _).trans (LineZc.edge_rejected hl hp hge hout)
  case zcLost =>
    intro i s
    by_cases h : (s.chip.field.volt.zc.get i).valid = false ∨ s.chip.field.tick.tb - (s.chip.field.volt.zc.get i).since < 2000
    · refine ⟨s, exec_lineZcLost_not h, rfl, fun hv ht => ?_, fun _ => rfl⟩
      simp [hv, Nat.not_lt.mpr ht] at h
    · obtain ⟨hv, ht⟩ : (s.chip.field.volt.zc.get i).valid = true ∧
          2000 ≤ s.chip.field.tick.tb - (s.chip.field.volt.zc.get i).since := by simpa using h
      exact ⟨_, exec_lineZcLost_due hv ht, rfl, fun _ _ => ⟨congrArg LineZc.valid (Tab.get_set_self _ i _), rfl⟩, fun hn => absurd hn h⟩
  case fan =>
    intro q s
    exact ⟨_, rfl, rfl, fun h0 h1 => Host.Outcome.next.inj (exec_fanControl_disabled h0 h1),
      fun hq h0 h1 ht => congrArg (·.chip.field) (Host.Outcome.next.inj (exec_fanControl_full hq h0 h1 ht))⟩

end Machine

end Sys2Proof

/-! Proofs of the statements of 05_tick_bus.md. What the updates of a slot and of a bus leave first, then an uplink by the branch of R146 and R147
that it takes, each event by its condition, and the statement from these. -/

namespace Sys2Proof

/-- The counters of SLOT_ERR read 0 after their read (R149). -/
theorem SlotBus.errWord_clearErr (b : SlotBus) : b.clearErr.errWord = 0 := by
  simp [SlotBus.clearErr, SlotBus.errWord, pack]

namespace FieldDie

variable {f : FieldDie} {k j n c p : Nat} {fr : UplinkFrame}

/-- The counters of BUS_CNT read 0 after their read (R149). -/
theorem busCnt_clearBusCnt (b : TBus) : busCnt (clearBusCnt b) = 0 := by
  simp [clearBusCnt, busCnt, pack]

@[simp] theorem sl_raiseQ (f : FieldDie) (q src code x j : Nat) : (f.raiseQ q src code x).sl j = f.sl j := rfl
@[simp] theorem tbus_raiseQ (f : FieldDie) (q src code x n : Nat) : (f.raiseQ q src code x).tbus n = f.tbus n := rfl
@[simp] theorem sl_atCycle (f : FieldDie) (c j : Nat) : (f.atCycle c).sl j = f.sl j := rfl
@[simp] theorem tbus_atCycle (f : FieldDie) (c n : Nat) : (f.atCycle c).tbus n = f.tbus n := rfl
@[simp] theorem isStandby_atCycle (f : FieldDie) (c : Nat) : (f.atCycle c).isStandby = f.isStandby := rfl
@[simp] theorem driving_atCycle (f : FieldDie) (c : Nat) : (f.atCycle c).driving = f.driving := rfl

theorem tbus_modBus_self (f : FieldDie) (g : TBus → TBus) (hn : n < 8) : (f.modBus n g).tbus n = g (f.tbus n) :=
  (congrArg (fun q => q.tbe.bus.getD (n % 2) {}) (qd_modQd_self f (n / 2) _ (by omega))).trans
    (Tab.getD_modifyNat_self _ _ _ _ (by omega))

/-- A failed check adds to its own counter: MISS_RUN and the delivered values stay (R146). -/
theorem bus_uplinkCount (hk : k < 96) :
    ((f.uplinkCount k c).sl k).bus.missRun = (f.sl k).bus.missRun ∧ ((f.uplinkCount k c).sl k).bus.iout = (f.sl k).bus.iout := by
  rw [uplinkCount, sl_modSl_self _ _ _ hk]
  dsimp only
  split <;> exact ⟨rfl, rfl⟩

/-- Holding a failed uplink changes the slot, whether or not UPLINK_ERR is raised for its bus (R147). -/
theorem sl_uplinkHeld : (f.uplinkHeld k).sl j = (f.modSl k (fun s => { s with bus := s.bus.fail })).sl j := by
  simp only [uplinkHeld]
  split <;> rfl

theorem bus_uplinkFail (hk : k < 96) : ((f.uplinkFail k c).sl k).bus = ((f.uplinkCount k c).sl k).bus.fail := by
  rw [uplinkFail, sl_uplinkHeld, sl_modSl_self _ _ _ hk]

theorem sl_uplinkFail_ne (h : j ≠ k) : (f.uplinkFail k c).sl j = f.sl j := by
  rw [uplinkFail, sl_uplinkHeld, sl_modSl_ne _ _ _ _ h, uplinkCount, sl_modSl_ne _ _ _ _ h]

theorem bus_uplinkGood (hk : k < 96) :
    ((f.uplinkGood k p).sl k).bus = (f.sl k).bus.deliver (f.sl k).ctx.iLsb (f.sl k).ctx.vLsb p := by
  rw [uplinkGood, sl_modSl_self _ _ _ hk]

/-- UPLINK_LOST of a slot, reported to FCOL (R147). -/
def reportLost (f : FieldDie) (k : Nat) : FieldDie :=
  (f.modSl k (fun x => { x with bus := { x.bus with lost := true } })).raiseQ (slotQuad k) 12 1 k

theorem bus_reportLost (hk : k < 96) : ((f.reportLost k).sl k).bus = { (f.sl k).bus with lost := true } := by
  rw [reportLost, sl_raiseQ, sl_modSl_self _ _ _ hk]

theorem arisen_reportLost (f : FieldDie) (k : Nat) : (f.reportLost k).fcol.arisen =
    f.fcol.arisen ++ [{ tb := f.tick.tb, fine := f.tick.fine, src := qSrc (slotQuad k) 12, code := 1, value := k }] := rfl

section UplinkFrames

theorem uplinkFrame_stopped (h : f.running = false) : f.uplinkFrame k fr = f := by simp [uplinkFrame, h]

variable (hr : f.running = true)
include hr

/-- A module that is no member is heard by a driving device alone (11 R296). -/
theorem uplinkFrame_silent (hm : (f.sl k).ctx.member = false) (hd : f.driving = false) :
    f.uplinkFrame k fr = f.atCycle (559 + 480 * (k % 12)) := by
  simp [uplinkFrame, hr, hm, hd]

variable (hm : (f.sl k).ctx.member = true)
include hm

/-- A standby keeps a good payload for the comparison with what the active device forwards (R151). -/
theorem uplinkFrame_heard (hs : f.isStandby = true) (hc : fr.check (k % 12) (f.sl k).sess.epoch = none) :
    f.uplinkFrame k fr = (f.atCycle (559 + 480 * (k % 12))).modSl k
      (fun s => { s with bus := { s.bus with heard := some fr.payload.toNat, judged := true } }) := by
  simp [uplinkFrame, uplinkMember, hr, hm, hs, hc]

variable (hs : f.isStandby = false)
include hs

/-- In a tick without a mark the last payload is used and nothing counts (R147). -/
theorem uplinkFrame_unmarked (hmark : (f.tbus (slotBus k)).markSent = false) :
    f.uplinkFrame k fr = (f.atCycle (559 + 480 * (k % 12))).modSl k (fun s => { s with bus := s.bus.hold }) := by
  simp [uplinkFrame, uplinkMember, hr, hm, hs, hmark]

variable (hmark : (f.tbus (slotBus k)).markSent = true)
include hmark

theorem uplinkFrame_good (hc : fr.check (k % 12) (f.sl k).sess.epoch = none) :
    f.uplinkFrame k fr = (f.atCycle (559 + 480 * (k % 12))).uplinkGood k fr.payload.toNat := by
  simp [uplinkFrame, uplinkMember, hr, hm, hs, hmark, hc]

theorem uplinkFrame_bad (hc : fr.check (k % 12) (f.sl k).sess.epoch = some c) :
    f.uplinkFrame k fr = (f.atCycle (559 + 480 * (k % 12))).uplinkFail k c := by
  simp [uplinkFrame, uplinkMember, hr, hm, hs, hmark, hc]

end UplinkFrames

end FieldDie

namespace Machine

section UplinkEvents

variable {k : Fin 96} {fr : UplinkFrame} {s : State}

theorem exec_uplinkFrameRx_present (h : k.val < s.chip.variant.slots) :
    exec (.uplinkFrameRx k fr) s = .next (s.onField fun f => f.uplinkFrame k fr) :=
  congrArg Host.Outcome.next (State.onSlot_present h)

theorem exec_uplinkFrameRx_absent (h : s.chip.variant.slots ≤ k.val) : exec (.uplinkFrameRx k fr) s = .next s :=
  congrArg Host.Outcome.next (State.onSlot_absent h)

/-- Eight misses in a row, on a member that is not yet reported lost (R147). -/
def uplinkLossDue (s : State) (k : Nat) : Prop :=
  (s.chip.field.sl k).ctx.member = true ∧ 8 ≤ (s.chip.field.sl k).bus.missRun ∧ (s.chip.field.sl k).bus.lost = false

theorem exec_uplinkLost_not (h : k.val < s.chip.variant.slots → ¬ uplinkLossDue s k) : exec (.uplinkLost k) s = .next s := by
  change execUplinkLost k s = _
  rcases Nat.lt_or_ge k.val s.chip.variant.slots with hk | hk
  · have hno := h hk
    rw [execUplinkLost, State.onSlot_present hk]
    exact congrArg Host.Outcome.next (State.onField_eq_self (if_neg (by simpa [uplinkLossDue] using hno)))
  · exact congrArg Host.Outcome.next (State.onSlot_absent hk)

theorem exec_uplinkLost_due (hk : k.val < s.chip.variant.slots) (h : uplinkLossDue s k) :
    exec (.uplinkLost k) s = .next (s.onField fun f =>
      if (f.sl k).ctx.runSent = true ∧ (f.reportLost k).sessLive = true then
        ((f.reportLost k).modSess k (fun x => { x with lostNeed := true })).needStatus k
      else f.reportLost k) := by
  obtain ⟨hm, h8, hl⟩ := h
  change execUplinkLost k s = _
  rw [execUplinkLost, State.onSlot_present hk]
  simp only [State.onField, if_pos (And.intro hm (And.intro h8 (Bool.eq_false_iff.mp hl)))]
  rfl

end UplinkEvents

section BusEvents

variable {n : Fin 8} {s : State}

theorem exec_tbusPadFault_due (he : (s.chip.field.tbus n).echoRun = 40) (hp : (s.chip.field.tbus n).padFault = false) :
    exec (.tbusPadFault n) s = .next (s.onField fun f =>
      (f.modBus n (fun b => { b with padFault := true })).raiseQ (n.val / 2) 14 1 n) := by
  change execTbusPadFault n s = _
  simp [execTbusPadFault, State.onField, he, hp]

theorem exec_tbusPadFault_not (h : (s.chip.field.tbus n).echoRun ≠ 40 ∨ (s.chip.field.tbus n).padFault = true) :
    exec (.tbusPadFault n) s = .next s := by
  change execTbusPadFault n s = _
  rcases h with h | h <;> simp [execTbusPadFault, State.onField, h]

end BusEvents

section CounterReads

variable {n : Fin 8} {k : Fin 96} {s : State}

theorem exec_busCntRead_present (h : n.val < 2 * s.chip.variant.quads) :
    exec (.busCntRead n) s = .next { s with chip := { s.chip with
      field := s.chip.field.modBus n FieldDie.clearBusCnt, readData := [FieldDie.busCnt (s.chip.field.tbus n)] } } := by
  change execBusCntRead n s = _
  rw [execBusCntRead, decide_eq_true h, State.readRc_present]

theorem exec_busCntRead_absent (h : 2 * s.chip.variant.quads ≤ n.val) :
    exec (.busCntRead n) s = .next { s with chip := { s.chip with readData := [0] } } := by
  change execBusCntRead n s = _
  rw [execBusCntRead, decide_eq_false (Nat.not_lt.mpr h), State.readRc_absent]

theorem exec_slotErrRead_present (h : k.val < s.chip.variant.slots) :
    exec (.slotErrRead k) s = .next { s with chip := { s.chip with
      field := s.chip.field.modSl k (fun x => { x with bus := x.bus.clearErr })
      readData := [(s.chip.field.sl k).bus.errWord] } } := by
  change execSlotErrRead k s = _
  rw [execSlotErrRead, decide_eq_true h, State.readRc_present]

theorem exec_slotErrRead_absent (h : s.chip.variant.slots ≤ k.val) :
    exec (.slotErrRead k) s = .next { s with chip := { s.chip with readData := [0] } } := by
  change execSlotErrRead k s = _
  rw [execSlotErrRead, decide_eq_false (Nat.not_lt.mpr h), State.readRc_absent]

end CounterReads

/-- Settles O33: an uplink by the branch that takes it, each event by its condition, and each counter by its read. -/
theorem uplinksAreCheckedAndCounted : Obligations.UplinksAreCheckedAndCounted := by
  refine ⟨?frame, ?lost, ?pad, ?busCnt, ?slotErr⟩
  case frame =>
    intro k fr s
    rcases Nat.lt_or_ge k.val s.chip.variant.slots with hk | hk
    · refine ⟨_, exec_uplinkFrameRx_present hk, rfl, fun h => ?_, fun _ hr hm hs hmark => ⟨fun hc => ?_, fun hc => ?_⟩,
        fun _ hr hm hs hc => ?_, fun _ hr hm hs hmark => ?_, fun _ hr hm hd => FieldDie.uplinkFrame_silent hr hm hd⟩
      · exact State.onField_eq_self (FieldDie.uplinkFrame_stopped (h.resolve_right (Nat.not_le.mpr hk)))
      · rw [State.onField_field, FieldDie.uplinkFrame_good hr hm hs hmark hc,
          FieldDie.bus_uplinkGood k.isLt]
        exact ⟨rfl, rfl, rfl, rfl⟩
      · obtain ⟨c, hc⟩ := Option.ne_none_iff_exists'.mp hc
        rw [State.onField_field, FieldDie.uplinkFrame_bad hr hm hs hmark hc,
          FieldDie.bus_uplinkFail k.isLt]
        obtain ⟨hmiss, hiout⟩ := FieldDie.bus_uplinkCount (f := s.chip.field.atCycle (559 + 480 * (k.val % 12))) (c := c) k.isLt
        exact ⟨rfl, rfl, congrArg (fun m => min 15 (m + 1)) hmiss, hiout, fun j hj => FieldDie.sl_uplinkFail_ne hj⟩
      · rw [State.onField_field, FieldDie.uplinkFrame_heard hr hm hs hc,
          FieldDie.sl_modSl_self _ _ _ k.isLt]
        exact ⟨rfl, fun j hj => FieldDie.sl_modSl_ne _ _ _ _ hj⟩
      · rw [State.onField_field, FieldDie.uplinkFrame_unmarked hr hm hs hmark,
          FieldDie.sl_modSl_self _ _ _ k.isLt]
        rfl
    · have hno := Nat.not_lt.mpr hk
      exact ⟨s, exec_uplinkFrameRx_absent hk, rfl, fun _ => rfl, fun h => absurd h hno, fun h => absurd h hno, fun h => absurd h hno,
        fun h => absurd h hno⟩
  case lost =>
    intro k s
    by_cases h : k.val < s.chip.variant.slots ∧ uplinkLossDue s k
    · obtain ⟨hk, hm, h8, hl⟩ := h
      refine ⟨_, exec_uplinkLost_due hk ⟨hm, h8, hl⟩, rfl, fun hn => absurd hk (Nat.not_lt.mpr hn), fun _ _ _ _ hrun => ?_, fun hn => ?_⟩
      · simp only [State.onField_field, hrun, Bool.false_eq_true, false_and, if_false]
        exact ⟨FieldDie.bus_reportLost k.isLt, FieldDie.arisen_reportLost _ k⟩
      · simp [hm, hl, Nat.not_lt.mpr h8] at hn
    · exact ⟨s, exec_uplinkLost_not fun hk hd => h ⟨hk, hd⟩, rfl, fun _ => rfl, fun hk hm h8 hl => absurd ⟨hk, hm, h8, hl⟩ h, fun _ => rfl⟩
  case pad =>
    intro n s
    by_cases h : (s.chip.field.tbus n).echoRun = 40 ∧ (s.chip.field.tbus n).padFault = false
    · obtain ⟨he, hp⟩ := h
      refine ⟨_, exec_tbusPadFault_due he hp, rfl, fun _ _ => ⟨?_, rfl⟩, fun hn => by simp [he, hp] at hn⟩
      rw [State.onField_field, FieldDie.tbus_raiseQ, FieldDie.tbus_modBus_self _ _ n.isLt]
    · have hno : (s.chip.field.tbus n).echoRun ≠ 40 ∨ (s.chip.field.tbus n).padFault = true := by
        simpa only [Decidable.not_and_iff_not_or_not, Bool.not_eq_false] using h
      exact ⟨s, exec_tbusPadFault_not hno, rfl, fun he hp => absurd ⟨he, hp⟩ h, fun _ => rfl⟩
  case busCnt =>
    intro n s
    rcases Nat.lt_or_ge n.val (2 * s.chip.variant.quads) with hn | hn
    · refine ⟨_, exec_busCntRead_present hn, rfl, fun h => absurd hn (Nat.not_lt.mpr h), fun _ => ⟨rfl, ?_⟩⟩
      rw [FieldDie.tbus_modBus_self _ _ n.isLt, FieldDie.busCnt_clearBusCnt]
    · exact ⟨_, exec_busCntRead_absent hn, rfl, fun _ => ⟨rfl, rfl⟩, fun h => absurd h (Nat.not_lt.mpr hn)⟩
  case slotErr =>
    intro k s
    rcases Nat.lt_or_ge k.val s.chip.variant.slots with hk | hk
    · refine ⟨_, exec_slotErrRead_present hk, rfl, fun h => absurd hk (Nat.not_lt.mpr h), fun _ => ⟨rfl, ?_⟩,
        fun j hj => FieldDie.sl_modSl_ne _ _ _ _ hj⟩
      rw [FieldDie.sl_modSl_self _ _ _ k.isLt, SlotBus.errWord_clearErr]
    · exact ⟨_, exec_slotErrRead_absent hk, rfl, fun _ => ⟨rfl, rfl⟩, fun h => absurd h (Nat.not_lt.mpr hk), fun _ _ => rfl⟩

end Machine

end Sys2Proof

/-! Proofs of the statements of 06_dispatch_and_sharing.md. The fill of a group first, then what a run of the Dispatcher leaves of its counts, the
wear and the weights of a quadrant, and last the Dispatcher's own events and its commands. -/

namespace Sys2Proof

theorem clampI_mem {lo hi : Int} (x : Int) (h : lo ≤ hi) : lo ≤ clampI lo hi x ∧ clampI lo hi x ≤ hi := by
  simp only [clampI]
  omega

namespace UnitLane

/-- A lane at the level that the fill found: pinned units and those of other roles keep their value (R166, R167). -/
def settle (r : Role) (lam : Int) (l : UnitLane) : UnitLane := if l.free r then { l with x := l.level lam } else l

/-- The unit with the largest headroom takes what the level left of the target, as far as its bounds let it (R166). -/
def absorb (j : Nat) (d : Int) (l : UnitLane) : UnitLane :=
  if l.k = j then { l with x := l.x + clampI (l.lo - l.x) (l.hi - l.x) d } else l

/-- A lane after a fill of a role, against the one before it: only x may differ, and only on a unit that the fill moves, inside its bounds. -/
def FilledTo (r : Role) (l m : UnitLane) : Prop :=
  m = { l with x := m.x } ∧ (l.free r = false → m = l) ∧ (l.free r = true → l.lo ≤ m.x ∧ m.x ≤ l.hi)

variable {r : Role} {l m : UnitLane} {lam d : Int} {j : Nat}

@[simp] theorem settle_k : (l.settle r lam).k = l.k := by unfold settle; split <;> rfl

@[simp] theorem settle_free : (l.settle r lam).free r = l.free r := by unfold settle; split <;> rfl

theorem filledTo_settle (h : l.lo ≤ l.hi) : FilledTo r l (l.settle r lam) := by
  cases hf : l.free r with
  | false => simp [FilledTo, settle, hf]
  | true => simpa [FilledTo, settle, level, hf] using clampI_mem _ h

/-- Taking the remainder keeps a free unit inside its bounds. -/
theorem filledTo_absorb (h : FilledTo r l m) (hj : m.k = j → l.free r = true) : FilledTo r l (m.absorb j d) := by
  by_cases hk : m.k = j
  · obtain ⟨hm, _, hin⟩ := h
    obtain ⟨hlo, hhi⟩ := hin (hj hk)
    have hml : m.lo = l.lo := (congrArg UnitLane.lo hm :)
    have hmh : m.hi = l.hi := (congrArg UnitLane.hi hm :)
    have hstep := clampI_mem (lo := l.lo - m.x) (hi := l.hi - m.x) d (by omega)
    simp only [FilledTo, absorb, if_pos hk, hj hk, hml, hmh]
    refine ⟨?_, nofun, fun _ => by omega⟩
    rw [hm]
  · rwa [absorb, if_neg hk]

end UnitLane

/-- The sum of a group (R167). -/
def groupTotal (r : Role) (ls : List UnitLane) : Int := ls.foldl (fun a l => if l.role = r then a + l.x else a) 0

/-- The last part of a fill (R166): the remainder goes to the unit with the largest headroom, where there is one. -/
def absorbRest (r : Role) (t : Int) (ls : List UnitLane) : List UnitLane :=
  match (if t - groupTotal r ls = 0 then none else headroomUnit r ls (t - groupTotal r ls)) with
  | some j => ls.map (UnitLane.absorb j (t - groupTotal r ls))
  | none => ls

section Fill

open UnitLane

variable {r : Role} {ls : List UnitLane} {t d : Int} {j : Nat}

theorem fill_lanes (r : Role) (ls : List UnitLane) (t : Int) :
    (fill r ls t).1 = absorbRest r t (ls.map (settle r (fill r ls t).2.1)) := rfl

theorem fill_sum (r : Role) (ls : List UnitLane) (t : Int) : (fill r ls t).2.2 = groupTotal r (fill r ls t).1 := rfl

theorem groupTotal_eq_filter (r : Role) (ls : List UnitLane) :
    groupTotal r ls = (ls.filter (fun l => l.role == r)).foldl (fun a l => a + l.x) 0 := by
  simp [groupTotal, List.foldl_filter]

/-- Only a unit that the fill moves can take the remainder. -/
theorem free_of_headroomUnit (h : headroomUnit r ls d = some j) : ∃ l ∈ ls, l.k = j ∧ l.free r = true := by
  simp only [headroomUnit, Option.map_eq_some_iff] at h
  obtain ⟨best, hbest, rfl⟩ := h
  refine List.foldlRecOn (motive := fun b => ∀ x, b = some x → ∃ l ∈ ls, l.k = x.1 ∧ l.free r = true) ls _ nofun ?_ best hbest
  intro b hb l hl x hx
  by_cases hfree : l.free r = true ∧ l.lo < l.x ∧ l.x < l.hi
  · have hx' : x.1 = l.k ∨ b = some x := by
      rw [if_neg (not_not_intro hfree)] at hx
      grind
    rcases hx' with hk | hbx
    · exact ⟨l, hl, hk.symm, hfree.1⟩
    · exact hb x hbx
  · exact hb x ((if_pos hfree).symm.trans hx)

theorem absorbRest_cases (r : Role) (t : Int) (ls : List UnitLane) :
    absorbRest r t ls = ls ∨ ∃ j d, absorbRest r t ls = ls.map (absorb j d) ∧ ∃ l ∈ ls, l.k = j ∧ l.free r = true := by
  unfold absorbRest
  split
  next j hj =>
    split at hj
    · exact nomatch hj
    · exact .inr ⟨j, _, rfl, free_of_headroomUnit hj⟩
  next => exact .inl rfl

theorem length_fill (r : Role) (ls : List UnitLane) (t : Int) : (fill r ls t).1.length = ls.length := by
  rw [fill_lanes]
  rcases absorbRest_cases r t (ls.map (settle r (fill r ls t).2.1)) with h | ⟨j, d, h, _⟩ <;> simp [h]

/-- Lanes of separate numbers are known by their numbers. -/
theorem eq_of_k_eq {x y : UnitLane} (hn : (ls.map (·.k)).Nodup) (hx : x ∈ ls) (hy : y ∈ ls) (hk : x.k = y.k) : x = y := by
  induction ls with
  | nil => exact nomatch hx
  | cons l ls ih =>
    obtain ⟨hl, hn⟩ := List.nodup_cons.mp hn
    rcases List.mem_cons.mp hx with rfl | hx'
    · rcases List.mem_cons.mp hy with rfl | hy'
      · rfl
      · exact absurd (List.mem_map.mpr ⟨y, hy', hk.symm⟩) hl
    · rcases List.mem_cons.mp hy with rfl | hy'
      · exact absurd (List.mem_map.mpr ⟨x, hx', hk⟩) hl
      · exact ih hn hx' hy'

/-- Each lane of a fill against the one in its place before it (R166): no other unit has the number of the one that takes the remainder. -/
theorem filledTo_fill {i : Nat} {l m : UnitLane} (hb : ∀ l ∈ ls, l.lo ≤ l.hi) (hn : (ls.map (·.k)).Nodup) (hl : ls[i]? = some l)
    (hm : (fill r ls t).1[i]? = some m) : FilledTo r l m := by
  have hmem := List.mem_of_getElem? hl
  have hset := filledTo_settle (r := r) (lam := (fill r ls t).2.1) (hb l hmem)
  rw [fill_lanes] at hm
  rcases absorbRest_cases r t (ls.map (settle r (fill r ls t).2.1)) with h | ⟨j, d, h, x, hx, hxk, hxf⟩
  · simp only [h, List.getElem?_map, hl, Option.map_some, Option.some.injEq] at hm
    exact hm ▸ hset
  · simp only [h, List.getElem?_map, hl, Option.map_some, Option.some.injEq] at hm
    obtain ⟨y, hy, rfl⟩ := List.mem_map.mp hx
    refine hm ▸ filledTo_absorb hset fun hk => ?_
    have hyl : y = l := eq_of_k_eq hn hy hmem (settle_k.symm.trans (hxk.trans (hk.symm.trans settle_k)))
    exact hyl ▸ settle_free.symm.trans hxf

end Fill

/-- Settles O15: each lane of a fill lies where the level or the remainder puts it, and the sum is that of the lanes answered. -/
theorem fillStaysInBounds : Obligations.FillStaysInBounds := by
  intro r ls target hb hn
  exact ⟨length_fill r ls target, (fill_sum r ls target).trans (groupTotal_eq_filter r _), fun i l m hl hm => filledTo_fill hb hn hl hm⟩

end Sys2Proof

namespace Sys2Proof

namespace FieldDie

/-- What only the end of a run writes: the tick, and the Dispatcher's settings with its counts of runs of shortfall and surplus. -/
def runCounts (f : FieldDie) : TickSt × DispCfg × Nat × Nat := (f.tick, f.disp.cfg, f.disp.posRun, f.disp.negRun)

theorem runCounts_eq {f g : FieldDie} (hd : f.disp = g.disp) (ht : f.tick = g.tick) : f.runCounts = g.runCounts := by
  simp [runCounts, hd, ht]

theorem runCounts_ite {p : Prop} [Decidable p] {f g k : FieldDie} (hg : g.runCounts = f.runCounts) (hk : k.runCounts = f.runCounts) :
    (if p then g else k).runCounts = f.runCounts := by
  split
  · exact hg
  · exact hk

section RunCounts

variable (v : Variant) (f : FieldDie)

@[simp] theorem runCounts_modSl (k : Nat) (g : Slot → Slot) : (f.modSl k g).runCounts = f.runCounts := rfl
@[simp] theorem runCounts_modBr (k : Nat) (g : Branch → Branch) : (f.modBr k g).runCounts = f.runCounts := rfl
@[simp] theorem runCounts_modCap (g : Capping → Capping) : (f.modCap g).runCounts = f.runCounts := rfl
@[simp] theorem runCounts_raise (src code n : Nat) : (f.raise src code n).runCounts = f.runCounts := rfl
@[simp] theorem runCounts_vector (n : Nat) : (f.vector n).runCounts = f.runCounts := runCounts_eq (by simp) (by simp)

@[simp] theorem runCounts_uplinkCount (k c : Nat) : (f.uplinkCount k c).runCounts = f.runCounts := rfl

@[simp] theorem runCounts_uplinkHeld (k : Nat) : (f.uplinkHeld k).runCounts = f.runCounts := by
  simp only [uplinkHeld]
  split <;> rfl

@[simp] theorem runCounts_uplinkFail (k c : Nat) : (f.uplinkFail k c).runCounts = f.runCounts := by simp [uplinkFail]

@[simp] theorem runCounts_closeUplink (k : Nat) : (f.closeUplink k).runCounts = f.runCounts := by
  simp only [closeUplink]
  repeat' split
  all_goals simp

@[simp] theorem runCounts_closeUplinks : (f.closeUplinks v).runCounts = f.runCounts :=
  foldl_keeps runCounts (fun g k => by split <;> simp) _ _

@[simp] theorem runCounts_wearSums : (f.wearSums v).runCounts = f.runCounts :=
  foldl_keeps runCounts (fun g k => runCounts_modSl g k _) _ _

@[simp] theorem runCounts_demand : (f.demand v).runCounts = f.runCounts := rfl

@[simp] theorem runCounts_setInput (n : Nat) : (f.setInput n).runCounts = f.runCounts := by
  simp only [setInput]
  repeat' split
  all_goals simp [runCounts]

@[simp] theorem runCounts_inputPhase : (f.inputPhase v).runCounts = f.runCounts := by
  have hset (ks : List Nat) (g : Slot → Slot) (n : Nat) :
      ((ks.foldl (fun f k => f.modSl k g) f).setInput n).runCounts = f.runCounts :=
    (runCounts_setInput _ n).trans (foldl_keeps runCounts (fun f k => runCounts_modSl f k g) ks f)
  simp only [inputPhase]
  exact runCounts_ite (hset _ _ _) (hset _ _ _)

@[simp] theorem runCounts_reservePhase (b : Bounds) : (f.reservePhase v b).1.runCounts = f.runCounts := by
  simp only [reservePhase]
  split <;> rfl

@[simp] theorem runCounts_freqPhase (rv : Nat) (b : Bounds) : (f.freqPhase rv b).1.runCounts = f.runCounts := by
  simp only [freqPhase]
  repeat' split
  all_goals simp [runCounts]

@[simp] theorem runCounts_chargePhase (b : Bounds) : (f.chargePhase v b).1.runCounts = f.runCounts := rfl

@[simp] theorem runCounts_warnPhase (ok : Bool) : (f.warnPhase ok).runCounts = f.runCounts := by
  simp only [warnPhase]
  split <;> simp [runCounts]

@[simp] theorem runCounts_gridPhase (iD : Int) (ok : Bool) : (f.gridPhase v iD ok).1.runCounts = f.runCounts := by
  simp only [gridPhase]
  split <;> simp

@[simp] theorem runCounts_budgetLevel (bs : List Nat) (rem : Int) (p : Nat) : (budgetLevel bs f rem p).1.runCounts = f.runCounts := by
  simp only [budgetLevel]
  split
  all_goals exact foldl_keeps runCounts (fun g k => runCounts_modBr g k _) _ _

@[simp] theorem runCounts_budgets (allow : Int) : (f.budgets v allow).runCounts = f.runCounts := by
  simp only [budgets, runCounts_modCap]
  refine (foldl_keeps (fun x : FieldDie × Int => x.1.runCounts) (fun x p => runCounts_budgetLevel x.1 _ x.2 p) _ _).trans ?_
  exact foldl_keeps runCounts (fun g k => runCounts_modBr g k _) _ _

@[simp] theorem runCounts_throttle : (f.throttle v).runCounts = f.runCounts := by
  simp only [throttle]
  split <;> simp [runCounts]

@[simp] theorem runCounts_warnShed : (f.warnShed v).runCounts = f.runCounts := by
  simp only [warnShed]
  exact foldl_keeps (fun x : FieldDie × Int => x.1.runCounts) (fun x b => by split <;> simp) _ _

@[simp] theorem runCounts_cutShed : (f.cutShed v).1.runCounts = f.runCounts := by
  simp only [cutShed]
  exact foldl_keeps (fun x : FieldDie × Int => x.1.runCounts) (fun x b => by split <;> simp) _ _

@[simp] theorem runCounts_compliance (dl : Nat) : (f.compliance v dl).runCounts = f.runCounts := by
  simp only [compliance]
  repeat' split
  all_goals simp

@[simp] theorem runCounts_capPhase (iD : Int) (b : Bounds) : (f.capPhase v iD b).1.runCounts = f.runCounts := by
  simp only [capPhase, runCounts_compliance, runCounts_throttle, runCounts_budgets]
  exact foldl_keeps runCounts (fun g k => runCounts_modBr g k _) _ _

@[simp] theorem runCounts_probePhase (ls : List UnitLane) : (f.probePhase ls).1.runCounts = f.runCounts := by
  simp only [probePhase]
  repeat' split
  all_goals rfl

@[simp] theorem rampCommit_disp (x : Int) (o : Bool) (b : Bounds) : (f.rampCommit v x o b).disp = f.disp := by
  simp only [rampCommit]
  split <;> rfl

@[simp] theorem rampCommit_tick (x : Int) (o : Bool) (b : Bounds) : (f.rampCommit v x o b).tick = f.tick := by
  simp only [rampCommit]
  split <;> rfl

@[simp] theorem qualPhase_disp : (f.qualPhase v).disp = f.disp := rfl
@[simp] theorem qualPhase_tick : (f.qualPhase v).tick = f.tick := rfl

end RunCounts

theorem closeUplinks_tick (v : Variant) (f : FieldDie) : (f.closeUplinks v).tick = f.tick :=
  (Prod.mk.inj (runCounts_closeUplinks v f)).1

/-- The Dispatcher's results after a run against those before it (R168): RESID is what the allocations leave of the demand, the counts of
shortfall and surplus follow it, and the settings stay. -/
def RunResult (old new : Disp) : Prop :=
  new.resid = satI 32 (new.iDemand - new.sAlloc - new.tAlloc) ∧ new.cfg = old.cfg ∧
  new.posRun = runUp 40 (decide (0 < new.resid)) old.posRun ∧ new.negRun = runUp 40 (decide (new.resid < 0)) old.negRun

theorem runResult_commitRun (v : Variant) (f : FieldDie) (b : Bounds) (r : Fills) (probed : Bool) :
    RunResult f.disp (f.commitRun v b r probed).disp := by
  simp only [RunResult, commitRun]
  split <;> simp

/-- The result of a run stands against whatever state has the settings and counts of the one that the run started from. -/
theorem RunResult.of_runCounts {f g : FieldDie} {d : Disp} (h : RunResult f.disp d) (hc : f.runCounts = g.runCounts) : RunResult g.disp d := by
  simp only [runCounts, Prod.mk.injEq] at hc
  obtain ⟨_, hcfg, hpos, hneg⟩ := hc
  rwa [RunResult, ← hcfg, ← hpos, ← hneg]

theorem commitRun_tick (v : Variant) (f : FieldDie) (b : Bounds) (r : Fills) (probed : Bool) : (f.commitRun v b r probed).tick = f.tick := by
  have hunits := foldl_keeps tick (fun g l => show (g.commitUnit r.lamT l).tick = g.tick from rfl) r.ls f
  simp only [commitRun]
  split <;> simpa using hunits

/-- A run up to its fills (Table 06-1): the state, the bounds, and the lanes with whether a probe pins one of them. -/
def planned (v : Variant) (f : FieldDie) : FieldDie × Bounds × List UnitLane × Bool :=
  let f := f.atCycle (if f.isStandby then 6400 else 5840)
  let f := if f.driving ∧ ¬ f.disp.drove then f.seedRamp v else f
  let f := { f with disp := { f.disp with drove := f.driving } }
  let f := (f.wearSums v).demand v
  let (f, b) := f.gridPhase v f.disp.iDemand f.disp.vbusOk
  let (f, b) := f.capPhase v f.disp.iDemand b
  let ls := (FieldDie.slots v).map fun k => (f.sl k).lane k f.disp.blind f.disp.cfg.storeBal
  let (f, ls, probed) := f.probePhase ls
  (f, b, ls, probed)

/-- The end of a run: the tick shows its length, and a length that is not the expected one is reported (R153, 03 R73). -/
def logRun (v : Variant) (f : FieldDie) (cycles : Nat) : FieldDie :=
  let f := { f with tick := { f.tick with
    dispLast := satN 16 cycles, dispMax := max f.tick.dispMax (satN 16 cycles), repeatRun := 0, ranThisTick := true } }
  if cycles ≠ lenExp v then f.raise 36 1 (satN 16 cycles) else f

theorem dispatch_eq (v : Variant) (f : FieldDie) (cycles : Nat) : f.dispatch v cycles =
    (let (g, b, ls, probed) := f.planned v
     (g.commitRun v b (fills ls g.disp.iDemand b) probed).logRun v cycles) := rfl

theorem logRun_disp (v : Variant) (f : FieldDie) (cycles : Nat) : (f.logRun v cycles).disp = f.disp := by
  simp only [logRun]
  split <;> rfl

theorem logRun_tick (v : Variant) (f : FieldDie) (cycles : Nat) : (f.logRun v cycles).tick = { f.tick with
    dispLast := satN 16 cycles, dispMax := max f.tick.dispMax (satN 16 cycles), repeatRun := 0, ranThisTick := true } := by
  simp only [logRun]
  split <;> rfl

theorem runCounts_planned (v : Variant) (f : FieldDie) :
    (f.planned v).1.runCounts = (f.atCycle (if f.isStandby then 6400 else 5840)).runCounts := by
  simp only [planned, runCounts_probePhase, runCounts_capPhase, runCounts_gridPhase, runCounts_demand, runCounts_wearSums]
  exact runCounts_ite rfl rfl

theorem runResult_dispatch (v : Variant) (f : FieldDie) (n : Nat) : RunResult f.disp (f.dispatch v n).disp := by
  have hres := (runResult_commitRun v (f.planned v).1 (f.planned v).2.1
    (fills (f.planned v).2.2.1 (f.planned v).1.disp.iDemand (f.planned v).2.1) (f.planned v).2.2.2).of_runCounts (runCounts_planned v f)
  rw [dispatch_eq, logRun_disp]
  exact hres

/-- The tick with the length of its run in it (03 R73). -/
theorem dispatch_tick (v : Variant) (f : FieldDie) (n : Nat) : (f.dispatch v n).tick =
    { (f.atCycle (if f.isStandby then 6400 else 5840)).tick with
      dispLast := satN 16 n, dispMax := max f.tick.dispMax (satN 16 n), repeatRun := 0, ranThisTick := true } := by
  have hplan : (f.planned v).1.tick = (f.atCycle (if f.isStandby then 6400 else 5840)).tick := (Prod.mk.inj (runCounts_planned v f)).1
  rw [dispatch_eq, logRun_tick, commitRun_tick, hplan]
  rfl

end FieldDie

namespace Machine

section DispatchRun

variable {n : Nat} {s : State}

theorem exec_dispatchRun_not (h : s.chip.field.runs = false ∨ s.chip.field.tick.ranThisTick = true ∨
    s.chip.field.tick.overran = true ∨ 1920 < n) : exec (.dispatchRun n) s = .next s := by
  change execDispatchRun n s = _
  have hno : ¬ (s.chip.field.runs = true ∧ ¬ s.chip.field.tick.ranThisTick = true ∧ ¬ s.chip.field.tick.overran = true ∧
      n ≤ FieldDie.runLimit) := by
    rintro ⟨hr, h1, ho, hn⟩
    rcases h with h | h | h | h
    · exact Bool.noConfusion (hr.symm.trans h)
    · exact h1 h
    · exact ho h
    · exact absurd hn (Nat.not_le.mpr h)
  simp only [execDispatchRun, State.onField, if_neg hno]

theorem exec_dispatchRun_due (hr : s.chip.field.runs = true) (h1 : s.chip.field.tick.ranThisTick = false)
    (ho : s.chip.field.tick.overran = false) (hn : n ≤ 1920) : exec (.dispatchRun n) s =
      .next (s.onField fun f => ((f.closeUplinks s.chip.variant).dispatch s.chip.variant n).qualPhase s.chip.variant) := by
  change execDispatchRun n s = _
  simp [execDispatchRun, State.onField, FieldDie.runLimit, hr, h1, ho, hn]

end DispatchRun

/-- Settles O14: a run that is due by what its commit and its end write, over counts that its other phases leave. -/
theorem dispatchRunCommitsItsResult : Obligations.DispatchRunCommitsItsResult := by
  intro n s
  by_cases h : s.chip.field.runs = false ∨ s.chip.field.tick.ranThisTick = true ∨ s.chip.field.tick.overran = true ∨ 1920 < n
  · exact ⟨s, exec_dispatchRun_not h, rfl, fun _ => rfl, fun hr h1 ho hn => by simp [hr, h1, ho, Nat.not_lt.mpr hn] at h⟩
  · obtain ⟨hr, h1, ho, hn⟩ : s.chip.field.runs = true ∧ s.chip.field.tick.ranThisTick = false ∧ s.chip.field.tick.overran = false ∧
        n ≤ 1920 := by simpa using h
    refine ⟨_, exec_dispatchRun_due hr h1 ho hn, rfl, fun hn => absurd hn h, fun _ _ _ _ => ?_⟩
    have hsat : satN 16 n = n := Nat.min_eq_left (Nat.le_trans hn (by decide))
    have hclose := FieldDie.runCounts_closeUplinks s.chip.variant s.chip.field
    have hres := (FieldDie.runResult_dispatch s.chip.variant _ n).of_runCounts hclose
    rw [State.onField_field, FieldDie.qualPhase_disp, FieldDie.qualPhase_tick, FieldDie.dispatch_tick, hsat, FieldDie.closeUplinks_tick]
    exact ⟨rfl, rfl, rfl, rfl, hres⟩

end Machine

end Sys2Proof

namespace Sys2Proof

section Folds

variable {σ α β : Type} {op : σ → α → σ} {x : α} {l : List α} {s : σ}

/-- What one member of a list alone changes, a fold over the list changes once. -/
theorem foldl_at {view : σ → β} {g : β → β} (hn : l.Nodup) (hx : x ∈ l) (hkeep : ∀ s y, y ≠ x → view (op s y) = view s)
    (hset : ∀ s, view (op s x) = g (view s)) : view (l.foldl op s) = g (view s) := by
  obtain ⟨l₁, l₂, rfl⟩ := List.append_of_mem hx
  obtain ⟨_, hn₂, hne⟩ := List.nodup_append.mp hn
  have hx₁ : x ∉ l₁ := fun h => hne x h x List.mem_cons_self rfl
  have hx₂ : x ∉ l₂ := (List.nodup_cons.mp hn₂).1
  have hpart (l' : List α) (h : x ∉ l') (s : σ) : view (l'.foldl op s) = view s :=
    List.foldlRecOn (motive := fun b => view b = view s) l' op rfl fun b hb y hy => (hkeep b y (ne_of_mem_of_not_mem hy h)).trans hb
  rw [List.foldl_append, List.foldl_cons, hpart l₂ hx₂, hset, hpart l₁ hx₁]

/-- What one member of a list brings about, and no member undoes, holds after a fold over the list. -/
theorem foldl_reaches {inv goal : σ → Prop} (hinv : ∀ s y, inv s → inv (op s y)) (hx : x ∈ l) (hset : ∀ s, inv s → goal (op s x))
    (hkeep : ∀ s, ∀ y ∈ l, goal s → goal (op s y)) (hs : inv s) : goal (l.foldl op s) := by
  induction l generalizing s with
  | nil => exact nomatch hx
  | cons y l ih =>
    rcases List.mem_cons.mp hx with rfl | hx'
    · exact List.foldlRecOn (motive := goal) l op (hset s hs) fun b hb z hz => hkeep b z (List.mem_cons_of_mem _ hz) hb
    · exact ih hx' (fun s z hz => hkeep s z (List.mem_cons_of_mem _ hz)) (hinv s y hs)

end Folds

namespace FieldDie

variable {v : Variant} {f : FieldDie} {k q i : Nat}

/-- A unit at the end of a second (R172): its wear rises by that of the second, and the sums restart. -/
def closeSecond (c : DispCfg) (s : Slot) : Slot :=
  { s with wear := { s.wear with stress := satN 64 (s.wear.stress + wearDelta c s), rate := wearDelta c s, sumI := 0, sumT := 0, samples := 0 } }

theorem wearSecond_eq (f : FieldDie) (q : Nat) :
    f.wearSecond q = (List.range 24).foldl (fun f i => f.modSl (24 * q + i) (closeSecond f.disp.cfg)) f := by
  unfold wearSecond closeSecond
  rfl

theorem sl_wearSecond (f : FieldDie) (hq : q < 4) (hi : i < 24) :
    (f.wearSecond q).sl (24 * q + i) = closeSecond f.disp.cfg (f.sl (24 * q + i)) := by
  have hview := foldl_at (s := f) (op := fun f i => f.modSl (24 * q + i) (closeSecond f.disp.cfg))
    (view := fun f => (f.disp.cfg, f.sl (24 * q + i))) (g := fun p => (p.1, closeSecond p.1 p.2)) List.nodup_range (List.mem_range.mpr hi)
    (fun f j hj => congrArg (Prod.mk _) (sl_modSl_ne f _ _ _ (by omega)))
    (fun f => congrArg (Prod.mk _) (sl_modSl_self f _ _ (by omega)))
  rw [wearSecond_eq]
  exact (Prod.mk.inj hview).2

/-- The weights of a policy come with draws of free values, and change nothing else (R174). -/
theorem policyWeights_field (v : Variant) (f : FieldDie) : ∃ n, (f.policyWeights v).2 = { f with free := n } := by
  have hdraws (ks : List Nat) (g : Nat × FieldDie → List (Nat × Nat) → Nat → List (Nat × Nat)) :
      ∃ n, (ks.foldl (fun a k => (g (a.2.draw 64) a.1 k, (a.2.draw 64).2)) ([], f)).2 = { f with free := n } :=
    List.foldlRecOn (motive := fun b : List (Nat × Nat) × FieldDie => ∃ n, b.2 = { f with free := n }) _ _ ⟨_, rfl⟩
      fun b ⟨n, hb⟩ k _ => ⟨b.2.free + 1, by simp [draw, hb]⟩
  simp only [policyWeights]
  split
  · exact ⟨_, rfl⟩
  · split
    · split
      · exact ⟨_, rfl⟩
      · exact hdraws _ fun x a k => a ++ [(k, 0x8000 + x.1 % 0x10001)]
    · exact ⟨_, rfl⟩

theorem policyWeights_shared (v : Variant) {f : FieldDie} (h : f.disp.cfg.policy = 0) :
    (f.policyWeights v).1 = (f.exchanged v).map fun k => (k, 0x10000) := by
  simp [policyWeights, h]

theorem mem_exchanged (hk : k < v.slots) (hs : (f.sl k).wear.inSet = true) : k ∈ f.exchanged v := by
  simp [exchanged, slotsWhere, slots, hk, hs]

/-- A unit's new weight waits for the swap of the banks (R175); other quadrants write theirs. -/
def bankWeight (q : Nat) (f : FieldDie) (w : Nat × Nat) : FieldDie :=
  if slotQuad w.1 = q then f.modSl w.1 (fun x => { x with ctx := { x.ctx with weightNext := w.2 } }) else f

theorem sl_bankWeight_of_quad (hk : slotQuad k ≠ q) (w : Nat × Nat) : (f.bankWeight q w).sl k = f.sl k := by
  unfold bankWeight
  split
  next hw => exact sl_modSl_ne f _ _ _ fun h => hk (h ▸ hw)
  next => rfl

theorem weightNext_bankWeight_self {n : Nat} (hk : k < 96) (hq : slotQuad k = q) : ((f.bankWeight q (k, n)).sl k).ctx.weightNext = n := by
  rw [bankWeight, if_pos hq, sl_modSl_self f _ _ hk]

/-- A weight of one value stays where the others of the bank have it too. -/
theorem weightNext_bankWeight_same {n : Nat} (hk : k < 96) (hn : (f.sl k).ctx.weightNext = n) (j : Nat) :
    ((f.bankWeight q (j, n)).sl k).ctx.weightNext = n := by
  unfold bankWeight
  split
  · by_cases hj : j = k
    · rw [hj, sl_modSl_self f _ _ hk]
    · rw [sl_modSl_ne f _ _ _ (Ne.symm hj), hn]
  · exact hn

/-- The weights of a quadrant, and the mark that its bank is complete (R175). -/
def bankWeights (v : Variant) (q : Fin 4) (f : FieldDie) : FieldDie :=
  let g := (f.policyWeights v).1.foldl (bankWeight q.val) (f.policyWeights v).2
  { g with tick := { g.tick with staging := { g.tick.staging with weights := g.tick.staging.weights.set q true } } }

theorem sl_bankWeights_of_quad {q : Fin 4} (hk : slotQuad k ≠ q.val) : (f.bankWeights v q).sl k = f.sl k := by
  obtain ⟨n, hpol⟩ := policyWeights_field v f
  have hfold := foldl_keeps (fun f => f.sl k) (fun f => sl_bankWeight_of_quad (f := f) hk) (f.policyWeights v).1 (f.policyWeights v).2
  exact hfold.trans (congrArg (fun f => f.sl k) hpol)

/-- Under SHARED every unit of the exchange gets the weight 1.0 (R174). -/
theorem weightNext_bankWeights_shared {q : Fin 4} (hp : f.disp.cfg.policy = 0) (hk : k < v.slots) (hq : slotQuad k = q.val)
    (hs : (f.sl k).wear.inSet = true) : ((f.bankWeights v q).sl k).ctx.weightNext = 0x10000 := by
  have hk96 : k < 96 := Nat.lt_of_lt_of_le hk v.slots_le
  have hmem : (k, 0x10000) ∈ (f.policyWeights v).1 := by
    rw [policyWeights_shared v hp]
    exact List.mem_map_of_mem (mem_exchanged hk hs)
  refine foldl_reaches (op := bankWeight q.val) (inv := fun _ => True) (goal := fun f => (f.sl k).ctx.weightNext = 0x10000)
    (fun _ _ _ => trivial) hmem (fun f _ => weightNext_bankWeight_self hk96 hq) (fun f w hw hn => ?_) trivial
  rw [policyWeights_shared v hp] at hw
  obtain ⟨j, _, rfl⟩ := List.mem_map.mp hw
  exact weightNext_bankWeight_same hk96 hn j

/-- The learned-value record of a unit's stress (R173). -/
def stressRecord (s : Slot) (id : Nat × Nat × Nat) (wall : Nat) : Learned :=
  { type := 1, vendor := id.1, product := id.2.1, serial := id.2.2, values := [s.wear.stress, s.wear.lifeH], written := wall }

theorem writeStress_known {id : Nat × Nat × Nat} (hid : (f.sl k).ident = some id) (hn : (f.sl k).wear.known = true) :
    f.writeStress k = f.writeLearned (stressRecord (f.sl k) id f.bar.wall) := by
  simp [writeStress, hid, hn, stressRecord]

/-- Writing a unit's stress adds at most its record to the learned values and to their copy. -/
theorem writeStress_cases (f : FieldDie) (k : Nat) : f.writeStress k = f ∨ ∃ r, f.writeStress k = f.writeLearned r := by
  simp only [writeStress]
  split
  · split
    · exact .inr ⟨_, rfl⟩
    · exact .inl rfl
  · exact .inl rfl

@[simp] theorem writeStress_slot : (f.writeStress k).slot = f.slot := by
  rcases writeStress_cases f k with h | ⟨r, h⟩ <;> rw [h]
  rfl

@[simp] theorem writeStress_bar : (f.writeStress k).bar = f.bar := by
  rcases writeStress_cases f k with h | ⟨r, h⟩ <;> rw [h]
  rfl

theorem mem_learned_writeStress {r : Learned} (h : r ∈ f.recf.learned) : r ∈ (f.writeStress k).recf.learned := by
  rcases writeStress_cases f k with hw | ⟨r', hw⟩ <;> rw [hw]
  · exact h
  · exact List.mem_append_left _ h

/-- The stress of every slot that the part has, written one after the other (R173). -/
def persistStress (v : Variant) (f : FieldDie) : FieldDie := (FieldDie.slots v).foldl (fun f k => f.writeStress k) f

theorem persistStress_slot (v : Variant) (f : FieldDie) : (f.persistStress v).slot = f.slot :=
  foldl_keeps slot (fun _ _ => writeStress_slot) _ _

theorem stressRecord_mem_persistStress {id : Nat × Nat × Nat} (hk : k < v.slots) (hid : (f.sl k).ident = some id)
    (hn : (f.sl k).wear.known = true) : stressRecord (f.sl k) id f.bar.wall ∈ (f.persistStress v).recf.learned := by
  refine foldl_reaches (inv := fun g => g.slot = f.slot ∧ g.bar = f.bar)
    (goal := fun g : FieldDie => stressRecord (f.sl k) id f.bar.wall ∈ g.recf.learned)
    (fun g j ⟨hs, hb⟩ => ⟨writeStress_slot.trans hs, writeStress_bar.trans hb⟩) (List.mem_range.mpr hk) (fun g ⟨hs, hb⟩ => ?_)
    (fun g j _ hr => mem_learned_writeStress hr) ⟨rfl, rfl⟩
  have hsl : g.sl k = f.sl k := congrArg (fun t => t.getD k {}) hs
  rw [writeStress_known (hsl ▸ hid) (hsl ▸ hn), hsl, hb]
  exact List.mem_append_right _ (List.mem_singleton.mpr rfl)

end FieldDie

namespace Machine

section WearEvents

variable {q : Fin 4} {s : State}

theorem exec_wearAccumulate_not (h : s.chip.field.tick.tb % 40000 ≠ 39999 ∨ s.chip.field.runs = false) :
    exec (.wearAccumulate q) s = .next s := by
  change execWearAccumulate q s = _
  rcases h with h | h <;> simp [execWearAccumulate, State.onField, h]

theorem exec_wearAccumulate_due (ht : s.chip.field.tick.tb % 40000 = 39999) (hr : s.chip.field.runs = true) :
    exec (.wearAccumulate q) s = .next (s.onField fun f => f.wearSecond q) := by
  change execWearAccumulate q s = _
  simp [execWearAccumulate, State.onField, ht, hr]

theorem exec_weightBankCommit_not (h : s.chip.field.tick.tb % 40000 ≠ 39999 ∨ s.chip.field.runs = false) :
    exec (.weightBankCommit q) s = .next s := by
  change execWeightBankCommit q s = _
  rcases h with h | h <;> simp [execWeightBankCommit, State.onField, h]

theorem exec_weightBankCommit_due (ht : s.chip.field.tick.tb % 40000 = 39999) (hr : s.chip.field.runs = true) :
    exec (.weightBankCommit q) s = .next (s.onField (FieldDie.bankWeights s.chip.variant q)) := by
  change execWeightBankCommit q s = _
  simp only [execWeightBankCommit, State.onField, if_pos (And.intro ht hr)]
  rfl

theorem exec_stressPersist_not (h : s.chip.field.tick.tb % 144000000 ≠ 0 ∨ s.chip.field.running = false) :
    exec .stressPersist s = .next s := by
  change execStressPersist s = _
  rcases h with h | h <;> simp [execStressPersist, State.onField, h]

theorem exec_stressPersist_due (ht : s.chip.field.tick.tb % 144000000 = 0) (hr : s.chip.field.running = true) :
    exec .stressPersist s = .next (s.onField (FieldDie.persistStress s.chip.variant)) := by
  change execStressPersist s = _
  simp only [execStressPersist, State.onField, if_pos (And.intro ht hr)]
  rfl

end WearEvents

/-- Settles O16: the end of a second for each unit of a quadrant, the bank of its weights, and the records of the units' stress. -/
theorem wearClosesItsSecond : Obligations.WearClosesItsSecond := by
  refine ⟨?wear, ?weights, ?stress⟩
  case wear =>
    intro q s
    by_cases h : s.chip.field.tick.tb % 40000 ≠ 39999 ∨ s.chip.field.runs = false
    · exact ⟨s, exec_wearAccumulate_not h, rfl, fun _ => rfl, fun ht hr => by simp [ht, hr] at h⟩
    · obtain ⟨ht, hr⟩ : s.chip.field.tick.tb % 40000 = 39999 ∧ s.chip.field.runs = true := by simpa using h
      refine ⟨_, exec_wearAccumulate_due ht hr, rfl, fun hn => absurd hn h, fun _ _ i => ?_⟩
      rw [State.onField_field, FieldDie.sl_wearSecond _ q.isLt i.isLt]
      refine ⟨rfl, rfl, fun hlt => ?_, rfl⟩
      exact Nat.le_min.mpr ⟨Nat.le_add_right _ _, Nat.le_sub_one_of_lt hlt⟩
  case weights =>
    intro q s
    by_cases h : s.chip.field.tick.tb % 40000 ≠ 39999 ∨ s.chip.field.runs = false
    · exact ⟨s, exec_weightBankCommit_not h, rfl, fun _ => rfl, fun ht hr => by simp [ht, hr] at h⟩
    · obtain ⟨ht, hr⟩ : s.chip.field.tick.tb % 40000 = 39999 ∧ s.chip.field.runs = true := by simpa using h
      refine ⟨_, exec_weightBankCommit_due ht hr, rfl, fun hn => absurd hn h, fun _ _ => ⟨?_, ?_, ?_⟩⟩
      · exact (Tab.getD_get _ q false).trans (Tab.get_set_self _ q true)
      · exact fun hp k hk hq hs => FieldDie.weightNext_bankWeights_shared hp hk hq hs
      · exact fun k hk => FieldDie.sl_bankWeights_of_quad hk
  case stress =>
    intro s
    by_cases h : s.chip.field.tick.tb % 144000000 ≠ 0 ∨ s.chip.field.running = false
    · exact ⟨s, exec_stressPersist_not h, rfl, rfl, fun _ => rfl, fun ht hr => by simp [ht, hr] at h⟩
    · obtain ⟨ht, hr⟩ : s.chip.field.tick.tb % 144000000 = 0 ∧ s.chip.field.running = true := by simpa using h
      refine ⟨_, exec_stressPersist_due ht hr, rfl, FieldDie.persistStress_slot _ _, fun hn => absurd hn h, fun _ _ => ?_⟩
      exact fun k hk ve pr se hid hn => FieldDie.stressRecord_mem_persistStress (id := (ve, pr, se)) hk hid hn

end Machine

end Sys2Proof

namespace Sys2Proof

theorem result2_eq (a b : Word) : result2 a b = a.toNat + 2 ^ 32 * b.toNat := by
  rw [result2, Nat.mul_comm]

namespace FieldDie

theorem dispCnt_eq (f : FieldDie) : f.dispCnt = BitVec.ofNat 32 (f.disp.overrideCnt * 65536 + f.disp.shortCnt) := by
  simp [dispCnt, pack]

/-- The vector that is raised waits for the next heartbeat, whether or not it waited before. -/
theorem mem_vectors_vector (f : FieldDie) (n : Nat) : n ∈ (f.vector n).bar.vectors := by
  unfold vector
  split
  next h => exact List.contains_iff_mem.mp h
  next => exact List.mem_append_right _ (List.mem_singleton.mpr rfl)

/-- A tick that passes without a run (R73, R74): its uplinks close, the last references repeat, and the overrun is counted and reported. -/
def overrun (v : Variant) (f : FieldDie) : FieldDie :=
  let g := (f.closeUplinks v).atCycle 7760
  ({ g with tick := { g.tick with
      overran := true, dispLast := 0xFFFF, overrunCnt := satN 16 (g.tick.overrunCnt + 1)
      repeatRun := satN 8 (g.tick.repeatRun + 1) } }.raise 35 1).vector 49

theorem overrun_tick (v : Variant) (f : FieldDie) : (f.overrun v).tick = { (f.atCycle 7760).tick with
    overran := true, dispLast := 0xFFFF, overrunCnt := satN 16 (f.tick.overrunCnt + 1), repeatRun := satN 8 (f.tick.repeatRun + 1) } := by
  simp [overrun, atCycle, closeUplinks_tick]

theorem overrun_slot (v : Variant) (f : FieldDie) : (f.overrun v).slot = (f.closeUplinks v).slot := by simp [overrun]

theorem overrun_arisen (v : Variant) (f : FieldDie) : (f.overrun v).fcol.arisen = (f.closeUplinks v).fcol.arisen ++
    [{ tb := f.tick.tb, fine := 7760, src := 35, code := 1, value := 0 }] := by
  simp [overrun, closeUplinks_tick]

end FieldDie

namespace Machine

section DispatcherEvents

variable {s : State}

theorem exec_dispatchBlind_due (hi : s.chip.field.disp.invalidRun = 40) (hb : s.chip.field.disp.blind = false) :
    exec .dispatchBlind s = .next (s.onField fun f => { f with disp := { f.disp with blind := true } }.raise 192 1) := by
  change execDispatchBlind s = _
  simp [execDispatchBlind, State.onField, hi, hb]

theorem exec_dispatchBlind_not (h : s.chip.field.disp.invalidRun ≠ 40 ∨ s.chip.field.disp.blind = true) :
    exec .dispatchBlind s = .next s := by
  change execDispatchBlind s = _
  rcases h with h | h <;> simp [execDispatchBlind, State.onField, h]

theorem exec_blindExit_due (hv : s.chip.field.disp.validRun = 40) (hb : s.chip.field.disp.blind = true) :
    exec .blindExit s = .next (s.onField fun f => f.blindExit s.chip.variant) := by
  change execBlindExit s = _
  simp [execBlindExit, State.onField, hv, hb]

theorem exec_blindExit_not (h : s.chip.field.disp.validRun ≠ 40 ∨ s.chip.field.disp.blind = false) :
    exec .blindExit s = .next s := by
  change execBlindExit s = _
  rcases h with h | h <;> simp [execBlindExit, State.onField, h]

theorem exec_tickOverrun_due (h1 : s.chip.field.tick.ranThisTick = false) (ho : s.chip.field.tick.overran = false)
    (hr : s.chip.field.runs = true) : exec .tickOverrun s = .next (s.onField (FieldDie.overrun s.chip.variant)) := by
  change execTickOverrun s = _
  simp only [execTickOverrun, State.onField, h1, ho, hr, Bool.false_eq_true, not_true_eq_false, or_false, if_false]
  rfl

theorem exec_tickOverrun_not (h : s.chip.field.tick.ranThisTick = true ∨ s.chip.field.tick.overran = true ∨ s.chip.field.runs = false) :
    exec .tickOverrun s = .next s := by
  change execTickOverrun s = _
  rcases h with h | h | h <;> simp [execTickOverrun, State.onField, h]

end DispatcherEvents

/-- The state in which a field-executed command has left the field side as `g` and completed. -/
def State.fieldDone (c : FCmd) (r : Request) (s : State) (g : FieldDie) (st : Status) (x : Nat) : State :=
  (s.onHost fun h => (h.accept { r with opcode := c.code }).await { r with opcode := c.code } 0).onField
    fun _ => g.complete (arriving c r s) st x

section FieldAnswers

variable {c : FCmd} {r : Request} {s : State} {g : FieldDie} {st : Status} {x : Nat}

/-- A field-executed command whose meaning answers at once. -/
theorem State.field_completes (h : fieldTakes c r s)
    (hop : c.op s.chip.variant s.chip.field (arriving c r s) = (g, some (st, x))) : s.field c r = s.fieldDone c r g st x := by
  rw [State.field_takes h]
  simp only [hop]
  rfl

theorem fieldDone_field (h : fieldTakes c r s) : (s.fieldDone c r g st x).chip.field =
    { g with bar := { g.bar with completions := g.bar.completions ++
      [{ queue := r.queue, tag := r.tag, status := st, result := x % 2 ^ 64, epoch := g.twin.epoch }] } } := by
  obtain ⟨_, _, hs, hp, _⟩ := h
  exact FieldDie.complete_host g (arriving c r s) st x hs hp

theorem fieldAnswers_fieldDone (h : fieldTakes c r s) (hb : g.bar = s.chip.field.bar) (ht : g.twin = s.chip.field.twin) :
    fieldAnswers s (s.fieldDone c r g st x) r st x := by
  refine ⟨?_, rfl⟩
  rw [fieldDone_field h, hb, ht]

@[simp] theorem fieldDone_disp : (s.fieldDone c r g st x).chip.field.disp = g.disp := FieldDie.complete_disp _ _ _ _ _ _

@[simp] theorem fieldDone_sl (k : Nat) : (s.fieldDone c r g st x).chip.field.sl k = g.sl k :=
  congrArg (fun t => t.getD k {}) (FieldDie.complete_slot g (arriving c r s) st x 0 [])

/-- A command that only reads leaves its completion alone. -/
theorem fieldDone_reads (h : fieldTakes c r s) :
    { (s.fieldDone c r s.chip.field st x).chip.field with bar := s.chip.field.bar } = s.chip.field := by
  rw [fieldDone_field h]

end FieldAnswers

section DispatcherCommands

variable {r : Request} {s : State}

theorem exec_setVset_inside (h : fieldTakes setVsetC r s) (hlo : s.chip.field.grid.cfg.winLo < r.u32 0)
    (hhi : r.u32 0 < s.chip.field.grid.cfg.winHi) : exec (.setVset r) s = .next (s.fieldDone setVsetC r
      (s.chip.field.modDispCfg fun c => { c with vsetTgt := r.u32 0, vslew := if r.u32 4 = 0 then c.vslew else r.u32 4 })
      .ok s.chip.field.disp.cfg.vsetTgt) :=
  congrArg Host.Outcome.next (State.field_completes h (if_pos ⟨hlo, hhi⟩))

theorem exec_setVset_outside (h : fieldTakes setVsetC r s)
    (hw : r.u32 0 ≤ s.chip.field.grid.cfg.winLo ∨ s.chip.field.grid.cfg.winHi ≤ r.u32 0) :
    exec (.setVset r) s = .next (s.fieldDone setVsetC r s.chip.field .badParam 0) :=
  congrArg Host.Outcome.next (State.field_completes h (if_neg fun ⟨hlo, hhi⟩ => hw.elim (Nat.not_le.mpr hlo) (Nat.not_le.mpr hhi)))

/-- A command that names a slot takes effect on one of the 96 that the tables hold. -/
theorem unit_lt_of_fieldTakes {c : FCmd} (hc : c.unit = .slot) (h : fieldTakes c r s) : r.unit < 96 := by
  obtain ⟨_, _, _, _, _, _, hadm, _⟩ := h
  have hlt : (arriving c r s).unit < s.chip.variant.slots := admitF_slot hc hadm
  exact Nat.lt_of_lt_of_le hlt (Variant.slots_le _)

/-- The field side with the loop as SET_LOOP sets it (R179). -/
def loopSet (f : FieldDie) (r : Request) : FieldDie :=
  { f with disp := { f.disp with
    cfg := { f.disp.cfg with kp := r.u32 0, ki := r.u32 4, intMax := r.u32 8, ffGain := r.u32 12 }
    integ := clampI (-(r.u32 8)) (r.u32 8) f.disp.integ } }

theorem exec_setLoop (h : fieldTakes setLoopC r s) :
    exec (.setLoop r) s = .next (s.fieldDone setLoopC r (loopSet s.chip.field r) .ok 0) :=
  congrArg Host.Outcome.next (State.field_completes h rfl)

theorem exec_setSharing (h : fieldTakes setSharingC r s) : exec (.setSharing r) s = .next (s.fieldDone setSharingC r
    (s.chip.field.modDispCfg fun c => { c with policy := r.u32 0, kw := r.u32 4, gap := r.u32 8, storeBal := r.u32 12 == 1 }) .ok 0) :=
  congrArg Host.Outcome.next (State.field_completes h rfl)

/-- A unit's weight as SET_UNIT_WEIGHT leaves it (R178): an override that holds, or one released. -/
def weightSet (w : Nat) (s : Slot) : Slot :=
  { s with ctx := if w = 0 then { s.ctx with wovr := false } else { s.ctx with wovr := true, wgt := w } }

theorem exec_setUnitWeight (h : fieldTakes setUnitWeightC r s) : exec (.setUnitWeight r) s = .next (s.fieldDone setUnitWeightC r
    (s.chip.field.modSl r.unit (weightSet (r.u32 0))) .ok (s.chip.field.sl r.unit).ctx.wgt) :=
  congrArg Host.Outcome.next (State.field_completes h rfl)

theorem exec_excludeUnit (h : fieldTakes excludeUnitC r s) : exec (.excludeUnit r) s = .next (s.fieldDone excludeUnitC r
    (s.chip.field.modSl r.unit fun x => { x with ctx := { x.ctx with excl := r.u32 0 == 1 } }) .ok 0) :=
  congrArg Host.Outcome.next (State.field_completes h rfl)

theorem exec_getUnit (h : fieldTakes getUnitC r s) : exec (.getUnit r) s = .next (s.fieldDone getUnitC r s.chip.field .ok
    (result2 (BitVec.ofInt 32 (s.chip.field.sl r.unit).uAlloc) (s.chip.field.sl r.unit).uFlags)) :=
  congrArg Host.Outcome.next (State.field_completes h rfl)

theorem exec_getWear (h : fieldTakes getWearC r s) : exec (.getWear r) s = .next (s.fieldDone getWearC r s.chip.field .ok
    (if (s.chip.field.sl r.unit).ctx.role = .supply then (s.chip.field.sl r.unit).wear.stress else 0)) :=
  congrArg Host.Outcome.next (State.field_completes h rfl)

/-- What GET_DISPATCH reads for each value of its parameter (R178). -/
def dispatchPair (d : Disp) (n : Nat) : Int × Int :=
  match n with
  | 0 => (d.iDemand, d.resid)
  | 1 => (d.sAlloc, d.tAlloc)
  | _ => (d.vsetEff, d.vbusUsed)

theorem exec_getDispatch (h : fieldTakes getDispatchC r s) : exec (.getDispatch r) s = .next (s.fieldDone getDispatchC r s.chip.field .ok
    (result2 (BitVec.ofInt 32 (dispatchPair s.chip.field.disp (r.u32 0)).1) (BitVec.ofInt 32 (dispatchPair s.chip.field.disp (r.u32 0)).2))) :=
  congrArg Host.Outcome.next (State.field_completes h rfl)

end DispatcherCommands

/-- Settles O20: each event by its count, and each command by what it leaves of the field side as it completes. -/
theorem dispatcherCountsAndCommands : Obligations.DispatcherCountsAndCommands := by
  refine ⟨?blind, ?blindExit, ?imbalance, ?shortfall, ?surplus, ?overrun, ?cntRead, ?vset, ?loop, ?sharing, ?weight, ?exclude, ?unit, ?wear,
    ?dispatch⟩
  case blind =>
    intro s
    by_cases h : s.chip.field.disp.invalidRun ≠ 40 ∨ s.chip.field.disp.blind = true
    · exact ⟨s, exec_dispatchBlind_not h, rfl, fun hi hb => by simp [hi, hb] at h, fun _ => rfl⟩
    · obtain ⟨hi, hb⟩ : s.chip.field.disp.invalidRun = 40 ∧ s.chip.field.disp.blind = false := by simpa using h
      exact ⟨_, exec_dispatchBlind_due hi hb, rfl, fun _ _ => ⟨rfl, rfl⟩, fun hn => absurd hn h⟩
  case blindExit =>
    intro s
    by_cases h : s.chip.field.disp.validRun ≠ 40 ∨ s.chip.field.disp.blind = false
    · exact ⟨s, exec_blindExit_not h, rfl, fun hv hb => by simp [hv, hb] at h, fun _ => rfl⟩
    · obtain ⟨hv, hb⟩ : s.chip.field.disp.validRun = 40 ∧ s.chip.field.disp.blind = true := by simpa using h
      exact ⟨_, exec_blindExit_due hv hb, rfl, fun _ _ => ⟨rfl, rfl, rfl, rfl⟩, fun hn => absurd hn h⟩
  case imbalance | shortfall | surplus =>
    intro s
    refine ⟨_, rfl, rfl, ?_⟩
    simp only [State.onField_field]
    split
    · exact ⟨rfl, rfl⟩
    · exact ⟨rfl, (List.append_nil _).symm⟩
  case overrun =>
    intro s
    by_cases h : s.chip.field.tick.ranThisTick = true ∨ s.chip.field.tick.overran = true ∨ s.chip.field.runs = false
    · exact ⟨s, exec_tickOverrun_not h, rfl, fun h1 ho hr => by simp [h1, ho, hr] at h, fun _ => rfl⟩
    · obtain ⟨h1, ho, hr⟩ : s.chip.field.tick.ranThisTick = false ∧ s.chip.field.tick.overran = false ∧ s.chip.field.runs = true := by
        simpa using h
      refine ⟨_, exec_tickOverrun_due h1 ho hr, rfl, fun _ _ _ => ?_, fun hn => absurd hn h⟩
      rw [State.onField_field, FieldDie.overrun_tick]
      exact ⟨rfl, rfl, rfl, rfl, FieldDie.overrun_slot _ _, FieldDie.mem_vectors_vector _ 49, FieldDie.overrun_arisen _ _⟩
  case cntRead =>
    intro s
    exact ⟨_, rfl, rfl, congrArg (fun w => [w]) (FieldDie.dispCnt_eq s.chip.field), rfl, rfl⟩
  case vset =>
    intro r s h
    rcases Nat.lt_or_ge s.chip.field.grid.cfg.winLo (r.u32 0) with hlo | hlo
    · rcases Nat.lt_or_ge (r.u32 0) s.chip.field.grid.cfg.winHi with hhi | hhi
      · refine ⟨_, exec_setVset_inside h hlo hhi, fun _ _ => ⟨?_, fieldAnswers_fieldDone h rfl rfl⟩, fun hw => ?_⟩
        · rw [fieldDone_disp]
          rfl
        · exact absurd hw (by omega)
      · exact ⟨_, exec_setVset_outside h (.inr hhi), fun _ hhi' => absurd hhi' (Nat.not_lt.mpr hhi),
          fun _ => ⟨fieldDone_disp, fieldAnswers_fieldDone h rfl rfl⟩⟩
    · exact ⟨_, exec_setVset_outside h (.inl hlo), fun hlo' => absurd hlo' (Nat.not_lt.mpr hlo),
        fun _ => ⟨fieldDone_disp, fieldAnswers_fieldDone h rfl rfl⟩⟩
  case loop =>
    intro r s h
    refine ⟨_, exec_setLoop h, ?_, ?_, fieldAnswers_fieldDone h rfl rfl⟩
    all_goals rw [fieldDone_disp]; rfl
  case sharing =>
    intro r s h
    refine ⟨_, exec_setSharing h, ?_, fieldAnswers_fieldDone h rfl rfl⟩
    rw [fieldDone_disp]
    rfl
  case weight =>
    intro r s h
    have hk : r.unit < 96 := unit_lt_of_fieldTakes rfl h
    refine ⟨_, exec_setUnitWeight h, fun h0 => ?_, fun h0 => ?_, fun k hne => ?_, fieldAnswers_fieldDone h rfl rfl⟩
    · rw [fieldDone_sl, FieldDie.sl_modSl_self _ _ _ hk, weightSet, if_pos h0]
    · rw [fieldDone_sl, FieldDie.sl_modSl_self _ _ _ hk, weightSet, if_neg h0]
    · rw [fieldDone_sl, FieldDie.sl_modSl_ne _ _ _ _ hne]
  case exclude =>
    intro r s h
    have hk : r.unit < 96 := unit_lt_of_fieldTakes rfl h
    refine ⟨_, exec_excludeUnit h, ?_, fun k hne => ?_, fieldAnswers_fieldDone h rfl rfl⟩
    · rw [fieldDone_sl, FieldDie.sl_modSl_self _ _ _ hk]
    · rw [fieldDone_sl, FieldDie.sl_modSl_ne _ _ _ _ hne]
  case unit =>
    intro r s h
    refine ⟨_, exec_getUnit h, fieldDone_reads h, ?_⟩
    rw [← result2_eq]
    exact fieldAnswers_fieldDone h rfl rfl
  case wear =>
    intro r s h
    exact ⟨_, exec_getWear h, fieldDone_reads h, fieldAnswers_fieldDone h rfl rfl⟩
  case dispatch =>
    intro r s h
    refine ⟨_, exec_getDispatch h, fieldDone_reads h, fun h0 => ?_, fun h0 => ?_, fun h0 => ?_⟩
    all_goals
      rw [h0, ← result2_eq]
      exact fieldAnswers_fieldDone h rfl rfl

end Machine

end Sys2Proof

/-! Proofs of the statements of 07_holdup_ridethrough_and_grid.md. What a command of group 0x30 leaves of the grid state first, and the commands'
statement from it; then the input, the batches and the releases by their conditions, and the statement of ride-through and re-entry. -/

namespace Sys2Proof

namespace Machine

section GridCommands

variable {c : FCmd} {r : Request} {s : State} {g : Grid} {st : Status} {x : Nat}

/-- A field-executed command that changes at most the grid state and answers at once. -/
theorem State.field_setsGrid (h : fieldTakes c r s)
    (hop : c.op s.chip.variant s.chip.field (arriving c r s) = ({ s.chip.field with grid := g }, some (st, x))) :
    fieldAnswers s (s.field c r) r st x ∧ (s.field c r).chip.field.grid = g := by
  rw [State.field_completes h hop]
  exact ⟨fieldAnswers_fieldDone h rfl rfl, FieldDie.complete_grid _ _ _ _ _ _⟩

theorem State.disp_field_setsGrid (h : fieldTakes c r s)
    (hop : c.op s.chip.variant s.chip.field (arriving c r s) = ({ s.chip.field with grid := g }, some (st, x))) :
    (s.field c r).chip.field.disp = s.chip.field.disp := by
  rw [State.field_completes h hop]
  exact fieldDone_disp

/-- A field-executed command that only reads, and answers at once. -/
theorem State.field_reads (h : fieldTakes c r s)
    (hop : c.op s.chip.variant s.chip.field (arriving c r s) = (s.chip.field, some (st, x))) :
    { (s.field c r).chip.field with bar := s.chip.field.bar } = s.chip.field ∧ fieldAnswers s (s.field c r) r st x := by
  rw [State.field_completes h hop]
  exact ⟨fieldDone_reads h, fieldAnswers_fieldDone h rfl rfl⟩

/-- SET_WINDOW with the target of the bus inside the window that it names, and with the target outside (R187). -/
theorem field_setWindow_inside (h : fieldTakes setWindowC r s) (hlo : r.u32 0 < s.chip.field.disp.cfg.vsetTgt)
    (hhi : s.chip.field.disp.cfg.vsetTgt < r.u32 4) : fieldAnswers s (s.field setWindowC r) r .ok 0 ∧
      (s.field setWindowC r).chip.field.grid = { s.chip.field.grid with
        cfg := { s.chip.field.grid.cfg with winLo := r.u32 0, winHi := r.u32 4, cBus := r.u32 8 } } :=
  State.field_setsGrid h (if_pos ⟨hlo, hhi⟩)

theorem field_setWindow_outside (h : fieldTakes setWindowC r s)
    (hw : s.chip.field.disp.cfg.vsetTgt ≤ r.u32 0 ∨ r.u32 4 ≤ s.chip.field.disp.cfg.vsetTgt) :
    fieldAnswers s (s.field setWindowC r) r .badParam 0 ∧ (s.field setWindowC r).chip.field.grid = s.chip.field.grid :=
  State.field_setsGrid h (if_neg fun ⟨hlo, hhi⟩ => hw.elim (Nat.not_le.mpr hlo) (Nat.not_le.mpr hhi))

end GridCommands

/-- Settles O21: a command that sets leaves the grid state that its meaning names, and one that reads leaves its completion alone. -/
theorem gridCommandsSetAndAnswer : Obligations.GridCommandsSetAndAnswer := by
  refine ⟨?window, ?holdup, ?reentry, ?warnLead, ?charge, ?ramp, ?freqResp, ?freqSrc, ?hostFreq, ?getHoldup, ?getGrid, ?getReserve⟩
  case window =>
    intro r s h
    refine ⟨s.field setWindowC r, rfl, fun hlo hhi => ?_, field_setWindow_outside h⟩
    obtain ⟨hans, hgrid⟩ := field_setWindow_inside h hlo hhi
    exact ⟨hans, congrArg Grid.cfg hgrid⟩
  case holdup | reentry | charge | ramp | freqResp | freqSrc | hostFreq =>
    intro r s h
    exact ⟨_, rfl, State.field_setsGrid h rfl⟩
  case warnLead =>
    intro r s h
    obtain ⟨hans, hgrid⟩ := State.field_setsGrid h rfl
    refine ⟨_, rfl, hans, fun i hi => ?_, State.disp_field_setsGrid h rfl⟩
    rw [hgrid]
    exact Tab.getD_mapIdx _ _ _ 0 hi
  case getReserve =>
    intro r s h
    exact ⟨_, rfl, State.field_reads h rfl⟩
  case getHoldup | getGrid =>
    intro r s h
    rw [← result2_eq]
    exact ⟨_, rfl, State.field_reads h rfl⟩

end Machine

end Sys2Proof

namespace Sys2Proof

namespace FieldDie

variable {v : Variant} {f : FieldDie} {b : Batch}

@[simp] theorem setInput_tick (f : FieldDie) (n : Nat) : (f.setInput n).tick = f.tick := by
  simp only [setInput]
  repeat' split
  all_goals simp

@[simp] theorem setInput_inputState (f : FieldDie) (n : Nat) : (f.setInput n).grid.inputState = n := by
  simp only [setInput]
  split
  case isTrue h => exact h.symm
  case isFalse =>
    repeat' split
    all_goals simp

/-- The input back from LOST (R182): RECOVERY, with a recovery batch from the next edge. -/
def recoveredFromLoss (f : FieldDie) : FieldDie :=
  { f.setInput 3 with grid := { (f.setInput 3).grid with batches := [{ start := f.tick.tb + 1, units := [], recovery := true }] } }

/-- A listed batch as it begins at this edge (R192): its units that are still held, each with its release tick. -/
def begunBatch (f : FieldDie) (b : Batch) : Batch :=
  let us := b.units.filter fun k => (f.sl k).ctx.held
  let due := us.zipIdx.map fun x => (x.1, f.tick.tb + f.grid.cfg.offset + x.2 * f.grid.cfg.reSpacing * 40)
  { b with start := f.tick.tb, begun := true, units := us, due := due, last := due.foldl (fun m d => max m d.2) f.tick.tb }

theorem batchBegin_slot : (f.batchBegin v).slot = f.slot := by
  simp only [batchBegin]
  split <;> rfl

theorem batchBegin_nil (h : f.grid.batches = []) : f.batchBegin v = f := by
  simp [batchBegin, h]

theorem batchBegin_listed (hb : f.grid.batches = [b]) (hn : b.begun = false) (hr : b.recovery = false) (ht : b.start ≤ f.tick.tb) :
    f.batchBegin v = { f with grid := { f.grid with batches := [f.begunBatch b] } } := by
  simp [batchBegin, begunBatch, hb, hn, hr, ht]

/-- Unit `k` released at this edge (R192): it is held no longer, and no batch lists it as due. -/
def reentered (f : FieldDie) (k : Nat) : FieldDie :=
  { f.modSl k (fun x => { x with ctx := { x.ctx with held := false } }) with
    grid := { f.grid with
      releaseEdge := some f.tick.tb, batches := f.grid.batches.map fun b => { b with due := b.due.filter (·.1 ≠ k) } } }

end FieldDie

namespace Machine

section RideThroughEvents

variable {k : Fin 96} {n : Nat} {s : State}

theorem exec_inputRecovery_early (h : s.chip.field.grid.recovCnt < s.chip.field.grid.cfg.recov) : exec .inputRecovery s = .next s :=
  congrArg Host.Outcome.next (State.onField_eq_self (if_pos h))

theorem exec_inputRecovery_dip (hc : s.chip.field.grid.cfg.recov ≤ s.chip.field.grid.recovCnt) (hi : s.chip.field.grid.inputState = 1)
    (hb : s.chip.field.grid.batches = []) : exec .inputRecovery s = .next (s.onField fun f => f.setInput 0) := by
  change execInputRecovery s = _
  simp [execInputRecovery, State.onField, Nat.not_lt.mpr hc, hi, hb]

theorem exec_inputRecovery_loss (hc : s.chip.field.grid.cfg.recov ≤ s.chip.field.grid.recovCnt) (hi : s.chip.field.grid.inputState = 2) :
    exec .inputRecovery s = .next (s.onField FieldDie.recoveredFromLoss) := by
  change execInputRecovery s = _
  simp [execInputRecovery, State.onField, FieldDie.recoveredFromLoss, Nat.not_lt.mpr hc, hi]

/-- A complete count ends a dip only once no batch is pending, and means nothing in the other states (R182). -/
theorem exec_inputRecovery_stays (hd : s.chip.field.grid.inputState = 1 → s.chip.field.grid.batches ≠ [])
    (hl : s.chip.field.grid.inputState ≠ 2) : exec .inputRecovery s = .next s := by
  have hdip : ¬ (s.chip.field.grid.inputState = 1 ∧ s.chip.field.grid.batches = []) := fun ⟨hi, hb⟩ => hd hi hb
  change execInputRecovery s = _
  simp only [execInputRecovery, State.onField, if_neg hdip, if_neg hl, ite_self]

theorem exec_reentryRelease_due (hk : k.val < s.chip.variant.slots) (hd : s.chip.field.releaseDue k = true)
    (he : s.chip.field.march.startEdge ≠ some s.chip.field.tick.tb) :
    exec (.reentryRelease k) s = .next (s.onField fun f => f.reentered k) := by
  change execReentryRelease k s = _
  rw [execReentryRelease, State.onSlot_present hk]
  simp only [State.onField, if_pos (And.intro hd he)]
  rfl

theorem exec_reentryRelease_not (h : s.chip.variant.slots ≤ k.val ∨ s.chip.field.releaseDue k = false ∨
    s.chip.field.march.startEdge = some s.chip.field.tick.tb) : exec (.reentryRelease k) s = .next s := by
  change execReentryRelease k s = _
  rcases Nat.lt_or_ge k.val s.chip.variant.slots with hk | hk
  · have hno := h.resolve_left (Nat.not_le.mpr hk)
    rw [execReentryRelease, State.onSlot_present hk]
    refine congrArg Host.Outcome.next (State.onField_eq_self (if_neg fun ⟨hd, he⟩ => hno.elim (fun hd' => ?_) he))
    exact Bool.noConfusion (hd.symm.trans hd')
  · exact congrArg Host.Outcome.next (State.onSlot_absent hk)

theorem exec_hostFreqExpiry_due (hu : s.chip.field.grid.hostUntil = some n) (hn : n ≤ s.chip.field.tick.tb) :
    exec .hostFreqExpiry s = .next (s.onField fun f => { f with grid := { f.grid with hostUntil := none } }) := by
  change execHostFreqExpiry s = _
  simp [execHostFreqExpiry, State.onField, hu, hn]

theorem exec_hostFreqExpiry_not (h : ∀ n, s.chip.field.grid.hostUntil = some n → s.chip.field.tick.tb < n) :
    exec .hostFreqExpiry s = .next s := by
  change execHostFreqExpiry s = _
  refine congrArg Host.Outcome.next (State.onField_eq_self ?_)
  split
  next n hu => exact if_neg (Nat.not_le.mpr (h n hu))
  next => rfl

end RideThroughEvents

/-- Settles O22: the input by its count and its state, the batch that begins, the release by its condition, and the frequency by its age. -/
theorem inputRecoveryReleasesBatches : Obligations.InputRecoveryReleasesBatches := by
  refine ⟨?recovery, ?batchStart, ?release, ?expiry⟩
  case recovery =>
    intro s
    rcases Nat.lt_or_ge s.chip.field.grid.recovCnt s.chip.field.grid.cfg.recov with hc | hc
    · exact ⟨s, exec_inputRecovery_early hc, rfl, fun _ => rfl, fun hc' => absurd hc (Nat.not_lt.mpr hc')⟩
    · have hlate := Nat.not_lt.mpr hc
      by_cases hl : s.chip.field.grid.inputState = 2
      · refine ⟨_, exec_inputRecovery_loss hc hl, rfl, fun h => absurd h hlate, fun _ => ⟨fun hd => ?_, fun hd => ?_, fun _ => ?_⟩⟩
        · exact absurd (hd.symm.trans hl) (by decide)
        · exact absurd (hd.symm.trans hl) (by decide)
        · exact ⟨FieldDie.setInput_inputState _ 3, rfl, rfl⟩
      · by_cases hd : s.chip.field.grid.inputState = 1 ∧ s.chip.field.grid.batches = []
        · obtain ⟨hi, hb⟩ := hd
          exact ⟨_, exec_inputRecovery_dip hc hi hb, rfl, fun h => absurd h hlate,
            fun _ => ⟨fun _ _ => FieldDie.setInput_inputState _ 0, fun _ hb' => absurd hb hb', fun h => absurd h hl⟩⟩
        · exact ⟨s, exec_inputRecovery_stays (fun hi hb => hd ⟨hi, hb⟩) hl, rfl, fun _ => rfl,
            fun _ => ⟨fun hi hb => absurd ⟨hi, hb⟩ hd, fun _ _ => rfl, fun h => absurd h hl⟩⟩
  case batchStart =>
    intro s
    refine ⟨_, rfl, rfl, FieldDie.batchBegin_slot, fun h => State.onField_eq_self (FieldDie.batchBegin_nil h), fun b hb hn hr ht => ?_⟩
    rw [State.onField_field, FieldDie.batchBegin_listed hb hn hr ht]
    exact ⟨rfl, rfl, rfl⟩
  case release =>
    intro k s
    by_cases h : s.chip.variant.slots ≤ k.val ∨ s.chip.field.releaseDue k = false ∨
        s.chip.field.march.startEdge = some s.chip.field.tick.tb
    · refine ⟨s, exec_reentryRelease_not h, rfl, fun _ => rfl, ⟨fun _ _ => rfl, rfl, rfl⟩, fun hk hd he => ?_, fun _ => rfl⟩
      simp [Nat.not_le.mpr hk, hd, he] at h
    · obtain ⟨hk, hd, he⟩ : k.val < s.chip.variant.slots ∧ s.chip.field.releaseDue k = true ∧
          s.chip.field.march.startEdge ≠ some s.chip.field.tick.tb := by simpa using h
      exact ⟨_, exec_reentryRelease_due hk hd he, rfl, fun hn => absurd hn (Nat.not_le.mpr hk),
        ⟨fun j hj => FieldDie.sl_modSl_ne _ _ _ _ hj, rfl, rfl⟩, fun _ _ _ => ⟨FieldDie.sl_modSl_self _ _ _ k.isLt, rfl⟩,
        fun hn => absurd (.inr hn) h⟩
  case expiry =>
    intro s
    by_cases h : ∃ n, s.chip.field.grid.hostUntil = some n ∧ n ≤ s.chip.field.tick.tb
    · obtain ⟨n, hu, hn⟩ := h
      refine ⟨_, exec_hostFreqExpiry_due hu hn, rfl, fun _ _ _ => rfl, fun m hm hlt => ?_, fun h0 => ?_⟩
      · have hmn : m = n := Option.some.inj (hm.symm.trans hu)
        omega
      · exact absurd (hu.symm.trans h0) (Option.some_ne_none n)
    · have hage : ∀ n, s.chip.field.grid.hostUntil = some n → s.chip.field.tick.tb < n := by simpa using h
      exact ⟨s, exec_hostFreqExpiry_not hage, rfl, fun n hu hn => absurd ⟨n, hu, hn⟩ h, fun _ _ _ => rfl, fun _ => rfl⟩

end Machine

end Sys2Proof

/-! Proofs of the statements of 08_capping_and_shedding.md. What capping, a vector and a close request leave first; then what a command of
group 0x38 leaves as it completes, and the commands' statement from it; then each event by its condition, and the statement of the caps. -/

namespace Sys2Proof

namespace FieldDie

variable {f : FieldDie} {b : Nat}

@[simp] theorem modCap_cap (f : FieldDie) (g : Capping → Capping) : (f.modCap g).cap = g f.cap := rfl
@[simp] theorem modCap_tick (f : FieldDie) (g : Capping → Capping) : (f.modCap g).tick = f.tick := rfl
@[simp] theorem modCap_fcol (f : FieldDie) (g : Capping → Capping) : (f.modCap g).fcol = f.fcol := rfl
@[simp] theorem br_modCap (f : FieldDie) (g : Capping → Capping) (b : Nat) : (f.modCap g).br b = f.br b := rfl

/-- The branches are read from their table alone. -/
theorem br_of_branch {g : FieldDie} (h : f.branch = g.branch) (b : Nat) : f.br b = g.br b := congrArg (fun t => t.getD b {}) h

@[simp] theorem br_vector (f : FieldDie) (n b : Nat) : (f.vector n).br b = f.br b := br_of_branch (vector_branch f n) b

/-- A vector that is raised leaves the completions that wait to cross. -/
theorem vector_completions (f : FieldDie) (n : Nat) : (f.vector n).bar.completions = f.bar.completions := by
  unfold vector
  split <;> rfl

/-- A close request of a shed branch: it waits with the mark of SHED (R287, R309). -/
theorem requestClose_shed (hb : b < 32) (h : (f.br b).state = 6) : ((f.requestClose b).br b).state = 2 ∧
    ((f.requestClose b).br b).closeReq = true ∧ ((f.requestClose b).br b).closeShed = true := by
  rw [requestClose, br_modBr_self _ _ _ hb]
  exact ⟨rfl, rfl, by simp [h]⟩

end FieldDie

/-- A command that names a branch takes effect only on one that exists. -/
theorem admitF_branch {v : Variant} {f : FieldDie} {c : FCmd} {r : Request} (hc : c.unit = .branch) (h : admitF v f c r = none) :
    r.unit - 96 < v.branches := by
  unfold admitF admitUnit unitStatus at h
  rw [hc] at h
  grind

namespace Machine

section CapCommands

variable {c : FCmd} {r : Request} {s : State} {g : FieldDie} {st : Status} {x : Nat}

/-- A field-executed command that leaves the waiting completions and the twin's state alone, and answers at once: it answers, and the rest is as
its meaning leaves it. -/
theorem State.field_answers (h : fieldTakes c r s) (hop : c.op s.chip.variant s.chip.field (arriving c r s) = (g, some (st, x)))
    (hc : g.bar.completions = s.chip.field.bar.completions) (ht : g.twin = s.chip.field.twin) :
    fieldAnswers s (s.field c r) r st x ∧ (s.field c r).chip.field.cap = g.cap ∧ (s.field c r).chip.field.branch = g.branch ∧
      (s.field c r).chip.field.bar.vectors = g.bar.vectors := by
  rw [State.field_completes h hop]
  refine ⟨⟨?_, rfl⟩, FieldDie.complete_cap _ _ _ _ _ _, FieldDie.complete_branch _ _ _ _ _ _, ?_⟩
  all_goals rw [fieldDone_field h]
  rw [hc, ht]

theorem branch_lt_of_fieldTakes (hc : c.unit = .branch) (h : fieldTakes c r s) : r.unit - 96 < 32 := by
  obtain ⟨_, _, _, _, _, _, hadm, _⟩ := h
  have hlt : (arriving c r s).unit - 96 < s.chip.variant.branches := admitF_branch hc hadm
  exact Nat.lt_of_lt_of_le hlt (Variant.branches_le _)

/-- The cap that SET_CAP sets (R202). -/
def capSet (r : Request) (tb : Nat) : Cap :=
  { limit := if r.u32 4 = 0 then none else some (r.u32 4), deadline := r.u32 8
    lapse := if r.u32 12 = 0 ∨ r.u32 4 = 0 then none else some (tb + r.u32 12 * 40000) }

theorem setCapC_op : setCapC.op s.chip.variant s.chip.field (arriving setCapC r s) =
    (s.chip.field.modCap fun k => if r.u32 0 = 0 then { k with grid := capSet r s.chip.field.tick.tb }
      else { k with deliv := capSet r s.chip.field.tick.tb },
      some (.ok, (if r.u32 0 = 0 then s.chip.field.cap.grid else s.chip.field.cap.deliv).limit.getD 0)) := rfl

theorem field_setCap_grid (h : fieldTakes setCapC r s) (h0 : r.u32 0 = 0) :
    fieldAnswers s (s.field setCapC r) r .ok (s.chip.field.cap.grid.limit.getD 0) ∧
      (s.field setCapC r).chip.field.cap = { s.chip.field.cap with grid := capSet r s.chip.field.tick.tb } := by
  obtain ⟨hans, hcap, _⟩ := State.field_answers h setCapC_op rfl rfl
  simp only [h0, if_true, FieldDie.modCap_cap] at hans hcap
  exact ⟨hans, hcap⟩

theorem field_setCap_delivered (h : fieldTakes setCapC r s) (h1 : r.u32 0 = 1) :
    fieldAnswers s (s.field setCapC r) r .ok (s.chip.field.cap.deliv.limit.getD 0) ∧
      (s.field setCapC r).chip.field.cap = { s.chip.field.cap with deliv := capSet r s.chip.field.tick.tb } := by
  obtain ⟨hans, hcap, _⟩ := State.field_answers h setCapC_op rfl rfl
  simp only [h1, Nat.one_ne_zero, if_false, FieldDie.modCap_cap] at hans hcap
  exact ⟨hans, hcap⟩

/-- A branch as SET_BRANCH_CAP sets it (R222). -/
def branchCapSet (r : Request) (b : Branch) : Branch :=
  { b with cfg := { b.cfg with pri := r.u32 0, shedEn := r.u32 4 == 1 }, pending := b.pending && r.u32 4 == 1 }

theorem setBranchCapC_op : setBranchCapC.op s.chip.variant s.chip.field (arriving setBranchCapC r s) =
    (s.chip.field.modBr (r.unit - 96) (branchCapSet r), some (.ok, 0)) := rfl

/-- RESTORE_BRANCH on a branch that is not shed, while CAPPED holds, and where it requests the close (R217). -/
theorem restoreBranchC_notShed (hs : (s.chip.field.br (r.unit - 96)).state ≠ 6) :
    restoreBranchC.op s.chip.variant s.chip.field (arriving restoreBranchC r s) = (s.chip.field, some (.badParam, 0)) :=
  if_pos hs

theorem restoreBranchC_capped (hs : (s.chip.field.br (r.unit - 96)).state = 6) (hc : s.chip.field.cap.capped = true) :
    restoreBranchC.op s.chip.variant s.chip.field (arriving restoreBranchC r s) = (s.chip.field, some (.busy, 0)) :=
  (if_neg (not_not_intro hs)).trans (if_pos hc)

theorem restoreBranchC_requests (hs : (s.chip.field.br (r.unit - 96)).state = 6) (hc : s.chip.field.cap.capped = false) :
    restoreBranchC.op s.chip.variant s.chip.field (arriving restoreBranchC r s) =
      ((s.chip.field.requestClose (r.unit - 96)).vector 37, some (.ok, 0)) :=
  (if_neg (not_not_intro hs)).trans (if_neg (Bool.eq_false_iff.mp hc))

end CapCommands

/-- Settles O23: a command that sets leaves the caps or the branch that its meaning names, a restore goes by the branch's state and CAPPED, and a
command that reads leaves its completion alone. -/
theorem capCommandsSetAndAnswer : Obligations.CapCommandsSetAndAnswer := by
  refine ⟨?cap, ?policy, ?branchCap, ?restore, ?getCap, ?getBudget⟩
  case cap =>
    intro r s h
    refine ⟨s.field setCapC r, rfl, fun h0 => ?_, fun h1 => ?_⟩
    · obtain ⟨hans, hcap⟩ := field_setCap_grid h h0
      exact ⟨hans, by rw [hcap], by rw [hcap, capSet]⟩
    · obtain ⟨hans, hcap⟩ := field_setCap_delivered h h1
      exact ⟨hans, by rw [hcap], by rw [hcap, capSet]⟩
  case policy =>
    intro r s h
    obtain ⟨hans, hcap, _⟩ := State.field_answers h rfl rfl rfl
    exact ⟨_, rfl, hans, hcap⟩
  case branchCap =>
    intro r s h
    have hb : r.unit - 96 < 32 := branch_lt_of_fieldTakes rfl h
    obtain ⟨hans, _, hbranch, _⟩ := State.field_answers h setBranchCapC_op rfl rfl
    have hbr := FieldDie.br_of_branch hbranch
    have hset := (hbr (r.unit - 96)).trans (FieldDie.br_modBr_self _ _ _ hb)
    refine ⟨_, rfl, hans, congrArg Branch.cfg hset, fun h0 => (congrArg Branch.pending hset).trans ?_,
      fun b hne => (hbr b).trans (FieldDie.br_modBr_ne _ _ _ _ hne)⟩
    simp [branchCapSet, h0]
  case restore =>
    intro r s h
    refine ⟨s.field restoreBranchC r, rfl, fun hs => ?_, fun hs hc => ?_, fun hs hc => ?_⟩
    · obtain ⟨hans, _, hbranch, _⟩ := State.field_answers h (restoreBranchC_notShed hs) rfl rfl
      exact ⟨hbranch, hans⟩
    · obtain ⟨hans, _, hbranch, _⟩ := State.field_answers h (restoreBranchC_capped hs hc) rfl rfl
      exact ⟨hbranch, hans⟩
    · have hb : r.unit - 96 < 32 := branch_lt_of_fieldTakes rfl h
      obtain ⟨hans, _, hbranch, hvec⟩ := State.field_answers h (restoreBranchC_requests hs hc) (FieldDie.vector_completions _ _)
        (FieldDie.vector_twin _ _)
      have hbr := (FieldDie.br_of_branch hbranch (r.unit - 96)).trans (FieldDie.br_vector _ _ _)
      obtain ⟨hwait, hreq, hmark⟩ := FieldDie.requestClose_shed hb hs
      exact ⟨hans, (congrArg Branch.state hbr).trans hwait, (congrArg Branch.closeReq hbr).trans hreq,
        (congrArg Branch.closeShed hbr).trans hmark, hvec ▸ FieldDie.mem_vectors_vector _ 37⟩
  case getCap | getBudget =>
    intro r s h
    rw [← result2_eq]
    exact ⟨_, rfl, State.field_reads h rfl⟩

end Machine

end Sys2Proof

namespace Sys2Proof

namespace FieldDie

variable {v : Variant} {f : FieldDie} {b k : Nat}

/-- The cap on delivered power or on grid power. -/
def capOf (d : Bool) (c : Capping) : Cap := if d then c.deliv else c.grid

/-- A cap whose lapse has come (R202): it becomes NONE, with its event and vector. -/
def capLapsed (d : Bool) (f : FieldDie) : FieldDie :=
  let c := { capOf d f.cap with limit := none, lapse := none }
  ((f.modCap fun x => if d then { x with deliv := c } else { x with grid := c }).raise 201 3).vector 37

theorem limit_capOf_capLapsed (d : Bool) : (capOf d (f.capLapsed d).cap).limit = none := by
  cases d <;> simp [capLapsed, capOf]

theorem capLapsed_arisen (d : Bool) : (f.capLapsed d).fcol.arisen =
    f.fcol.arisen ++ [{ tb := f.tick.tb, fine := f.tick.fine, src := 201, code := 3, value := 0 }] := by
  simp [capLapsed]

/-- The lapse of one cap leaves the other. -/
theorem capLapsed_other (d : Bool) :
    (if d then (f.capLapsed d).cap.grid else (f.capLapsed d).cap.deliv) = if d then f.cap.grid else f.cap.deliv := by
  cases d <;> simp [capLapsed]

theorem mem_shedOrder {bs : List Nat} : b ∈ f.shedOrder bs ↔ b ∈ bs := List.mem_mergeSort

theorem mem_pendingSet : b ∈ f.pendingSet v ↔ b < v.branches ∧ (f.br b).pending = true := by
  simp [pendingSet, mem_shedOrder, branches]

/-- Branch `k` no longer pending (R211). -/
def unpend (f : FieldDie) (k : Nat) : FieldDie := f.modBr k fun x => { x with pending := false }

theorem pending_unpend_self (hb : b < 32) : ((f.unpend b).br b).pending = false := by
  rw [unpend, br_modBr_self _ _ _ hb]

theorem pending_unpend (hb : b < 32) (h : (f.br b).pending = false) : ((f.unpend k).br b).pending = false := by
  by_cases hk : b = k
  · exact hk ▸ pending_unpend_self hb
  · rw [unpend, br_modBr_ne _ _ _ _ hk, h]

theorem episodeEnd_cap : (f.episodeEnd v).cap = { f.cap with age := 0, violation := false, reached := false } := by
  have hcap : ((f.pendingSet v).foldl unpend f).cap = f.cap := foldl_keeps (op := unpend) FieldDie.cap (fun _ _ => rfl) _ _
  exact congrArg (fun c : Capping => { c with age := 0, violation := false, reached := false }) hcap

/-- An episode's end withdraws every warning (R211): each pending branch is in the set that it goes through. -/
theorem episodeEnd_pending (hb : b < v.branches) : ((f.episodeEnd v).br b).pending = false := by
  have hb' : b < 32 := Nat.lt_of_lt_of_le hb (Variant.branches_le v)
  change (((f.pendingSet v).foldl unpend f).br b).pending = false
  by_cases hp : (f.br b).pending = true
  · exact foldl_reaches (inv := fun _ => True) (goal := fun g : FieldDie => (g.br b).pending = false) (fun _ _ _ => trivial)
      (mem_pendingSet.mpr ⟨hb, hp⟩) (fun _ _ => pending_unpend_self hb') (fun _ _ _ h => pending_unpend hb' h) trivial
  · exact List.foldlRecOn (motive := fun g : FieldDie => (g.br b).pending = false) _ _ (Bool.eq_false_iff.mpr hp)
      fun _ h _ _ => pending_unpend hb' h

/-- The branches that are shed, in shed order (R212, R218). -/
def shedSet (v : Variant) (f : FieldDie) : List Nat := f.shedOrder ((branches v).filter fun b => (f.br b).state == 6)

theorem mem_shedSet : b ∈ f.shedSet v ↔ b < v.branches ∧ (f.br b).state = 6 := by
  simp [shedSet, mem_shedOrder, branches]

/-- What the automatic restore of branch `b` needs (R218). -/
structure RestoreDue (v : Variant) (f : FieldDie) (b : Nat) : Prop where
  last : (f.shedSet v).getLast? = some b
  auto : f.cap.autoRestore = true
  uncapped : f.cap.capped = false
  delay : f.cap.restoreRef + f.cap.restoreDly * 40 ≤ f.tick.tb
  room : (f.br b).dLast + f.cap.allow / 16 ≤ f.cap.allow - f.cap.iLoad
  loaded : f.cfg.loaded = true
  notWinter : f.power.winter = false

/-- A branch whose automatic restore is due is one that the variant has, and shed. -/
theorem RestoreDue.shed (h : f.RestoreDue v b) : b < v.branches ∧ (f.br b).state = 6 := mem_shedSet.mp (List.mem_of_getLast? h.last)

/-- The close request of the automatic restore, from which the next delay counts (R218). -/
def restored (f : FieldDie) (b : Nat) : FieldDie :=
  ((f.requestClose b).modCap fun c => { c with restoreRef := f.tick.tb }).vector 37

end FieldDie

namespace Machine

section CapEvents

variable {b n : Nat} {d : Bool} {s : State}

theorem exec_capExpired_due (hl : (FieldDie.capOf d s.chip.field.cap).lapse = some n) (hn : n ≤ s.chip.field.tick.tb) :
    exec (.capExpired d) s = .next (s.onField (FieldDie.capLapsed d)) := by
  unfold FieldDie.capOf at hl
  change execCapExpired d s = _
  simp only [execCapExpired, State.onField, hl, if_neg (Nat.not_lt.mpr hn)]
  rfl

theorem exec_capExpired_not (h : ∀ n, (FieldDie.capOf d s.chip.field.cap).lapse = some n → s.chip.field.tick.tb < n) :
    exec (.capExpired d) s = .next s := by
  unfold FieldDie.capOf at h
  change execCapExpired d s = _
  rcases hl : (if d then s.chip.field.cap.deliv else s.chip.field.cap.grid).lapse with _ | n
  · simp only [execCapExpired, State.onField, hl]
  · simp only [execCapExpired, State.onField, hl, if_pos (h n hl)]

theorem exec_capUnrelieved_due (h : s.chip.field.cap.xuRun = 40) : exec .capUnrelieved s =
    .next (s.onField fun f => (f.modCap fun c => { c with reached := true, xuRun := 41 }).raise 203 1) := by
  change execCapUnrelieved s = _
  simp [execCapUnrelieved, State.onField, h]

theorem exec_capUnrelieved_not (h : s.chip.field.cap.xuRun ≠ 40) : exec .capUnrelieved s = .next s :=
  congrArg Host.Outcome.next (State.onField_eq_self (if_neg h))

theorem exec_thrRelease_due (hr : s.chip.field.cap.release * 40 ≤ s.chip.field.cap.relRun) (ht : s.chip.field.cap.thr.rows.any id = true) :
    exec .thrRelease s = .next (s.onField fun f =>
      (f.modCap fun c => { c with thr := Tab.fill 8 false, thrRun := Tab.fill 8 0 }).vector 37) := by
  change execThrRelease s = _
  simp only [execThrRelease, State.onField, if_pos (And.intro hr ht)]

theorem exec_thrRelease_not (h : ¬ (s.chip.field.cap.release * 40 ≤ s.chip.field.cap.relRun ∧ s.chip.field.cap.thr.rows.any id = true)) :
    exec .thrRelease s = .next s :=
  congrArg Host.Outcome.next (State.onField_eq_self (if_neg h))

theorem exec_capEpisodeEnd_due (h : s.chip.field.cap.quietRun = 40) :
    exec .capEpisodeEnd s = .next (s.onField (FieldDie.episodeEnd s.chip.variant)) := by
  change execCapEpisodeEnd s = _
  simp only [execCapEpisodeEnd, State.onField, if_pos h]

theorem exec_capEpisodeEnd_not (h : s.chip.field.cap.quietRun ≠ 40) : exec .capEpisodeEnd s = .next s :=
  congrArg Host.Outcome.next (State.onField_eq_self (if_neg h))

theorem exec_autoRestore_due (h : s.chip.field.RestoreDue s.chip.variant b) :
    exec .autoRestore s = .next (s.onField fun f => f.restored b) := by
  have hlast := h.last
  unfold FieldDie.shedSet at hlast
  change execAutoRestore s = _
  simp [execAutoRestore, State.onField, FieldDie.restored, hlast, h.auto, h.uncapped, h.delay, h.room, h.loaded, h.notWinter]

theorem exec_autoRestore_not (h : ∀ b, ¬ s.chip.field.RestoreDue s.chip.variant b) : exec .autoRestore s = .next s := by
  refine congrArg Host.Outcome.next (State.onField_eq_self ?_)
  dsimp only
  split
  next => rfl
  next b hlast =>
    exact if_neg fun ⟨auto, uncapped, delay, room, loaded, notWinter⟩ =>
      h b ⟨hlast, auto, Bool.eq_false_iff.mpr uncapped, delay, room, loaded, Bool.eq_false_iff.mpr notWinter⟩

end CapEvents

/-- Settles O24: a cap by its lapse, the excess and the quiet runs by their counts, the throttling by its release, and a restore by what it needs. -/
theorem capsLapseReleaseAndRestore : Obligations.CapsLapseReleaseAndRestore := by
  refine ⟨?expired, ?unrelieved, ?release, ?episode, ?restore⟩
  case expired =>
    intro d s
    by_cases h : ∃ n, (FieldDie.capOf d s.chip.field.cap).lapse = some n ∧ n ≤ s.chip.field.tick.tb
    · obtain ⟨n, hl, hn⟩ := h
      refine ⟨_, exec_capExpired_due hl hn, rfl, FieldDie.vector_branch _ _, fun h0 => ?_,
        fun m hm => ⟨fun hlt => ?_, fun _ => ⟨?_, ?_, ?_⟩⟩⟩
      · exact absurd (hl.symm.trans h0) (Option.some_ne_none n)
      · have hmn : m = n := Option.some.inj (hm.symm.trans hl)
        omega
      · exact FieldDie.limit_capOf_capLapsed d
      · exact FieldDie.capLapsed_other d
      · exact FieldDie.capLapsed_arisen d
    · have hage : ∀ n, (FieldDie.capOf d s.chip.field.cap).lapse = some n → s.chip.field.tick.tb < n := by simpa using h
      exact ⟨s, exec_capExpired_not hage, rfl, rfl, fun _ => rfl, fun m hm => ⟨fun _ => rfl, fun hle => absurd ⟨m, hm, hle⟩ h⟩⟩
  case unrelieved =>
    intro s
    by_cases h : s.chip.field.cap.xuRun = 40
    · exact ⟨_, exec_capUnrelieved_due h, rfl, fun _ => ⟨rfl, rfl⟩, fun hn => absurd h hn⟩
    · exact ⟨s, exec_capUnrelieved_not h, rfl, fun hx => absurd hx h, fun _ => rfl⟩
  case release =>
    intro s
    by_cases h : s.chip.field.cap.release * 40 ≤ s.chip.field.cap.relRun ∧ s.chip.field.cap.thr.rows.any id = true
    · obtain ⟨hr, ht⟩ := h
      refine ⟨_, exec_thrRelease_due hr ht, rfl, fun _ _ => ⟨fun g => ?_, FieldDie.mem_vectors_vector _ 37⟩,
        fun hlt => absurd hr (Nat.not_le.mpr hlt)⟩
      rw [State.onField_field, FieldDie.vector_cap]
      exact Tab.getD_fill g false
    · exact ⟨s, exec_thrRelease_not h, rfl, fun hr ht => absurd ⟨hr, List.any_eq_true.mpr ht⟩ h, fun _ => rfl⟩
  case episode =>
    intro s
    by_cases h : s.chip.field.cap.quietRun = 40
    · refine ⟨_, exec_capEpisodeEnd_due h, rfl, fun _ => ?_, fun hn => absurd h hn⟩
      rw [State.onField_field, FieldDie.episodeEnd_cap]
      exact ⟨rfl, rfl, rfl, fun _ hb => FieldDie.episodeEnd_pending hb⟩
    · exact ⟨s, exec_capEpisodeEnd_not h, rfl, fun hq => absurd hq h, fun _ => rfl⟩
  case restore =>
    intro s
    by_cases h : ∃ b, s.chip.field.RestoreDue s.chip.variant b
    · obtain ⟨b, hdue⟩ := h
      obtain ⟨hb, hstate⟩ := hdue.shed
      refine ⟨_, exec_autoRestore_due hdue, rfl, fun hn => ?_, fun b' _ _ hlast _ _ _ _ hlt => ?_⟩
      · rcases hn with hauto | hcap | hnone
        · exact Bool.noConfusion (hdue.auto.symm.trans hauto)
        · exact Bool.noConfusion (hdue.uncapped.symm.trans hcap)
        · exact absurd hstate (hnone b hb)
      · obtain rfl : b' = b := Option.some.inj (hlast.symm.trans hdue.last)
        obtain ⟨hwait, _, hmark⟩ := FieldDie.requestClose_shed hlt hstate
        rw [State.onField_field, FieldDie.restored, FieldDie.br_vector, FieldDie.br_modCap, FieldDie.vector_cap]
        exact ⟨hwait, hmark, rfl⟩
    · exact ⟨s, exec_autoRestore_not (not_exists.mp h), rfl, fun _ => rfl,
        fun b auto uncapped hlast delay room loaded notWinter _ => absurd ⟨b, hlast, auto, uncapped, delay, room, loaded, notWinter⟩ h⟩

end Machine

end Sys2Proof

/-! Proofs of the statements of 09_contract_line.md. What is one slot's and what lies around it first; then the moisture check, the operations of
the session, the events of the line, and the frames of the module. -/

namespace Sys2Proof

theorem Tab.modifyNat_modifyNat {α : Type} {n : Nat} (t : Tab α n) (i : Nat) (g h : α → α) :
    (t.modifyNat i g).modifyNat i h = t.modifyNat i fun a => h (g a) := by
  simp only [Tab.modifyNat, List.modify_modify_eq, Function.comp_def]

namespace FieldDie

variable {f : FieldDie} {k : Nat}

/-- The slots are read from their table alone. -/
theorem sl_of_slot {g : FieldDie} (h : g.slot = f.slot) (j : Nat) : g.sl j = f.sl j := congrArg (fun t => t.getD j {}) h

@[simp] theorem sl_complete (f : FieldDie) (r : Request) (st : Status) (x j : Nat) : (f.complete r st x).sl j = f.sl j :=
  sl_of_slot (complete_slot f r st x 0 []) j

@[simp] theorem sl_vector (f : FieldDie) (n j : Nat) : (f.vector n).sl j = f.sl j := sl_of_slot (vector_slot f n) j
@[simp] theorem qd_modSl (f : FieldDie) (g : Slot → Slot) (q : Nat) : (f.modSl k g).qd q = f.qd q := rfl

theorem sl_modPort_self (f : FieldDie) (g : Port → Port) (hk : k < 96) : (f.modPort k g).sl k = { f.sl k with port := g (f.sl k).port } :=
  sl_modSl_self f k _ hk

theorem sl_modSess_self (f : FieldDie) (g : Sess → Sess) (hk : k < 96) : (f.modSess k g).sl k = { f.sl k with sess := g (f.sl k).sess } :=
  sl_modSl_self f k _ hk

/-- The field side around slot `k`: without the slot itself, and without the completions and vectors that its exchange may leave. What is the
same around the slot is the same for every other slot, for the branches, the quadrants and the events. -/
def around (k : Nat) (f : FieldDie) : FieldDie :=
  { f with slot := f.slot.modifyNat k fun _ => {}, bar := {}, twin := { f.twin with kept := [] } }

@[simp] theorem around_modSl (f : FieldDie) (g : Slot → Slot) : (f.modSl k g).around k = f.around k := by
  simp only [around, modSl, Tab.modifyNat_modifyNat]

@[simp] theorem around_modPort (f : FieldDie) (g : Port → Port) : (f.modPort k g).around k = f.around k := around_modSl f _
@[simp] theorem around_modSess (f : FieldDie) (g : Sess → Sess) : (f.modSess k g).around k = f.around k := around_modSl f _
@[simp] theorem around_raiseQ (f : FieldDie) (q src code x : Nat) : (f.raiseQ q src code x).around k = (f.around k).raiseQ q src code x := rfl

@[simp] theorem around_vector (f : FieldDie) (n : Nat) : (f.vector n).around k = f.around k := by
  unfold vector
  split <;> rfl

@[simp] theorem around_complete (f : FieldDie) (r : Request) (st : Status) (x : Nat) : (f.complete r st x).around k = f.around k := by
  simp only [complete]
  split
  · rfl
  · split
    · rfl
    · split <;> rfl

/-- What is the same around the slot leaves every other slot, the branches and the quadrants the same. -/
theorem others_of_around {g : FieldDie} (h : g.around k = f.around k) :
    (∀ j, j ≠ k → g.sl j = f.sl j) ∧ g.branch = f.branch ∧ g.quad = f.quad := by
  have hb : (g.around k).branch = (f.around k).branch := congrArg branch h
  have hq : (g.around k).quad = (f.around k).quad := congrArg quad h
  refine ⟨fun j hj => ?_, hb, hq⟩
  have hs : (g.around k).sl j = (f.around k).sl j := congrArg (fun x => x.sl j) h
  simpa only [around, sl, Tab.getD_modifyNat_ne _ _ _ _ _ hj] using hs

theorem arisen_of_around {g : FieldDie} (h : g.around k = f.around k) : g.fcol.arisen = f.fcol.arisen := by
  have ha : (g.around k).fcol = (f.around k).fcol := congrArg fcol h
  exact congrArg Collector.arisen ha

end FieldDie

namespace Machine

variable {s : State} {k : Nat}

theorem fieldOnly_onSlot (s : State) (k : Nat) (g : FieldDie → FieldDie) : fieldOnly s (s.onSlot k g) := by
  unfold State.onSlot
  split <;> rfl

/-- What the field side is after an event of a slot that the part has. -/
theorem State.field_onSlot {g : FieldDie → FieldDie} {f : FieldDie} (hk : k < s.chip.variant.slots) (h : g s.chip.field = f) :
    (s.onSlot k g).chip.field = f := by
  rw [State.onSlot_present hk]
  exact h

/-- An event of a slot that finds nothing to do, or no slot, leaves the state. -/
theorem State.onSlot_eq_self {g : FieldDie → FieldDie} (h : g s.chip.field = s.chip.field) : s.onSlot k g = s := by
  unfold State.onSlot
  split
  · exact State.onField_eq_self h
  · rfl

theorem otherSlots_refl (s : State) (k : Nat) : otherSlots s s k := ⟨fun _ _ => rfl, rfl, rfl⟩

theorem otherSlots_of_around {t : State} (h : t.chip.field.around k = s.chip.field.around k) : otherSlots s t k :=
  FieldDie.others_of_around h

theorem otherSlots_onSlot {g : FieldDie → FieldDie} (h : (g s.chip.field).around k = s.chip.field.around k) :
    otherSlots s (s.onSlot k g) k := by
  unfold State.onSlot
  split
  · exact otherSlots_of_around h
  · exact otherSlots_refl s k

/-- What an event of slot `k` leaves around the slot where it reports itself once: the report, and nothing else. -/
theorem reported_of_around {t : State} {q src code x : Nat} (h : t.chip.field.around k = (s.chip.field.around k).raiseQ q src code x) :
    otherSlots s t k ∧ t.chip.field.fcol.arisen = s.chip.field.fcol.arisen ++ [fieldEvent s (qSrc q src) code x] :=
  ⟨FieldDie.others_of_around (f := s.chip.field.raiseQ q src code x) h, FieldDie.arisen_of_around (f := s.chip.field.raiseQ q src code x) h⟩

end Machine
end Sys2Proof

/-! The moisture check and the registers of a port (09 R242 to R247). -/

namespace Sys2Proof

namespace FieldDie

variable {f : FieldDie} {k : Nat}

/-- The round moved on from port `k` (R242). -/
def turnTaken (f : FieldDie) (k : Nat) : FieldDie :=
  if f.moistTurn k then f.modQd (slotQuad k) (fun x => { x with
    moistPort := (k % 24 + 1) % 24, moistAt := f.tick.tb + x.moistPeriod * 40000 / (f.moistPorts (slotQuad k)).length }) else f

/-- A check that may not start is deferred by 100 ms (R242). -/
def deferMoist (tb : Nat) (p : Port) : Port := { p with deferred := satN 32 (p.deferred + 1), moistRetry := some (tb + 4000) }

/-- A check that starts takes the pull-up off the line (R242). -/
def beginMoist (p : Port) : Port := { p with checking := true, pullup := false, moistRetry := none }

@[simp] theorem turnTaken_slot (f : FieldDie) (k : Nat) : (f.turnTaken k).slot = f.slot := by
  unfold turnTaken
  split <;> rfl

@[simp] theorem turnTaken_branch (f : FieldDie) (k : Nat) : (f.turnTaken k).branch = f.branch := by
  unfold turnTaken
  split <;> rfl

@[simp] theorem turnTaken_tick (f : FieldDie) (k : Nat) : (f.turnTaken k).tick = f.tick := by
  unfold turnTaken
  split <;> rfl

@[simp] theorem sl_turnTaken (f : FieldDie) (k j : Nat) : (f.turnTaken k).sl j = f.sl j := sl_of_slot (turnTaken_slot f k) j

theorem slotQuad_lt (hk : k < 96) : slotQuad k < 4 := by
  unfold slotQuad
  omega

theorem moistPort_turnTaken (hk : k < 96) (h : f.moistTurn k = true) : ((f.turnTaken k).qd (slotQuad k)).moistPort = (k % 24 + 1) % 24 := by
  simp only [turnTaken, h, if_true, qd_modQd_self _ _ _ (slotQuad_lt hk)]

theorem turnTaken_not (h : f.moistTurn k = false) : f.turnTaken k = f := by simp [turnTaken, h]

theorem moistStart_not (h : f.moistDue k = false) : f.moistStart k = f := by simp [moistStart, h]

theorem moistStart_free (h : f.moistDue k = true) (hm : moistFree (f.sl k) = true) : f.moistStart k = (f.turnTaken k).modPort k beginMoist := by
  simp only [moistStart, h, hm, not_true_eq_false, if_false]
  rfl

theorem moistStart_deferred (h : f.moistDue k = true) (hm : moistFree (f.sl k) = false) :
    f.moistStart k = (f.turnTaken k).modPort k (deferMoist (f.turnTaken k).tick.tb) := by
  simp only [moistStart, h, hm, not_true_eq_false, Bool.false_eq_true, not_false_eq_true, if_true, if_false]
  rfl

/-- What a check that is due leaves of its port, whether it starts or waits. -/
theorem moistStart_due (h : f.moistDue k = true) : ∃ g, f.moistStart k = (f.turnTaken k).modPort k g := by
  cases hm : moistFree (f.sl k) with
  | false => exact ⟨_, moistStart_deferred h hm⟩
  | true => exact ⟨_, moistStart_free h hm⟩

/-- The first result of a port makes it DRY (Table 09-10) and asks for nothing else. -/
theorem moistResult_first {mv : Nat} (hs : (f.sl k).port.mstate = 3) (hh : (f.sl k).port.moist = []) :
    f.moistResult k mv = f.modPort k fun p => { p with
      vMv := mv, rKohm := if 3100 ≤ mv then 0xFFFF else mv / 5, moist := [if 3100 ≤ mv then 0xFFFF else mv / 5], mstate := 0, checking := false } := by
  have hn : moistNext 3 [if 3100 ≤ mv then 0xFFFF else mv / 5] = 0 := by simp [moistNext]
  simp only [moistResult, hs, hh, List.take_succ_cons, List.take_nil, hn]
  simp

/-- A check on a line that is high at its end (R243 to R245): void where the samples spread by more than 100 mV, or its result. -/
def moistEnd (f : FieldDie) (k : Nat) (xs : Tab Nat 8) : FieldDie :=
  if xs.rows.foldl min 3300 + 100 < xs.rows.foldl max 0 then f.moistVoid k
  else (f.modPort k fun p => { p with pullup := f.driving }).moistResult k (satN 12 (xs.rows.sum / 8))

/-- Eight equal samples do not spread, and their mean is the sample. -/
theorem moistEnd_even {mv : Nat} (h : mv < 3300) :
    f.moistEnd k (Tab.fill 8 mv) = (f.modPort k fun p => { p with pullup := f.driving }).moistResult k mv := by
  have hspread : ¬ (Tab.fill 8 mv).rows.foldl min 3300 + 100 < (Tab.fill 8 mv).rows.foldl max 0 := by
    simp [Tab.fill, List.replicate]
    omega
  have hmean : satN 12 ((Tab.fill 8 mv).rows.sum / 8) = mv := by
    simp [Tab.fill, List.replicate, satN]
    omega
  rw [moistEnd, if_neg hspread, hmean]

end FieldDie

namespace Machine

section PortReads

variable {s : State} {k : Fin 96}

/-- A read of a PORT register of the slot clears the fields that its offset names (R247). -/
theorem portClear_link (f : FieldDie) : f.portClear (slotQuad k) (0x10 + k.val % 24) = f.modPort k fun p => { p with collCnt := 0, presCnt := 0 } := by
  have hk : 24 * slotQuad k + (0x10 + k.val % 24 - 0x10) = k := by
    unfold slotQuad
    omega
  rw [FieldDie.portClear, if_pos (by omega), hk]

theorem portClear_err (f : FieldDie) : f.portClear (slotQuad k) (0x30 + k.val % 24) =
    f.modPort k fun p => { p with syncFail := 0, crc := 0, badType := 0, staleRx := 0 } := by
  have hk : 24 * slotQuad k + (0x30 + k.val % 24 - 0x30) = k := by
    unfold slotQuad
    omega
  rw [FieldDie.portClear, if_neg (by omega), if_pos (by omega), hk]

theorem exec_ctLinkRead_present (h : k.val < s.chip.variant.slots) : exec (.ctLinkRead k) s = .next { s with chip := { s.chip with
    field := s.chip.field.modPort k fun p => { p with collCnt := 0, presCnt := 0 }
    readData := [(s.chip.field.sl k).port.linkWord] } } := by
  change Host.Outcome.next (s.readRc (k.val < s.chip.variant.slots) _ _) = _
  rw [decide_eq_true h, State.readRc_present, portClear_link]

theorem exec_ctLinkRead_absent (h : s.chip.variant.slots ≤ k.val) :
    exec (.ctLinkRead k) s = .next { s with chip := { s.chip with readData := [0] } } := by
  change Host.Outcome.next (s.readRc (k.val < s.chip.variant.slots) _ _) = _
  rw [decide_eq_false (Nat.not_lt.mpr h), State.readRc_absent]

theorem exec_ctErrRead_present (h : k.val < s.chip.variant.slots) : exec (.ctErrRead k) s = .next { s with chip := { s.chip with
    field := s.chip.field.modPort k fun p => { p with syncFail := 0, crc := 0, badType := 0, staleRx := 0 }
    readData := [(s.chip.field.sl k).port.errWord] } } := by
  change Host.Outcome.next (s.readRc (k.val < s.chip.variant.slots) _ _) = _
  rw [decide_eq_true h, State.readRc_present, portClear_err]

theorem exec_ctErrRead_absent (h : s.chip.variant.slots ≤ k.val) :
    exec (.ctErrRead k) s = .next { s with chip := { s.chip with readData := [0] } } := by
  change Host.Outcome.next (s.readRc (k.val < s.chip.variant.slots) _ _) = _
  rw [decide_eq_false (Nat.not_lt.mpr h), State.readRc_absent]

end PortReads

section MoistureChecks

variable {s : State} {k : Fin 96}

theorem exec_moistureCheckEnd_not {xs : Tab Nat 8} {high : Bool} (h : k.val < s.chip.variant.slots → (s.chip.field.sl k).port.checking = false) :
    exec (.moistureCheckEnd k xs high) s = .next s := by
  by_cases hk : k.val < s.chip.variant.slots
  · exact congrArg Host.Outcome.next (State.onSlot_eq_self (by simp [h hk]))
  · exact congrArg Host.Outcome.next (State.onSlot_absent (Nat.not_lt.mp hk))

theorem exec_moistureCheckEnd_low {xs : Tab Nat 8} (hk : k.val < s.chip.variant.slots) (hc : (s.chip.field.sl k).port.checking = true) :
    exec (.moistureCheckEnd k xs false) s = .next (s.onField fun f => f.moistVoid k) := by
  change Host.Outcome.next (s.onSlot k _) = _
  rw [State.onSlot_present hk]
  simp [State.onField, hc]

theorem exec_moistureCheckEnd_high {xs : Tab Nat 8} (hk : k.val < s.chip.variant.slots) (hc : (s.chip.field.sl k).port.checking = true) :
    exec (.moistureCheckEnd k xs true) s = .next (s.onField fun f => f.moistEnd k xs) := by
  change Host.Outcome.next (s.onSlot k _) = _
  rw [State.onSlot_present hk]
  simp [State.onField, hc, FieldDie.moistEnd]

end MoistureChecks

/-- Settles O29: a check that starts by its turn and by its line, one that ends by its samples, and each register by its read. -/
theorem moistureChecksAndPortCounters : Obligations.MoistureChecksAndPortCounters := by
  refine ⟨?start, ?finish, ?void, ?link, ?err⟩
  case start =>
    intro k s
    refine ⟨_, rfl, fieldOnly_onSlot _ _ _, State.onSlot_absent, ?_⟩
    cases hd : s.chip.field.moistDue k with
    | false =>
      rw [State.onSlot_eq_self (FieldDie.moistStart_not hd)]
      exact ⟨fun _ _ => rfl, rfl, fun _ => rfl, fun _ h => Bool.noConfusion h⟩
    | true =>
      by_cases hk : k.val < s.chip.variant.slots
      · rw [State.onSlot_present hk, State.onField_field]
        refine ⟨fun j hj => ?_, ?_, Bool.noConfusion, fun _ _ => ⟨fun hm => ?_, fun hm => ?_, fun ht => ?_, fun ht => ?_⟩⟩
        · obtain ⟨g, hg⟩ := FieldDie.moistStart_due hd
          rw [hg, FieldDie.modPort, FieldDie.sl_modSl_ne _ _ _ _ hj, FieldDie.sl_turnTaken]
        · obtain ⟨g, hg⟩ := FieldDie.moistStart_due hd
          rw [hg, FieldDie.modPort, FieldDie.modSl_branch, FieldDie.turnTaken_branch]
        · rw [FieldDie.moistStart_deferred hd hm, FieldDie.sl_modPort_self _ _ k.isLt, FieldDie.turnTaken_tick, FieldDie.sl_turnTaken]
          rfl
        · rw [FieldDie.moistStart_free hd hm, FieldDie.sl_modPort_self _ _ k.isLt, FieldDie.sl_turnTaken]
          rfl
        · obtain ⟨g, hg⟩ := FieldDie.moistStart_due hd
          rw [hg, FieldDie.modPort, FieldDie.qd_modSl, FieldDie.moistPort_turnTaken k.isLt ht]
        · obtain ⟨g, hg⟩ := FieldDie.moistStart_due hd
          rw [hg, FieldDie.modPort, FieldDie.modSl_quad, FieldDie.turnTaken_not ht]
      · rw [State.onSlot_absent (Nat.not_lt.mp hk)]
        exact ⟨fun _ _ => rfl, rfl, fun _ => rfl, fun h => absurd h hk⟩
  case finish =>
    intro k xs high s
    by_cases h : k.val < s.chip.variant.slots ∧ (s.chip.field.sl k).port.checking = true
    case neg =>
      exact ⟨s, exec_moistureCheckEnd_not fun hk => Bool.eq_false_iff.mpr fun hc => h ⟨hk, hc⟩, rfl, fun _ => rfl, fun _ => rfl,
        fun hk hc _ => absurd ⟨hk, hc⟩ h, fun _ hk hc _ => absurd ⟨hk, hc⟩ h⟩
    obtain ⟨hk, hc⟩ := h
    cases high with
    | false =>
      refine ⟨_, exec_moistureCheckEnd_low hk hc, rfl, fun hn => absurd hk (Nat.not_lt.mpr hn), fun h => Bool.noConfusion (hc.symm.trans h),
        fun _ _ _ => ⟨?_, otherSlots_of_around (FieldDie.around_modPort _ _)⟩, fun _ _ _ h => Bool.noConfusion h⟩
      rw [State.onField_field, FieldDie.moistVoid, FieldDie.sl_modPort_self _ _ k.isLt]
    | true =>
      refine ⟨_, exec_moistureCheckEnd_high hk hc, rfl, fun hn => absurd hk (Nat.not_lt.mpr hn), fun h => Bool.noConfusion (hc.symm.trans h),
        fun _ _ h => Bool.noConfusion h, fun mv _ _ _ hx hlt _ hs hm => ?_⟩
      subst hx
      have hp : ((s.chip.field.modPort k fun p => { p with pullup := s.chip.field.driving }).sl k).port =
          { (s.chip.field.sl k).port with pullup := s.chip.field.driving } := by rw [FieldDie.sl_modPort_self _ _ k.isLt]
      rw [State.onField_field, FieldDie.moistEnd_even hlt, FieldDie.moistResult_first (by rw [hp]; exact hs) (by rw [hp]; exact hm),
        FieldDie.sl_modPort_self _ _ k.isLt]
      exact ⟨rfl, rfl, rfl⟩
  case void =>
    intro k s
    refine ⟨_, rfl, fieldOnly_onSlot _ _ _, State.onSlot_absent, otherSlots_onSlot ?_, fun hc => State.onSlot_eq_self (by simp [hc]), fun hk hc => ?_⟩
    · split
      · exact FieldDie.around_modPort _ _
      · rfl
    · rw [State.onSlot_present hk, State.onField_field, if_pos hc, FieldDie.moistVoid, FieldDie.sl_modPort_self _ _ k.isLt]
  case link =>
    intro k s
    by_cases hk : k.val < s.chip.variant.slots
    · refine ⟨_, exec_ctLinkRead_present hk, rfl, otherSlots_of_around (FieldDie.around_modPort _ _), fun hn => absurd hk (Nat.not_lt.mpr hn),
        fun _ => ⟨rfl, ?_⟩⟩
      rw [FieldDie.sl_modPort_self _ _ k.isLt]
    · exact ⟨_, exec_ctLinkRead_absent (Nat.not_lt.mp hk), rfl, otherSlots_refl _ _, fun _ => ⟨rfl, rfl⟩, fun h => absurd h hk⟩
  case err =>
    intro k s
    by_cases hk : k.val < s.chip.variant.slots
    · refine ⟨_, exec_ctErrRead_present hk, rfl, otherSlots_of_around (FieldDie.around_modPort _ _), fun hn => absurd hk (Nat.not_lt.mpr hn),
        fun _ => ⟨rfl, ?_⟩⟩
      rw [FieldDie.sl_modPort_self _ _ k.isLt]
    · exact ⟨_, exec_ctErrRead_absent (Nat.not_lt.mp hk), rfl, otherSlots_refl _ _, fun _ => ⟨rfl, rfl⟩, fun h => absurd h hk⟩

end Machine
end Sys2Proof

/-! What the shared operations of a slot's session leave of the slot and around it (10 R248 to R279). -/

namespace Sys2Proof

@[simp] theorem Slot.leave_sess (s : Slot) : s.leave.sess = s.sess := by
  unfold Slot.leave
  split <;> rfl

@[simp] theorem Slot.leave_port (s : Slot) : s.leave.port = s.port := by
  unfold Slot.leave
  split <;> rfl

namespace Port

theorem mem_queue_queueFirst (p : Port) (fr : CtFrame) : fr ∈ (p.queueFirst fr).queue := by simp [queueFirst]

theorem mem_queue_enqueue (p : Port) (fr : CtFrame) : fr ∈ (p.enqueue fr).queue := by
  unfold enqueue
  split
  · exact mem_queue_queueFirst p fr
  · simp

@[simp] theorem enqueue_mstate (p : Port) (fr : CtFrame) : (p.enqueue fr).mstate = p.mstate := by
  unfold enqueue
  split <;> rfl

@[simp] theorem enqueue_present (p : Port) (fr : CtFrame) : (p.enqueue fr).present = p.present := by
  unfold enqueue
  split <;> rfl

@[simp] theorem enqueue_presCnt (p : Port) (fr : CtFrame) : (p.enqueue fr).presCnt = p.presCnt := by
  unfold enqueue
  split <;> rfl

@[simp] theorem enqueue_staleRx (p : Port) (fr : CtFrame) : (p.enqueue fr).staleRx = p.staleRx := by
  unfold enqueue
  split <;> rfl

@[simp] theorem enqueue_lastExec (p : Port) (fr : CtFrame) : (p.enqueue fr).lastExec = p.lastExec := by
  unfold enqueue
  split <;> rfl

end Port

namespace FieldDie

variable {f : FieldDie} {k : Nat} {fr : CtFrame}

@[simp] theorem sl_completeAll (cs : List Request) (st : Status) (f : FieldDie) (j : Nat) :
    (cs.foldl (fun f r => f.complete r st) f).sl j = f.sl j := foldl_keeps (fun f => f.sl j) (fun f r => sl_complete f r st 0 j) cs f

@[simp] theorem around_completeAll (cs : List Request) (st : Status) (f : FieldDie) :
    (cs.foldl (fun f r => f.complete r st) f).around k = f.around k := foldl_keeps (around k) (fun f r => around_complete f r st 0) cs f

@[simp] theorem sl_sessEvent (f : FieldDie) (k src code x j : Nat) : (f.sessEvent k src code x).sl j = f.sl j := sl_vector _ _ _
@[simp] theorem sl_insEvent (f : FieldDie) (k src code j : Nat) : (f.insEvent k src code).sl j = f.sl j := sl_vector _ _ _

@[simp] theorem around_sessEvent (f : FieldDie) (k src code x : Nat) :
    (f.sessEvent k src code x).around k = (f.around k).raiseQ (slotQuad k) src code (x * 0x10000 + k) := around_vector _ _

@[simp] theorem around_insEvent (f : FieldDie) (k src code : Nat) :
    (f.insEvent k src code).around k = (f.around k).raiseQ (slotQuad k) src code k := around_vector _ _

/-- Whether the sessions advance is no matter of a slot. -/
theorem sessLive_of_around {g : FieldDie} (h : g.around k = f.around k) : g.sessLive = f.sessLive := by
  have hl : (g.around k).sessLive = (f.around k).sessLive := congrArg sessLive h
  exact hl

@[simp] theorem sessLive_modSl (f : FieldDie) (g : Slot → Slot) : (f.modSl k g).sessLive = f.sessLive := rfl
@[simp] theorem sessLive_vector (f : FieldDie) (n : Nat) : (f.vector n).sessLive = f.sessLive := sessLive_of_around (k := 0) (around_vector f n)
@[simp] theorem sessLive_sessEvent (f : FieldDie) (k src code x : Nat) : (f.sessEvent k src code x).sessLive = f.sessLive := sessLive_vector _ _
@[simp] theorem sessLive_insEvent (f : FieldDie) (k src code : Nat) : (f.insEvent k src code).sessLive = f.sessLive := sessLive_vector _ _

theorem sl_send_self (f : FieldDie) (fr : CtFrame) (hk : k < 96) : (f.send k fr).sl k =
    { f.sl k with port := (f.sl k).port.enqueue { fr with epoch := (f.sl k).sess.epoch } } := sl_modPort_self f _ hk

@[simp] theorem around_send (f : FieldDie) (fr : CtFrame) : (f.send k fr).around k = f.around k := around_modPort f _

@[simp] theorem around_sendCtl (f : FieldDie) (type : Nat) (cmd : Option Request) (re : Nat) :
    (f.sendCtl k type cmd re).around k = f.around k := around_send f _

/-- A frame that is sent waits in the queue of its port. -/
theorem exists_send {p : CtFrame → Prop} (hk : k < 96) (hp : p { fr with epoch := (f.sl k).sess.epoch }) :
    ∃ x ∈ ((f.send k fr).sl k).port.queue, x.type = fr.type ∧ p x := by
  rw [sl_send_self f fr hk]
  exact ⟨_, Port.mem_queue_enqueue _ _, rfl, hp⟩

theorem exists_sendGet {w : Nat} (hk : k < 96) (hw : (getFrame w).what = w) :
    ∃ x ∈ ((f.send k (getFrame w)).sl k).port.queue, x.type = 6 ∧ x.what = w := exists_send hk hw

theorem sl_abandon_self (f : FieldDie) (hk : k < 96) : (f.abandon k).sl k = (f.sl k).quiet := by
  rw [abandon, sl_modSl_self _ _ _ hk, sl_completeAll]

@[simp] theorem around_abandon (f : FieldDie) : (f.abandon k).around k = f.around k := by
  rw [abandon, around_modSl, around_completeAll]

theorem state_softStart (f : FieldDie) (cmd : Option Request) (hk : k < 96) : ((f.softStart k cmd).sl k).sess.state = 6 := by
  rw [softStart, sendCtl, sl_send_self _ _ hk, sl_modSess_self _ _ hk]

theorem exists_softStart (f : FieldDie) (cmd : Option Request) (hk : k < 96) :
    ∃ x ∈ ((f.softStart k cmd).sl k).port.queue, x.type = 4 ∧ True := exists_send hk trivial

@[simp] theorem around_softStart (f : FieldDie) (cmd : Option Request) : (f.softStart k cmd).around k = f.around k := by
  rw [softStart, around_sendCtl, around_modSess, around_modSl, around_abandon]

/-- The session as a completed soft reset leaves it (R262). -/
def softReset (epoch : Nat) (s : Sess) : Sess :=
  { s.quiet with state := 2, epoch := (epoch + 1) % 16, auxMod := false, softTried := true, soft := satN 8 (s.soft + 1), bcast := false }

theorem sess_softDone (f : FieldDie) (e : Nat) (last : Option (Nat × Nat)) (hk : k < 96) :
    ((f.softDone k e last).sl k).sess = softReset e (f.sl k).sess := by
  rw [softDone, sl_send_self _ _ hk, sl_sessEvent, sl_modPort_self _ _ hk, sl_modSess_self _ _ hk, sl_modSl_self _ _ _ hk, sl_abandon_self _ hk,
    Slot.leave_sess]
  rfl

theorem around_softDone (f : FieldDie) (e : Nat) (last : Option (Nat × Nat)) :
    (f.softDone k e last).around k = (f.around k).raiseQ (slotQuad k) 21 3 k := by
  rw [softDone, around_send, around_sessEvent, around_modPort, around_modSess, around_modSl, around_abandon, Nat.zero_mul, Nat.zero_add]

/-- The slot as the presence of a module marks it (11 R283, R291). -/
def marked (f : FieldDie) (k : Nat) (byUplink : Bool) : FieldDie :=
  f.modSl k fun s => { s with
    port := { s.port with present := true }
    ins := { s.ins with
      state := if s.ins.state = 0 then 1 else s.ins.state, qualRuns := 0, ulSeen := byUplink
      startPhase := f.march.phaseOn && decide (f.tick.tb < f.march.phaseBegin + 24000) } }

theorem markPresent_known {byUplink : Bool} (h : (f.sl k).port.present = true) : f.markPresent k byUplink = f := if_pos h

/-- A module that comes into an EMPTY session is asked for its CAPABILITY (Table 10-1). -/
theorem markPresent_empty (hp : (f.sl k).port.present = false) (hs : (f.sl k).sess.state = 0) (hl : f.sessLive = true) :
    f.markPresent k = ((f.marked k false).modSess k fun x => { x with state := 2 }).send k (getFrame 8) := by
  have hm : (f.marked k false).sessLive = true := hl
  unfold markPresent
  rw [if_neg (by simp [hp])]
  dsimp only
  rw [if_neg (by simp [hs])]
  change (if ¬ (f.marked k false).sessLive = true then _ else _) = _
  rw [if_neg (by simp [hm])]
  rfl

theorem markPresent_cases (f : FieldDie) (k : Nat) (byUplink : Bool) :
    f.markPresent k byUplink = f ∧ (f.sl k).port.present = true ∨ f.markPresent k byUplink = f.marked k byUplink ∨
    (∃ n, f.markPresent k byUplink = (f.marked k byUplink).modSess k fun x => { x with state := n }) ∨
    ∃ n fr, f.markPresent k byUplink = ((f.marked k byUplink).modSess k fun x => { x with state := n }).send k fr := by
  by_cases hp : (f.sl k).port.present = true
  · exact .inl ⟨markPresent_known hp, hp⟩
  unfold markPresent
  rw [if_neg hp]
  dsimp only
  split
  · exact .inr (.inl rfl)
  split
  · exact .inr (.inr (.inl ⟨_, rfl⟩))
  split
  · exact .inr (.inr (.inl ⟨_, rfl⟩))
  · exact .inr (.inr (.inr ⟨_, _, rfl⟩))

@[simp] theorem around_marked (f : FieldDie) (k : Nat) (b : Bool) : (f.marked k b).around k = f.around k := around_modSl f _

@[simp] theorem around_markPresent (f : FieldDie) (b : Bool) : (f.markPresent k b).around k = f.around k := by
  obtain ⟨h, -⟩ | h | ⟨n, h⟩ | ⟨n, fr, h⟩ := f.markPresent_cases k b <;> simp [h]

/-- A module marked present stands at the port, and the count of its pulses is untouched (R227). -/
theorem port_markPresent (f : FieldDie) (b : Bool) (hk : k < 96) :
    ((f.markPresent k b).sl k).port.present = true ∧ ((f.markPresent k b).sl k).port.presCnt = (f.sl k).port.presCnt := by
  have hm : (f.marked k b).sl k = _ := sl_modSl_self f k _ hk
  obtain ⟨h, hp⟩ | h | ⟨n, h⟩ | ⟨n, fr, h⟩ := f.markPresent_cases k b
  · exact ⟨by rw [h]; exact hp, by rw [h]⟩
  · simp [h, hm]
  · simp [h, hm, sl_modSess_self _ _ hk]
  · simp [h, hm, sl_send_self _ _ hk, sl_modSess_self _ _ hk]

end FieldDie
end Sys2Proof

/-! The contract line (09 R224 to R235): what each event of the line leaves of the port. -/

namespace Sys2Proof

namespace FieldDie

variable {f : FieldDie} {k : Nat} {fr : CtFrame}

/-- A presence pulse, counted and reported (R227). -/
def pulsed (f : FieldDie) (k : Nat) : FieldDie :=
  (f.modPort k fun p => { p with presCnt := satN 8 (p.presCnt + 1) }).insEvent k 21 1

theorem sl_pulsed (f : FieldDie) (hk : k < 96) : (f.pulsed k).sl k =
    { f.sl k with port := { (f.sl k).port with presCnt := satN 8 ((f.sl k).port.presCnt + 1) } } := by
  rw [pulsed, sl_insEvent, sl_modPort_self _ _ hk]

theorem around_pulsed (f : FieldDie) (k : Nat) : (f.pulsed k).around k = (f.around k).raiseQ (slotQuad k) 21 1 k := by
  rw [pulsed, around_insEvent, around_modPort]

theorem presence_not (h : f.hears = false ∨ (f.sl k).sess.state = 9) : f.presence k = f := by
  unfold presence
  rw [if_pos (by simpa using h)]

theorem presence_heard (hk : k < 96) (hh : f.hears = true) (h9 : (f.sl k).sess.state ≠ 9) (h7 : (f.sl k).sess.state ≠ 7) :
    f.presence k = (f.pulsed k).markPresent k := by
  have hs : ((f.pulsed k).sl k).sess.state ≠ 7 := by rwa [sl_pulsed f hk]
  unfold presence
  rw [if_neg (by simp [hh, h9])]
  exact congrArg (fun g : FieldDie => g.markPresent k) (if_neg fun h => hs h.1)

/-- A declared hard reset as the line and the session show it on every device that hears it (R264). -/
def lineReset (s : Slot) : Slot := { s with
  port := { s.port with line := max 2 s.port.line, resetWanted := false, nextId := 0, lastExec := none, checking := false }
  sess := { s.sess with epoch := (s.sess.epoch + 1) % 16, hard := satN 8 (s.sess.hard + 1) } }

/-- A hard reset declared and reported, before the session acts on it. -/
def resetShown (f : FieldDie) (k : Nat) : FieldDie := (f.modSl k lineReset).sessEvent k 21 4

theorem sl_resetShown (f : FieldDie) (hk : k < 96) : (f.resetShown k).sl k = lineReset (f.sl k) := by
  rw [resetShown, sl_sessEvent, sl_modSl_self _ _ _ hk]

theorem around_resetShown (f : FieldDie) (k : Nat) : (f.resetShown k).around k = (f.around k).raiseQ (slotQuad k) 21 4 k := by
  rw [resetShown, around_sessEvent, around_modSl, Nat.zero_mul, Nat.zero_add]

/-- A session that does not act on a declared hard reset: in DISABLED, or of a device that only listens. -/
theorem declareHard_shown (hk : k < 96) (h : f.sessLive = false ∨ (f.sl k).sess.state = 9) : f.declareHard k = f.resetShown k := by
  have hs : ((f.resetShown k).sl k).sess.state = 9 ∨ ¬ (f.resetShown k).sessLive = true := by
    rw [sl_resetShown f hk, resetShown, sessLive_sessEvent, sessLive_modSl]
    rcases h with h | h
    · exact .inr (by simp [h])
    · exact .inl h
  exact if_pos hs

/-- A hard reset taken by a session that advances (R264): its exchange gone, and only the completion timer running. -/
def hardTaken (f : FieldDie) (k : Nat) : FieldDie :=
  (((f.abandon k).modSl k Slot.leave).modPort k fun p => { p.silence with queue := [] }).modSess k fun s => { s with
    state := 7, auxMod := false, softTried := false, hardTried := true, presSince := false, t := { hardDone := true } }

theorem port_hardTaken (f : FieldDie) (hk : k < 96) : ((f.hardTaken k).sl k).port = { (f.sl k).port.flush.silence with queue := [] } := by
  rw [hardTaken, sl_modSess_self _ _ hk, sl_modPort_self _ _ hk, sl_modSl_self _ _ _ hk, sl_abandon_self _ hk, Slot.leave_port]
  rfl

theorem sess_hardTaken (f : FieldDie) (hk : k < 96) : ((f.hardTaken k).sl k).sess = { (f.sl k).sess.quiet with
    state := 7, auxMod := false, softTried := false, hardTried := true, presSince := false, t := { hardDone := true } } := by
  rw [hardTaken, sl_modSess_self _ _ hk, sl_modPort_self _ _ hk, sl_modSl_self _ _ _ hk, sl_abandon_self _ hk, Slot.leave_sess]
  rfl

@[simp] theorem around_hardTaken (f : FieldDie) (k : Nat) : (f.hardTaken k).around k = f.around k := by
  rw [hardTaken, around_modSess, around_modPort, around_modSl, around_abandon]

theorem answerHard_nil (h : (f.sl k).sess.hardCmds = []) : f.answerHard k = f.modSess k fun s => { s with hardCmds := [] } := by
  simp [answerHard, h]

/-- A session that acts on a declared hard reset, with no command that waits for one. -/
theorem declareHard_live (hk : k < 96) (hl : f.sessLive = true) (h9 : (f.sl k).sess.state ≠ 9) (hc : (f.sl k).sess.hardCmds = []) :
    f.declareHard k = ((f.resetShown k).hardTaken k).modSess k fun s => { s with hardCmds := [] } := by
  have hs : ¬ (((f.resetShown k).sl k).sess.state = 9 ∨ ¬ (f.resetShown k).sessLive = true) := by
    rw [sl_resetShown f hk, resetShown, sessLive_sessEvent, sessLive_modSl]
    simp [hl, lineReset, h9]
  have hd : f.declareHard k = ((f.resetShown k).hardTaken k).answerHard k := if_neg hs
  rw [hd, answerHard_nil (by rw [sess_hardTaken _ hk, sl_resetShown f hk]; exact hc)]

/-- The port of a frame that collided (R231). -/
def collidedPort (p : Port) : Port := { p with
  sending := none, tx := false, line := if p.line = 1 then 0 else p.line, holdoff := true, collCnt := satN 8 (p.collCnt + 1) }

/-- A collision, counted and reported, before its frame is seen to. -/
def collided (f : FieldDie) (k : Nat) : FieldDie := (f.modPort k collidedPort).raiseQ (slotQuad k) 15 2 k

theorem sl_collided (f : FieldDie) (hk : k < 96) : (f.collided k).sl k = { f.sl k with port := collidedPort (f.sl k).port } := by
  rw [collided, sl_raiseQ, sl_modPort_self _ _ hk]

theorem around_collided (f : FieldDie) (k : Nat) : (f.collided k).around k = (f.around k).raiseQ (slotQuad k) 15 2 k := by
  rw [collided, around_raiseQ, around_modPort]

theorem collision_none (h : (f.sl k).port.sending = none) : f.collision k = f := by simp only [collision, h]

/-- An owed frame, or one that starts nothing, is lost with its collision. -/
theorem collision_owed (h : (f.sl k).port.sending = some fr) (ho : fr.owed = true ∨ fr.once = true) : f.collision k = f.collided k := by
  simp only [collision, h]
  exact if_pos ho

theorem collision_swap (h : (f.sl k).port.sending = some fr) (ho : ¬ (fr.owed = true ∨ fr.once = true)) (ht : fr.type = 0xE) :
    f.collision k =
      fr.cmd.toList.foldl (fun f r => f.complete r .collided) ((f.collided k).modSess k fun s => { s with swapStage := 0 }) := by
  simp only [collision, h]
  exact (if_neg ho).trans (if_pos ht)

theorem collision_failed (h : (f.sl k).port.sending = some fr) (ho : ¬ (fr.owed = true ∨ fr.once = true)) (ht : fr.type ≠ 0xE) :
    f.collision k = (f.collided k).sendFailed k fr := by
  simp only [collision, h]
  exact (if_neg ho).trans (if_neg ht)

/-- A failed send other than the third and the sixth is repeated as soon as it may be (10 R261). -/
theorem sendFailed_repeat (h6 : fr.sends < 6) (h3 : fr.sends ≠ 3) : f.sendFailed k fr =
    (f.modSl k fun s => { s with port := { s.port with awaiting := none }, sess := { s.sess with t := { s.sess.t with ack := false } } }).modPort k
      fun p => p.queueFirst fr := (if_neg (Nat.not_le.mpr h6)).trans (if_pos h3)

/-- What a collision leaves of the port and around it: the frame waits again unless it is owed, starts nothing or is a SWAP. -/
theorem collision_port (hk : k < 96) (h : (f.sl k).port.sending = some fr)
    (hr : fr.owed = true ∨ fr.once = true ∨ fr.type = 0xE ∨ (fr.sends < 6 ∧ fr.sends ≠ 3)) :
    (f.collision k).around k = (f.around k).raiseQ (slotQuad k) 15 2 k ∧
    ((f.collision k).sl k).port =
      if fr.owed = true ∨ fr.once = true ∨ fr.type = 0xE then collidedPort (f.sl k).port
      else { collidedPort (f.sl k).port with awaiting := none }.queueFirst fr := by
  by_cases ho : fr.owed = true ∨ fr.once = true
  · rw [collision_owed h ho, around_collided, sl_collided f hk, if_pos (ho.imp_right .inl)]
    exact ⟨rfl, rfl⟩
  by_cases ht : fr.type = 0xE
  · rw [collision_swap h ho ht, around_completeAll, around_modSess, around_collided, sl_completeAll, sl_modSess_self _ _ hk, sl_collided f hk,
      if_pos (.inr (.inr ht))]
    exact ⟨rfl, rfl⟩
  · have hkept : ¬ (fr.owed = true ∨ fr.once = true ∨ fr.type = 0xE) :=
      fun h => h.elim (fun h => ho (.inl h)) fun h => h.elim (fun h => ho (.inr h)) ht
    obtain ⟨h6, h3⟩ : fr.sends < 6 ∧ fr.sends ≠ 3 := by
      rcases hr with h | h | h | h
      · exact absurd (.inl h) ho
      · exact absurd (.inr h) ho
      · exact absurd h ht
      · exact h
    rw [collision_failed h ho ht, sendFailed_repeat h6 h3, around_modPort, around_modSl, around_collided, sl_modPort_self _ _ hk,
      sl_modSl_self _ _ _ hk, sl_collided f hk, if_neg hkept]
    exact ⟨rfl, rfl⟩

/-- A frame shown at its port (Table 09-13). -/
def heard (f : FieldDie) (k type id : Nat) : FieldDie := f.modPort k fun p => { p with rxType := type, rxId := id }

/-- A frame of a module that is present marks nothing but the port. -/
theorem frameHeard_present {type id : Nat} (hk : k < 96) (h : (f.sl k).port.present = true) : f.frameHeard k type id = f.heard k type id :=
  markPresent_known (by rw [sl_modPort_self _ _ hk]; exact h)

section Discards

variable {raw : CtRaw}

theorem frameDiscard_not (h : f.hears = false ∨ f.portUp k = false) : f.frameDiscard k raw = f := if_pos (by simpa using h)

variable (hh : f.hears = true) (hu : f.portUp k = true)

include hh hu

theorem frameDiscard_unsound (h : raw.sync = false ∨ raw.clean = false ∨ raw.countOk = false) :
    f.frameDiscard k raw = f.modPort k fun p => { p with syncFail := satN 8 (p.syncFail + 1) } := by
  unfold frameDiscard
  rw [if_neg (by simp [hh, hu]), if_pos (by simpa using h)]

variable (hs : raw.sync = true) (hc : raw.clean = true) (hn : raw.countOk = true)

include hs hc hn

theorem frameDiscard_crc (h : raw.crcOk = false) : f.frameDiscard k raw = f.modPort k fun p => { p with crc := satN 8 (p.crc + 1) } := by
  unfold frameDiscard
  rw [if_neg (by simp [hh, hu]), if_neg (by simp [hs, hc, hn]), if_pos (by simp [h])]

theorem frameDiscard_own (hcrc : raw.crcOk = true) (h : raw.fromModule = false) :
    f.frameDiscard k raw = f.heard k raw.type raw.msgId := by
  unfold frameDiscard
  rw [if_neg (by simp [hh, hu]), if_neg (by simp [hs, hc, hn]), if_neg (by simp [hcrc]), if_pos (by simp [h]), heard]

theorem frameDiscard_badType (hk : k < 96) (hcrc : raw.crcOk = true) (hm : raw.fromModule = true) (hp : (f.sl k).port.present = true)
    (h : moduleTerms raw.type ≠ some raw.terms) : f.frameDiscard k raw =
      ((f.heard k raw.type raw.msgId).modPort k fun p => { p with
        badType := satN 8 (p.badType + 1) }).raiseQ (slotQuad k) 15 1 k := by
  unfold frameDiscard
  rw [if_neg (by simp [hh, hu]), if_neg (by simp [hs, hc, hn]), if_neg (by simp [hcrc]), if_neg (by simp [hm]), frameHeard_present hk hp]
  exact if_pos h

end Discards

theorem txStart_not (h : f.sessLive = false ∨ f.portUp k = false ∨ (f.sl k).port.line ≠ 0 ∨ (f.sl k).port.lowByUs = true ∨
    (f.sl k).port.sending.isSome = true ∨ (f.sl k).port.checking = true) : f.txStart k = f := if_pos (by simpa using h)

section Sending

variable (hl : f.sessLive = true) (hu : f.portUp k = true) (h0 : (f.sl k).port.line = 0) (hb : (f.sl k).port.lowByUs = false)
  (hs : (f.sl k).port.sending = none) (hc : (f.sl k).port.checking = false)

include hl hu h0 hb hs hc

theorem txStart_reset (hr : (f.sl k).port.resetWanted = true) : f.txStart k =
    f.modPort k fun p => { p with resetWanted := false, lowByUs := true, tx := f.driving } :=
  (if_neg (by simp [hl, hu, h0, hb, hs, hc])).trans (if_pos hr)

theorem txStart_frame (hr : (f.sl k).port.resetWanted = false) (hp : pick (f.sl k) (f.sl k).port.queue false = some fr) (ht : fr.type ≠ 4) :
    f.txStart k = f.startFrame k fr := by
  refine (if_neg (by simp [hl, hu, h0, hb, hs, hc])).trans ((if_neg (by simp [hr])).trans ?_)
  simp [hp, ht]

end Sending

theorem around_startFrame (f : FieldDie) (fr : CtFrame) : (f.startFrame k fr).around k = f.around k := around_modSl f _

/-- A frame on the line (R230, R261): busy, no longer in the queue, and counted as sent once more. -/
theorem port_startFrame (f : FieldDie) (fr : CtFrame) (hk : k < 96) : ((f.startFrame k fr).sl k).port.line = 1 ∧
    ((f.startFrame k fr).sl k).port.queue = (f.sl k).port.queue.erase fr ∧
    ((f.startFrame k fr).sl k).port.sending.map (·.sends) = some (fr.sends + 1) := by
  rw [startFrame, sl_modSl_self _ _ _ hk]
  exact ⟨rfl, rfl, rfl⟩

/-- The line after a frame of the device, with the timer of R259 where the frame is to bring a REQUEST. -/
def frameEnded (f : FieldDie) (k : Nat) (fr : CtFrame) : FieldDie :=
  let f := f.modPort k fun p => { p with sending := none, tx := false, line := if p.line = 1 then 0 else p.line }
  let wait9 : Bool := (f.sl k).sess.state == 3 && ((fr.type == 0 && fr.re == 0xD) || (fr.type == 2 && fr.re == 9))
  if wait9 then f.modSess k (fun s => { s with t := { s.t with response := true, respKinds := [9] } }) else f

theorem port_frameEnded (f : FieldDie) (fr : CtFrame) (hk : k < 96) : ((f.frameEnded k fr).sl k).port =
    { (f.sl k).port with sending := none, tx := false, line := if (f.sl k).port.line = 1 then 0 else (f.sl k).port.line } := by
  simp only [frameEnded]
  split
  · rw [sl_modSess_self _ _ hk, sl_modPort_self _ _ hk]
  · rw [sl_modPort_self _ _ hk]

@[simp] theorem around_frameEnded (f : FieldDie) (fr : CtFrame) : (f.frameEnded k fr).around k = f.around k := by
  simp only [frameEnded]
  split
  · rw [around_modSess, around_modPort]
  · rw [around_modPort]

theorem txEnd_none (h : (f.sl k).port.sending = none) : f.txEnd k = f := by simp only [txEnd, h]

theorem txEnd_owed (h : (f.sl k).port.sending = some fr) (ho : fr.owed = true ∨ fr.once = true) : f.txEnd k = f.frameEnded k fr := by
  simp only [txEnd, h]
  exact if_pos ho

theorem txEnd_awaited (h : (f.sl k).port.sending = some fr) (ho : ¬ (fr.owed = true ∨ fr.once = true)) : f.txEnd k =
    (f.frameEnded k fr).modSl k fun s => { s with
      port := { s.port with awaiting := some fr }, sess := { s.sess with t := { s.sess.t with ack := true } } } := by
  simp only [txEnd, h]
  exact if_neg ho

@[simp] theorem around_txEnd (f : FieldDie) : (f.txEnd k).around k = f.around k := by
  cases h : (f.sl k).port.sending with
  | none => rw [txEnd_none h]
  | some fr =>
    by_cases ho : fr.owed = true ∨ fr.once = true
    · rw [txEnd_owed h ho, around_frameEnded]
    · rw [txEnd_awaited h ho, around_modSl, around_frameEnded]

/-- The end of a frame (10 R259): it awaits its ACK unless it is owed or starts nothing. -/
theorem txEnd_sending (hk : k < 96) (h : (f.sl k).port.sending = some fr) : ((f.txEnd k).sl k).port.sending = none ∧
    (fr.owed = false → fr.once = false → ((f.txEnd k).sl k).port.awaiting = some fr ∧ ((f.txEnd k).sl k).sess.t.ack = true) ∧
    (fr.owed = true ∨ fr.once = true → ((f.txEnd k).sl k).port.awaiting = (f.sl k).port.awaiting) := by
  by_cases ho : fr.owed = true ∨ fr.once = true
  · rw [txEnd_owed h ho, port_frameEnded f fr hk]
    refine ⟨rfl, fun h1 h2 => ?_, fun _ => rfl⟩
    simp [h1, h2] at ho
  · rw [txEnd_awaited h ho, sl_modSl_self _ _ _ hk, port_frameEnded f fr hk]
    exact ⟨rfl, fun _ _ => ⟨rfl, rfl⟩, fun h => absurd h ho⟩

end FieldDie

namespace Machine

section LineEvents

variable {s t : State} {k : Fin 96}

/-- A presence pulse outside RESETTING (R227): it is counted and reported, and a module that comes into an EMPTY session is asked for its
CAPABILITY. -/
theorem presence_leaves (ht : t.chip.field = (s.chip.field.pulsed k).markPresent k) :
    (t.chip.field.sl k).port.present = true ∧ (t.chip.field.sl k).port.presCnt = satN 8 ((s.chip.field.sl k).port.presCnt + 1) ∧
    fieldEvent s (qSrc (slotQuad k) 21) 1 k ∈ t.chip.field.fcol.arisen ∧ otherSlots s t k ∧
    (s.chip.field.sessLive = true → (s.chip.field.sl k).port.present = false → (s.chip.field.sl k).sess.state = 0 →
      (t.chip.field.sl k).sess.state = 2 ∧ queued t k 6 (fun fr => fr.what = 8)) := by
  have hp := FieldDie.sl_pulsed s.chip.field k.isLt
  obtain ⟨hothers, harisen⟩ := reported_of_around (s := s) (t := t) (by rw [ht, FieldDie.around_markPresent, FieldDie.around_pulsed])
  obtain ⟨hpresent, hcount⟩ := FieldDie.port_markPresent (s.chip.field.pulsed k) false k.isLt
  rw [harisen]
  unfold queued
  rw [ht]
  refine ⟨hpresent, by rw [hcount, hp], List.mem_append_right _ (List.mem_singleton_self _), hothers, fun hl hnew hs => ?_⟩
  rw [FieldDie.markPresent_empty (by rw [hp]; exact hnew) (by rw [hp]; exact hs) (by rw [FieldDie.pulsed, FieldDie.sessLive_insEvent]; exact hl)]
  exact ⟨by rw [FieldDie.sl_send_self _ _ k.isLt, FieldDie.sl_modSess_self _ _ k.isLt], FieldDie.exists_sendGet k.isLt (by decide)⟩

/-- A hard reset declared on a session that advances (R264). -/
theorem declareHard_live_leaves (hline : (s.chip.field.sl k).port.line < 2)
    (ht : t.chip.field = ((s.chip.field.resetShown k).hardTaken k).modSess k fun s => { s with hardCmds := [] }) :
    (t.chip.field.sl k).port.line = 2 ∧ (t.chip.field.sl k).sess.epoch = ((s.chip.field.sl k).sess.epoch + 1) % 16 ∧
    (t.chip.field.sl k).sess.hard = satN 8 ((s.chip.field.sl k).sess.hard + 1) ∧ (t.chip.field.sl k).sess.state = 7 ∧
    (t.chip.field.sl k).sess.t = { hardDone := true } ∧ (t.chip.field.sl k).port.queue = [] ∧
    fieldEvent s (qSrc (slotQuad k) 21) 4 k ∈ t.chip.field.fcol.arisen := by
  obtain ⟨-, harisen⟩ := reported_of_around (s := s) (t := t)
    (by rw [ht, FieldDie.around_modSess, FieldDie.around_hardTaken, FieldDie.around_resetShown])
  have hmax : max 2 (s.chip.field.sl k).port.line = 2 := by omega
  rw [harisen, ht, FieldDie.sl_modSess_self _ _ k.isLt, FieldDie.port_hardTaken _ k.isLt, FieldDie.sess_hardTaken _ k.isLt,
    FieldDie.sl_resetShown _ k.isLt]
  exact ⟨by simp [Port.silence, Port.flush, FieldDie.lineReset, hmax], rfl, rfl, rfl, rfl, rfl,
    List.mem_append_right _ (List.mem_singleton_self _)⟩

/-- A hard reset declared where the session does not act on it. -/
theorem declareHard_shown_leaves (hline : (s.chip.field.sl k).port.line < 2) (ht : t.chip.field = s.chip.field.resetShown k) :
    (t.chip.field.sl k).port.line = 2 ∧ (t.chip.field.sl k).sess.epoch = ((s.chip.field.sl k).sess.epoch + 1) % 16 ∧
    (t.chip.field.sl k).sess.hard = satN 8 ((s.chip.field.sl k).sess.hard + 1) ∧
    (t.chip.field.sl k).sess.state = (s.chip.field.sl k).sess.state ∧
    fieldEvent s (qSrc (slotQuad k) 21) 4 k ∈ t.chip.field.fcol.arisen := by
  obtain ⟨-, harisen⟩ := reported_of_around (s := s) (t := t) (by rw [ht, FieldDie.around_resetShown])
  rw [harisen, ht, FieldDie.sl_resetShown _ k.isLt]
  exact ⟨Nat.max_eq_left (by omega), rfl, rfl, rfl, List.mem_append_right _ (List.mem_singleton_self _)⟩

/-- A line held low past a reset (R225). -/
theorem exec_ctStuckLow_due (hk : k.val < s.chip.variant.slots) (hh : s.chip.field.hears = true) (hl : (s.chip.field.sl k).port.line = 2) :
    exec (.ctStuckLow k) s = .next (s.onField fun f => (f.modPort k fun p => { p with line := 3 }).raiseQ (slotQuad k) 16 1 k) := by
  change Host.Outcome.next (s.onSlot k _) = _
  rw [State.onSlot_present hk]
  simp [State.onField, hh, hl]

theorem exec_ctStuckLow_not (h : ¬ (k.val < s.chip.variant.slots ∧ s.chip.field.hears = true ∧ (s.chip.field.sl k).port.line = 2)) :
    exec (.ctStuckLow k) s = .next s := by
  by_cases hk : k.val < s.chip.variant.slots
  · exact congrArg Host.Outcome.next (State.onSlot_eq_self (if_neg fun hl => h ⟨hk, hl⟩))
  · exact congrArg Host.Outcome.next (State.onSlot_absent (Nat.not_lt.mp hk))

/-- A collision of a frame that is lost with it, or is repeated at once (R231). -/
theorem collision_leaves {fr : CtFrame} (hs : (s.chip.field.sl k).port.sending = some fr)
    (hr : fr.owed = true ∨ fr.once = true ∨ fr.type = 0xE ∨ (fr.sends < 6 ∧ fr.sends ≠ 3)) (ht : t.chip.field = s.chip.field.collision k) :
    (t.chip.field.sl k).port.holdoff = true ∧ (t.chip.field.sl k).port.sending = none ∧
    (t.chip.field.sl k).port.collCnt = satN 8 ((s.chip.field.sl k).port.collCnt + 1) ∧ otherSlots s t k ∧
    t.chip.field.fcol.arisen = s.chip.field.fcol.arisen ++ [fieldEvent s (qSrc (slotQuad k) 15) 2 k] ∧
    (fr.owed = true ∨ fr.once = true ∨ fr.type = 0xE → (t.chip.field.sl k).port.queue = (s.chip.field.sl k).port.queue) ∧
    (fr.owed = false → fr.once = false → fr.type ≠ 0xE → fr ∈ (t.chip.field.sl k).port.queue) := by
  obtain ⟨haround, hport⟩ := FieldDie.collision_port k.isLt hs hr
  obtain ⟨hothers, harisen⟩ := reported_of_around (s := s) (t := t) (by rw [ht, haround])
  rw [ht, hport]
  by_cases hlost : fr.owed = true ∨ fr.once = true ∨ fr.type = 0xE
  · rw [if_pos hlost]
    refine ⟨rfl, rfl, rfl, hothers, ht ▸ harisen, fun _ => rfl, fun h1 h2 h3 => ?_⟩
    simp [h1, h2, h3] at hlost
  · rw [if_neg hlost]
    exact ⟨rfl, rfl, rfl, hothers, ht ▸ harisen, fun h => absurd h hlost, fun _ _ _ => Port.mem_queue_queueFirst _ _⟩

/-- A frame of a type that no module sends, or with a wrong count of terms (R235): it is heard, counted and reported. -/
theorem badType_leaves {raw : CtRaw} (ht : t.chip.field =
      ((s.chip.field.heard k raw.type raw.msgId).modPort k fun p => { p with
        badType := satN 8 (p.badType + 1) }).raiseQ (slotQuad k) 15 1 k) :
    (t.chip.field.sl k).port = { (s.chip.field.sl k).port with
      rxType := raw.type, rxId := raw.msgId, badType := satN 8 ((s.chip.field.sl k).port.badType + 1) } ∧ otherSlots s t k ∧
    t.chip.field.fcol.arisen = s.chip.field.fcol.arisen ++ [fieldEvent s (qSrc (slotQuad k) 15) 1 k] := by
  refine ⟨?_, reported_of_around (by rw [ht, FieldDie.around_raiseQ, FieldDie.around_modPort, FieldDie.heard, FieldDie.around_modPort])⟩
  rw [ht, FieldDie.sl_raiseQ, FieldDie.sl_modPort_self _ _ k.isLt, FieldDie.heard, FieldDie.sl_modPort_self _ _ k.isLt]

/-- What changes the port of slot `k` alone. -/
theorem port_leaves {g : Port → Port} (ht : t.chip.field = s.chip.field.modPort k g) :
    (t.chip.field.sl k).port = g (s.chip.field.sl k).port ∧ otherSlots s t k :=
  ⟨by rw [ht, FieldDie.sl_modPort_self _ _ k.isLt], otherSlots_of_around (by rw [ht, FieldDie.around_modPort])⟩

end LineEvents

/-- Settles O28: each event by what it leaves of the port, and each start of a frame by what the line and the queue hold. -/
theorem lineEventsMarkThePort : Obligations.LineEventsMarkThePort := by
  refine ⟨?presence, ?glitch, ?reset, ?stuck, ?release, ?collision, ?holdoff, ?discard, ?txStart, ?txEnd⟩
  case presence =>
    intro k s
    exact ⟨_, rfl, fieldOnly_onSlot _ _ _, State.onSlot_absent, fun h => State.onSlot_eq_self (FieldDie.presence_not h),
      fun hk hh h9 h7 => presence_leaves (State.field_onSlot hk (FieldDie.presence_heard k.isLt hh h9 h7))⟩
  case glitch =>
    intro k s
    refine ⟨_, rfl, fieldOnly_onSlot _ _ _, State.onSlot_absent, otherSlots_onSlot ?_,
      fun hk hh => (port_leaves (State.field_onSlot hk (if_pos hh))).1, fun h => State.onSlot_eq_self (by simp [h])⟩
    split
    · exact FieldDie.around_modPort _ _
    · rfl
  case reset =>
    intro k s
    refine ⟨_, rfl, fieldOnly_onSlot _ _ _, State.onSlot_absent, fun h => State.onSlot_eq_self (if_neg ?_), fun hk hh hline hl h9 hc => ?_,
      fun hk hh hline hn => ?_⟩
    · rintro ⟨hh, hline⟩
      exact h.elim (fun h => Bool.noConfusion (hh.symm.trans h)) (Nat.not_le.mpr hline)
    · exact declareHard_live_leaves hline (State.field_onSlot hk ((if_pos ⟨hh, hline⟩).trans (FieldDie.declareHard_live k.isLt hl h9 hc)))
    · exact declareHard_shown_leaves hline (State.field_onSlot hk ((if_pos ⟨hh, hline⟩).trans (FieldDie.declareHard_shown k.isLt hn)))
  case stuck =>
    intro k s
    by_cases h : k.val < s.chip.variant.slots ∧ s.chip.field.hears = true ∧ (s.chip.field.sl k).port.line = 2
    · obtain ⟨hk, hh, hl⟩ := h
      obtain ⟨hothers, harisen⟩ := reported_of_around (s := s) (k := k)
        (t := s.onField fun f => (f.modPort k fun p => { p with line := 3 }).raiseQ (slotQuad k) 16 1 k)
        (by rw [State.onField_field, FieldDie.around_raiseQ, FieldDie.around_modPort])
      refine ⟨_, exec_ctStuckLow_due hk hh hl, rfl, fun hn => absurd hk (Nat.not_lt.mpr hn), hothers, fun _ _ _ => ⟨?_, harisen⟩, fun hn => ?_⟩
      · rw [State.onField_field, FieldDie.sl_raiseQ, FieldDie.sl_modPort_self _ _ k.isLt]
      · exact hn.elim (fun h => Bool.noConfusion (hh.symm.trans h)) (absurd hl)
    · exact ⟨s, exec_ctStuckLow_not h, rfl, fun _ => rfl, otherSlots_refl s k, fun hk hh hl => absurd ⟨hk, hh, hl⟩ h, fun _ => rfl⟩
  case release =>
    intro k s
    refine ⟨_, rfl, fieldOnly_onSlot _ _ _, State.onSlot_absent, otherSlots_onSlot ?_,
      fun hk hl => (port_leaves (State.field_onSlot hk (if_pos hl))).1, fun h => State.onSlot_eq_self (if_neg (Nat.not_le.mpr h))⟩
    split
    · exact FieldDie.around_modPort _ _
    · rfl
  case collision =>
    intro k s
    refine ⟨_, rfl, fieldOnly_onSlot _ _ _, State.onSlot_absent, fun h => State.onSlot_eq_self ?_,
      fun fr hk hl hs hr => collision_leaves hs hr (State.field_onSlot hk (if_pos hl))⟩
    rcases h with h | h
    · exact if_neg (by simp [h])
    · rw [FieldDie.collision_none h, ite_self]
  case holdoff =>
    intro k s
    refine ⟨_, rfl, fieldOnly_onSlot _ _ _, State.onSlot_absent, otherSlots_onSlot (FieldDie.around_modPort _ _), fun hk => ?_⟩
    rw [State.onSlot_present hk, State.onField_field, FieldDie.sl_modPort_self _ _ k.isLt]
  case discard =>
    intro k raw s
    refine ⟨_, rfl, fieldOnly_onSlot _ _ _, State.onSlot_absent, fun h => State.onSlot_eq_self (FieldDie.frameDiscard_not h),
      fun hk hh hu h => ?_, fun hk hh hu hs hc hn h => ?_, fun hk hh hu hs hc hn hcrc => ⟨fun h => ?_,
        fun hm hp h => badType_leaves (State.field_onSlot hk (FieldDie.frameDiscard_badType hh hu hs hc hn k.isLt hcrc hm hp h))⟩⟩
    · have hf := State.field_onSlot (g := fun f => f.frameDiscard k raw) hk (FieldDie.frameDiscard_unsound hh hu h)
      exact port_leaves hf
    · have hf := State.field_onSlot (g := fun f => f.frameDiscard k raw) hk (FieldDie.frameDiscard_crc hh hu hs hc hn h)
      exact port_leaves hf
    · have hf := State.field_onSlot (g := fun f => f.frameDiscard k raw) hk (FieldDie.frameDiscard_own hh hu hs hc hn hcrc h)
      exact port_leaves hf
  case txStart =>
    intro k s
    refine ⟨_, rfl, fieldOnly_onSlot _ _ _, State.onSlot_absent, fun h => State.onSlot_eq_self (FieldDie.txStart_not h),
      fun hk hl hu h0 hb hs hc => ⟨fun hr => ?_, fun fr hr hp ht => ?_⟩⟩
    · have hf := State.field_onSlot (g := fun f => f.txStart k) hk (FieldDie.txStart_reset hl hu h0 hb hs hc hr)
      exact (port_leaves hf).1
    · have hf := State.field_onSlot (g := fun f => f.txStart k) hk (FieldDie.txStart_frame hl hu h0 hb hs hc hr hp ht)
      obtain ⟨hline, hqueue, hsends⟩ := FieldDie.port_startFrame s.chip.field fr k.isLt
      exact ⟨by rw [hf, hline], by rw [hf, hqueue], by rw [hf, hsends], otherSlots_of_around (by rw [hf, FieldDie.around_startFrame])⟩
  case txEnd =>
    intro k s
    refine ⟨_, rfl, fieldOnly_onSlot _ _ _, State.onSlot_absent, otherSlots_onSlot ?_, fun h => State.onSlot_eq_self ?_, fun fr hk hl hs => ?_⟩
    · split
      · exact FieldDie.around_txEnd _
      · rfl
    · rcases h with h | h
      · exact if_neg (by simp [h])
      · rw [FieldDie.txEnd_none h, ite_self]
    · rw [State.onSlot_present hk, State.onField_field, if_pos hl]
      exact FieldDie.txEnd_sending k.isLt hs

end Machine
end Sys2Proof

/-! Frames of the module (09 R235 to R238): what the receiver leaves of the slot before the session executes the frame. -/

namespace Sys2Proof

namespace FieldDie

variable {f : FieldDie} {k : Nat}

theorem sl_answered (f : FieldDie) (hk : k < 96) : ((f.answered k).sl k).sess = (f.sl k).sess ∧ ((f.answered k).sl k).port = (f.sl k).port ∧
    ((f.answered k).sl k).pol = (f.sl k).pol := by
  rw [answered, sl_modSl_self _ _ _ hk]
  split <;> exact ⟨rfl, rfl, rfl⟩

@[simp] theorem around_answered (f : FieldDie) : (f.answered k).around k = f.around k := around_modSl f _

/-- The ACK owed to a frame heard (R237), of a module that answers (11 R295). -/
def acking (f : FieldDie) (k type id epoch : Nat) : FieldDie :=
  ((f.heard k type id).modPort k fun p => p.enqueue { type := 0, msgId := id, epoch := epoch, re := type }).answered k

/-- The frame noted as the one executed last (R237). -/
def taken (f : FieldDie) (k type id epoch : Nat) : FieldDie := (f.acking k type id epoch).modPort k fun p => { p with lastExec := some (type, id) }

section Receiver

variable {type id epoch : Nat}

theorem sl_heard (f : FieldDie) (hk : k < 96) :
    (f.heard k type id).sl k = { f.sl k with port := { (f.sl k).port with rxType := type, rxId := id } } := sl_modPort_self f _ hk

@[simp] theorem around_heard (f : FieldDie) : (f.heard k type id).around k = f.around k := around_modPort f _

theorem portUp_heard (f : FieldDie) (hk : k < 96) : (f.heard k type id).portUp k = f.portUp k := by
  unfold portUp
  rw [sl_heard f hk]
  rfl

theorem exchanges_heard (f : FieldDie) (hk : k < 96) : (f.heard k type id).exchanges k = f.exchanges k := by
  unfold exchanges
  rw [portUp_heard f hk, sl_heard f hk]
  rfl

@[simp] theorem around_acking (f : FieldDie) : (f.acking k type id epoch).around k = f.around k := by
  rw [acking, around_answered, around_modPort, around_heard]

@[simp] theorem around_taken (f : FieldDie) : (f.taken k type id epoch).around k = f.around k := by
  rw [taken, around_modPort, around_acking]

theorem sess_acking (f : FieldDie) (hk : k < 96) : ((f.acking k type id epoch).sl k).sess = (f.sl k).sess := by
  rw [acking, (sl_answered _ hk).1, sl_modPort_self _ _ hk, sl_heard f hk]

theorem port_acking (f : FieldDie) (hk : k < 96) : ((f.acking k type id epoch).sl k).port =
    { (f.sl k).port with rxType := type, rxId := id }.enqueue { type := 0, msgId := id, epoch := epoch, re := type } := by
  rw [acking, (sl_answered _ hk).2.1, sl_modPort_self _ _ hk, sl_heard f hk]

theorem sess_taken (f : FieldDie) (hk : k < 96) : ((f.taken k type id epoch).sl k).sess = (f.sl k).sess := by
  rw [taken, sl_modPort_self _ _ hk, sess_acking f hk]

theorem mstate_taken (f : FieldDie) (hk : k < 96) : ((f.taken k type id epoch).sl k).port.mstate = (f.sl k).port.mstate := by
  rw [taken, sl_modPort_self _ _ hk]
  exact (congrArg Port.mstate (port_acking f hk)).trans (Port.enqueue_mstate _ _)

theorem pol_taken (f : FieldDie) (hk : k < 96) : ((f.taken k type id epoch).sl k).pol = (f.sl k).pol := by
  rw [taken, sl_modPort_self _ _ hk, acking, (sl_answered _ hk).2.2, sl_modPort_self _ _ hk, sl_heard f hk]

end Receiver

end FieldDie

namespace Machine

section Frames

variable {s : State} {k : Fin 96} {type id e : Nat} {ok : Bool} {g : Variant → FieldDie → FieldDie}

theorem hears_of_sessLive {f : FieldDie} (h : f.sessLive = true) : f.hears = true := by simp [FieldDie.hears, h]

theorem exchanges_of_frameRuns (h : frameRuns k type id e s) : s.chip.field.exchanges k = true := by
  obtain ⟨-, hl, hu, -, h0, h1, h9, -, -⟩ := h
  simp [FieldDie.exchanges, hl, hu, h0, h1, h9]

/-- A frame that owes no ACK goes to the session as it is (R237). -/
theorem receive_owed (h : frameRuns k type id e s) (ht : type = 0 ∨ type = 5) :
    s.chip.field.receive k type id e ok = ((s.chip.field.heard k type id).answered k, true) := by
  have hx : (s.chip.field.heard k type id).exchanges k = true := (FieldDie.exchanges_heard _ k.isLt).trans (exchanges_of_frameRuns h)
  obtain ⟨-, hl, hu, hp, -, -, -, -, -⟩ := h
  unfold FieldDie.receive
  rw [if_neg (by simp [hears_of_sessLive hl, hu]), FieldDie.frameHeard_present k.isLt hp]
  dsimp only
  rw [if_neg fun ⟨h0, h5, _⟩ => ht.elim h0 h5, if_neg (not_not_intro hx), if_pos ht]

/-- A frame that is no repeat is acknowledged (R237); it is executed where its fields lie in their ranges, and refused with REJECT where not
(R240). -/
theorem receive_checked (h : frameRuns k type id e s) (h0 : type ≠ 0) (h5 : type ≠ 5) : s.chip.field.receive k type id e ok =
    if ok then (s.chip.field.taken k type id e, true) else ((s.chip.field.acking k type id e).sendCtl k 2 none type, false) := by
  have hx : (s.chip.field.heard k type id).exchanges k = true := (FieldDie.exchanges_heard _ k.isLt).trans (exchanges_of_frameRuns h)
  obtain ⟨-, hl, hu, hp, -, -, -, he, hlast⟩ := h
  have hepoch : ((s.chip.field.heard k type id).sl k).sess.epoch = e := by
    rw [FieldDie.sl_heard _ k.isLt]
    exact he.symm
  have hnew : ((s.chip.field.acking k type id e).sl k).port.lastExec ≠ some (type, id) := by
    rw [FieldDie.port_acking _ k.isLt, Port.enqueue_lastExec]
    exact hlast
  unfold FieldDie.receive
  rw [if_neg (by simp [hears_of_sessLive hl, hu]), FieldDie.frameHeard_present k.isLt hp]
  dsimp only
  rw [if_neg fun ⟨_, _, _, hne⟩ => hne hepoch.symm, if_neg (not_not_intro hx),
    if_neg fun h => h.elim h0 h5, ← FieldDie.acking, if_neg hnew]
  cases ok
  · exact if_pos (by simp)
  · exact if_neg (by simp)

theorem receive_deaf {f : FieldDie} (h : f.hears = false) : f.receive k type id e ok = (f, false) := if_pos (by simp [h])

/-- What a device that does not hear does with a frame: nothing. -/
theorem State.frame_deaf (h : s.chip.field.hears = false) : s.frame k type id e ok g = s := by
  refine State.onSlot_eq_self ?_
  rw [receive_deaf h]
  rfl

/-- What a frame that the session executes makes of the field side. -/
theorem State.field_frame (h : frameRuns k type id e s) (h0 : type ≠ 0) (h5 : type ≠ 5) :
    (s.frame k type id e true g).chip.field = g s.chip.variant (s.chip.field.taken k type id e) := by
  refine State.field_onSlot h.1 ?_
  rw [receive_checked h h0 h5]
  rfl

theorem State.field_frame_refused (h : frameRuns k type id e s) (h0 : type ≠ 0) (h5 : type ≠ 5) :
    (s.frame k type id e false g).chip.field = (s.chip.field.acking k type id e).sendCtl k 2 none type := by
  refine State.field_onSlot h.1 ?_
  rw [receive_checked h h0 h5]
  rfl

theorem State.field_frame_owed (h : frameRuns k type id e s) (ht : type = 0 ∨ type = 5) :
    (s.frame k type id e ok g).chip.field = g s.chip.variant ((s.chip.field.heard k type id).answered k) := by
  refine State.field_onSlot h.1 ?_
  rw [receive_owed h ht]
  rfl

end Frames

end Machine
end Sys2Proof

/-! Frames of the module in the session that executes them (10 R252 to R275, R554). -/

namespace Sys2Proof

namespace FieldDie

variable {f : FieldDie} {k : Nat} {fr : CtFrame}

/-! ACK, ACCEPT, REJECT, READY, SOFT_RESET and STALE. -/

theorem bcastAck_present {e : Nat} (h : (f.sl k).sess.state ≠ 0) : f.bcastAck k e = f := if_neg fun hs => h hs.1

/-- The ACK of a frame whose sender asks for a reply starts the wait for it (R259). -/
theorem acked_asks (hk : k < 96) (ha : fr.asks = true) : ((f.acked k fr).sl k).port.awaiting = none ∧
    ((f.acked k fr).sl k).sess.outstanding = some fr ∧ ((f.acked k fr).sl k).sess.t.ack = false ∧
    ((f.acked k fr).sl k).sess.t.response = true ∧
    (fr.type = 0xA → (f.sl k).sess.state = 3 → ((f.acked k fr).sl k).sess.state = 4) := by
  simp only [acked, ha, if_true, sl_modSl_self _ _ _ hk]
  split
  · rw [sl_modSess_self _ _ hk, sl_modSl_self _ _ _ hk, sl_modSl_self _ _ _ hk]
    exact ⟨rfl, rfl, rfl, rfl, fun _ _ => rfl⟩
  · next hn =>
    rw [sl_modSl_self _ _ _ hk, sl_modSl_self _ _ _ hk]
    exact ⟨rfl, rfl, rfl, rfl, fun ht hs => absurd ⟨ht, hs⟩ hn⟩

/-- The session no longer awaits the ACK (R259). -/
def acknowledged (f : FieldDie) (k : Nat) : FieldDie :=
  f.modSl k fun s => { s with port := { s.port with awaiting := none }, sess := { s.sess with t := { s.sess.t with ack := false } } }

theorem acked_softReset (ht : fr.type = 4) : f.acked k fr =
    fr.cmd.toList.foldl (fun f r => f.complete r .ok (f.sl k).sess.epoch) ((f.acknowledged k).softDone k fr.epoch) := by
  have ha : fr.asks = false := by simp [CtFrame.asks, ht]
  simp only [acked, ha, ht, Bool.false_eq_true, if_false, if_true]
  rfl

/-- The ACK of a SOFT_RESET completes it (R262). -/
theorem sess_acked_softReset (hk : k < 96) (ht : fr.type = 4) : ((f.acked k fr).sl k).sess.state = 2 ∧
    ((f.acked k fr).sl k).sess.epoch = (fr.epoch + 1) % 16 ∧ ((f.acked k fr).sl k).sess.soft = satN 8 ((f.sl k).sess.soft + 1) := by
  rw [acked_softReset ht, foldl_keeps (fun f => f.sl k) (fun f r => sl_complete f r .ok _ k), sess_softDone _ _ _ hk, acknowledged,
    sl_modSl_self _ _ _ hk]
  exact ⟨rfl, rfl, rfl⟩

theorem acceptRx_swap (hs : (f.sl k).sess.outstanding = some fr) (ht : fr.type = 0xE) : f.acceptRx k = f.modSess k fun s => { s with
    outstanding := none, swapCmd := fr.cmd, swapMod := bits 31 30 (fr.terms.getD 0 0) == 1
    swapStage := if bits 31 30 (fr.terms.getD 0 0) == 1 then 4 else 2, t := { s.t with response := false, swap := true } } := by
  have ho : (f.sl k).sess.outstanding.filter (·.type == 0xE) = some fr := by simp [hs, ht, Option.filter]
  simp only [acceptRx, ho]

theorem rejectRx_grant (hk : k < 96) (hs : (f.sl k).sess.outstanding = some fr) (ht : fr.type = 0xA) (h4 : (f.sl k).sess.state = 4) :
    ((f.rejectRx k).sl k).sess.state = 8 ∧ ((f.rejectRx k).sl k).sess.outstanding = none := by
  simp [rejectRx, hs, ht, h4, sl_modSess_self _ _ hk, sl_modSl_self _ _ _ hk]

/-- A need of a STATUS concerns the queue and the commands that wait alone (R554). -/
theorem sess_needStatus (f : FieldDie) (cmd : Option Request) (probe : Nat) (hk : k < 96) :
    ((f.needStatus k cmd probe).sl k).sess = { (f.sl k).sess with statusWaits := (f.sl k).sess.statusWaits ++ cmd.toList } := by
  unfold needStatus
  dsimp only
  split
  · rw [sl_modPort_self _ _ hk, sl_modSess_self _ _ hk]
  split
  · rw [sl_modSess_self _ _ hk]
  · rw [sl_send_self _ _ hk, sl_modSess_self _ _ hk]

@[simp] theorem around_needStatus (f : FieldDie) (cmd : Option Request) (probe : Nat) : (f.needStatus k cmd probe).around k = f.around k := by
  unfold needStatus
  dsimp only
  split
  · rw [around_modPort, around_modSess]
  split
  · rw [around_modSess]
  · rw [around_send, around_modSess]

/-- The GRANT adopted and reported: CONTRACTED (R252). -/
def contracted (f : FieldDie) (k : Nat) : FieldDie :=
  ((f.modSess k fun s => { s with outstanding := none, t := { s.t with response := false } }).modSess k fun s => { s with
    state := 5, hrFail := 0, softTried := false, hardTried := false, t := { poll := true } }).sessEvent k 21 2

/-- READY of a GRANT: CONTRACTED, with what the granted role asks for. -/
theorem readyRx_grant (hk : k < 96) (hs : (f.sl k).sess.outstanding = some fr) (ht : fr.type = 0xA) (h4 : (f.sl k).sess.state = 4) :
    f.readyRx k = f.contracted k ∨ f.readyRx k = (f.contracted k).needStatus k ∨
    f.readyRx k = ((f.contracted k).modSl k fun s => { s with ins := { s.ins with state := 4, startPhase := false } }).insEvent k 22 1 := by
  have ho : (f.sl k).sess.outstanding.filter (·.type == 0xA) = some fr := by simp [hs, ht, Option.filter]
  have h4' : ((f.modSess k fun s => { s with outstanding := none, t := { s.t with response := false } }).sl k).sess.state = 4 := by
    rw [sl_modSess_self _ _ hk]
    exact h4
  simp only [readyRx, ho, contractReady, h4', if_true]
  split
  · exact .inr (.inr rfl)
  split
  · exact .inr (.inl rfl)
  · exact .inl rfl

theorem sess_contracted (f : FieldDie) (hk : k < 96) : ((f.contracted k).sl k).sess = { (f.sl k).sess with
    outstanding := none, state := 5, hrFail := 0, softTried := false, hardTried := false, t := { poll := true } } := by
  rw [contracted, sl_sessEvent, sl_modSess_self _ _ hk, sl_modSess_self _ _ hk]

theorem around_contracted (f : FieldDie) (k : Nat) : (f.contracted k).around k = (f.around k).raiseQ (slotQuad k) 21 2 k := by
  rw [contracted, around_sessEvent, around_modSess, around_modSess, Nat.zero_mul, Nat.zero_add]

/-- STALE of the module to the frame that awaits its ACK, with no command behind it, starts a soft reset (R268). -/
theorem staleRx_awaited {id : Nat} (ha : (f.sl k).port.awaiting = some fr) (hid : fr.msgId = id) (h4 : fr.type ≠ 4) (hc : fr.cmd = none)
    (hw : (f.sl k).sess.statusWaits = []) : ∃ g, f.staleRx k id = (f.modSl k g).softStart k := by
  simp only [staleRx, ha]
  rw [if_neg (by simp [hid, h4])]
  simp only [hc, hw, ite_self, Option.toList_none, List.append_nil, List.foldl_nil]
  exact ⟨_, rfl⟩

/-! CAPABILITY, IDENTITY, REQUEST and STATUS. -/

theorem answerData_completes (f : FieldDie) (k : Nat) (r : Request) : ∃ st x, f.answerData k r = f.complete r st x := by
  unfold answerData
  split
  · exact ⟨_, _, rfl⟩
  · exact ⟨_, _, rfl⟩

@[simp] theorem sl_answerData (f : FieldDie) (r : Request) (j : Nat) : (f.answerData k r).sl j = f.sl j := by
  obtain ⟨st, x, h⟩ := f.answerData_completes k r
  rw [h, sl_complete]

@[simp] theorem around_answerData (f : FieldDie) (r : Request) : (f.answerData k r).around k = f.around k := by
  obtain ⟨st, x, h⟩ := f.answerData_completes k r
  rw [h, around_complete]

@[simp] theorem sl_answerAll (rs : List Request) (f : FieldDie) (j : Nat) : (rs.foldl (fun f r => f.answerData k r) f).sl j = f.sl j :=
  foldl_keeps (fun f => f.sl j) (fun f r => sl_answerData f r j) rs f

@[simp] theorem around_answerAll (rs : List Request) (f : FieldDie) : (rs.foldl (fun f r => f.answerData k r) f).around k = f.around k :=
  foldl_keeps (around k) (fun f r => around_answerData f r) rs f

/-- The exchange of a GET ended (R259). -/
def getEnded (s : Sess) : Sess := { s with outstanding := none, t := { s.t with response := false } }

theorem getDone_get {w : Nat} (hs : (f.sl k).sess.outstanding = some fr) (hg : fr.isGet w = true) :
    f.getDone k w = (fr.cmd.toList.foldl (fun f r => f.answerData k r) (f.modSess k getEnded), some fr) := by
  simp only [getDone, hs]
  exact if_pos hg

theorem getDone_other {w : Nat} (h : ∀ fr, (f.sl k).sess.outstanding = some fr → fr.isGet w = false) : f.getDone k w = (f, none) := by
  unfold getDone
  split
  · next fr hs => exact if_neg (by simp [h fr hs])
  · rfl

/-- The frame that a GET awaited ends the exchange, and any other leaves the session. -/
theorem getDone_cases (f : FieldDie) (k w : Nat) : f.getDone k w = (f, none) ∨
    ∃ fr, (f.sl k).sess.outstanding = some fr ∧ fr.isGet w = true ∧
      f.getDone k w = (fr.cmd.toList.foldl (fun f r => f.answerData k r) (f.modSess k getEnded), some fr) := by
  by_cases h : ∃ fr, (f.sl k).sess.outstanding = some fr ∧ fr.isGet w = true
  · obtain ⟨fr, hs, hg⟩ := h
    exact .inr ⟨fr, hs, hg, getDone_get hs hg⟩
  · exact .inl (getDone_other fun fr hs => Bool.eq_false_iff.mpr fun hg => h ⟨fr, hs, hg⟩)

theorem sess_getDone (f : FieldDie) (w : Nat) (hk : k < 96) :
    ((f.getDone k w).1.sl k).sess = (f.sl k).sess ∨ ((f.getDone k w).1.sl k).sess = getEnded (f.sl k).sess := by
  obtain h | ⟨fr, -, -, h⟩ := f.getDone_cases k w
  · exact .inl (by rw [h])
  · exact .inr (by rw [h, sl_answerAll, sl_modSess_self _ _ hk])

@[simp] theorem around_getDone (f : FieldDie) (w : Nat) : (f.getDone k w).1.around k = f.around k := by
  obtain h | ⟨fr, -, -, h⟩ := f.getDone_cases k w
  · rw [h]
  · rw [h, around_answerAll, around_modSess]

/-- What CAPABILITY does once its exchange has ended: it completes a hard reset, or goes on with the GET for the IDENTITY (R252, R266). -/
def capabilityEnd (k : Nat) (p : FieldDie × Option CtFrame) : FieldDie :=
  if (p.1.sl k).sess.state = 7 then
    (p.1.modSess k fun s => { s with state := 2, t := { s.t with hardDone := false } }).send k (getFrame 0xD)
  else if (p.1.sl k).sess.state = 2 ∧ p.2.map (·.cmd) = some none then p.1.send k (getFrame 0xD) else p.1

theorem capabilityRx_eq (f : FieldDie) (ts : List Word) :
    f.capabilityRx k ts = capabilityEnd k ((f.modSess k fun s => { s with capability := some ts }).getDone k 8) := by
  unfold capabilityRx capabilityEnd
  dsimp only
  cases ((f.modSess k fun s => { s with capability := some ts }).getDone k 8).2 <;> simp

theorem capability_capabilityRx (f : FieldDie) (ts : List Word) (hk : k < 96) :
    ((f.capabilityRx k ts).sl k).sess.capability = some ts := by
  have hh := sl_modSess_self f (fun s => { s with capability := some ts }) hk
  have hg : (((f.modSess k fun s => { s with capability := some ts }).getDone k 8).1.sl k).sess.capability = some ts := by
    obtain h | h := (f.modSess k fun s => { s with capability := some ts }).sess_getDone 8 hk
    · rw [h, hh]
    · rw [h, hh, getEnded]
  rw [capabilityRx_eq, capabilityEnd]
  split
  · rw [sl_send_self _ _ hk, sl_modSess_self _ _ hk]
    exact hg
  split
  · rw [sl_send_self _ _ hk]
    exact hg
  · exact hg

/-- A GET of the session itself answered by its frame: `g` holds the data. -/
theorem getDone_own {w : Nat} {g : Sess → Sess} (hk : k < 96) (hs : (g (f.sl k).sess).outstanding = some fr) (hg : fr.isGet w = true)
    (hc : fr.cmd = none) : (f.modSess k g).getDone k w = ((f.modSess k g).modSess k getEnded, some fr) := by
  rw [getDone_get (by rw [sl_modSess_self _ _ hk]; exact hs) hg, hc]
  rfl

/-- The CAPABILITY that the session asked for is followed by the GET for the IDENTITY (R252). -/
theorem capabilityRx_asked {ts : List Word} (hk : k < 96) (hs : (f.sl k).sess.outstanding = some fr) (hg : fr.isGet 8 = true)
    (hc : fr.cmd = none) (h2 : (f.sl k).sess.state = 2) : f.capabilityRx k ts =
      ((f.modSess k fun s => { s with capability := some ts }).modSess k getEnded).send k (getFrame 0xD) := by
  have h2' : (((f.modSess k fun s => { s with capability := some ts }).modSess k getEnded).sl k).sess.state = 2 := by
    rw [sl_modSess_self _ _ hk, sl_modSess_self _ _ hk]
    exact h2
  rw [capabilityRx_eq, getDone_own hk hs hg hc, capabilityEnd]
  simp [h2', hc]

/-- What IDENTITY does once its exchange has ended: the session goes on to the REQUEST (R252). -/
def identityEnd (k : Nat) (p : FieldDie × Option CtFrame) : FieldDie :=
  if (p.1.sl k).sess.state = 2 ∧ p.2.map (·.cmd) = some none then p.1.modSess k fun s => { s with state := 3 } else p.1

theorem identityRx_eq (f : FieldDie) (ts : List Word) :
    f.identityRx k ts = identityEnd k ((f.modSess k fun s => { s with identity := some ts }).getDone k 0xD) := by
  unfold identityRx identityEnd
  dsimp only
  cases ((f.modSess k fun s => { s with identity := some ts }).getDone k 0xD).2 <;> simp

theorem identity_identityRx (f : FieldDie) (ts : List Word) (hk : k < 96) : ((f.identityRx k ts).sl k).sess.identity = some ts := by
  have hh := sl_modSess_self f (fun s => { s with identity := some ts }) hk
  have hg : (((f.modSess k fun s => { s with identity := some ts }).getDone k 0xD).1.sl k).sess.identity = some ts := by
    obtain h | h := (f.modSess k fun s => { s with identity := some ts }).sess_getDone 0xD hk
    · rw [h, hh]
    · rw [h, hh, getEnded]
  rw [identityRx_eq, identityEnd]
  split
  · rw [sl_modSess_self _ _ hk]
    exact hg
  · exact hg

theorem identityRx_asked {ts : List Word} (hk : k < 96) (hs : (f.sl k).sess.outstanding = some fr) (hg : fr.isGet 0xD = true)
    (hc : fr.cmd = none) (h2 : (f.sl k).sess.state = 2) : ((f.identityRx k ts).sl k).sess.outstanding = none ∧
      ((f.identityRx k ts).sl k).sess.state = 3 := by
  have h2' : (((f.modSess k fun s => { s with identity := some ts }).modSess k getEnded).sl k).sess.state = 2 := by
    rw [sl_modSess_self _ _ hk, sl_modSess_self _ _ hk]
    exact h2
  rw [identityRx_eq, getDone_own hk hs hg hc, identityEnd, if_pos ⟨h2', by simp [hc]⟩, sl_modSess_self _ _ hk, sl_modSess_self _ _ hk]
  exact ⟨rfl, rfl⟩

/-- A REQUEST is refused by the module's CAPABILITY, the slot's policy, the window and the port's moisture state (R253, 09 R246). -/
theorem refuses_congr {g : FieldDie} {ts : List Word} (hc : (g.sl k).sess.capability = (f.sl k).sess.capability)
    (hp : (g.sl k).pol = (f.sl k).pol) (hm : (g.sl k).port.mstate = (f.sl k).port.mstate) (hg : g.grid = f.grid) :
    g.refuses k ts = f.refuses k ts := by
  unfold refuses Sess.cap
  generalize g.sl k = a at hc hp hm ⊢
  generalize f.sl k = b at hc hp hm ⊢
  dsimp only
  rw [hc, hp, hm, hg]

/-- The REQUEST held, with the wait for it at its end. -/
def requestHeld (ts : List Word) (s : Sess) : Sess := { s with request := some ts, t := { s.t with response := false } }

theorem requestRx_asked {v : Variant} {ts : List Word} (h3 : (f.sl k).sess.state = 3) : f.requestRx v k ts =
    if (f.modSess k (requestHeld ts)).refuses k ts then (f.modSess k (requestHeld ts)).sendCtl k 2 none 9
    else (f.modSess k (requestHeld ts)).send k { type := 0xA, terms := (f.modSess k (requestHeld ts)).grantTerms v k } :=
  if_neg (not_not_intro h3)

/-- The session of slot `k` and the tick, which the estimator leaves alone. -/
def sessTick (k : Nat) (f : FieldDie) : Sess × TickSt := ((f.sl k).sess, f.tick)

section Estimator

variable {j : Nat}

theorem sessTick_ite {p : Prop} [Decidable p] {f g h : FieldDie} (hg : g.sessTick k = f.sessTick k) (hh : h.sessTick k = f.sessTick k) :
    (if p then g else h).sessTick k = f.sessTick k := by
  split
  · exact hg
  · exact hh

@[simp] theorem sessTick_modBat (f : FieldDie) (g : Bat → Bat) (hk : k < 96) : (f.modBat j g).sessTick k = f.sessTick k := by
  by_cases h : k = j
  · subst h
    simp only [sessTick, modBat, sl_modSl_self _ _ _ hk, modSl_tick]
  · simp only [sessTick, modBat, sl_modSl_ne _ _ _ _ h, modSl_tick]

@[simp] theorem sessTick_modCoord (f : FieldDie) (g : Coord → Coord) : (f.modCoord g).sessTick k = f.sessTick k := rfl
@[simp] theorem sessTick_raise (f : FieldDie) (src code x : Nat) : (f.raise src code x).sessTick k = f.sessTick k := rfl

@[simp] theorem sessTick_batEvent (f : FieldDie) (src code vec reason : Nat) : (f.batEvent src code j vec reason).sessTick k = f.sessTick k := by
  simp only [sessTick, batEvent, sl_vector, vector_tick]
  rfl

@[simp] theorem sessTick_writeBattery (f : FieldDie) : (f.writeBattery j).sessTick k = f.sessTick k := by
  unfold writeBattery
  dsimp only
  split
  · split <;> rfl
  · rfl

variable (hk : k < 96)

include hk

theorem sessTick_cycleDone (f : FieldDie) : (f.cycleDone j).sessTick k = f.sessTick k := by
  unfold cycleDone
  dsimp only
  rw [sessTick_writeBattery]
  split <;> rw [sessTick_batEvent, sessTick_modBat _ _ hk, sessTick_modBat _ _ hk]

theorem sessTick_emptyAnchor (f : FieldDie) : (f.emptyAnchor j).sessTick k = f.sessTick k := by
  unfold emptyAnchor
  extract_lets b odd emptied told judged closed
  have htold : told.sessTick k = f.sessTick k := (sessTick_batEvent _ _ _ _ _).trans (sessTick_modBat _ _ hk)
  have hjudged : judged.sessTick k = f.sessTick k := sessTick_ite ((sessTick_batEvent _ _ _ _ _).trans htold) htold
  have hclosed : closed.sessTick k = f.sessTick k := sessTick_ite ((sessTick_cycleDone hk _).trans hjudged) hjudged
  exact sessTick_ite ((sessTick_modCoord _ _).trans hclosed) hclosed

theorem sessTick_fullAnchor (f : FieldDie) : (f.fullAnchor j).sessTick k = f.sessTick k := by
  unfold fullAnchor
  extract_lets b odd filled told judged
  have htold : told.sessTick k = f.sessTick k := (sessTick_raise _ _ _ _).trans (sessTick_modBat _ _ hk)
  have hjudged : judged.sessTick k = f.sessTick k := sessTick_ite ((sessTick_batEvent _ _ _ _ _).trans htold) htold
  exact sessTick_ite ((sessTick_modCoord _ _).trans hjudged) hjudged

theorem sessTick_voltSample (f : FieldDie) (v : Int) : (f.voltSample j v).sessTick k = f.sessTick k :=
  sessTick_ite ((sessTick_emptyAnchor hk _).trans (sessTick_modBat _ _ hk))
    (sessTick_ite ((sessTick_fullAnchor hk _).trans (sessTick_modBat _ _ hk)) (sessTick_modBat _ _ hk))

/-- The battery estimate of a STATUS (13 R328, R329) is no matter of the session. -/
theorem sessTick_batStatus (f : FieldDie) (probe : Nat) : (f.batStatus j probe).sessTick k = f.sessTick k :=
  sessTick_ite rfl (sessTick_ite (sessTick_ite ((sessTick_modCoord _ _).trans (sessTick_modBat _ _ hk)) (sessTick_modBat _ _ hk))
    ((sessTick_voltSample hk _ _).trans (sessTick_modBat _ _ hk)))

end Estimator

/-- A STATUS held and its exchange ended, with the commands that wait for one answered (R270, R554). -/
def statusTaken (k : Nat) (p : FieldDie × Option CtFrame) : FieldDie :=
  ((if p.2.isSome then (p.1.sl k).sess.statusWaits else []).foldl (fun f r => f.answerData k r) p.1).modSess k fun s => { s with
    statusWaits := if p.2.isSome then [] else s.statusWaits, lostNeed := false }

/-- What STATUS does once its exchange has ended: the estimate takes it, and a fault is reported. -/
def statusEnd (k : Nat) (ts : List Word) (p : FieldDie × Option CtFrame) : FieldDie :=
  if bits 31 24 (ts.getD 0 0) = 5 then
    ((statusTaken k p).batStatus k ((p.2.map (·.probe)).getD 0)).sessEvent k 19 1 (bits 7 0 (ts.getD 0 0))
  else (statusTaken k p).batStatus k ((p.2.map (·.probe)).getD 0)

theorem statusRx_eq (f : FieldDie) (ts : List Word) :
    f.statusRx k ts = statusEnd k ts ((f.modSess k fun s => { s with status := some ts }).getDone k 0xB) := by
  unfold statusRx statusEnd statusTaken
  dsimp only
  cases ((f.modSess k fun s => { s with status := some ts }).getDone k 0xB).2 <;> simp

theorem sess_batStatus (f : FieldDie) (probe : Nat) (hk : k < 96) : ((f.batStatus k probe).sl k).sess = (f.sl k).sess :=
  congrArg Prod.fst (sessTick_batStatus (j := k) hk f probe)

theorem sess_statusTaken (p : FieldDie × Option CtFrame) (hk : k < 96) : ((statusTaken k p).sl k).sess = { (p.1.sl k).sess with
    statusWaits := if p.2.isSome then [] else (p.1.sl k).sess.statusWaits, lostNeed := false } := by
  rw [statusTaken, sl_modSess_self _ _ hk, sl_answerAll]

theorem around_statusTaken (p : FieldDie × Option CtFrame) : (statusTaken k p).around k = p.1.around k := by
  rw [statusTaken, around_modSess, around_answerAll]

theorem sess_statusRx (f : FieldDie) (ts : List Word) (hk : k < 96) : ((f.statusRx k ts).sl k).sess =
    ((statusTaken k ((f.modSess k fun s => { s with status := some ts }).getDone k 0xB)).sl k).sess := by
  rw [statusRx_eq, statusEnd]
  split
  · rw [sl_sessEvent, sess_batStatus _ _ hk]
  · rw [sess_batStatus _ _ hk]

/-- A STATUS is held, and the need of a lost uplink is served (R270, 11 R295). -/
theorem status_statusRx (f : FieldDie) (ts : List Word) (hk : k < 96) :
    ((f.statusRx k ts).sl k).sess.status = some ts ∧ ((f.statusRx k ts).sl k).sess.lostNeed = false := by
  rw [sess_statusRx f ts hk, sess_statusTaken _ hk]
  refine ⟨?_, rfl⟩
  dsimp only
  obtain h | h := (f.modSess k fun s => { s with status := some ts }).sess_getDone 0xB hk
  · rw [h, sl_modSess_self _ _ hk]
  · rw [h, sl_modSess_self _ _ hk, getEnded]

/-- A STATUS that was asked for ends the exchange and every wait for it (R554). -/
theorem statusRx_asked {ts : List Word} (hk : k < 96) (hs : (f.sl k).sess.outstanding = some fr) (hg : fr.isGet 0xB = true) :
    ((f.statusRx k ts).sl k).sess.outstanding = none ∧ ((f.statusRx k ts).sl k).sess.statusWaits = [] := by
  have hd := getDone_get (f := f.modSess k fun s => { s with status := some ts }) (k := k) (by rw [sl_modSess_self _ _ hk]; exact hs) hg
  rw [sess_statusRx f ts hk, sess_statusTaken _ hk, hd]
  dsimp only
  rw [sl_answerAll, sl_modSess_self _ _ hk]
  exact ⟨rfl, rfl⟩

theorem tick_of_around {g : FieldDie} (h : g.around k = f.around k) : g.tick = f.tick := by
  have ht : (g.around k).tick = (f.around k).tick := congrArg tick h
  exact ht

/-- An event of the present tick (15 R386, R393). -/
def stamped (f : FieldDie) (src code x : Nat) : Event := { tb := f.tick.tb, fine := f.tick.fine, src := src, code := code, value := x }

theorem stamped_of_tick {g : FieldDie} (h : g.tick = f.tick) (src code x : Nat) : g.stamped src code x = f.stamped src code x := by
  rw [stamped, stamped, h]

theorem arisen_sessEvent (f : FieldDie) (k src code x : Nat) : (f.sessEvent k src code x).fcol.arisen =
    f.fcol.arisen ++ [f.stamped (qSrc (slotQuad k) src) code (x * 0x10000 + k)] := congrArg Collector.arisen (vector_fcol _ _)

theorem mem_arisen_sessEvent (f : FieldDie) (k src code x : Nat) :
    f.stamped (qSrc (slotQuad k) src) code (x * 0x10000 + k) ∈ (f.sessEvent k src code x).fcol.arisen := by
  rw [arisen_sessEvent]
  exact List.mem_append_right _ (List.mem_singleton_self _)

theorem arisen_insEvent (f : FieldDie) (k src code : Nat) : (f.insEvent k src code).fcol.arisen =
    f.fcol.arisen ++ [f.stamped (qSrc (slotQuad k) src) code k] := congrArg Collector.arisen (vector_fcol _ _)

theorem tick_batStatus (f : FieldDie) (probe : Nat) (hk : k < 96) : (f.batStatus k probe).tick = f.tick :=
  congrArg Prod.snd (sessTick_batStatus (j := k) hk f probe)

theorem mem_arisen_statusEnd {ts : List Word} (p : FieldDie × Option CtFrame) (hk : k < 96) (h5 : bits 31 24 (ts.getD 0 0) = 5) :
    p.1.stamped (qSrc (slotQuad k) 19) 1 (bits 7 0 (ts.getD 0 0) * 0x10000 + k) ∈ (statusEnd k ts p).fcol.arisen := by
  have ht := (tick_batStatus (statusTaken k p) ((p.2.map (·.probe)).getD 0) hk).trans (tick_of_around (around_statusTaken p))
  rw [statusEnd, if_pos h5, ← stamped_of_tick ht]
  exact mem_arisen_sessEvent _ _ _ _ _

/-- A STATUS in FAULT is reported with its code (R270). -/
theorem statusRx_fault {ts : List Word} (hk : k < 96) (h5 : bits 31 24 (ts.getD 0 0) = 5) :
    f.stamped (qSrc (slotQuad k) 19) 1 (bits 7 0 (ts.getD 0 0) * 0x10000 + k) ∈ (f.statusRx k ts).fcol.arisen := by
  have ht : ((f.modSess k fun s => { s with status := some ts }).getDone k 0xB).1.tick = f.tick :=
    tick_of_around (k := k) (by rw [around_getDone, around_modSess])
  rw [statusRx_eq, ← stamped_of_tick ht]
  exact mem_arisen_statusEnd _ hk h5

/-! ALERT and SWAP, and a frame of a wrong epoch. -/

/-- An ALERT in CONTRACTED as it is reported, before the session acts on it (R270, 11 R294). -/
def alerted (f : FieldDie) (k : Nat) (w : Word) : FieldDie :=
  let f := if w.getLsbD 31 then f.sessEvent k 19 1 (bits 7 0 w) else f
  if w.getLsbD 26 then (f.modSl k fun s => { s with ins := { s.ins with state := 5 } }).insEvent k 22 2 else f

theorem alertRx_reneg {w : Word} (h5 : (f.sl k).sess.state = 5) (hw : w.getLsbD 27 = true) : f.alertRx k w = (f.alerted k w).softStart k := by
  simp only [alertRx, h5, hw, if_true]
  rfl

theorem mem_arisen_alerted {w : Word} (hw : w.getLsbD 31 = true) :
    f.stamped (qSrc (slotQuad k) 19) 1 (bits 7 0 w * 0x10000 + k) ∈ (f.alerted k w).fcol.arisen := by
  simp only [alerted, hw, if_true]
  split
  · rw [arisen_insEvent, modSl_fcol]
    exact List.mem_append_left _ (mem_arisen_sessEvent _ _ _ _ _)
  · exact mem_arisen_sessEvent _ _ _ _ _

/-- What refuses a SWAP of the module where no swap is in progress (R271 to R274). -/
def swapBad (s : Sess) (w : Word) : Prop :=
  s.state ≠ 5 ∨ ¬ s.auxSrc ∨ s.swapAct ∨ (bits 31 30 w == 1) = s.auxMod ∨ ((bits 31 30 w == 1) ∧ bits 23 16 w < s.auxGrant)

theorem swapRx_refused {w : Word} (h0 : (f.sl k).sess.swapStage = 0) (hb : swapBad (f.sl k).sess w) : f.swapRx k w = f.sendCtl k 2 none 0xE := by
  unfold swapBad at hb
  simp only [swapRx, h0, Nat.zero_ne_one, false_and, if_false]
  exact if_pos hb

theorem swapRx_accepted {w : Word} (h0 : (f.sl k).sess.swapStage = 0) (hb : ¬ swapBad (f.sl k).sess w) : f.swapRx k w =
    (f.modSess k fun s => { s with swapStage := 6, swapMod := bits 31 30 w == 1, swapCmd := none }).sendCtl k 1 := by
  unfold swapBad at hb
  simp only [swapRx, h0, Nat.zero_ne_one, false_and, if_false]
  exact if_neg hb

theorem sl_staleReply (f : FieldDie) (id : Nat) (hx : f.exchanges k = true) (hk : k < 96) : (f.staleReply k id).sl k = { f.sl k with
    port := { (f.sl k).port with staleRx := satN 8 ((f.sl k).port.staleRx + 1) }.enqueue
      { type := 5, msgId := id, epoch := (f.sl k).sess.epoch } } := by
  simp only [staleReply, hx, if_true]
  exact sl_modPort_self f _ hk

end FieldDie
end Sys2Proof

/-! Each frame as the obligation states it: what it leaves of a state whose session executes it. -/

namespace Sys2Proof

namespace Machine

section FrameEvents

variable {s t : State} {k : Fin 96} {type id e : Nat} {fr : CtFrame}

/-- A frame that owes no ACK leaves the session and the frame that awaits its ACK. -/
theorem sl_heard_answered (f : FieldDie) (type id : Nat) : (((f.heard k type id).answered k).sl k).sess = (f.sl k).sess ∧
    (((f.heard k type id).answered k).sl k).port.awaiting = (f.sl k).port.awaiting := by
  obtain ⟨hsess, hport, -⟩ := FieldDie.sl_answered (f.heard k type id) k.isLt
  rw [hsess, hport, FieldDie.sl_heard _ k.isLt]
  exact ⟨rfl, rfl⟩

theorem ackRx_deaf {f : FieldDie} (h : f.hears = false) : f.ackRx k id e = f := by
  have hl : f.sessLive = false := by
    rw [FieldDie.hears, Bool.or_eq_false_iff] at h
    exact h.1
  simp only [FieldDie.ackRx, hl, Bool.false_eq_true, if_false, receive_deaf h, false_and]
  split <;> rfl

/-- The ACK of the frame that awaits it (R237, R259). -/
theorem ackRx_awaited (h : frameRuns k 0 id e s) (ha : (s.chip.field.sl k).port.awaiting = some fr) (hid : fr.msgId = id)
    (he : fr.epoch = e) : s.chip.field.ackRx k id e = ((s.chip.field.heard k 0 id).answered k).acked k fr := by
  have h0 : (s.chip.field.sl k).sess.state ≠ 0 := by
    obtain ⟨-, -, -, -, h0, -⟩ := h
    exact h0
  simp only [FieldDie.ackRx, FieldDie.bcastAck_present h0, ite_self, receive_owed h (.inl rfl), (sl_heard_answered _ _ _).2, ha]
  exact if_pos ⟨trivial, hid, he⟩

theorem tick_taken (f : FieldDie) (type id e : Nat) : (f.taken k type id e).tick = f.tick :=
  FieldDie.tick_of_around (f := f) (g := f.taken k type id e) (FieldDie.around_taken f)

/-- READY of the GRANT in GRANTED (R252): CONTRACTED, and reported. -/
theorem readyRx_leaves (hs : (s.chip.field.sl k).sess.outstanding = some fr) (ht : fr.type = 0xA)
    (h4 : (s.chip.field.sl k).sess.state = 4) (hf : t.chip.field = (s.chip.field.taken k type id e).readyRx k) :
    (t.chip.field.sl k).sess.state = 5 ∧ (t.chip.field.sl k).sess.hrFail = 0 ∧ (t.chip.field.sl k).sess.t.poll = true ∧
    fieldEvent s (qSrc (slotQuad k) 21) 2 k ∈ t.chip.field.fcol.arisen := by
  have hsess := FieldDie.sess_taken (type := type) (id := id) (epoch := e) s.chip.field k.isLt
  have hc := FieldDie.sess_contracted (s.chip.field.taken k type id e) k.isLt
  have harisen := FieldDie.arisen_of_around (g := (s.chip.field.taken k type id e).contracted k) (f := s.chip.field.raiseQ (slotQuad k) 21 2 k)
    (by rw [FieldDie.around_contracted, FieldDie.around_taken, FieldDie.around_raiseQ])
  have hev : fieldEvent s (qSrc (slotQuad k) 21) 2 k ∈ ((s.chip.field.taken k type id e).contracted k).fcol.arisen := by
    rw [harisen]
    exact List.mem_append_right _ (List.mem_singleton_self _)
  rw [hf]
  obtain h | h | h := FieldDie.readyRx_grant (f := s.chip.field.taken k type id e) k.isLt (by rw [hsess]; exact hs) ht (by rw [hsess]; exact h4)
  · rw [h, hc]
    exact ⟨rfl, rfl, rfl, hev⟩
  · rw [h, FieldDie.sess_needStatus _ _ _ k.isLt, hc, FieldDie.arisen_of_around (FieldDie.around_needStatus _ _ _)]
    exact ⟨rfl, rfl, rfl, hev⟩
  · rw [h, FieldDie.sl_insEvent, FieldDie.sl_modSl_self _ _ _ k.isLt, hc, FieldDie.arisen_insEvent, FieldDie.modSl_fcol]
    exact ⟨rfl, rfl, rfl, List.mem_append_left _ hev⟩

/-- A SOFT_RESET of the module (R262): a new epoch, and the session asks for the CAPABILITY again. -/
theorem softDone_leaves (hf : t.chip.field = (s.chip.field.taken k type id e).softDone k e (some (type, id))) :
    (t.chip.field.sl k).sess.state = 2 ∧ (t.chip.field.sl k).sess.epoch = (e + 1) % 16 ∧
    (t.chip.field.sl k).sess.soft = satN 8 ((s.chip.field.sl k).sess.soft + 1) ∧ queued t k 6 (fun fr => fr.what = 8) ∧
    fieldEvent s (qSrc (slotQuad k) 21) 3 k ∈ t.chip.field.fcol.arisen := by
  obtain ⟨-, harisen⟩ := reported_of_around (s := s) (t := t) (by rw [hf, FieldDie.around_softDone, FieldDie.around_taken])
  rw [harisen]
  unfold queued
  rw [hf, FieldDie.sess_softDone _ _ _ k.isLt, FieldDie.sess_taken _ k.isLt]
  exact ⟨rfl, rfl, rfl, FieldDie.exists_sendGet k.isLt (by decide), List.mem_append_right _ (List.mem_singleton_self _)⟩

/-- What the session holds of a module's CAPABILITY and what it does next (R252). -/
theorem capabilityRx_leaves {ts : List Word} (hf : t.chip.field = (s.chip.field.taken k type id e).capabilityRx k ts) :
    (t.chip.field.sl k).sess.capability = some ts ∧
    ∀ fr, (s.chip.field.sl k).sess.outstanding = some fr → fr.isGet 8 = true → fr.cmd = none → (s.chip.field.sl k).sess.state = 2 →
      (t.chip.field.sl k).sess.outstanding = none ∧ queued t k 6 (fun fr => fr.what = 0xD) := by
  have hsess := FieldDie.sess_taken (type := type) (id := id) (epoch := e) s.chip.field k.isLt
  unfold queued
  rw [hf]
  refine ⟨FieldDie.capability_capabilityRx _ _ k.isLt, fun fr hs hg hc h2 => ?_⟩
  rw [FieldDie.capabilityRx_asked k.isLt (by rw [hsess]; exact hs) hg hc (by rw [hsess]; exact h2)]
  refine ⟨?_, FieldDie.exists_sendGet k.isLt (by decide)⟩
  rw [FieldDie.sl_send_self _ _ k.isLt, FieldDie.sl_modSess_self _ _ k.isLt]
  rfl

/-- A frame refused with REJECT leaves the session (R240). -/
theorem refused_leaves (hf : t.chip.field = (s.chip.field.acking k type id e).sendCtl k 2 none type) :
    (t.chip.field.sl k).sess = (s.chip.field.sl k).sess ∧ queued t k 2 (fun fr => fr.re = type) := by
  unfold queued
  rw [hf]
  refine ⟨?_, FieldDie.exists_send k.isLt rfl⟩
  rw [FieldDie.sendCtl, FieldDie.sl_send_self _ _ k.isLt, FieldDie.sess_acking _ k.isLt]

/-- A REQUEST in REQUEST_WAIT is answered with a GRANT or a REJECT (R252 to R254). -/
theorem requestRx_leaves {v : Variant} {ts : List Word} (h3 : (s.chip.field.sl k).sess.state = 3)
    (hf : t.chip.field = (s.chip.field.taken k type id e).requestRx v k ts) :
    (t.chip.field.sl k).sess.request = some ts ∧ (s.chip.field.refuses k ts = true → queued t k 2 (fun fr => fr.re = 9)) ∧
    (s.chip.field.refuses k ts = false → queued t k 0xA (fun fr => fr.terms.length = 4)) := by
  have hsess := FieldDie.sess_taken (type := type) (id := id) (epoch := e) s.chip.field k.isLt
  have hheld := FieldDie.sl_modSess_self (s.chip.field.taken k type id e) (FieldDie.requestHeld ts) k.isLt
  have hrefuses : ((s.chip.field.taken k type id e).modSess k (FieldDie.requestHeld ts)).refuses k ts = s.chip.field.refuses k ts := by
    refine FieldDie.refuses_congr ?_ ?_ ?_ ?_
    · rw [hheld, hsess, FieldDie.requestHeld]
    · rw [hheld, FieldDie.pol_taken _ k.isLt]
    · rw [hheld, FieldDie.mstate_taken _ k.isLt]
    · rfl
  rw [FieldDie.requestRx_asked (by rw [hsess]; exact h3), hrefuses] at hf
  unfold queued
  rw [hf]
  cases hr : s.chip.field.refuses k ts with
  | true =>
    rw [if_pos rfl]
    refine ⟨?_, fun _ => FieldDie.exists_send k.isLt rfl, fun h => Bool.noConfusion h⟩
    rw [FieldDie.sendCtl, FieldDie.sl_send_self _ _ k.isLt, hheld]
    rfl
  | false =>
    rw [if_neg Bool.false_ne_true]
    refine ⟨?_, fun h => Bool.noConfusion h, fun _ => FieldDie.exists_send k.isLt rfl⟩
    rw [FieldDie.sl_send_self _ _ k.isLt, hheld]
    rfl

/-- An ALERT with RENEG in CONTRACTED starts a soft reset (R270). -/
theorem alertRx_leaves {w : Word} (h5 : (s.chip.field.sl k).sess.state = 5) (hw : w.getLsbD 27 = true)
    (hf : t.chip.field = (s.chip.field.taken k type id e).alertRx k w) : (t.chip.field.sl k).sess.state = 6 ∧ queued t k 4 (fun _ => True) ∧
    (w.getLsbD 31 = true → fieldEvent s (qSrc (slotQuad k) 19) 1 (bits 7 0 w * 0x10000 + k.val) ∈ t.chip.field.fcol.arisen) := by
  rw [FieldDie.alertRx_reneg (by rw [FieldDie.sess_taken _ k.isLt]; exact h5) hw] at hf
  unfold queued
  rw [hf]
  refine ⟨FieldDie.state_softStart _ _ k.isLt, FieldDie.exists_softStart _ _ k.isLt, fun h31 => ?_⟩
  rw [FieldDie.arisen_of_around (FieldDie.around_softStart _ _)]
  have hm := FieldDie.mem_arisen_alerted (f := s.chip.field.taken k type id e) (k := k) h31
  rw [FieldDie.stamped_of_tick (tick_taken s.chip.field type id e)] at hm
  exact hm

/-- A SWAP of the module where none is in progress, in a session that does not allow it. -/
theorem swapRx_refused_leaves {w : Word} (h0 : (s.chip.field.sl k).sess.swapStage = 0)
    (hb : (s.chip.field.sl k).sess.state ≠ 5 ∨ (s.chip.field.sl k).sess.auxSrc = false)
    (hf : t.chip.field = (s.chip.field.taken k type id e).swapRx k w) :
    queued t k 2 (fun fr => fr.re = 0xE) ∧ (t.chip.field.sl k).sess.swapStage = 0 := by
  have hsess := FieldDie.sess_taken (type := type) (id := id) (epoch := e) s.chip.field k.isLt
  have hbad : FieldDie.swapBad (s.chip.field.sl k).sess w := hb.imp_right fun h => .inl (by simp [h])
  rw [FieldDie.swapRx_refused (by rw [hsess]; exact h0) (by rw [hsess]; exact hbad)] at hf
  unfold queued
  rw [hf]
  refine ⟨FieldDie.exists_send k.isLt rfl, ?_⟩
  rw [FieldDie.sendCtl, FieldDie.sl_send_self _ _ k.isLt, hsess]
  exact h0

/-- A SWAP of the module away from the present feed, to one that carries what is granted (R271). -/
theorem swapRx_accepted_leaves {w : Word} (h0 : (s.chip.field.sl k).sess.swapStage = 0) (h5 : (s.chip.field.sl k).sess.state = 5)
    (hsrc : (s.chip.field.sl k).sess.auxSrc = true) (hw : bits 31 30 w ≤ 1) (hmod : (s.chip.field.sl k).sess.auxMod = (bits 31 30 w == 0))
    (hfits : bits 31 30 w = 1 → (s.chip.field.sl k).sess.auxGrant ≤ bits 23 16 w)
    (hf : t.chip.field = (s.chip.field.taken k type id e).swapRx k w) :
    queued t k 1 (fun _ => True) ∧ (t.chip.field.sl k).sess.swapStage = 6 ∧ (t.chip.field.sl k).sess.swapMod = (bits 31 30 w == 1) := by
  have hsess := FieldDie.sess_taken (type := type) (id := id) (epoch := e) s.chip.field k.isLt
  have hact : (s.chip.field.sl k).sess.swapAct = false := by simp [Sess.swapAct, h0]
  have hother : (bits 31 30 w == 1) ≠ (s.chip.field.sl k).sess.auxMod := by
    rw [hmod]
    obtain h | h : bits 31 30 w = 0 ∨ bits 31 30 w = 1 := by omega
    · simp [h]
    · simp [h]
  have hgood : ¬ FieldDie.swapBad (s.chip.field.sl k).sess w := by
    rintro (h | h | h | h | ⟨h1, h2⟩)
    · exact h h5
    · exact h hsrc
    · exact Bool.noConfusion (hact.symm.trans h)
    · exact hother h
    · exact absurd (hfits (beq_iff_eq.mp h1)) (Nat.not_le.mpr h2)
  rw [FieldDie.swapRx_accepted (by rw [hsess]; exact h0) (by rw [hsess]; exact hgood)] at hf
  unfold queued
  rw [hf]
  refine ⟨FieldDie.exists_send k.isLt trivial, ?_⟩
  rw [FieldDie.sendCtl, FieldDie.sl_send_self _ _ k.isLt, FieldDie.sl_modSess_self _ _ k.isLt]
  exact ⟨rfl, rfl⟩

/-- A frame of a wrong epoch (09 R238): STALE is owed, and the session is as it was. -/
theorem receive_stale (hl : s.chip.field.sessLive = true) (hu : s.chip.field.portUp k = true) (hp : (s.chip.field.sl k).port.present = true)
    (h0 : type ≠ 0) (h5 : type ≠ 5) (h4 : type ≠ 4) (he : e ≠ (s.chip.field.sl k).sess.epoch) (ok : Bool) :
    s.chip.field.receive k type id e ok = ((s.chip.field.heard k type id).staleReply k id, false) := by
  have he' : e ≠ ((s.chip.field.heard k type id).sl k).sess.epoch := by
    rw [FieldDie.sl_heard _ k.isLt]
    exact he
  unfold FieldDie.receive
  rw [if_neg (by simp [hears_of_sessLive hl, hu]), FieldDie.frameHeard_present k.isLt hp]
  exact if_pos ⟨h0, h5, h4, he'⟩

theorem staleReply_leaves (hx : s.chip.field.exchanges k = true) (hf : t.chip.field = (s.chip.field.heard k type id).staleReply k id) :
    (t.chip.field.sl k).sess = (s.chip.field.sl k).sess ∧ (t.chip.field.sl k).port.staleRx = satN 8 ((s.chip.field.sl k).port.staleRx + 1) ∧
    queued t k 5 (fun fr => fr.msgId = id) := by
  unfold queued
  rw [hf, FieldDie.sl_staleReply _ _ ((FieldDie.exchanges_heard _ k.isLt).trans hx) k.isLt, FieldDie.sl_heard _ k.isLt]
  exact ⟨rfl, Port.enqueue_staleRx _ _, _, Port.mem_queue_enqueue _ _, rfl, rfl⟩

end FrameEvents

/-- Settles O25: each frame by what the receiver passes on, and by what the session does with it. -/
theorem framesMoveTheSession : Obligations.FramesMoveTheSession := by
  refine ⟨?ack, ?accept, ?reject, ?ready, ?softReset, ?stale, ?capability, ?identity, ?request, ?status, ?alert, ?swap, ?wrongEpoch⟩
  case ack =>
    intro k id e s
    refine ⟨_, rfl, fieldOnly_onSlot _ _ _, State.onSlot_absent, fun h => State.onSlot_eq_self (ackRx_deaf h), fun fr h ha hid he => ?_⟩
    obtain ⟨hsess, -⟩ := sl_heard_answered (k := k) s.chip.field 0 id
    rw [State.field_onSlot (g := fun f => f.ackRx k id e) h.1 (ackRx_awaited h ha hid he), ← hsess]
    refine ⟨fun hq => FieldDie.acked_asks k.isLt hq, fun h4 => ?_⟩
    rw [← he]
    exact FieldDie.sess_acked_softReset k.isLt h4
  case accept =>
    intro k id e s
    refine ⟨_, rfl, fieldOnly_onSlot _ _ _, State.onSlot_absent, State.frame_deaf, fun fr h hs ht => ?_⟩
    rw [State.field_frame h (by decide) (by decide), FieldDie.acceptRx_swap (by rw [FieldDie.sess_taken _ k.isLt]; exact hs) ht,
      FieldDie.sl_modSess_self _ _ k.isLt]
    exact ⟨rfl, rfl, rfl, by simp only [beq_iff_eq]⟩
  case reject =>
    intro k id e s
    refine ⟨_, rfl, fieldOnly_onSlot _ _ _, State.onSlot_absent, State.frame_deaf, fun fr h hs ht h4 => ?_⟩
    rw [State.field_frame h (by decide) (by decide)]
    exact FieldDie.rejectRx_grant k.isLt (by rw [FieldDie.sess_taken _ k.isLt]; exact hs) ht (by rw [FieldDie.sess_taken _ k.isLt]; exact h4)
  case ready =>
    intro k id e s
    exact ⟨_, rfl, fieldOnly_onSlot _ _ _, State.onSlot_absent, State.frame_deaf,
      fun fr h hs ht h4 => readyRx_leaves hs ht h4 (State.field_frame h (by decide) (by decide))⟩
  case softReset =>
    intro k id e s
    exact ⟨_, rfl, fieldOnly_onSlot _ _ _, State.onSlot_absent, State.frame_deaf,
      fun h => softDone_leaves (State.field_frame h (by decide) (by decide))⟩
  case stale =>
    intro k id e s
    refine ⟨_, rfl, fieldOnly_onSlot _ _ _, State.onSlot_absent, State.frame_deaf, fun fr h ha hid h4 hc hw => ?_⟩
    obtain ⟨hsess, hawaiting⟩ := sl_heard_answered (k := k) s.chip.field 5 id
    obtain ⟨g, hg⟩ := FieldDie.staleRx_awaited (f := (s.chip.field.heard k 5 id).answered k) (by rw [hawaiting]; exact ha) hid h4 hc
      (by rw [hsess]; exact hw)
    unfold queued
    rw [State.field_frame_owed h (.inr rfl), hg]
    exact ⟨FieldDie.state_softStart _ _ k.isLt, FieldDie.exists_softStart _ _ k.isLt⟩
  case capability =>
    intro k id e ts s
    refine ⟨_, rfl, fieldOnly_onSlot _ _ _, State.onSlot_absent, State.frame_deaf, fun h hok => ?_, fun h hok => ?_⟩
    · obtain ⟨hsess, hq⟩ := refused_leaves (t := s.frame k 8 id e false fun _ f => f.capabilityRx k ts.rows)
        (State.field_frame_refused h (by decide) (by decide))
      rw [hok, hsess]
      exact ⟨rfl, hq⟩
    · rw [hok]
      exact capabilityRx_leaves (State.field_frame h (by decide) (by decide))
  case identity =>
    intro k id e ts s
    refine ⟨_, rfl, fieldOnly_onSlot _ _ _, State.onSlot_absent, State.frame_deaf, fun h hv => ?_⟩
    rw [bne_iff_ne.mpr hv, State.field_frame h (by decide) (by decide)]
    exact ⟨FieldDie.identity_identityRx _ _ k.isLt, fun fr hs hg hc h2 => FieldDie.identityRx_asked k.isLt
      (by rw [FieldDie.sess_taken _ k.isLt]; exact hs) hg hc (by rw [FieldDie.sess_taken _ k.isLt]; exact h2)⟩
  case request =>
    intro k id e ts s
    refine ⟨_, rfl, fieldOnly_onSlot _ _ _, State.onSlot_absent, State.frame_deaf, fun h hok h3 => ?_⟩
    rw [hok]
    exact requestRx_leaves h3 (State.field_frame h (by decide) (by decide))
  case status =>
    intro k id e ts s
    refine ⟨_, rfl, fieldOnly_onSlot _ _ _, State.onSlot_absent, State.frame_deaf, fun h hle hok => ?_⟩
    have hsess := FieldDie.sess_taken (type := 0xB) (id := id) (epoch := e) s.chip.field k.isLt
    have hrange : (decide (bits 31 24 (ts.rows.getD 0 0) ≤ 5) && faultOk (bits 7 0 (ts.rows.getD 0 0))) = true := by
      rw [decide_eq_true hle, hok]
      rfl
    rw [hrange, State.field_frame h (by decide) (by decide)]
    obtain ⟨hstatus, hneed⟩ := FieldDie.status_statusRx (s.chip.field.taken k 0xB id e) ts.rows k.isLt
    refine ⟨hstatus, hneed, fun fr hs hg => FieldDie.statusRx_asked k.isLt (by rw [hsess]; exact hs) hg, fun h5 => ?_⟩
    have hm := FieldDie.statusRx_fault (f := s.chip.field.taken k 0xB id e) k.isLt h5
    rw [FieldDie.stamped_of_tick (tick_taken s.chip.field 0xB id e)] at hm
    exact hm
  case alert =>
    intro k id e w s
    refine ⟨_, rfl, fieldOnly_onSlot _ _ _, State.onSlot_absent, State.frame_deaf, fun h hok h5 hw => ?_⟩
    rw [hok]
    exact alertRx_leaves h5 hw (State.field_frame h (by decide) (by decide))
  case swap =>
    intro k id e w s
    refine ⟨_, rfl, fieldOnly_onSlot _ _ _, State.onSlot_absent, State.frame_deaf, fun h hw h0 hbad => ?_, fun h hw h0 h5 hsrc hmod hfits => ?_⟩
    · rw [decide_eq_true hw]
      exact swapRx_refused_leaves h0 hbad (State.field_frame h (by decide) (by decide))
    · rw [decide_eq_true hw]
      exact swapRx_accepted_leaves h0 h5 hsrc hw hmod hfits (State.field_frame h (by decide) (by decide))
  case wrongEpoch =>
    intro k id e w s hk hl hu hp h5 he
    have hx : s.chip.field.exchanges k = true := by simp [FieldDie.exchanges, hl, hu, h5]
    refine ⟨_, rfl, staleReply_leaves (type := 0xC) hx (State.field_onSlot hk ?_)⟩
    rw [receive_stale hl hu hp (by decide) (by decide) (by decide) he]
    rfl

end Machine
end Sys2Proof

/-! The timers of a session (10 R259 to R273, R280; 22 R538): what each expiry leaves of the slot and around it. -/

namespace Sys2Proof

namespace FieldDie

variable {f : FieldDie} {k : Nat} {fr : CtFrame}

/-- What a condition decides leaves what lies around the slot as it is, where its effect does. -/
theorem around_ite {p : Prop} [Decidable p] {g : FieldDie} (h : g.around k = f.around k) : (if p then g else f).around k = f.around k := by
  split
  · exact h
  · rfl

/-- A send repeated at once leaves the frame in the queue and its ACK no longer awaited (R261). -/
theorem sl_sendFailed_repeat (hk : k < 96) (h6 : fr.sends < 6) (h3 : fr.sends ≠ 3) : (f.sendFailed k fr).sl k = { f.sl k with
    port := { (f.sl k).port with awaiting := none }.queueFirst fr
    sess := { (f.sl k).sess with t := { (f.sl k).sess.t with ack := false } } } := by
  rw [sendFailed_repeat h6 h3, sl_modPort_self _ _ hk, sl_modSl_self _ _ _ hk]

theorem around_sendFailed_repeat (h6 : fr.sends < 6) (h3 : fr.sends ≠ 3) : (f.sendFailed k fr).around k = f.around k := by
  rw [sendFailed_repeat h6 h3, around_modPort, around_modSl]

/-- The session as the start of a soft reset leaves it (R262). -/
theorem sess_softStart (f : FieldDie) (cmd : Option Request) (hk : k < 96) :
    ((f.softStart k cmd).sl k).sess = { (f.sl k).sess.quiet with state := 6, auxMod := false } := by
  rw [softStart, sendCtl, sl_send_self _ _ hk, sl_modSess_self _ _ hk, sl_modSl_self _ _ _ hk, sl_abandon_self _ hk, Slot.leave_sess]
  rfl

/-- A response expiry counted (R259, Table 10-7). -/
def expiryCounted (s : Sess) : Sess := { s with respExp := satN 8 (s.respExp + 1) }

/-- The first exchange lost since CONTRACTED ends in a soft reset, and its counts stand (R263). -/
theorem exchangeLost_first {lost : Option CtFrame} (hk : k < 96) (hh : (f.sl k).sess.hardTried = false) (hs : (f.sl k).sess.softTried = false)
    (h4 : lost.map (·.type) ≠ some 4) :
    ∃ g : FieldDie, f.exchangeLost k lost = g.softStart k ∧ (g.sl k).sess.respExp = (f.sl k).sess.respExp := by
  simp only [exchangeLost, hh, hs, h4, Bool.false_eq_true, or_self, if_false]
  refine ⟨_, rfl, ?_⟩
  rw [sl_modSl_self _ _ _ hk, sl_completeAll]

/-- The slot of a hard reset that the device signals (R232). -/
theorem sl_hardSignal (f : FieldDie) (hk : k < 96) : (f.hardSignal k).sl k = { f.sl k with
    port := { (f.sl k).port with resetWanted := true }
    sess := { (f.sl k).sess with t := if 2 ≤ (f.sl k).port.line then (f.sl k).sess.t else {} } } := sl_modSl_self _ _ _ hk

/-- The expiry of the swap timer (R273): it counts as a response expiry, the command of the swap completes with TIMEOUT, and a hard reset is
signalled. -/
def swapExpired (f : FieldDie) (k : Nat) : FieldDie :=
  (((f.sl k).sess.swapCmd.toList.foldl (fun f r => f.complete r .timeout)
    (f.modSess k fun s => { s with respExp := satN 8 (s.respExp + 1), swapCmd := none })).abandon k).hardSignal k

theorem sl_swapExpired (f : FieldDie) (hk : k < 96) (hl : (f.sl k).port.line < 2) : ((f.swapExpired k).sl k).port.resetWanted = true ∧
    ((f.swapExpired k).sl k).sess.swapCmd = none ∧ ((f.swapExpired k).sl k).sess.t.swap = false ∧
    ((f.swapExpired k).sl k).sess.respExp = satN 8 ((f.sl k).sess.respExp + 1) := by
  rw [swapExpired, sl_hardSignal _ hk, sl_abandon_self _ hk, sl_completeAll, sl_modSess_self _ _ hk]
  exact ⟨rfl, rfl, congrArg SessTimers.swap (if_neg (Nat.not_le.mpr hl)), rfl⟩

@[simp] theorem writeStress_tick (f : FieldDie) (k : Nat) : (f.writeStress k).tick = f.tick := by
  obtain h | ⟨r, h⟩ := f.writeStress_cases k <;> rw [h]
  rfl

@[simp] theorem writeBattery_tick (f : FieldDie) (k : Nat) : (f.writeBattery k).tick = f.tick := congrArg Prod.snd (sessTick_writeBattery (k := k) f)

/-- A removal leaves the session, the port and the insertion state empty (R267, 11 R295). -/
theorem sl_removed (f : FieldDie) (hk : k < 96) : ((f.removed k).sl k).sess.state = 0 ∧ ((f.removed k).sl k).port.present = false ∧
    ((f.removed k).sl k).ins.state = 0 := by
  rw [removed, sl_insEvent, sl_modSl_self _ _ _ hk, toEmpty, sl_modSl_self _ _ _ hk]
  exact ⟨rfl, rfl, rfl⟩

/-- A removal is reported (11 R295). -/
theorem mem_arisen_removed (f : FieldDie) (k : Nat) : f.stamped (qSrc (slotQuad k) 22) 3 k ∈ (f.removed k).fcol.arisen := by
  have ht : ((f.writeStress k).writeBattery k).tick = f.tick := (writeBattery_tick _ _).trans (writeStress_tick _ _)
  rw [removed, arisen_insEvent, ← stamped_of_tick ht]
  exact List.mem_append_right _ (List.mem_singleton_self _)

/-- The slot without the GET for its CAPABILITY that has gone unanswered (R266); what is on the line runs to its end. -/
def getDropped (s : Slot) : Slot := { s with
  port := { s.port with
    queue := s.port.queue.filter fun fr => !fr.isGet 8, awaiting := s.port.awaiting.filter fun fr => !fr.isGet 8
    sending := s.port.sending.map fun fr => if !fr.isGet 8 then fr else fr.stray }
  sess := { s.sess with outstanding := s.sess.outstanding.filter fun fr => !fr.isGet 8, t := { hardDone := true } } }

/-- The GET for the CAPABILITY sent again after a hard reset (R266). -/
def getRepeated (f : FieldDie) (k : Nat) : FieldDie := (f.modSl k getDropped).send k (getFrame 8)

theorem hardDone_getRepeated (f : FieldDie) (hk : k < 96) : ((f.getRepeated k).sl k).sess.t.hardDone = true := by
  rw [getRepeated, sl_send_self _ _ hk, sl_modSl_self _ _ _ hk]
  rfl

@[simp] theorem around_getRepeated (f : FieldDie) : (f.getRepeated k).around k = f.around k := by
  rw [getRepeated, around_send, around_modSl]

/-- A need of a STATUS with no GET of it under way leaves one in the queue, the one that waits there or a new one (R554). -/
theorem exists_needStatus (cmd : Option Request) (hk : k < 96) (hb : statusBusy (f.sl k) = false) :
    ∃ x ∈ ((f.needStatus k cmd).sl k).port.queue, x.type = 6 ∧ x.what = 0xB := by
  simp only [needStatus, hb, Bool.false_or, ne_eq, not_true_eq_false, if_false]
  split
  · next hq =>
    obtain ⟨x, hx, hget⟩ := List.any_eq_true.mp hq
    rw [sl_modSess_self _ _ hk]
    exact ⟨x, hx, by simpa [CtFrame.isGet] using hget⟩
  · exact exists_send hk (show (getFrame 0xB).what = 0xB by decide)

/-- The feed of a swap reported on (22 R538, Table 10-5): READY of the new source. -/
def feedReady (f : FieldDie) (k : Nat) : FieldDie := (f.modSess k fun s => { s with swapStage := 3 }).sendCtl k 3

theorem swapStage_feedReady (f : FieldDie) (hk : k < 96) : ((f.feedReady k).sl k).sess.swapStage = 3 := by
  rw [feedReady, sendCtl, sl_send_self _ _ hk, sl_modSess_self _ _ hk]

@[simp] theorem around_feedReady (f : FieldDie) : (f.feedReady k).around k = f.around k := by rw [feedReady, around_sendCtl, around_modSess]

/-- The counts of SESS_CNT cleared by their read (R280). -/
def countsRead (s : Sess) : Sess := { s with soft := 0, hard := 0, respExp := 0, retries := 0 }

theorem cntWord_countsRead (s : Sess) : (countsRead s).cntWord = 0 :=
  show pack [(24, 0), (16, 0), (8, 0), (0, 0)] = 0 by decide

theorem qcClear_sessCnt (f : FieldDie) (k : Nat) : f.qcClear (slotQuad k) (0x30 + k % 24) = f.modSess k countsRead := by
  have hk : 24 * slotQuad k + (0x30 + k % 24 - 0x30) = k := by
    unfold slotQuad
    omega
  rw [qcClear, if_pos (by omega), hk]
  rfl

end FieldDie

namespace Machine

section SessionTimers

variable {s t : State} {k : Fin 96}

/-- A frame whose ACK has not come is sent again (R261). -/
theorem ackExpiry_leaves {fr : CtFrame} (h6 : fr.sends < 6) (h3 : fr.sends ≠ 3) (hf : t.chip.field = s.chip.field.sendFailed k fr) :
    (t.chip.field.sl k).port.awaiting = none ∧ (t.chip.field.sl k).sess.t.ack = false ∧ fr ∈ (t.chip.field.sl k).port.queue ∧
    otherSlots s t k := by
  refine ⟨?_, ?_, ?_, otherSlots_of_around (by rw [hf, FieldDie.around_sendFailed_repeat h6 h3])⟩
  all_goals rw [hf, FieldDie.sl_sendFailed_repeat k.isLt h6 h3]
  · rfl
  · exact Port.mem_queue_queueFirst _ _

/-- The first response expiry of a session is counted and begins a soft reset (R259, R263). -/
theorem responseExpiry_leaves (hh : (s.chip.field.sl k).sess.hardTried = false) (hs : (s.chip.field.sl k).sess.softTried = false)
    (hf : t.chip.field = (s.chip.field.modSess k FieldDie.expiryCounted).exchangeLost k none) :
    (t.chip.field.sl k).sess.respExp = satN 8 ((s.chip.field.sl k).sess.respExp + 1) ∧ (t.chip.field.sl k).sess.state = 6 ∧
    queued t k 4 (fun _ => True) := by
  have hcount := FieldDie.sl_modSess_self s.chip.field FieldDie.expiryCounted k.isLt
  obtain ⟨g, hg, hn⟩ := FieldDie.exchangeLost_first (lost := none) k.isLt (by rw [hcount]; exact hh) (by rw [hcount]; exact hs) (by simp)
  unfold queued
  rw [hf, hg]
  refine ⟨?_, FieldDie.state_softStart _ _ k.isLt, FieldDie.exists_softStart _ _ k.isLt⟩
  rw [FieldDie.sess_softStart _ _ k.isLt]
  exact hn.trans (by rw [hcount]; rfl)

/-- A swap timer that runs out asks for a hard reset (R273). -/
theorem swapExpiry_leaves (hl : (s.chip.field.sl k).port.line < 2) (hf : t.chip.field = s.chip.field.swapExpired k) :
    (t.chip.field.sl k).port.resetWanted = true ∧ (t.chip.field.sl k).sess.swapCmd = none ∧ (t.chip.field.sl k).sess.t.swap = false ∧
    (t.chip.field.sl k).sess.respExp = satN 8 ((s.chip.field.sl k).sess.respExp + 1) := by
  rw [hf]
  exact FieldDie.sl_swapExpired _ k.isLt hl

/-- A hard reset after which no module shows is a removal (R267). -/
theorem hardDoneExpiry_leaves (hf : t.chip.field = (s.chip.field.abandon k).removed k) :
    (t.chip.field.sl k).sess.state = 0 ∧ (t.chip.field.sl k).port.present = false ∧ (t.chip.field.sl k).ins.state = 0 ∧
    fieldEvent s (qSrc (slotQuad k) 22) 3 k ∈ t.chip.field.fcol.arisen := by
  obtain ⟨hstate, hpresent, hins⟩ := FieldDie.sl_removed (s.chip.field.abandon k) k.isLt
  have hm := FieldDie.mem_arisen_removed (s.chip.field.abandon k) k
  rw [FieldDie.stamped_of_tick (FieldDie.tick_of_around (FieldDie.around_abandon s.chip.field))] at hm
  rw [hf]
  exact ⟨hstate, hpresent, hins, hm⟩

theorem getRepeat_leaves (hf : t.chip.field = s.chip.field.getRepeated k) :
    queued t k 6 (fun fr => fr.what = 8) ∧ (t.chip.field.sl k).sess.t.hardDone = true := by
  unfold queued
  rw [hf]
  exact ⟨FieldDie.exists_sendGet k.isLt (by decide), FieldDie.hardDone_getRepeated _ k.isLt⟩

theorem statusNeed_leaves {cmd : Option Request} (hb : FieldDie.statusBusy (s.chip.field.sl k) = false)
    (hf : t.chip.field = s.chip.field.needStatus k cmd) : queued t k 6 (fun fr => fr.what = 0xB) := by
  unfold queued
  rw [hf]
  exact FieldDie.exists_needStatus cmd k.isLt hb

theorem feedReady_leaves (hf : t.chip.field = s.chip.field.feedReady k) :
    (t.chip.field.sl k).sess.swapStage = 3 ∧ queued t k 3 (fun _ => True) := by
  unfold queued
  rw [hf]
  exact ⟨FieldDie.swapStage_feedReady _ k.isLt, FieldDie.exists_send k.isLt trivial⟩

theorem exec_sessCntRead_present (h : k.val < s.chip.variant.slots) : exec (.sessCntRead k) s = .next { s with chip := { s.chip with
    field := s.chip.field.modSess k FieldDie.countsRead, readData := [(s.chip.field.sl k).sess.cntWord] } } := by
  change Host.Outcome.next (s.readRc (k.val < s.chip.variant.slots) _ _) = _
  rw [decide_eq_true h, State.readRc_present, FieldDie.qcClear_sessCnt]

theorem exec_sessCntRead_absent (h : s.chip.variant.slots ≤ k.val) :
    exec (.sessCntRead k) s = .next { s with chip := { s.chip with readData := [0] } } := by
  change Host.Outcome.next (s.readRc (k.val < s.chip.variant.slots) _ _) = _
  rw [decide_eq_false (Nat.not_lt.mpr h), State.readRc_absent]

end SessionTimers

/-- Settles O26: each expiry where its timer runs, by what it begins, and where it does not. -/
theorem sessionTimersExpire : Obligations.SessionTimersExpire := by
  refine ⟨?ack, ?response, ?swap, ?hardDone, ?getRepeat, ?poll, ?retry, ?feed, ?counts⟩
  case ack =>
    intro k s
    refine ⟨_, rfl, fieldOnly_onSlot _ _ _, State.onSlot_absent, fun h => State.onSlot_eq_self ?_, fun fr hk ha hack h6 h3 => ?_⟩
    · rcases h with h | h
      · simp only [h]
      · simp only [h, Bool.false_eq_true, if_false]
        split <;> rfl
    · exact ackExpiry_leaves h6 h3 (State.field_onSlot hk (by simp only [ha, hack, if_true]))
  case response =>
    intro k s
    refine ⟨_, rfl, fieldOnly_onSlot _ _ _, State.onSlot_absent, fun h => State.onSlot_eq_self (by simp [h]),
      fun hk hr ho hs hh => responseExpiry_leaves hh hs (State.field_onSlot hk ?_)⟩
    rw [if_pos hr, ho]
    rfl
  case swap =>
    intro k s
    refine ⟨_, rfl, fieldOnly_onSlot _ _ _, State.onSlot_absent, fun h => State.onSlot_eq_self (by simp [h]),
      fun hk hw hl => swapExpiry_leaves hl (State.field_onSlot hk (if_pos hw))⟩
  case hardDone =>
    intro k s
    refine ⟨_, rfl, fieldOnly_onSlot _ _ _, State.onSlot_absent, fun h => State.onSlot_eq_self (by simp [h]),
      fun hk hd hp hl => hardDoneExpiry_leaves (State.field_onSlot hk (by simp [hd, hp, hl]))⟩
  case getRepeat =>
    intro k s
    refine ⟨_, rfl, fieldOnly_onSlot _ _ _, State.onSlot_absent, otherSlots_onSlot (FieldDie.around_ite (FieldDie.around_getRepeated _)),
      fun hk hd hp h7 => getRepeat_leaves (State.field_onSlot hk (if_pos ⟨hd, hp, h7⟩)), fun h => State.onSlot_eq_self (if_neg ?_)⟩
    rintro ⟨hd, hp, h7⟩
    simp [hd, hp, h7] at h
  case poll =>
    intro k s
    refine ⟨_, rfl, fieldOnly_onSlot _ _ _, State.onSlot_absent, otherSlots_onSlot (FieldDie.around_ite (FieldDie.around_needStatus _ _ _)),
      fun hk hp h5 hl hb => statusNeed_leaves hb (State.field_onSlot hk (if_pos ⟨hp, h5, hl⟩)), fun h => State.onSlot_eq_self (if_neg ?_)⟩
    rintro ⟨hp, h5, hl⟩
    simp [hp, h5, hl] at h
  case retry =>
    intro k s
    refine ⟨_, rfl, fieldOnly_onSlot _ _ _, State.onSlot_absent, otherSlots_onSlot (FieldDie.around_modSess _ _), fun hk => ?_⟩
    rw [State.onSlot_present hk, State.onField_field, FieldDie.sl_modSess_self _ _ k.isLt]
  case feed =>
    intro k s
    refine ⟨_, rfl, fieldOnly_onSlot _ _ _, State.onSlot_absent, otherSlots_onSlot ?_, fun h => State.onSlot_eq_self ?_,
      fun n hk hn h2 hland hdue => feedReady_leaves (s := s) (State.field_onSlot hk (by simp [hn, h2, hland, hdue, FieldDie.feedReady]))⟩
    · dsimp only
      split
      · exact FieldDie.around_ite (FieldDie.around_feedReady _)
      · rfl
    · rcases h with h | h
      · simp only [h]
      · simp only [h, false_and, if_false]
        split <;> rfl
  case counts =>
    intro k s
    by_cases hk : k.val < s.chip.variant.slots
    · refine ⟨_, exec_sessCntRead_present hk, rfl, fun hn => absurd hk (Nat.not_lt.mpr hn), fun _ => ⟨rfl, ?_, ?_,
        otherSlots_of_around (FieldDie.around_modSess _ _)⟩⟩
      · rw [FieldDie.sl_modSess_self _ _ k.isLt, FieldDie.cntWord_countsRead]
      · rw [FieldDie.sl_modSess_self _ _ k.isLt]
        rfl
    · exact ⟨_, exec_sessCntRead_absent (Nat.not_lt.mp hk), rfl, fun _ => ⟨rfl, rfl⟩, fun h => absurd h hk⟩

end Machine
end Sys2Proof

/-! The commands of group 0x40 (10 R256, R262 to R271, R282): how each goes by the state of its slot, and what it leaves there. -/

namespace Sys2Proof

theorem need_eq_none {b : Bool} : need b = none ↔ b = true := by simp [need]

/-- A command that passes its checks has its parameters in their ranges. -/
theorem chk_of_admitF {v : Variant} {f : FieldDie} {c : FCmd} {r : Request} (h : admitF v f c r = none) : c.chk v f r = none := by
  unfold admitF at h
  split at h
  · exact absurd h (Option.some_ne_none _)
  · split at h
    · exact absurd h (Option.some_ne_none _)
    · exact h

theorem getFrame_what {w : Nat} (cmd : Option Request) (h : w < 16) : (getFrame w cmd).what = w := by
  simp only [getFrame, CtFrame.what, bits, pack, List.getD_cons_zero, List.foldl_cons, List.foldl_nil, BitVec.toNat_ofNat,
    Nat.reducePow, Nat.reduceAdd, Nat.reduceSub, Nat.zero_add]
  omega

namespace FieldDie

variable {f : FieldDie} {k : Nat}

/-- A policy that changes sends at most a re-grant (R256). -/
theorem regrant_cases (v : Variant) (f : FieldDie) (k : Nat) : f.regrant v k = f ∨ ∃ fr, f.regrant v k = f.send k fr := by
  unfold regrant
  dsimp only
  split
  · exact .inr ⟨_, rfl⟩
  · exact .inl rfl

@[simp] theorem regrant_bar (v : Variant) (f : FieldDie) (k : Nat) : (f.regrant v k).bar = f.bar := by
  obtain h | ⟨fr, h⟩ := f.regrant_cases v k <;> rw [h]
  rfl

@[simp] theorem regrant_twin (v : Variant) (f : FieldDie) (k : Nat) : (f.regrant v k).twin = f.twin := by
  obtain h | ⟨fr, h⟩ := f.regrant_cases v k <;> rw [h]
  rfl

theorem pol_regrant (v : Variant) (f : FieldDie) (hk : k < 96) : ((f.regrant v k).sl k).pol = (f.sl k).pol := by
  obtain h | ⟨fr, h⟩ := f.regrant_cases v k <;> rw [h]
  rw [sl_send_self _ _ hk]

/-- A command that waits for a hard reset, which is signalled (R264). -/
def hardAsked (f : FieldDie) (k : Nat) (r : Request) : FieldDie :=
  (f.modSess k fun s => { s with hardCmds := s.hardCmds ++ [r] }).hardSignal k

theorem resetWanted_hardAsked (f : FieldDie) (r : Request) (hk : k < 96) : ((f.hardAsked k r).sl k).port.resetWanted = true := by
  rw [hardAsked, sl_hardSignal _ hk]

/-- A slot taken out of DISABLED by command (Table 10-8). -/
def enabled (f : FieldDie) (k : Nat) : FieldDie := (f.modSess k fun s => { s with hrFail := 0 }).toEmpty k

theorem sess_enabled (f : FieldDie) (hk : k < 96) : ((f.enabled k).sl k).sess.state = 0 ∧ ((f.enabled k).sl k).sess.hrFail = 0 := by
  rw [enabled, toEmpty, sl_modSl_self _ _ _ hk, sl_modSess_self _ _ hk]
  exact ⟨rfl, rfl⟩

end FieldDie

namespace Machine

section SlotCommands

variable {c : FCmd} {r : Request} {s : State} {g : FieldDie} {st : Status} {x : Nat}

/-- A field-executed command whose meaning leaves its completion to come. -/
theorem State.field_pends (h : fieldTakes c r s) (hop : c.op s.chip.variant s.chip.field (arriving c r s) = (g, none)) :
    (s.field c r).chip.field = g ∧ (s.field c r).chip.host.hif.outstanding = s.chip.host.hif.outstanding ++ [(r.queue.val, r.tag, 0)] := by
  rw [State.field_takes h]
  exact ⟨by simp only [hop], rfl⟩

theorem State.field_waits (h : fieldTakes c r s) (hop : c.op s.chip.variant s.chip.field (arriving c r s) = (g, none))
    (hb : g.bar = s.chip.field.bar) : fieldWaits s (s.field c r) r := by
  obtain ⟨hfield, hout⟩ := State.field_pends h hop
  exact ⟨by rw [hfield, hb], hout⟩

/-- A field-executed command that a meaning refuses, or that has nothing to do, leaves the slots. -/
theorem State.field_keepsSlots (h : fieldTakes c r s)
    (hop : c.op s.chip.variant s.chip.field (arriving c r s) = (s.chip.field, some (st, x))) :
    (s.field c r).chip.field.slot = s.chip.field.slot ∧ fieldAnswers s (s.field c r) r st x := by
  obtain ⟨hreads, hans⟩ := State.field_reads h hop
  have hslot := congrArg FieldDie.slot hreads
  exact ⟨hslot, hans⟩

/-- A command that queues a frame and waits for the end of its exchange. -/
theorem State.field_sends {fr : CtFrame} {p : CtFrame → Prop} (hc : c.unit = .slot) (h : fieldTakes c r s)
    (hop : c.op s.chip.variant s.chip.field (arriving c r s) = (s.chip.field.send r.unit fr, none))
    (hp : p { fr with epoch := (s.chip.field.sl r.unit).sess.epoch }) : fieldWaits s (s.field c r) r ∧ queued (s.field c r) r.unit fr.type p := by
  refine ⟨State.field_waits h hop rfl, ?_⟩
  unfold queued
  rw [(State.field_pends h hop).1]
  exact FieldDie.exists_send (unit_lt_of_fieldTakes hc h) hp

/-- A command that waits for a hard reset of its slot. -/
theorem State.field_asksHard {q : Request} (hc : c.unit = .slot) (h : fieldTakes c r s)
    (hop : c.op s.chip.variant s.chip.field (arriving c r s) = (s.chip.field.hardAsked r.unit q, none)) :
    fieldWaits s (s.field c r) r ∧ ((s.field c r).chip.field.sl r.unit).port.resetWanted = true := by
  refine ⟨State.field_waits h hop rfl, ?_⟩
  rw [(State.field_pends h hop).1]
  exact FieldDie.resetWanted_hardAsked _ _ (unit_lt_of_fieldTakes hc h)

/-- A command that begins a soft reset of its slot. -/
theorem State.field_startsSoft {q : Request} (hc : c.unit = .slot) (h : fieldTakes c r s)
    (hop : c.op s.chip.variant s.chip.field (arriving c r s) = (s.chip.field.softStart r.unit (some q), none)) :
    ((s.field c r).chip.field.sl r.unit).sess.state = 6 ∧ queued (s.field c r) r.unit 4 (fun _ => True) := by
  unfold queued
  rw [(State.field_pends h hop).1]
  exact ⟨FieldDie.state_softStart _ _ (unit_lt_of_fieldTakes hc h), FieldDie.exists_softStart _ _ (unit_lt_of_fieldTakes hc h)⟩

theorem field_setSlotPolicy (h : fieldTakes setSlotPolicyC r s) : fieldAnswers s (s.field setSlotPolicyC r) r .ok 0 ∧
    ((s.field setSlotPolicyC r).chip.field.sl r.unit).pol =
      { roles := r.u32 0, imaxCeil := r.u32 4, ichgCeil := r.u32 8, auxMax := r.u32 12, rank := r.u32 16 } := by
  have hk := unit_lt_of_fieldTakes rfl h
  rw [State.field_completes h rfl]
  refine ⟨fieldAnswers_fieldDone h (FieldDie.regrant_bar _ _ _) (FieldDie.regrant_twin _ _ _), ?_⟩
  rw [fieldDone_sl]
  exact (FieldDie.pol_regrant _ _ hk).trans (congrArg Slot.pol (FieldDie.sl_modSl_self s.chip.field r.unit _ hk))

theorem field_resetSlot_stale (h : fieldTakes resetSlotC r s) (he : staleCep s.chip.field r = true) :
    (s.field resetSlotC r).chip.field.slot = s.chip.field.slot ∧ fieldAnswers s (s.field resetSlotC r) r .staleRole 0 :=
  State.field_keepsSlots h (if_pos he)

section Reset

variable (h : fieldTakes resetSlotC r s) (he : staleCep s.chip.field r = false)

include h he

theorem field_resetSlot_noModule (hn : (s.chip.field.sl r.unit).sess.state = 0 ∨ (s.chip.field.sl r.unit).sess.state = 9) :
    (s.field resetSlotC r).chip.field.slot = s.chip.field.slot ∧ fieldAnswers s (s.field resetSlotC r) r .wrongMode 0 :=
  State.field_keepsSlots h ((if_neg (Bool.eq_false_iff.mp he)).trans (if_pos hn))

variable (hn : ¬ ((s.chip.field.sl r.unit).sess.state = 0 ∨ (s.chip.field.sl r.unit).sess.state = 9))

include hn

theorem field_resetSlot_hard (h1 : r.u32 4 = 1) :
    fieldWaits s (s.field resetSlotC r) r ∧ ((s.field resetSlotC r).chip.field.sl r.unit).port.resetWanted = true :=
  State.field_asksHard rfl h ((if_neg (Bool.eq_false_iff.mp he)).trans ((if_neg hn).trans (if_pos h1)))

/-- A soft reset by command behind an exchange (R250): its SOFT_RESET waits in the queue. -/
theorem field_resetSlot_behind (h0 : r.u32 4 = 0) (hb : s.chip.field.slotBusy r.unit = true) :
    fieldWaits s (s.field resetSlotC r) r ∧ queued (s.field resetSlotC r) r.unit 4 (fun _ => True) :=
  State.field_sends rfl h ((if_neg (Bool.eq_false_iff.mp he)).trans ((if_neg hn).trans
    ((if_neg fun h1 => Nat.zero_ne_one (h0.symm.trans h1)).trans (if_pos hb)))) trivial

theorem field_resetSlot_soft (h0 : r.u32 4 = 0) (hb : s.chip.field.slotBusy r.unit = false) :
    ((s.field resetSlotC r).chip.field.sl r.unit).sess.state = 6 ∧ queued (s.field resetSlotC r) r.unit 4 (fun _ => True) :=
  State.field_startsSoft rfl h ((if_neg (Bool.eq_false_iff.mp he)).trans ((if_neg hn).trans
    ((if_neg fun h1 => Nat.zero_ne_one (h0.symm.trans h1)).trans (if_neg (Bool.eq_false_iff.mp hb)))))

end Reset

section Swap

variable (h : fieldTakes swapAuxC r s)

include h

theorem field_swapAux_stale (he : staleCep s.chip.field r = true) : fieldAnswers s (s.field swapAuxC r) r .staleRole 0 :=
  (State.field_reads h (if_pos he)).2

variable (he : staleCep s.chip.field r = false)

include he

theorem field_swapAux_notContracted (h5 : (s.chip.field.sl r.unit).sess.state ≠ 5) : fieldAnswers s (s.field swapAuxC r) r .wrongMode 0 :=
  (State.field_reads h ((if_neg (Bool.eq_false_iff.mp he)).trans (if_pos h5))).2

variable (h5 : (s.chip.field.sl r.unit).sess.state = 5)

include h5

theorem field_swapAux_noSource (ha : (s.chip.field.sl r.unit).sess.auxSrc = false) : fieldAnswers s (s.field swapAuxC r) r .badParam 0 :=
  (State.field_reads h ((if_neg (Bool.eq_false_iff.mp he)).trans ((if_neg (not_not_intro h5)).trans
    (if_pos (Bool.eq_false_iff.mp ha))))).2

theorem field_swapAux_asks (ha : (s.chip.field.sl r.unit).sess.auxSrc = true) : fieldWaits s (s.field swapAuxC r) r ∧
    queued (s.field swapAuxC r) r.unit 0xE (fun fr => fr.terms = [pack [(30, r.u32 4), (16, r.u32 8)]]) :=
  State.field_sends rfl h ((if_neg (Bool.eq_false_iff.mp he)).trans ((if_neg (not_not_intro h5)).trans (if_neg (not_not_intro ha)))) rfl

end Swap

section Enable

variable (h : fieldTakes enableSlotC r s)

include h

/-- ENABLE_SLOT opens a DISABLED slot and has nothing to do on any other (Table 10-8). -/
theorem field_enableSlot_on (h1 : r.u32 0 = 1) : fieldAnswers s (s.field enableSlotC r) r .ok 0 ∧
    ((s.chip.field.sl r.unit).sess.state = 9 → ((s.field enableSlotC r).chip.field.sl r.unit).sess.state = 0 ∧
      ((s.field enableSlotC r).chip.field.sl r.unit).sess.hrFail = 0) := by
  by_cases h9 : (s.chip.field.sl r.unit).sess.state = 9
  · rw [State.field_completes (g := s.chip.field.enabled r.unit) h
      ((if_pos h1).trans (congrArg (·, some (Status.ok, 0)) (if_pos (beq_iff_eq.mpr h9))))]
    refine ⟨fieldAnswers_fieldDone h rfl rfl, fun _ => ?_⟩
    rw [fieldDone_sl]
    exact FieldDie.sess_enabled _ (unit_lt_of_fieldTakes rfl h)
  · exact ⟨(State.field_reads h ((if_pos h1).trans (congrArg (·, some (Status.ok, 0)) (if_neg (mt beq_iff_eq.mp h9))))).2,
      fun h => absurd h h9⟩

variable (h0 : r.u32 0 = 0)

include h0

theorem field_enableSlot_isOff (h9 : (s.chip.field.sl r.unit).sess.state = 9) :
    (s.field enableSlotC r).chip.field.slot = s.chip.field.slot ∧ fieldAnswers s (s.field enableSlotC r) r .ok 0 :=
  State.field_keepsSlots h ((if_neg fun h1 => Nat.zero_ne_one (h0.symm.trans h1)).trans (if_pos (beq_iff_eq.mpr h9)))

theorem field_enableSlot_off (h9 : (s.chip.field.sl r.unit).sess.state ≠ 9) : fieldWaits s (s.field enableSlotC r) r ∧
    ((s.field enableSlotC r).chip.field.sl r.unit).port.resetWanted = true :=
  State.field_asksHard rfl h ((if_neg fun h1 => Nat.zero_ne_one (h0.symm.trans h1)).trans (if_neg (mt beq_iff_eq.mp h9)))

end Enable

section ModuleData

/-- GET_MODULE_DATA of the data held, and of data that no frame has brought (Table 10-8). -/
theorem getModuleDataC_held {v : Variant} {f : FieldDie} (h0 : r.u32 8 = 0) (hd : (f.sl r.unit).sess.data (r.u32 0) (r.u32 4) = some x) :
    getModuleDataC.op v f r = (f, some (.ok, x)) := by
  simp only [getModuleDataC, h0, hd, if_true]

theorem getModuleDataC_notHeld {v : Variant} {f : FieldDie} (h0 : r.u32 8 = 0) (hd : (f.sl r.unit).sess.data (r.u32 0) (r.u32 4) = none) :
    getModuleDataC.op v f r = (f, some (.notConfigured, 0)) := by
  simp only [getModuleDataC, h0, hd, if_true]

variable (h : fieldTakes getModuleDataC r s)

include h

/-- GET_MODULE_DATA names a frame type that is held (Table 10-8). -/
theorem getModuleData_what : r.u32 0 = 8 ∨ r.u32 0 = 0xB ∨ r.u32 0 = 0xD := by
  obtain ⟨_, _, _, _, _, _, hadm, _⟩ := h
  have hchk : need ([8, 0xB, 0xD].contains (r.u32 0) && r.u32 4 ≤ 2 && r.u32 8 ≤ 1) = none := chk_of_admitF hadm
  rw [need_eq_none, Bool.and_eq_true, Bool.and_eq_true] at hchk
  obtain ⟨⟨hwhat, -⟩, -⟩ := hchk
  simpa using hwhat

theorem field_getModuleData_held (h0 : r.u32 8 = 0) (hd : (s.chip.field.sl r.unit).sess.data (r.u32 0) (r.u32 4) = some x) :
    fieldAnswers s (s.field getModuleDataC r) r .ok x := (State.field_reads h (getModuleDataC_held h0 hd)).2

theorem field_getModuleData_notHeld (h0 : r.u32 8 = 0) (hd : (s.chip.field.sl r.unit).sess.data (r.u32 0) (r.u32 4) = none) :
    fieldAnswers s (s.field getModuleDataC r) r .notConfigured 0 := (State.field_reads h (getModuleDataC_notHeld h0 hd)).2

section Fresh

variable (h1 : r.u32 8 = 1)

include h1

theorem field_getModuleData_noModule (hn : (s.chip.field.sl r.unit).sess.state = 0 ∨ (s.chip.field.sl r.unit).sess.state = 9) :
    fieldAnswers s (s.field getModuleDataC r) r .wrongMode 0 :=
  (State.field_reads h ((if_neg fun h0 => Nat.zero_ne_one (h0.symm.trans h1)).trans (if_pos hn))).2

variable (hn : ¬ ((s.chip.field.sl r.unit).sess.state = 0 ∨ (s.chip.field.sl r.unit).sess.state = 9))

include hn

theorem field_getModuleData_notDriving (hd : s.chip.field.driving = false) : fieldAnswers s (s.field getModuleDataC r) r .notActive 0 := by
  have ⟨_, _, _, hp, _⟩ := h
  exact (State.field_reads h ((if_neg fun h0 => Nat.zero_ne_one (h0.symm.trans h1)).trans ((if_neg hn).trans
    (if_pos ⟨Bool.eq_false_iff.mp hd, Bool.eq_false_iff.mp hp⟩)))).2

theorem field_getModuleData_asks (hd : s.chip.field.driving = true) (hb : r.u32 0 ≠ 0xB) :
    fieldWaits s (s.field getModuleDataC r) r ∧ queued (s.field getModuleDataC r) r.unit 6 (fun fr => fr.what = r.u32 0) := by
  have hw : r.u32 0 < 16 := by
    have := getModuleData_what h
    omega
  exact State.field_sends (fr := getFrame (r.u32 0) (some (arriving getModuleDataC r s))) rfl h
    ((if_neg fun h0 => Nat.zero_ne_one (h0.symm.trans h1)).trans ((if_neg hn).trans ((if_neg fun hno => hno.1 hd).trans (if_neg hb))))
    (getFrame_what (some (arriving getModuleDataC r s)) hw)

end Fresh
end ModuleData
end SlotCommands

/-- Settles O27: each command by the slot's epoch and state, in the order in which its meaning asks for them. -/
theorem slotCommandsActOnTheSession : Obligations.SlotCommandsActOnTheSession := by
  refine ⟨?policy, ?reset, ?swap, ?enable, ?getSlot, ?data⟩
  case policy =>
    intro r s h
    exact ⟨_, rfl, field_setSlotPolicy h⟩
  case reset =>
    intro r s h
    refine ⟨_, rfl, field_resetSlot_stale h, field_resetSlot_noModule h, fun he h0 h9 => ?_⟩
    have hn := not_or.mpr ⟨h0, h9⟩
    exact ⟨fun h1 _ => field_resetSlot_hard h he hn h1, field_resetSlot_behind h he hn, field_resetSlot_soft h he hn⟩
  case swap =>
    intro r s h
    exact ⟨_, rfl, field_swapAux_stale h, field_swapAux_notContracted h,
      fun he h5 => ⟨field_swapAux_noSource h he h5, field_swapAux_asks h he h5⟩⟩
  case enable =>
    intro r s h
    exact ⟨_, rfl, field_enableSlot_on h, field_enableSlot_isOff h, fun h0 h9 _ => field_enableSlot_off h h0 h9⟩
  case getSlot =>
    intro r s h
    rw [← result2_eq]
    exact ⟨_, rfl, State.field_reads h rfl⟩
  case data =>
    intro r s h
    refine ⟨_, rfl, fun h0 => ⟨fun x => field_getModuleData_held h h0, field_getModuleData_notHeld h h0⟩, field_getModuleData_noModule h,
      fun h1 h0 h9 => ?_⟩
    have hn := not_or.mpr ⟨h0, h9⟩
    exact ⟨field_getModuleData_notDriving h h1 hn, field_getModuleData_asks h h1 hn⟩

end Machine
end Sys2Proof

/-! Every step keeps the memories of region H in canonical form, touches neither the queue nor the variant, and goes on. First what each operation
of region H leaves of its two memories, in the order in which the model defines them; then one lemma per shape of a command's meaning, and the
commands from these. -/

namespace Sys2Proof

/-- The two memories of region H in canonical form (18 R458, 20 Table 20-3). -/
structure HostDie.Canon (h : HostDie) : Prop where
  mem : memWf h.hif.mem = true
  area : memWf h.area = true

namespace HostDie.Canon

variable {h g : HostDie} {p : Prop} [Decidable p]

theorem ite (hg : g.Canon) (hh : h.Canon) : (if p then g else h).Canon := by
  split
  · exact hg
  · exact hh

theorem foldl {α : Type} {op : HostDie → α → HostDie} (l : List α) (hop : ∀ h x, h.Canon → (op h x).Canon) (hc : h.Canon) : (l.foldl op h).Canon :=
  List.foldlRecOn l op hc fun g hg x _ => hop g x hg

/-! Events, vectors, completions and the rings. -/

theorem raise (hc : h.Canon) (src code n : Nat) : (h.raise src code n).Canon := ⟨hc.mem, hc.area⟩

theorem vector (hc : h.Canon) (n : Nat) : (h.vector n).Canon := by
  unfold HostDie.vector
  exact ite ⟨hc.mem, hc.area⟩ hc

theorem post (hc : h.Canon) (c : Completion) : (h.post c).Canon := ⟨hc.mem, hc.area⟩

theorem complete (hc : h.Canon) (r : Request) (st : Status) (n : Nat) : (h.complete r st n).Canon := by
  unfold HostDie.complete
  exact ite hc (hc.post _)

theorem accept (hc : h.Canon) (r : Request) : (h.accept r).Canon := ⟨hc.mem, hc.area⟩

theorem await (hc : h.Canon) (r : Request) (n : Nat) : (h.await r n).Canon := ⟨hc.mem, hc.area⟩

theorem authFailed (hc : h.Canon) (r : Request) : (h.authFailed r).Canon := by
  unfold HostDie.authFailed
  refine vector (raise (complete ?_ _ _ _) _ _ _) _
  exact ⟨hc.mem, hc.area⟩

theorem modBlk (hc : h.Canon) (b : Nat) (f : Blk → Blk) : (h.modBlk b f).Canon := ⟨hc.mem, hc.area⟩

theorem bufWrite (hc : h.Canon) (a : Nat) (bs : List Byte) : (h.bufWrite a bs).Canon := ⟨memWf_memWriteAll bs _ a hc.mem, hc.area⟩

theorem ringEntry (hc : h.Canon) (e : Entry) : (h.ringEntry e).Canon :=
  ite hc (ite ⟨hc.mem, hc.area⟩ ⟨memWf_memWriteAll _ _ _ hc.mem, hc.area⟩)

theorem ruleVectors (hc : h.Canon) (cls rung : Nat) : (h.ruleVectors cls rung).Canon := by
  have hcls : (if cls ≠ 0 then h.vector 32 else h).Canon := ite (hc.vector _) hc
  exact ite (hcls.vector _) hcls

theorem modQ (hc : h.Canon) (i : Nat) (f : QPair → QPair) : (h.modQ i f).Canon := ⟨hc.mem, hc.area⟩

theorem queueError (hc : h.Canon) (i code : Nat) : (h.queueError i code).Canon := (hc.modQ i _).vector i

theorem allSources (hc : h.Canon) (code : Nat) (r : Request) : (h.allSources code r).1.Canon := by
  unfold HostDie.allSources
  split
  · exact ⟨hc.mem, hc.area⟩
  · split
    · exact ⟨hc.mem, hc.area⟩
    · exact hc

theorem forwardShare (hc : h.Canon) (r : Request) : (h.forwardShare r).1.Canon := by
  unfold HostDie.forwardShare
  split
  · exact hc
  · exact hc.allSources _ r

/-! Two-wire buses: a write into the message area is the only one of its kind. -/

theorem twOut (hc : h.Canon) (b : Nat) (o : TwOut) : (h.twOut b o).Canon := by
  cases o with
  | event c => exact hc.raise 11 c b
  | done r st res data => exact (ite hc (hc.bufWrite _ _)).complete r st res
  | polled => exact hc

theorem onBus (hc : h.Canon) (b : Nat) (f : TwBus → TwBus × List TwOut) : (h.onBus b f).Canon :=
  foldl _ (fun _ o hg => hg.twOut b o) ⟨hc.mem, hc.area⟩

theorem protoErr (hc : h.Canon) (b : Nat) (pecBad : Bool) : (h.protoErr b pecBad).Canon := hc.onBus b _

theorem areaWrite (hc : h.Canon) (l : List (Byte × Nat)) (at_ : Byte × Nat → Nat) :
    HostDie.Canon { h with area := l.foldl (fun m d => memWrite m (at_ d) d.1) h.area } :=
  ⟨hc.mem, List.foldlRecOn (motive := fun m => memWf m = true) l _ hc.area fun m hm _ _ => memWf_memWrite m _ _ hm⟩

theorem targetWrite (hc : h.Canon) (b : Nat) (bytes : List Byte) : (h.targetWrite b bytes).Canon := by
  unfold HostDie.targetWrite
  refine ite hc ?_
  split
  · exact hc.protoErr b true
  · refine ite (hc.onBus b _) (onBus (ite (vector ?_ 53) ?_) b _)
    all_goals exact ite (hc.areaWrite _ _) hc

/-! The window, its registers and the target's reads. -/

theorem signal (hc : h.Canon) (i : Nat) : (h.signal i).Canon := by
  unfold HostDie.signal
  split
  · exact hc
  · split
    all_goals exact ite ⟨hc.mem, hc.area⟩ hc

theorem signalLifted (hc : h.Canon) (old : BitVec 64) : (h.signalLifted old).Canon :=
  foldl _ (fun _ i hg => ite (hg.signal i) hg) hc

theorem latch (hc : h.Canon) (off reader : Nat) : (h.latch off reader).Canon := by
  unfold HostDie.latch
  split
  · exact ⟨hc.mem, hc.area⟩
  · exact ⟨hc.mem, hc.area⟩
  · exact hc

theorem readClear (hc : h.Canon) (off : Nat) : (h.readClear off).Canon := by
  unfold HostDie.readClear
  split
  · exact ⟨hc.mem, hc.area⟩
  · exact ⟨hc.mem, hc.area⟩
  · exact hc

theorem regRead (hc : h.Canon) (v : Variant) (off : Nat) : (h.regRead v off).2.Canon := (hc.latch off 0).readClear off

theorem sqTail (hc : h.Canon) (i : Nat) (w : Word) : (h.sqTail i w).Canon := ite hc (ite (hc.queueError i 1) (hc.modQ i _))

theorem cqHead (hc : h.Canon) (i : Nat) (w : Word) : (h.cqHead i w).Canon := ite hc (ite (hc.queueError i 1) (hc.modQ i _))

theorem doorbell (hc : h.Canon) (off : Nat) (w : Word) : (h.doorbell off w).Canon := ite (hc.sqTail _ w) (hc.cqHead _ w)

theorem writeQcfg (hc : h.Canon) (i : Nat) (w : Word) : (h.writeQcfg i w).Canon := ite ((hc.modQ i _).vector i) (hc.modQ i _)

theorem writeCtrl (hc : h.Canon) (w : Word) : (h.writeCtrl w).Canon := ⟨hc.mem, hc.area⟩

/-- The vectors' registers as variables: a comparison of their values with the old ones would compute on 64-bit words. -/
theorem withVectors (hc : h.Canon) (en mask : BitVec 64) :
    HostDie.Canon { h with hif := { h.hif with vecEn := en, vecMask := mask } } := ⟨hc.mem, hc.area⟩

theorem withMsix (hc : h.Canon) (i : Nat) (f : MsixEntry → MsixEntry) :
    HostDie.Canon { h with hif := { h.hif with msix := h.hif.msix.modifyNat i f } } := ⟨hc.mem, hc.area⟩

theorem regWrite (hc : h.Canon) (off : Nat) (w : Word) : (h.regWrite off w).Canon := by
  unfold HostDie.regWrite
  split
  case isTrue =>
    exact ite (hc.writeQcfg _ w) (ite hc (ite (hc.modQ _ _) (ite (hc.modQ _ _) (ite (hc.modQ _ _) (ite (hc.modQ _ _) hc)))))
  case isFalse =>
    split
    case isTrue =>
      dsimp only
      split
      · exact hc
      · split
        case h_4 => exact (hc.withMsix _ _).signal _
        all_goals exact hc.withMsix _ _
    case isFalse =>
      refine ite (hc.doorbell off w) (ite (ite hc ⟨hc.mem, hc.area⟩) ?_)
      split
      case h_6 | h_7 => exact hc.withVectors _ _
      case h_10 | h_11 =>
        split
        · exact hc
        · exact (hc.withVectors _ _).signalLifted _
      all_goals exact ⟨hc.mem, hc.area⟩

theorem windowRead (hc : h.Canon) (v : Variant) (a : Nat) : (h.windowRead v a).2.Canon := by
  unfold HostDie.windowRead
  split
  · split
    · exact hc.regRead v a
    · exact hc
  · exact hc

theorem burstRead (hc : h.Canon) (v : Variant) (a n : Nat) : (HostDie.burstRead v a n h).2.Canon := by
  induction n generalizing a h with
  | zero => exact hc
  | succ n ih => exact ih (hc.windowRead v a) (a + 4)

theorem windowWrite (hc : h.Canon) (a : Nat) (w : Word) : (h.windowWrite a w).Canon :=
  ite (ite hc (ite ⟨hc.mem, hc.area⟩ (hc.regWrite a w))) ⟨memWf_memWriteAll _ _ _ hc.mem, hc.area⟩

theorem burstWrite (hc : h.Canon) (a : Nat) (ws : List Word) : (HostDie.burstWrite a ws h).Canon := by
  induction ws generalizing a h with
  | nil => exact hc
  | cons w ws ih => exact ih (hc.windowWrite a w) (a + 4)

theorem csRise (hc : h.Canon) : h.csRise.Canon := foldl _ (fun _ d hg => hg.doorbell d.1 d.2) ⟨hc.mem, hc.area⟩

theorem targetByte (hc : h.Canon) (v : Variant) (b p : Nat) : (h.targetByte v b p).2.Canon := by
  unfold HostDie.targetByte
  split
  · exact ite (onBus (hc.latch p _) b _) hc
  · split
    · exact hc
    · exact hc

theorem targetRead (hc : h.Canon) (v : Variant) (b n : Nat) : (HostDie.targetRead v b n h).2.Canon := by
  induction n generalizing h with
  | zero => exact hc
  | succ n ih => exact ih ((hc.targetByte v b _).onBus b _)

theorem writeCompletion (hc : h.Canon) (i : Nat) (ok : Bool) : (h.writeCompletion i ok).Canon := by
  unfold HostDie.writeCompletion
  dsimp only
  split
  · exact hc
  · refine ite (hc.modQ i _) (ite hc (ite ((hc.modQ i _).queueError i 3) (vector (modQ ?_ i _) i)))
    exact ⟨memWf_memWriteAll _ _ _ hc.mem, hc.area⟩

theorem bringHeld (hc : h.Canon) (queue : Fin 32) : (h.bringHeld queue).Canon := ite hc ⟨hc.mem, hc.area⟩

theorem silence (hc : h.Canon) : h.silence.Canon := ⟨hc.mem, hc.area⟩

theorem reportMode (hc : h.Canon) : h.reportMode.Canon := by
  unfold HostDie.reportMode
  refine ite hc (vector ?_ 55)
  exact ⟨hc.mem, hc.area⟩

end HostDie.Canon
end Sys2Proof

/-! What the recorder, the storage manager, a configuration, a reset, the barrier and the boot leave of the two memories. -/

namespace Sys2Proof
namespace HostDie.Canon

variable {h g : HostDie}

/-! The recorder and the storage manager. -/

theorem nandNext (hc : h.Canon) : h.nandNext.Canon := by
  unfold HostDie.nandNext
  refine ite hc ?_
  split
  · exact ⟨hc.mem, hc.area⟩
  · exact hc

theorem nandOp (hc : h.Canon) (o : NandOp) : (h.nandOp o).Canon := by
  unfold HostDie.nandOp
  refine nandNext ?_
  exact ⟨hc.mem, hc.area⟩

theorem modStor (hc : h.Canon) (f : Stor → Stor) : (h.modStor f).Canon := ⟨hc.mem, hc.area⟩

theorem modRech (hc : h.Canon) (x : Rech) : HostDie.Canon { h with rech := x } := ⟨hc.mem, hc.area⟩

theorem missRecord (hc : h.Canon) (n : Nat) : (h.missRecord n).Canon := by
  unfold HostDie.missRecord
  exact ite (hc.modRech _) (((hc.modRech _).modRech _).raise _ _ _)

theorem handAll (hc : h.Canon) : h.handAll.Canon := by
  unfold HostDie.handAll
  exact ite hc ((hc.modRech _).nandOp _)

theorem storeRecord (hc : h.Canon) (r : Record) : (h.storeRecord r).Canon := by
  unfold HostDie.storeRecord
  exact ite (hc.modRech _).handAll (hc.modRech _)

theorem recordAnswered (hc : h.Canon) (r : Record) (n : Nat) :
    HostDie.Canon (match r.req with | some q => h.complete q .ok n | none => h) := by
  split
  · exact hc.complete _ _ _
  · exact hc

theorem recordArrives (hc : h.Canon) (peek : Nat → Option Word) (r : Record) : (h.recordArrives peek r).Canon := by
  unfold HostDie.recordArrives
  have hlist := ite (p := r.type = 3) (hc.modRech { h.rech with lists := h.rech.lists.modifyNat r.list (fun _ => (r.listGen, r.ops)) }) hc
  have hmiss := ite (p := r.missed = 0) hlist (hlist.missRecord r.missed)
  exact ite ((hmiss.missRecord 1).recordAnswered _ _) ((hmiss.storeRecord _).recordAnswered _ _)

theorem startRecord (hc : h.Canon) (cause : Option Entry) (lost : Nat) : (h.startRecord cause lost).Canon := hc.recordArrives _ _

theorem completeAll (hc : h.Canon) (rs : List Request) (st : Status) : (rs.foldl (fun h q => h.complete q st) h).Canon :=
  foldl rs (fun _ q hg => hg.complete q st 0) hc

theorem flushEnds (hc : h.Canon) (st : Status) : (h.flushEnds st).Canon := (hc.modRech _).completeAll _ _

theorem logFull (hc : h.Canon) : h.logFull.Canon := by
  unfold HostDie.logFull
  exact ite (hc.modRech _) (((hc.modRech _).raise _ _ _).vector _)

theorem recordsStay (hc : h.Canon) (n : Nat) : (h.recordsStay n).Canon := (hc.modRech _).logFull.flushEnds _

theorem recordsWritten (hc : h.Canon) (n : Nat) : (h.recordsWritten n).Canon := by
  unfold HostDie.recordsWritten
  refine ite (hc.recordsStay n) ?_
  have hfull := fun x p [Decidable p] => ite (p := p) (hc.modRech x).logFull (hc.modRech x)
  exact ite ((hfull _ _).flushEnds _) (hfull _ _)

theorem tracesFull (hc : h.Canon) : h.tracesFull.Canon := by
  unfold HostDie.tracesFull
  exact ite (hc.modRech _) (((hc.modRech _).raise _ _ _).vector _)

theorem storeTrace (hc : h.Canon) : h.storeTrace.Canon := by
  unfold HostDie.storeTrace
  exact ite hc (ite hc.tracesFull (ite hc (hc.nandOp _)))

theorem traceArrives (hc : h.Canon) (bs : List Byte) : (h.traceArrives bs).Canon := (hc.modRech _).storeTrace

theorem thaw (hc : h.Canon) : h.thaw.Canon := by
  unfold HostDie.thaw
  exact ite (hc.modRech _) hc

theorem erasePart (hc : h.Canon) (part lo hi : Nat) : (h.erasePart part lo hi).Canon := ⟨hc.mem, hc.area⟩

theorem clearLog (hc : h.Canon) (l : Ledger) : (h.clearLog l).Canon := by
  unfold HostDie.clearLog
  refine modRech (foldl _ (fun _ i hg => hg.storeRecord _) ?_) _
  have hpart : ∀ {g : HostDie}, g.Canon → ∀ {a b : Bool}, HostDie.Canon
      (let k := if a then g.erasePart 6 2 4096 else g
       if b then (k.erasePart 7 0 4096).storeTrace else k) := fun hg => by
    refine ite (storeTrace (erasePart ?_ _ _ _)) ?_
    all_goals exact ite (hg.erasePart _ _ _) hg
  refine ite (storeRecord (hpart ?_) _) (modRech (storeRecord (hpart ?_) _) _)
  all_goals exact ⟨hc.mem, hc.area⟩

theorem finishClears (hc : h.Canon) : h.finishClears.Canon :=
  foldl _ (fun _ r hg => ((hg.complete r .ok 0).raise 241 1 0).vector 45) (modRech (foldl _ (fun _ l hg => hg.clearLog l) hc) _)

theorem dropClears (hc : h.Canon) : h.dropClears.Canon := (hc.modRech _).completeAll _ _

theorem checkSpare (hc : h.Canon) : h.checkSpare.Canon := by
  unfold HostDie.checkSpare
  exact ite (((hc.modStor _).raise _ _ _).vector _) (hc.modStor _)

theorem ensure (hc : h.Canon) (part logical : Nat) : (h.ensure part logical).1.Canon := by
  unfold HostDie.ensure
  split
  · exact hc
  · split
    · exact (hc.modStor fun _ => _).checkSpare
    · exact hc

theorem ensureAll (hc : h.Canon) (part : Nat) (ls : List Nat) : (h.ensureAll part ls).1.Canon :=
  List.foldlRecOn (motive := fun a : HostDie × Bool => a.1.Canon) ls _ hc fun _ ha l _ => ha.ensure part l

theorem rewriteHeader (hc : h.Canon) (f : BootHeader → BootHeader) : (h.rewriteHeader f).Canon := (hc.modStor _).nandOp _

theorem moveBlock (hc : h.Canon) (b : NandBlock) (retire : Bool) : (h.moveBlock b retire).Canon := by
  unfold HostDie.moveBlock
  refine ite hc ?_
  split
  · exact hc
  · have hspare := fun x => (hc.modStor fun _ => x).checkSpare
    exact ite ((hspare _).rewriteHeader id) (hspare _)

theorem judgeRead (hc : h.Canon) (p : Nat) (res : NandResult) : (h.judgeRead p res).1.Canon := by
  have hlost : HostDie.Canon (((h.modStor fun s => { s with ueCnt := satN 8 (s.ueCnt + 1) }).raise 244 1 p).moveBlock (h.block p) true) :=
    ((hc.modStor _).raise _ _ _).moveBlock _ _
  unfold HostDie.judgeRead
  split
  · split
    · exact hc
    · split
      · exact (hc.moveBlock _ _).raise _ _ _
      · exact hlost
  · exact hlost
  · exact hc

theorem readBlock (hc : h.Canon) (part l : Nat) (res : NandResult) : (h.readBlock part l res).1.Canon := by
  unfold HostDie.readBlock
  split
  · exact hc.judgeRead _ res
  · exact hc

theorem storeCopy (hc : h.Canon) : h.storeCopy.Canon := by
  unfold HostDie.storeCopy
  split
  · exact hc
  · exact hc.modStor _

theorem scrubNext (hc : h.Canon) : h.scrubNext.Canon := by
  unfold HostDie.scrubNext
  split
  · exact (hc.modStor _).nandOp _
  · exact ((hc.modStor _).raise _ _ _).completeAll _ _

theorem startScrub (hc : h.Canon) : h.startScrub.Canon := by
  unfold HostDie.startScrub
  exact ite hc (hc.modStor _).scrubNext

theorem scrubbed (hc : h.Canon) (p : Nat) (res : NandResult) : (h.scrubbed p res).Canon := by
  have hread := hc.judgeRead p res
  have again : ∀ {g : HostDie}, g.Canon → (g.modStor fun s => { s with rewritten := s.rewritten + 1 }).Canon := fun hg => hg.modStor _
  unfold HostDie.scrubbed
  refine ite (scrubNext (ite (again hread) hread)) (ite hread.scrubNext (ite (again hread).scrubNext (ite ?_ hread.scrubNext)))
  exact (again (hread.moveBlock _ _)).scrubNext

theorem wantLevel (hc : h.Canon) : h.wantLevel.Canon := by
  unfold HostDie.wantLevel
  split
  · exact ite hc (hc.nandOp _)
  · exact hc

theorem opEnded (hc : h.Canon) (ok : Bool) (o : NandOp) : (h.opEnded ok o).Canon := by
  cases o with
  | records n => exact ite (hc.recordsWritten n) (hc.recordsStay n)
  | ledger => exact ite hc.finishClears hc.dropClears
  | header | learned | scrub | level => exact hc
  | config cmd =>
    cases cmd with
    | none => exact ite hc.storeCopy hc
    | some r =>
      exact ite (ite (hc.storeCopy.complete _ _ _) ((hc.complete _ _ _).raise _ _ _))
        (ite (hc.storeCopy.complete _ _ _) (hc.complete _ _ _))
  | trace => exact ite (hc.modRech _) hc.tracesFull
  | staging r => exact ite (hc.complete _ _ _) ((hc.modStor _).complete _ _ _)

theorem nandDone (hc : h.Canon) (res : NandResult) : (h.nandDone res).Canon := by
  unfold HostDie.nandDone
  split
  · exact hc.nandNext
  · refine nandNext (wantLevel ?_)
    split
    · exact (hc.modStor _).scrubbed _ res
    · exact (hc.modStor _).moveBlock _ _
    · dsimp only
      split
      case h_3 => exact ((hc.modStor _).ensureAll _ _).opEnded _ _
      all_goals
        refine ite (((hc.modStor _).ensureAll _ _).opEnded _ _) (ite (modStor (ensureAll ?_ _ _) _) (opEnded (ensureAll ?_ _ _) _ _))
        all_goals exact ite ((hc.modStor _).ensureAll _ _) (((hc.modStor _).ensureAll _ _).modStor _)

theorem appendLearned (hc : h.Canon) (rs : List Learned) : (h.appendLearned rs).Canon := by
  unfold HostDie.appendLearned
  exact ite hc ((hc.modStor _).nandOp _)

theorem compact (hc : h.Canon) : h.compact.Canon := by
  unfold HostDie.compact
  exact ite hc ((hc.modStor fun _ => _).nandOp _)

end HostDie.Canon
end Sys2Proof

/-! What a reset, a message of the barrier, a configuration and the boot leave of the two memories, and what the commands of region H leave. -/

namespace Sys2Proof
namespace HostDie.Canon

variable {h g : HostDie}

theorem regionReset (hc : h.Canon) (cause scope : Nat) : (h.regionReset cause scope).Canon := ⟨hc.mem, rfl⟩

theorem powerOn (hc : h.Canon) (link : Link) (bad : List (Nat × Nat)) (twinB : Bool) : (h.powerOn link bad twinB).Canon := by
  cases link with
  | pcie => exact ⟨hc.mem, rfl⟩
  | qspi => exact ⟨rfl, rfl⟩

theorem powerFall (hc : h.Canon) : h.powerFall.Canon :=
  have hon := hc.powerOn h.power.link [] h.power.twinB
  ⟨hon.mem, hon.area⟩

theorem abortAwaited (hc : h.Canon) (answered : List (Nat × Nat)) : (h.abortAwaited answered).Canon := by
  refine foldl _ (fun _ x hg => hg.post _) ?_
  exact ⟨hc.mem, hc.area⟩

theorem recordCause (hc : h.Canon) (cause scope : Nat) (answered : List (Nat × Nat)) : (h.recordCause cause scope answered).Canon :=
  have habort := hc.abortAwaited answered
  ⟨habort.mem, habort.area⟩

/-! Blocks. -/

theorem resetBlk (hc : h.Canon) (b : Nat) : (h.resetBlk b).Canon := by
  unfold HostDie.resetBlk
  split
  case h_6 | h_7 => exact hc.onBus _ _
  all_goals exact ⟨hc.mem, hc.area⟩

theorem startOp (hc : h.Canon) (b : Nat) (waits : List Request) : (h.startOp b waits).Canon := by
  unfold HostDie.startOp
  exact ite (hc.regionReset 6 1) ((hc.modBlk b _).resetBlk b)

theorem endOp (hc : h.Canon) (b : Nat) : (h.endOp b).Canon := by
  unfold HostDie.endOp
  split
  · exact hc
  · exact (hc.modBlk b _).completeAll _ _

theorem failOp (hc : h.Canon) (b : Nat) : (h.failOp b).Canon := by
  unfold HostDie.failOp
  split
  · exact hc
  · exact ((hc.modBlk b _).completeAll _ _).raise _ _ _

/-! Timers, registers by their OP, and a configuration. -/

theorem withTimers (hc : h.Canon) (t : TimerBlk 8) : HostDie.Canon { h with htim := t } := ⟨hc.mem, hc.area⟩
theorem withBuses (hc : h.Canon) (t : Tab TwBus 2) : HostDie.Canon { h with mb := t } := ⟨hc.mem, hc.area⟩
theorem withFaults (hc : h.Canon) (c : Collector) : HostDie.Canon { h with fcm := c } := ⟨hc.mem, hc.area⟩
theorem withBarrier (hc : h.Canon) (b : HBarrier) : HostDie.Canon { h with bar := b } := ⟨hc.mem, hc.area⟩

theorem touch (hc : h.Canon) (op : Nat) : (h.touch op).Canon := by
  unfold HostDie.touch
  dsimp only
  split
  · exact ite (hc.modStor _) hc
  · exact ite (hc.modRech _) hc
  · exact ite (hc.withBuses _) hc
  · exact ite (hc.withBuses _) hc
  · exact hc.withTimers _
  · exact hc

theorem readRange (hc : h.Canon) (v : Variant) (op n : Nat) : (Sys2Proof.readRange (HostDie.peek v) HostDie.touch op n h).2.Canon := by
  induction n generalizing op h with
  | zero => exact hc
  | succ n ih => exact ih (hc.touch op) (op + 1)

theorem poke (hc : h.Canon) (v : Variant) (op : Nat) (value mask : Word) (force : Bool) : (h.poke v op value mask force).Canon := by
  unfold HostDie.poke
  dsimp only
  split
  · exact hc
  · split
    · exact ite (hc.withBuses _) hc
    · exact ite (hc.withBuses _) hc
    · exact hc.withTimers _
    · exact ite (hc.withFaults _) hc
    · exact hc

/-- What region H takes of each configuration record keeps the memories: a command of the blob's list does. -/
theorem cfgCommand (hc : h.Canon) (v : Variant) (r : Request) : (h.cfgCommand v r).1.Canon := by
  unfold HostDie.cfgCommand
  split
  · exact hc
  · next c hfind =>
    have hmem := List.mem_of_find?_eq_some hfind
    have hop : (c.op v h r).1.Canon := by
      simp only [List.mem_cons, List.not_mem_nil, or_false] at hmem
      rcases hmem with rfl | rfl | rfl | rfl | rfl
      · exact hc.withTimers _
      · exact hc.withTimers _
      · exact hc.withBuses _
      · exact hc.withFaults _
      · exact hc.modRech _
    split
    · exact hc
    · dsimp only
      split
      · exact hc
      · exact hop

theorem cfgApply (hc : h.Canon) (v : Variant) (x : CfgRec) : (h.cfgApply v x).1.Canon := by
  cases x with
  | command op u p => exact hc.cfgCommand v _
  | register op value mask => exact hc.poke v op value mask true
  | table => exact hc
  | scalar => exact ⟨hc.mem, hc.area⟩

theorem cfgApplyAll (hc : h.Canon) (v : Variant) (rs : List CfgRec) : (h.cfgApplyAll v rs).1.Canon := by
  refine List.foldlRecOn (motive := fun a : HostDie × Bool => a.1.Canon) rs _ hc fun a ha x _ => ?_
  dsimp only
  split
  · exact ha
  · exact ha.cfgApply v x

theorem cfgTakes (hc : h.Canon) (v : Variant) (twinB : Bool) (b : List Byte) : (h.cfgTakes v twinB b).Canon := by
  have hdef : (h.cfgDefaults twinB).Canon := ⟨hc.mem, hc.area⟩
  have happly := hdef.cfgApplyAll v (((blobSections b).getD []).flatMap (·.recs))
  exact ⟨happly.mem, happly.area⟩

/-! What crosses the barrier. -/

theorem dropMsg (hc : h.Canon) : h.dropMsg.Canon := by
  unfold HostDie.dropMsg
  exact ite (hc.withBarrier _) ((hc.withBarrier _).raise _ _ _)

theorem mirror (hc : h.Canon) (f : FieldDie) : (h.mirror f).Canon := by
  unfold HostDie.mirror
  exact ite ((hc.withFaults _).raise _ _ _) (hc.withFaults _)

theorem readField (hc : h.Canon) (f : FieldDie) : (h.readField f).Canon := ⟨hc.mem, hc.area⟩

theorem startLoad (hc : h.Canon) : h.startLoad.Canon := by
  refine completeAll ?_ _ _
  exact ⟨hc.mem, hc.area⟩

theorem loadWaiting (hc : h.Canon) (f : FieldDie) : (h.loadWaiting f).Canon := by
  unfold HostDie.loadWaiting
  exact ite hc.startLoad hc

theorem fieldBeat (hc : h.Canon) (f : FieldDie) : (h.fieldBeat f).Canon := by
  have hstart : HostDie.Canon (match f.power.startCause with
      | some (c, s) => h.recordCause c s (f.bar.completions.map fun (x : Completion) => (x.queue.val, x.tag))
      | none => h) := by
    split
    · exact hc.recordCause _ _ _
    · exact hc
  unfold HostDie.fieldBeat
  dsimp only
  have hthaw := ite (p := f.power.winter = true ∧ ¬ ((match f.power.startCause with
      | some (c, s) => h.recordCause c s (f.bar.completions.map fun (x : Completion) => (x.queue.val, x.tag))
      | none => h).mirror f).mode.winter = true) (hstart.mirror f).thaw (hstart.mirror f)
  refine reportMode (ite (vector ?_ 54) ?_)
  all_goals exact foldl _ (fun _ n hg => hg.vector n) (((hthaw.withBarrier _).readField f).loadWaiting f)

theorem eventRx (hc : h.Canon) (e : Entry) : (h.eventRx e).Canon := (hc.withFaults _).ringEntry e

theorem withQueues (hc : h.Canon) (out : List (Nat × Nat × Nat)) : HostDie.Canon { h with hif := { h.hif with outstanding := out } } := ⟨hc.mem, hc.area⟩

theorem completionRx (hc : h.Canon) (v : Variant) (twinB : Bool) (c : Completion) : (h.completionRx v twinB c).Canon := by
  have hbuf := ite (p := c.data.isEmpty = true) hc (hc.bufWrite c.addr c.data)
  unfold HostDie.completionRx
  dsimp only
  generalize (if c.data.isEmpty = true then h else h.bufWrite c.addr c.data) = g at hbuf ⊢
  refine ite (hbuf.post _) ?_
  split
  · exact ⟨hbuf.mem, hbuf.area⟩
  · split
    · split
      · split
        · refine post ?_ _
          exact ⟨hbuf.mem, hbuf.area⟩
        · refine ite (nandOp (cfgTakes ?_ _ _ _) _) (post (cfgTakes ?_ _ _ _) _)
          all_goals exact ⟨hbuf.mem, hbuf.area⟩
      · exact (hbuf.withQueues _).post _
    · exact (hbuf.withQueues _).post _

theorem telemetryPart (hc : h.Canon) (n i : Nat) (bs : List Byte) : (h.telemetryPart n i bs).Canon := by
  unfold HostDie.telemetryPart
  exact ite (hc.withBarrier _) (hc.withBarrier _)

theorem loseField (hc : h.Canon) : h.loseField.Canon := by
  unfold HostDie.loseField
  refine ite hc (reportMode (raise ?_ 4 1 0))
  exact ⟨hc.mem, hc.area⟩

theorem judgeOne {a : HostDie × List Entry} (hc : a.1.Canon) (e : Event) : (HostDie.judgeOne a e).1.Canon := by
  unfold HostDie.judgeOne
  dsimp only
  split
  · exact hc
  · exact ((hc.withFaults _).ringEntry _).ruleVectors _ _

theorem judgeAll (hc : h.Canon) : h.judgeAll.Canon := by
  have hjudged := List.foldlRecOn (motive := fun a : HostDie × List Entry => a.1.Canon) (sortEvents h.fcm.arisen) HostDie.judgeOne
    (b := ({ h with fcm := { h.fcm with arisen := [], lastRx := if (sortEvents h.fcm.arisen).isEmpty then h.fcm.lastRx else 0 } }, []))
    (hc.withFaults _) fun _ ha e _ => ha.judgeOne e
  unfold HostDie.judgeAll
  refine ite (hjudged.regionReset 4 1) (foldl _ (fun g e hg => ite ?_ hg) (hjudged.withFaults _))
  split
  · exact hg.startOp _ []
  · exact hg

theorem edge (hc : h.Canon) : h.edge.Canon := by
  unfold HostDie.edge
  refine ite hc (reportMode ?_)
  exact ⟨hc.mem, hc.area⟩

/-! The boot. -/

theorem pushBlob (hc : h.Canon) (r : Request) (b : List Byte) : (h.pushBlob r b).Canon := ⟨hc.mem, hc.area⟩

theorem pushLearned (hc : h.Canon) (type : Nat) : (h.pushLearned type).Canon := ⟨hc.mem, hc.area⟩

theorem pushStored (hc : h.Canon) (v : Variant) (f : FieldDie) : (HostDie.pushStored v f h).Canon := by
  unfold HostDie.pushStored
  split
  · exact hc
  · exact ite ((hc.cfgTakes _ _ _).pushBlob _ _) (hc.cfgTakes _ _ _)

theorem installStaged (hc : h.Canon) (v : Variant) : (HostDie.installStaged v h).Canon := by
  unfold HostDie.installStaged
  refine ite hc (rewriteHeader ?_ _)
  exact ite (hc.modStor _) hc

theorem judgeStored (hc : h.Canon) : h.judgeStored.Canon := by
  unfold HostDie.judgeStored
  split
  · exact hc
  · exact ite ((hc.modStor _).raise _ _ _) (ite (hc.raise _ _ _) hc)

theorem loadField (hc : h.Canon) (f : FieldDie) : (h.loadField f).Canon := by
  unfold HostDie.loadField
  exact ite ((hc.modStor _).withBarrier _) ((hc.modStor _).loadWaiting f)

theorem decideField (hc : h.Canon) (f : FieldDie) : (h.decideField f).Canon := by
  unfold HostDie.decideField
  exact ite (hc.loadWaiting f) (ite hc (ite ((hc.modStor _).vector _) (hc.loadField f)))

theorem drawNonce (hc : h.Canon) : h.drawNonce.Canon := ⟨hc.mem, hc.area⟩

theorem rejected (hc : h.Canon) (reason : Nat) : (h.rejected reason).Canon := (hc.raise _ _ _).vector _

theorem firmwareStarts (hc : h.Canon) (b : BootTry) : (h.firmwareStarts b).Canon := by
  have hstor := hc.modStor fun _ => b.stor
  unfold HostDie.firmwareStarts
  refine foldl _ (fun _ n hg => hg.rejected n) (ite (vector (raise ?_ _ _ _) _) ?_)
  all_goals
    refine raise (drawNonce (modStor ?_ _)) _ _ _
    have hhdr := ite (p := b.stor.hdr = h.stor.hdr) hstor (hstor.rewriteHeader id)
    exact ⟨hhdr.mem, hhdr.area⟩

theorem recover (hc : h.Canon) (s : Stor) : (h.recover s).Canon := (hc.modStor fun _ => { s with recovery := true }).drawNonce

theorem boot (hc : h.Canon) (v : Variant) (f : Option FieldDie) (o : BootOutcome) : (HostDie.boot v f o h).Canon := by
  unfold HostDie.boot
  refine ite (hc.recover _) (ite (hc.recover _) ?_)
  have hstart := fun b => ((hc.firmwareStarts b).finishClears.installStaged v).judgeStored
  cases f with
  | none => exact ((hstart _).pushStored v _).reportMode
  | some f => exact (((((((hstart _).readField f).startRecord _ _).pushStored v f).pushLearned 1).pushLearned 2).decideField f).reportMode

theorem loadFailed (hc : h.Canon) : h.loadFailed.Canon := by
  unfold HostDie.loadFailed
  have hend := (((hc.modStor fun s => { s with loadTries := h.stor.loadTries + 1 }).modStor fun s => { s with loading := false }).rejected 10).reportMode
  exact ite ((hc.modStor _).withBarrier _) (ite (hend.regionReset 6 1) hend)

theorem fieldStarted (hc : h.Canon) (v : Variant) (f : FieldDie) : (HostDie.fieldStarted v f h).Canon := by
  unfold HostDie.fieldStarted
  exact ite hc (((((hc.readField f).startRecord _ _).pushStored v f).pushLearned 1).pushLearned 2).reportMode

end HostDie.Canon
end Sys2Proof

/-! The commands of region H keep the memories: each by its meaning, and so every one that the mailbox finds for an opcode. -/

namespace Sys2Proof

/-- What a host-executed command does leaves the memories in canonical form. -/
def HCmd.Keeps (c : HCmd) : Prop := ∀ (v : Variant) (h : HostDie) (r : Request), h.Canon → (c.op v h r).1.Canon

namespace HostDie.Canon

variable {h : HostDie}

/-- What a command leaves of region H beside its answer. -/
theorem answer {α : Type} {a : α} (hc : h.Canon) : (h, a).1.Canon := hc

theorem iteAnswer {α : Type} {p : Prop} [Decidable p] {x y : HostDie × α} (hx : x.1.Canon) (hy : y.1.Canon) : (if p then x else y).1.Canon := by
  split
  · exact hx
  · exact hy

theorem run (hc : h.Canon) {c : HCmd} (hk : c.Keeps) (v : Variant) (r : Request) : (runH v c r h).Canon := by
  unfold runH
  split
  · exact hc.authFailed r
  · exact hc.complete r _ 0
  · dsimp only
    split
    · exact (hk v h r hc).complete r _ _
    · exact hk v h r hc

end HostDie.Canon

namespace HCmd.Keeps

/-! Faults and the recorder (groups 0x80 and 0x90). -/

theorem ackFault : cmdAckFaultH.Keeps := fun _ _ _ hc => hc.withFaults _
theorem setSource : cmdSetSourceH.Keeps := fun _ _ _ hc => hc.withFaults _
theorem getSource : cmdGetSourceH.Keeps := fun _ _ _ hc => hc
theorem clearRecovery : cmdClearRecoveryH.Keeps := fun _ _ _ hc => hc.withFaults _

theorem injectEvent : cmdInjectEventH.Keeps := fun _ h r hc => by
  unfold cmdInjectEventH
  dsimp only
  split
  · exact (((hc.withFaults _).ringEntry _).ruleVectors _ _).answer
  · exact hc

theorem recFreeze : cmdRecFreeze.Keeps := fun _ h r hc => by
  unfold cmdRecFreeze
  exact .iteAnswer hc (.answer (hc.modRech _))

theorem recThaw : cmdRecThaw.Keeps := fun _ _ _ hc => hc.thaw

theorem recFlush : cmdRecFlush.Keeps := fun _ h r hc => by
  unfold cmdRecFlush
  exact .iteAnswer hc (.answer (hc.modRech _).handAll)

theorem recClear : cmdRecClear.Keeps := fun _ h r hc => by
  unfold cmdRecClear
  exact .iteAnswer hc (.iteAnswer hc (.iteAnswer hc (.answer ((hc.modRech _).nandOp _))))

theorem recSetFlush : cmdRecSetFlush.Keeps := fun _ _ _ hc => hc.modRech _
theorem recStatus : cmdRecStatus.Keeps := fun _ _ _ hc => hc

theorem recRead : cmdRecRead.Keeps := fun _ h r hc => by
  have hread := fun i part l => HostDie.Canon.iteAnswer (p := i < h.rech.log.length) (hc.readBlock part l r.media) (hc.answer (a := true))
  unfold cmdRecRead
  exact .iteAnswer (hread _ _ _) (.answer ((hread _ _ _).bufWrite _ _))

theorem recReadTrace : cmdRecReadTrace.Keeps := fun _ h r hc => by
  unfold cmdRecReadTrace
  dsimp only
  split
  · exact .iteAnswer (.answer ((hc.readBlock _ _ _).bufWrite _ _)) (.answer (hc.readBlock _ _ _))
  · exact hc

theorem recReadLedger : cmdRecReadLedger.Keeps := fun _ h r hc => by
  unfold cmdRecReadLedger
  dsimp only
  split
  · exact .iteAnswer (.answer ((hc.readBlock _ _ _).bufWrite _ _)) (.answer (hc.readBlock _ _ _))
  · exact hc

/-! Storage and updates (group 0xA0). -/

theorem imgStage : cmdImgStage.Keeps := fun _ h r hc => by
  unfold cmdImgStage
  refine .iteAnswer hc (.answer (HostDie.Canon.nandOp ?_ _))
  refine .ite (HostDie.Canon.rewriteHeader ?_ _) ?_
  all_goals exact .ite (hc.modStor _) (.ite ((hc.modStor _).erasePart _ _ _) ((hc.modStor _).erasePart _ _ _))

theorem imgCommit : cmdImgCommit.Keeps := fun _ _ _ hc => ((hc.rewriteHeader _).raise _ _ _).vector _
theorem stageCancel : cmdStageCancel.Keeps := fun _ _ _ hc => .answer (hc.rewriteHeader _)
theorem setUpdateMode : cmdSetUpdateMode.Keeps := fun _ _ _ hc => .answer (hc.rewriteHeader _)
theorem setRollbackFloor : cmdSetRollbackFloor.Keeps := fun _ _ _ hc => .answer ((hc.modStor _).rewriteHeader _)

theorem storFormat : cmdStorFormat.Keeps := fun _ h r hc => by
  unfold cmdStorFormat
  exact .iteAnswer hc (.answer (((hc.modStor _).modRech _).nandOp _))

theorem storScrubNow : cmdStorScrubNow.Keeps := fun _ h r hc => by
  unfold cmdStorScrubNow
  exact .iteAnswer hc (.iteAnswer hc (.answer (hc.modStor _).startScrub))

theorem getUpdate : cmdGetUpdate.Keeps := fun _ _ _ hc => hc
theorem getStorage : cmdGetStorage.Keeps := fun _ _ _ hc => .answer (hc.modStor _)

theorem updateField : updateFieldC.Keeps := fun _ h r hc => by
  unfold updateFieldC
  refine .iteAnswer hc (.iteAnswer (.answer ?_) (.answer (.ite (hc.modStor _).startLoad (hc.modStor _))))
  exact ⟨hc.mem, hc.area⟩

/-! The device, its configuration and the security engine (groups 0x00, 0x10 and 0xB0). -/

theorem identify : cmdIdentify.Keeps := fun _ _ _ hc => hc
theorem echo : cmdEcho.Keeps := fun _ _ _ hc => hc
theorem setWallClock : cmdSetWallClock.Keeps := fun _ _ _ hc => ⟨hc.mem, hc.area⟩

theorem sleep : cmdSleep.Keeps := fun _ h r hc => by
  unfold cmdSleep
  refine .iteAnswer hc (.answer ?_)
  exact ⟨hc.handAll.mem, hc.handAll.area⟩

theorem cfgSave : cmdCfgSave.Keeps := fun _ h r hc => by
  unfold cmdCfgSave
  exact .iteAnswer hc (.answer (hc.nandOp _))

theorem cfgRead : cmdCfgRead.Keeps := fun _ h r hc => by
  unfold cmdCfgRead
  dsimp only
  split
  · exact hc
  · exact .iteAnswer hc (.answer (hc.bufWrite _ _))

theorem cfgInfo : cmdCfgInfo.Keeps := fun _ h r hc => by
  unfold cmdCfgInfo
  exact .iteAnswer hc (.iteAnswer hc (.iteAnswer hc hc))

theorem secSetAuthKey : cmdSecSetAuthKey.Keeps := fun _ _ _ hc => ⟨hc.mem, hc.area⟩
theorem secClearAuthKey : cmdSecClearAuthKey.Keeps := fun _ _ _ hc => ⟨hc.mem, hc.area⟩
theorem secAddFwKey : cmdSecAddFwKey.Keeps := fun _ _ _ hc => ⟨hc.mem, hc.area⟩
theorem secRevokeFwKey : cmdSecRevokeFwKey.Keeps := fun _ _ _ hc => ⟨hc.mem, hc.area⟩
theorem secGetIdentity : cmdSecGetIdentity.Keeps := fun _ _ _ hc => hc.bufWrite _ _
theorem secAttest : cmdSecAttest.Keeps := fun _ _ _ hc => hc.bufWrite _ _
theorem secGetKeys : cmdSecGetKeys.Keeps := fun _ _ _ hc => hc

theorem secRandom : cmdSecRandom.Keeps := fun _ h r hc => by
  have hdraw : HostDie.Canon { h with sec := { h.sec with draws := h.sec.draws + r.u32 0 } } := ⟨hc.mem, hc.area⟩
  unfold cmdSecRandom
  exact .iteAnswer (.answer (hdraw.bufWrite _ _)) (.answer (hdraw.raise _ _ _))

/-! Registers, blocks, timers and buses (groups 0xC0 to 0xE0). -/

theorem opRead : opReadH.Keeps := fun v h r hc => by
  unfold opReadH
  exact .iteAnswer (.answer (hc.readRange v _ _)) (.answer ((hc.readRange v _ _).bufWrite _ _))

theorem opWrite : opWriteH.Keeps := fun v _ _ hc => hc.poke v _ _ _ false

theorem reset : resetH.Keeps := fun _ h r hc => by
  unfold resetH
  refine .iteAnswer (.answer (hc.startOp _ _)) (.answer ?_)
  exact ⟨hc.mem, hc.area⟩

theorem blockOp : blockOpH.Keeps := fun _ _ _ hc => hc.startOp _ _
theorem getBlock : getBlockH.Keeps := fun _ _ _ hc => hc
theorem getDiag : getDiagH.Keeps := fun _ _ _ hc => hc
theorem timer (code : Nat) (ro : Bool) (ok : Request → Bool) (g : TimerBlk 8 → Nat → Request → TimerBlk 8 × Nat) :
    (hTimer code ro ok g).Keeps := fun _ _ _ hc => hc.withTimers _
theorem twXfer : cmdTwXferH.Keeps := fun _ _ _ hc => hc.withBuses _
theorem twSetBus : cmdTwSetBusH.Keeps := fun _ _ _ hc => hc.withBuses _
theorem twGetBus : cmdTwGetBusH.Keeps := fun _ _ _ hc => hc.withBuses _

theorem of_mem {c : HCmd} (hc : c ∈ hostCommands) : c.Keeps := by
  have hall : ∀ c ∈ hostCommands, c.Keeps := by
    refine List.forall_mem_append.mpr ⟨?_, ?_⟩
    all_goals simp only [List.forall_mem_cons, List.not_mem_nil, false_implies, implies_true, and_true]
    · exact ⟨identify, echo, sleep, setWallClock, cfgSave, cfgRead, cfgInfo, secSetAuthKey, secClearAuthKey, secAddFwKey, secRevokeFwKey,
        secGetIdentity, secAttest, secRandom, secGetKeys, recFreeze, recThaw, recFlush, recClear, recSetFlush, recStatus, recRead, recReadTrace,
        recReadLedger, imgStage, imgCommit, stageCancel, setUpdateMode⟩
    · exact ⟨updateField, setRollbackFloor, storFormat, storScrubNow, getUpdate, getStorage, reset, blockOp, getBlock, getDiag, ackFault,
        setSource, getSource, injectEvent, clearRecovery, timer _ _ _ _, timer _ _ _ _, timer _ _ _ _, timer _ _ _ _, twXfer, twSetBus, twGetBus,
        opRead, opWrite⟩
  exact hall c hc

theorem of_hostCmd {c : HCmd} {r : Request} (h : hostCmd r = some c) : c.Keeps := by
  unfold hostCmd at h
  split at h
  · exact of_mem (List.mem_of_find?_eq_some h)
  · exact absurd h.symm (Option.some_ne_none c)

end HCmd.Keeps
end Sys2Proof

/-! One step of the machine: each shape of a command's meaning, and then the commands. -/

namespace Sys2Proof
namespace Machine

/-- What every step keeps: the queue, the variant, and the canonical form of region H's memories. -/
structure Steps (s t : State) : Prop where
  pending : t.pending = s.pending
  variant : t.chip.variant = s.chip.variant
  canon : s.chip.host.Canon → t.chip.host.Canon

namespace Steps

variable {s t u : State} {p : Prop} [Decidable p] {f : HostDie → HostDie} {r : Request}

theorem refl (s : State) : Steps s s := ⟨rfl, rfl, id⟩

theorem trans (h : Steps s t) (k : Steps t u) : Steps s u :=
  ⟨k.pending.trans h.pending, k.variant.trans h.variant, fun hc => k.canon (h.canon hc)⟩

theorem ite (ht : Steps s t) (hu : Steps s u) : Steps s (if p then t else u) := by
  split
  · exact ht
  · exact hu

/-! Changes of one die, and reads. -/

theorem onField {s : State} (g : FieldDie → FieldDie) : Steps s (s.onField g) := ⟨rfl, rfl, id⟩

theorem onHost (hf : s.chip.host.Canon → (f s.chip.host).Canon) : Steps s (s.onHost f) := ⟨rfl, rfl, hf⟩

theorem onSlot (k : Nat) (g : FieldDie → FieldDie) : Steps s (s.onSlot k g) := ite (onField g) (refl s)

theorem onBranch (b : Nat) (g : FieldDie → FieldDie) : Steps s (s.onBranch b g) := ite (onField g) (refl s)

theorem read (ws : Chip → List Word) : Steps s (s.on fun c => { c with readData := ws c }) := ⟨rfl, rfl, id⟩

theorem readRc (present : Bool) (word : FieldDie → Word) (clear : FieldDie → FieldDie) : Steps s (s.readRc present word clear) :=
  ite ((read _).trans (onField clear)) (read _)

theorem hostAccess (hf : s.chip.host.Canon → (f s.chip.host).Canon) : Steps s (s.hostAccess f) := ite (onHost hf) (refl s)

theorem hostRead {g : Variant → HostDie → List Word × HostDie} (hg : s.chip.host.Canon → (g s.chip.variant s.chip.host).2.Canon) :
    Steps s (s.hostRead g) :=
  ite (refl s) ⟨rfl, rfl, hg⟩

/-! Commands, on the side on which they run. -/

theorem fieldShare (c : FCmd) {g : HostDie → HostDie × Nat} (hg : ∀ h, h.Canon → (g h).1.Canon) : Steps s (s.fieldShare c g r) :=
  ite (refl s) (ite (onHost fun hc => (hc.accept _).authFailed _) (ite (onHost fun hc => (hc.accept _).complete _ _ _)
    ((onHost (f := fun h => (g (h.accept _)).1.await _ _) fun hc => (hg _ (hc.accept _)).await _ _).trans (onField _))))

theorem field (c : FCmd) : Steps s (s.field c r) := fieldShare c fun _ hc => hc

theorem host {c : HCmd} (hk : c.Keeps) : Steps s (s.host c r) := ite (refl s) (onHost fun hc => (hc.accept _).run hk _ _)

theorem bySource (cf : FCmd) {ch : HCmd} (hk : ch.Keeps) : Steps s (s.bySource cf ch r) :=
  ite (host hk) (fieldShare cf fun _ hc => hc.allSources _ r)

theorem byTarget {on : Request → Bool} (cf : FCmd) {ch : HCmd} (hk : ch.Keeps) : Steps s (s.byTarget on ch cf r) := ite (host hk) (field cf)

/-! Timers and two-wire buses, on the die that has them. -/

theorem onTimer (ch : Nat) (g : (n : Nat) → TimerBlk n → Nat → TimerBlk n × Bool) : Steps s (s.onTimer ch g) :=
  ite (onHost fun hc => .ite ((hc.withTimers _).vector 54) (hc.withTimers _)) (ite (refl s) (onField _))

theorem readTimer (ch : Nat) (g : (n : Nat) → TimerBlk n → Nat → TimerBlk n × Nat) : Steps s (s.readTimer ch g) :=
  (onTimer ch _).trans (read fun _ => _)

theorem onTw (n : Nat) (g : TwBus → TwBus × List TwOut) : Steps s (s.onTw n g) :=
  ite (onHost fun hc => hc.onBus n g) (ite (onField _) (refl s))

/-! Messages of the barrier. -/

theorem toHost {c : MsgClass} {arr : Arrival} {payload : FieldDie → List Byte} {sent : FieldDie → FieldDie}
    {good : Variant → FieldDie → HostDie → HostDie} (hg : ∀ v f h, h.Canon → (good v f h).Canon) : Steps s (s.toHost c arr payload sent good) := by
  unfold State.toHost
  split
  · exact refl s
  · exact (onField _).trans (ite ((onHost (hg _ _ _)).trans (onField _)) ((onHost fun hc => hc.dropMsg).trans (onField _)))

theorem toField {c : MsgClass} {arr : Arrival} {payload : HostDie → List Byte} {sent : HostDie → HostDie}
    {good : Variant → HostDie → FieldDie → FieldDie} (hs : ∀ h, h.Canon → (sent h).Canon) : Steps s (s.toField c arr payload sent good) := by
  unfold State.toField
  split
  · exact refl s
  · exact (onField _).trans (ite ((onField _).trans (onHost (hs _))) ((onField _).trans (onHost (hs _))))

/-! The mailbox. -/

theorem cfgLoad : Steps s (s.cfgLoad r) := by
  unfold State.cfgLoad
  dsimp only
  split
  · exact onHost fun hc => hc.complete _ _ _
  · exact onHost fun hc => (hc.pushBlob _ _).await _ _

theorem route : Steps s (s.route r) := by
  unfold State.route
  refine ite (onHost fun hc => hc.complete _ _ _) (ite cfgLoad ?_)
  split
  next c hcmd => exact onHost fun hc => hc.run (HCmd.Keeps.of_hostCmd hcmd) _ _
  next => exact ite (onHost fun hc => hc.complete _ _ _) (onHost fun hc => ⟨hc.mem, hc.area⟩)

theorem routeAll (rs : List Request) : Steps s (State.routeAll rs s) := by
  induction rs generalizing s with
  | nil => exact refl s
  | cons r rs ih =>
    have hcheck : Steps s (s.onHost fun h => { h with hif := { h.hif with check := h.hif.check ++ [r] } }) := onHost fun hc => ⟨hc.mem, hc.area⟩
    exact ite (hcheck.trans ih) (route.trans ih)

end Steps
end Machine
end Sys2Proof

/-! The commands whose meaning has a shape of its own, and every command. -/

namespace Sys2Proof
namespace Machine

/-- The step goes on, and keeps what every step keeps. -/
def Goes (s : State) (o : Out) : Prop := ∃ t, o = .next t ∧ Steps s t

namespace Goes

variable {s t : State} {f : HostDie → HostDie}

theorem next (h : Steps s t) : Goes s (.next t) := ⟨t, rfl, h⟩

theorem onHost (hf : s.chip.host.Canon → (f s.chip.host).Canon) : Goes s (.next (s.onHost f)) := next (.onHost hf)

theorem hostAccess (hf : s.chip.host.Canon → (f s.chip.host).Canon) : Goes s (.next (s.hostAccess f)) := next (.hostAccess hf)

theorem hostRead {g : Variant → HostDie → List Word × HostDie} (hg : s.chip.host.Canon → (g s.chip.variant s.chip.host).2.Canon) :
    Goes s (.next (s.hostRead g)) := next (.hostRead hg)

theorem host {c : HCmd} {r : Request} (hk : c.Keeps) : Goes s (.next (s.host c r)) := next (.host hk)

/-! Power, resets and the tick. -/

theorem wakeNFall : Goes s (execWakeNFall s) := onHost fun hc => by
  refine .ite (.raise ?_ _ _ _) hc
  exact ⟨hc.mem, hc.area⟩

theorem hRegionReset : Goes s (execHRegionReset s) := onHost fun hc => .ite (hc.regionReset 6 1) hc

theorem domainStep (side : Side) : Goes s (execDomainStep side s) := by
  cases side with
  | field => exact next (.onField _)
  | host =>
    refine onHost fun hc => .ite hc ?_
    split
    · exact ⟨hc.mem, hc.area⟩
    · exact hc

theorem domainFail (side : Side) : Goes s (execDomainFail side s) := by
  refine next ?_
  cases side with
  | host =>
    refine .onHost fun hc => ?_
    split
    · exact ⟨hc.mem, hc.area⟩
    · exact hc
  | field =>
    dsimp only
    split
    · exact (Steps.onField _).trans (.onHost fun hc => hc.raise _ _ _)
    · exact .refl s

theorem chipReset : Goes s (execChipReset s) := by
  refine next ?_
  split
  · exact (Steps.onField _).trans (.onHost fun hc => hc.regionReset _ 2)
  · exact .refl s

theorem fieldReset : Goes s (execFieldReset s) := next (.ite (.onField _) (.refl s))

theorem tickEdge (samples : Samples) (marks : BitVec 8) : Goes s (execTickEdge samples marks s) :=
  next ((Steps.onHost fun hc => hc.edge).trans (.onField _))

/-! Messages of the barrier. -/

theorem barrierHeartbeatRx (toHost : Bool) (arr : Arrival) : Goes s (execBarrierHeartbeatRx toHost arr s) :=
  next (.ite (.toHost fun _ f _ hc => hc.fieldBeat f) (.toField fun _ hc => ⟨hc.mem, hc.area⟩))

theorem barrierTimeSyncRx (toHost : Bool) (arr : Arrival) : Goes s (execBarrierTimeSyncRx toHost arr s) :=
  next (.ite (.toHost fun _ _ _ hc => .ite hc ⟨hc.mem, hc.area⟩) (.toField fun _ hc => hc))

theorem cmdForwardRx (arr : Arrival) : Goes s (execCmdForwardRx arr s) := by
  refine next ?_
  split
  · exact .refl s
  · exact .toField fun _ hc => hc.withBarrier _

theorem cmdCompleteRx (arr : Arrival) : Goes s (execCmdCompleteRx arr s) := by
  refine next ?_
  split
  · exact .refl s
  · exact .ite (.refl s) (.toHost fun v f _ hc => hc.completionRx v f.twin.twinB _)

theorem telemetryRx (arr : Arrival) : Goes s (execTelemetryRx arr s) :=
  next (.ite (.refl s) (.toHost fun _ _ _ hc => hc.telemetryPart _ _ _))

theorem barrierEventRx (arr : Arrival) : Goes s (execBarrierEventRx arr s) := by
  refine next ?_
  split
  · exact .refl s
  · exact .toHost fun _ _ _ hc => hc.eventRx _

theorem recSnapshotRx (arr : Arrival) : Goes s (execRecSnapshotRx arr s) := by
  refine next (.ite (.refl s) (.toHost fun v _ h hc => ?_))
  refine .appendLearned (.foldl _ (fun g r hg => ?_) hc) _
  have hthaw := HostDie.Canon.ite (p := r.kind = 7) hg.thaw hg
  exact hthaw.recordArrives _ r

theorem traceBlockRx (arr : Arrival) : Goes s (execTraceBlockRx arr s) := by
  refine next ?_
  split
  · exact .refl s
  · refine .ite (.refl s) (.toHost fun _ _ _ hc => .traceArrives ?_ _)
    exact ⟨hc.mem, hc.area⟩

theorem configPushRx (arr : Arrival) : Goes s (execConfigPushRx arr s) := by
  refine next ?_
  split
  · exact .refl s
  · exact .toField fun _ hc => ⟨hc.mem, hc.area⟩

theorem fwBlockRx (arr : Arrival) (checkOk : Bool) : Goes s (execFwBlockRx arr checkOk s) := by
  refine next ?_
  dsimp only
  split
  · exact .refl s
  · refine .ite (.refl s) ?_
    have hsent : ∀ b rest, Steps s (s.toField .fwBlock arr (fun _ => slice 0 512 b) (fun h => { h with bar := { h.bar with blocks := rest } })
        fun _ _ f => { f with power := { f.power with load := f.power.load ++ [b] } }) := fun b rest => .toField fun _ hc => hc.withBarrier _
    refine .ite (hsent _ _) (.ite ?_ ?_)
    · exact ((hsent _ _).trans (.onField _)).trans (.onHost fun hc => (hc.modStor _).reportMode)
    · exact ((hsent _ _).trans (.onField _)).trans (.onHost fun hc => hc.loadFailed)

/-! Blocks and their memories. -/

theorem sramRowMove (region : Fin 8) (block : Fin 32) (row : Nat) : Goes s (execSramRowMove region block row s) :=
  next (.ite (.refl s) (.ite (.onHost fun hc => hc.modBlk _ _) (.onField _)))

theorem sramScrub (region : Fin 8) (block : Fin 32) (addr : Nat) (errors : Fin 3) : Goes s (execSramScrub region block addr errors s) :=
  next (.ite (.refl s) (.ite (.onHost fun hc => .ite ((hc.modBlk _ _).raise _ _ _) (hc.raise _ _ _)) (.onField _)))

theorem blockOpEnd (region : Fin 8) (done : OpEnd) : Goes s (execBlockOpEnd region done s) :=
  next (.ite (.onHost fun hc => hc.endOp _) (.onField _))

theorem blockOpTimeout (region : Fin 8) (block : Fin 32) : Goes s (execBlockOpTimeout region block s) :=
  next (.ite (.onHost fun hc => hc.failOp _) (.onField _))

theorem calStageEnd (q : Fin 4) (spare : Fin 2) (result : CalResult) : Goes s (execCalStageEnd q spare result s) :=
  next (.ite (.onField _) (.refl s))

/-! Faults, recorder, storage and the boot. -/

theorem severeRecovery (src : Fin 256) : Goes s (execSevereRecovery src s) := next (.ite (.onHost fun hc => hc.withFaults _) (.onField _))

theorem recPageFlush : Goes s (execRecPageFlush s) := onHost fun hc => by
  split
  · exact .ite hc.handAll hc
  · exact hc

theorem recAutoThaw : Goes s (execRecAutoThaw s) := onHost fun hc => .ite hc.thaw hc

theorem traceCaptureWritten : Goes s (execTraceCaptureWritten s) := by
  refine next ?_
  split
  · exact .refl s
  · exact .ite (.onField _) (.refl s)

theorem fieldImageStart (peerPulse : Bool) : Goes s (execFieldImageStart peerPulse s) :=
  next (.ite (.refl s) (.ite (((Steps.onField _).trans (.onHost fun hc => hc.fieldStarted _ _)).trans (.onField _)) (.onField _)))

theorem hostBoot (boot : BootOutcome) : Goes s (execHostBoot boot s) := by
  have hboot : ∀ f, Steps s (s.onHost fun h => h.boot s.chip.variant f boot) := fun f => .onHost fun hc => hc.boot _ f boot
  exact next (.ite (.refl s) (.ite (.ite ((hboot _).trans (.onField _)) (hboot _)) (hboot _)))

theorem fieldStaleLoad : Goes s (execFieldStaleLoad s) := next (.ite (.onHost fun hc => (hc.loadField _).reportMode) (.refl s))

theorem trialConfirm : Goes s (execTrialConfirm s) := onHost fun hc => .ite (((hc.rewriteHeader _).raise _ _ _).vector _) hc

theorem scrubPeriod : Goes s (execScrubPeriod s) := onHost fun hc => .ite hc hc.startScrub

theorem learnedCompaction : Goes s (execLearnedCompaction s) := onHost fun hc => .ite hc.compact hc

/-! The host interface. -/

theorem pcieLinkDown : Goes s (execPcieLinkDown s) := hostAccess fun hc => by
  split
  · exact hc
  · refine .raise ?_ _ _ _
    exact ⟨hc.mem, hc.area⟩

theorem pcieAerError : Goes s (execPcieAerError s) := hostAccess fun hc => by
  split
  · exact hc
  · exact hc.raise _ _ _

theorem pcieFlr : Goes s (execPcieFlr s) := hostAccess fun hc => by
  split
  · exact hc
  · have hsilent := ((hc.modBlk 1 fun b => { b with lastOp := 1, resetCnt := satN 16 (b.resetCnt + 1) }).modBlk 3
      fun b => { b with lastOp := 1, resetCnt := satN 16 (b.resetCnt + 1) }).silence
    exact ⟨hsilent.mem, hsilent.area⟩

theorem qspiRead (addr words : Nat) : Goes s (Sys2Proof.Machine.qspiRead addr words s) := by
  unfold Machine.qspiRead
  split
  · exact next (.refl s)
  · exact hostRead fun hc => hc.burstRead _ addr words

theorem qspiWrite (addr : Nat) (data : List Word) : Goes s (Sys2Proof.Machine.qspiWrite addr data s) := by
  unfold Machine.qspiWrite
  split
  · exact next (.refl s)
  · exact hostAccess fun hc => (hc.burstWrite addr data).csRise

theorem qspiCsAbort (addr : Nat) (data : List Word) (write : Bool) : Goes s (execQspiCsAbort addr data write s) := by
  cases write with
  | true => exact qspiWrite addr data
  | false => exact qspiRead addr data.length

theorem qspiBadInstruction (instruction : BitVec 8) : Goes s (execQspiBadInstruction instruction s) :=
  hostAccess fun hc => .ite (hc.raise _ _ _) hc

theorem msixUnmask (vec : Fin 64) : Goes s (execMsixUnmask vec s) := hostAccess fun hc => by
  split
  · exact hc
  · exact (hc.withMsix _ _).signal _

theorem descriptorFetch (fetch : Fetch) : Goes s (execDescriptorFetch fetch s) := by
  refine next ?_
  dsimp only
  split
  · exact .refl s
  · cases fetch with
    | failed =>
      refine .onHost fun hc => .queueError ?_ _ _
      exact ⟨hc.mem, hc.area⟩
    | good ds =>
      refine .trans (.onHost fun hc => .modQ (.foldl _ (fun _ r hg => hg.accept r) ?_) _ _) (.routeAll _)
      exact ⟨hc.mem, hc.area⟩

theorem authCheckDone : Goes s (execAuthCheckDone s) := by
  refine next ?_
  dsimp only
  split
  · exact .refl s
  · have hempty : Steps s (s.onHost fun h => { h with hif := { h.hif with check := [] } }) := .onHost fun hc => ⟨hc.mem, hc.area⟩
    refine .trans ?_ (.routeAll _)
    refine .ite (hempty.trans (.onHost fun hc => hc.complete _ _ _)) ?_
    refine (hempty.trans (.onHost fun hc => ?_)).trans (.ite .route (.onHost fun hc => hc.authFailed _))
    exact ⟨hc.mem, hc.area⟩

theorem authLockoutEnd : Goes s (execAuthLockoutEnd s) := onHost fun hc => .ite ⟨hc.mem, hc.area⟩ hc

theorem commandForward : Goes s (execCommandForward s) := by
  refine next ?_
  dsimp only
  split
  · exact .refl s
  next r rest _ =>
    refine .ite (.refl s) (.onHost fun hc => ?_)
    have hready : HostDie.Canon { s.chip.host with hif := { s.chip.host.hif with ready := rest } } := ⟨hc.mem, hc.area⟩
    exact .withBarrier ((hready.forwardShare r).await r _) _

theorem heldCompletionDiscard : Goes s (execHeldCompletionDiscard s) := onHost fun hc => by
  split
  · exact .ite ⟨hc.mem, hc.area⟩ hc
  · exact hc

theorem undefinedOpcode (r : Request) : Goes s (execUndefinedOpcode r s) := hostAccess fun hc => .ite hc (hc.complete _ _ _)

/-! Registers. -/

theorem regRead (off : Nat) : Goes s (.next (s.hostRead fun v h => let (w, h) := h.regRead v off; ([w], h))) :=
  hostRead fun hc => hc.regRead s.chip.variant off

theorem storStatusRead : Goes s (execStorStatusRead s) :=
  hostRead (g := fun _ h => ([h.storStatus], h.modStor fun x => { x with ueCnt := 0 })) fun hc => hc.modStor fun x => { x with ueCnt := 0 }

theorem readField (ws : Chip → List Word) (g : FieldDie → FieldDie) : Goes s (.next ((s.on fun c => { c with readData := ws c }).onField g)) :=
  next ((Steps.read ws).trans (.onField g))

theorem registerWrite (window : Bool) (addr : BitVec 16) (value mask : Word) : Goes s (execRegisterWrite window addr value mask s) :=
  next (.ite (.hostAccess fun hc => .ite (hc.regWrite _ _) hc) (.ite (.hostAccess fun hc => hc.poke _ _ _ _ _) (.onField _)))

/-! Two-wire buses. -/

theorem twStatusRead (bus : Fin 6) : Goes s (execTwStatusRead bus s) := next ((Steps.onTw _ _).trans (.read fun _ => _))

theorem twTransactionStart (bus : Fin 6) (found : TwStart) : Goes s (execTwTransactionStart bus found s) := next (.ite (.refl s) (.onTw _ _))

theorem twTargetAddressed (bus : Fin 2) (addr : BitVec 7) (read : Bool) : Goes s (execTwTargetAddressed bus addr read s) :=
  onHost fun hc => .ite hc (hc.onBus _ _)

theorem twTargetStop (bus : Fin 2) (bytesRead : Nat) : Goes s (execTwTargetStop bus bytesRead s) := by
  have hread : s.chip.host.Canon → (if (s.chip.host.mb.getD bus {}).tgtAct ∧ (s.chip.host.mb.getD bus {}).tgtRead then
      s.chip.host.targetRead s.chip.variant bus bytesRead else ([], s.chip.host)).2.Canon := fun hc => by
    split
    · exact hc.targetRead _ _ _
    · exact hc
  exact next ⟨rfl, rfl, fun hc => (hread hc).onBus bus fun y => ({ y with tgtAct := false, busy := y.ctrlAct }, [])⟩

/-! Commands that choose their side. -/

theorem cfgLoad (r : Request) : Goes s (execCfgLoad r s) := by
  have haccept : ∀ r, Steps s (s.onHost fun h => h.accept r) := fun r => .onHost fun hc => hc.accept r
  exact next (.ite (.refl s) (.ite ((haccept _).trans (.onHost fun hc => hc.authFailed _)) ((haccept _).trans .cfgLoad)))

theorem opWrite (r : Request) : Goes s (execOpWrite r s) := next (.ite (.host .opWrite) (.field _))

theorem opRead (r : Request) : Goes s (execOpRead r s) := next (.ite (.host .opRead) (.field _))

theorem getDiag (r : Request) : Goes s (execGetDiag r s) := next (.ite (.host .getDiag) (.fieldShare _ fun _ hc => hc))

end Goes

/-- Every command goes on, in every state. -/
theorem exec_goes (c : Instr) (s : State) : Goes s (exec c s) := by
  cases c
  case vinfPowerOn | vinfFall | qcWatchdog | qcLockstepMismatch | qcRestart | winterEntry | deadManRelease | dispatchRun | tickOverrun |
    downlinkSend | tbusPadFault | guardPhase | outputLandUpdate | stagingCommitDeadline | tickSyncInPulse | tickSyncLocked | tickSyncLoss |
    hostLost | hostLostLimit | spareSwap | tbeEngineResetNext | blockResetReaction | quadrantIsolate | ovComparatorTrip | analogDomainLoss |
    ovSelftest | ovSelftestGateEnd | stopLatchedClear | ovLimitWrite | lineZcEdge | lineZcLost | dispatchBlind | blindExit | poleImbalance |
    dispatchShortfall | dispatchSurplus | wearAccumulate | weightBankCommit | stressPersist | inputRecovery | reentryBatchStart | hostFreqExpiry
    | capExpired | capUnrelieved | thrRelease | capEpisodeEnd | autoRestore | busUp | marchStart | firstStartRelease | marchComplete | marchLate
    | coldSoftResetBroadcast | testPfwEnd | probeStart | probePhaseGet | probePhaseMinus | probeEvaluate | probeGapEnd | probeHaltClear |
    learnCheck | learnMaxExpiry | twinHeartbeatRx | twinInputRx | twinDigestRx | twinPrepareRx | twinPrepAckRx | twinPrepNakRx | twinCommitRx |
    twinCommitAckRx | twinSwapReqRx | twinStateRx | twinDrillRx | twinPacketDiscard | laneUp | laneDown | roleDecision | heartbeatMissed |
    twinTakeover | twinPeerLost | peerActiveSample | twinInterlock | inputSectionDeadline | joinStart | joinStepEnd | handoverRelease |
    handoverSwitchEdge | handoverAssertFail | revertExpiry | drillStep | drillHoldEnd | traceFreeze | curvePointWrite | legacyPoll | fanControl
    | analogDomainReturn => exact .next (.onField _)
  case uplinkFrameRx | uplinkLost | transceiverSelftest | reentryRelease | ctPresence | ctGlitch | ctHardResetDeclared | ctStuckLow |
    ctCollision | collisionHoldoffEnd | ctFrameDiscard | ctAckRx | ctAcceptRx | ctRejectRx | ctReadyRx | ctSoftResetRx | ctStaleRx |
    ctCapabilityRx | ctIdentityRx | ctRequestRx | ctStatusRx | ctAlertRx | ctSwapRx | ctFrameTxStart | ctFrameTxEnd | ackTimerExpiry |
    responseTimerExpiry | swapTimerExpiry | hardResetCompletionExpiry | hardResetGetRepeat | statusPollExpiry | retryHoldoffEnd | swapFeedReady
    | moistureCheckStart | moistureCheckEnd | moistureCheckVoid | qualified | softstartEnd | probeStaleExpiry | eodPoll | cycleOpenExpiry |
    batRecordWrite | learnedRecordApply | ctLineReleased => exact .next (.onSlot _ _)
  case branchQualified | fastTrip | ftSelftest | inrushEnd | recloseDelayEnd | recloseResetEnd | gateFbFailOpen | gateFbFailClose | gateFbLost |
    gateFbStuck | brkOpenCurrent => exact .next (.onBranch _ _)
  case qspiRead | qspiQread => exact .qspiRead _ _
  case qspiWrite | qspiQwrite => exact .qspiWrite _ _
  case evqHeadWrite | evqOvfClear | vecPendClear => exact .hostAccess fun hc => ⟨hc.mem, hc.area⟩
  case evqCfgRead | htbLoRead | authNonceRead | modeStatusRead => exact .regRead _
  case tbLoRead | dispTimeRead | dispCntRead | twinCntRead | trCntRead => exact .readField _ _
  case busCntRead | slotErrRead | ctLinkRead | ctErrRead | sessCntRead | batPcntRead => exact .next (.readRc _ _ _)
  case tstatClear | timerSnapWrite | timerCompareMatch | timerCapture | timerPwmPeriod => exact .next (.onTimer _ _)
  case timerCountRead | captureReadLock => exact .next (.readTimer _ _)
  case twControllerTimeout | twArbitrationLost | twTransactionEnd | twStuckRetry => exact .next (.onTw _ _)
  case setVset | setLoop | setSharing | setUnitWeight | excludeUnit | getUnit | getWear | getDispatch | setWindow | setHoldup | setReentry |
    setWarnLead | setCharge | setRamp | setFreqResp | setFreqSrc | putHostFreq | getHoldup | getGrid | getReserve | setCap | setCapPolicy |
    setBranchCap | restoreBranch | getCap | getBudget | setSlotPolicy | resetSlot | swapAux | enableSlot | getSlot | getModuleData | setBranch |
    setCurvePoint | closeBranch | openBranch | clearLockout | testPfw | getBranch | getAcc | setProbe | setCounting | setBatWarn | setLearning |
    startLearn | abortLearn | setSoc | setCapacity | getBat | getBatValue | getLearn | handover | setRevert | drill | leaveStep | join |
    coldSwap | getTwin | getFault | recSetTrigger | recSetList | recSetTrace | recSetLevel | recTrigger => exact .next (.field _)
  case tmrSet | tmrCompare | tmrSnapshot | tmrGet => exact .next (.byTarget _ (.timer _ _ _ _))
  case vinhPowerOn => exact .onHost fun hc => hc.powerOn _ _ _
  case vinhFall => exact .onHost fun hc => hc.powerFall
  case hrstNAssert => exact .onHost fun hc => hc.regionReset 3 1
  case wakeNFall => exact .wakeNFall
  case domainStep => exact .domainStep _
  case domainFail => exact .domainFail _
  case hostWatchdog => exact .onHost fun hc => (hc.regionReset 4 1).raise 0 1 0
  case hpcLockstepMismatch => exact .onHost fun hc => (hc.regionReset 5 1).raise 1 1 0
  case chipReset => exact .chipReset
  case fieldReset => exact .fieldReset
  case hRegionReset => exact .hRegionReset
  case tickEdge => exact .tickEdge _ _
  case barrierHeartbeatRx => exact .barrierHeartbeatRx _ _
  case barrierTimeSyncRx => exact .barrierTimeSyncRx _ _
  case cmdForwardRx => exact .cmdForwardRx _
  case cmdCompleteRx => exact .cmdCompleteRx _
  case telemetryRx => exact .telemetryRx _
  case barrierEventRx => exact .barrierEventRx _
  case recSnapshotRx => exact .recSnapshotRx _
  case traceBlockRx => exact .traceBlockRx _
  case configPushRx => exact .configPushRx _
  case fwBlockRx => exact .fwBlockRx _ _
  case fieldLost => exact .onHost fun hc => hc.loseField
  case sramRowMove => exact .sramRowMove _ _ _
  case sramScrub => exact .sramScrub _ _ _ _
  case blockOpEnd => exact .blockOpEnd _ _
  case blockOpTimeout => exact .blockOpTimeout _ _
  case calStageEnd => exact .calStageEnd _ _ _
  case fieldImageStart => exact .fieldImageStart _
  case severeRecovery => exact .severeRecovery _
  case hostEventJudge => exact .onHost fun hc => hc.judgeAll
  case recPageFlush => exact .recPageFlush
  case traceCaptureWritten => exact .traceCaptureWritten
  case recAutoThaw => exact .recAutoThaw
  case hostBoot => exact .hostBoot _
  case trialConfirm => exact .trialConfirm
  case fieldStaleLoad => exact .fieldStaleLoad
  case nandOpDone => exact .onHost fun hc => hc.nandDone _
  case scrubPeriod => exact .scrubPeriod
  case learnedCompaction => exact .learnedCompaction
  case pcieLinkDown => exact .pcieLinkDown
  case pcieAerError => exact .pcieAerError
  case pcieFlr => exact .pcieFlr
  case qspiBadInstruction => exact .qspiBadInstruction _
  case qspiCsAbort => exact .qspiCsAbort _ _ _
  case sqTailDoorbell => exact .hostAccess fun hc => hc.sqTail _ _
  case cqHeadDoorbell => exact .hostAccess fun hc => hc.cqHead _ _
  case qcfgWrite => exact .hostAccess fun hc => hc.writeQcfg _ _
  case hifCtrlWrite => exact .hostAccess fun hc => hc.writeCtrl _
  case msixUnmask => exact .msixUnmask _
  case vectorSignal => exact .hostAccess fun hc => hc.signal _
  case descriptorFetch => exact .descriptorFetch _
  case authCheckDone => exact .authCheckDone
  case authLockoutEnd => exact .authLockoutEnd
  case commandForward => exact .commandForward
  case completionWrite => exact .hostAccess fun hc => (hc.bringHeld _).writeCompletion _ _
  case heldCompletionWrite => exact .hostAccess fun hc => hc.bringHeld _
  case heldCompletionDiscard => exact .heldCompletionDiscard
  case undefinedOpcode => exact .undefinedOpcode _
  case storStatusRead => exact .storStatusRead
  case recStatusRead => exact .hostRead fun hc => ⟨hc.mem, hc.area⟩
  case twStatusRead => exact .twStatusRead _
  case registerWrite => exact .registerWrite _ _ _ _
  case twTargetAddressed => exact .twTargetAddressed _ _ _
  case twTargetWriteCommit => exact .onHost fun hc => hc.targetWrite _ _
  case twProtoErr => exact .onHost fun hc => hc.protoErr _ _
  case twTargetTimeout => exact .onHost fun hc => hc.onBus _ _
  case twTransactionStart => exact .twTransactionStart _ _
  case identify => exact .host .identify
  case reset => exact .next (.byTarget _ .reset)
  case sleep => exact .host .sleep
  case setWallClock => exact .host .setWallClock
  case echo => exact .host .echo
  case cfgLoad => exact .cfgLoad _
  case cfgSave => exact .host .cfgSave
  case cfgRead => exact .host .cfgRead
  case cfgInfo => exact .host .cfgInfo
  case ackFault => exact .next (.bySource _ .ackFault)
  case setSource => exact .next (.bySource _ .setSource)
  case getSource => exact .next (.bySource _ .getSource)
  case injectEvent => exact .next (.bySource _ .injectEvent)
  case clearRecovery => exact .next (.bySource _ .clearRecovery)
  case recFreeze => exact .host .recFreeze
  case recThaw => exact .host .recThaw
  case recFlush => exact .host .recFlush
  case recClear => exact .host .recClear
  case recSetFlush => exact .host .recSetFlush
  case recRead => exact .host .recRead
  case recReadTrace => exact .host .recReadTrace
  case recReadLedger => exact .host .recReadLedger
  case recStatus => exact .host .recStatus
  case imgStage => exact .host .imgStage
  case imgCommit => exact .host .imgCommit
  case stageCancel => exact .host .stageCancel
  case setUpdateMode => exact .host .setUpdateMode
  case updateField => exact .host .updateField
  case setRollbackFloor => exact .host .setRollbackFloor
  case storFormat => exact .host .storFormat
  case storScrubNow => exact .host .storScrubNow
  case getUpdate => exact .host .getUpdate
  case getStorage => exact .host .getStorage
  case secSetAuthKey => exact .host .secSetAuthKey
  case secClearAuthKey => exact .host .secClearAuthKey
  case secAddFwKey => exact .host .secAddFwKey
  case secRevokeFwKey => exact .host .secRevokeFwKey
  case secGetIdentity => exact .host .secGetIdentity
  case secAttest => exact .host .secAttest
  case secRandom => exact .host .secRandom
  case secGetKeys => exact .host .secGetKeys
  case opWrite => exact .opWrite _
  case blockOp => exact .next (.byTarget _ .blockOp)
  case opRead => exact .opRead _
  case getBlock => exact .next (.byTarget _ .getBlock)
  case getDiag => exact .getDiag _
  case twXfer => exact .next (.byTarget _ .twXfer)
  case twSetBus => exact .next (.byTarget _ .twSetBus)
  case twGetBus => exact .next (.byTarget _ .twGetBus)
  case twTargetStop => exact .twTargetStop _ _

/-- Settles O1: the two rows of `step`. -/
theorem stepRunsTheFrontCommand : Obligations.StepRunsTheFrontCommand := by
  refine ⟨fun c rest s hqueue => ?_, fun s hqueue => ?_⟩
  · unfold step
    rw [hqueue]
  · unfold step
    rw [hqueue]

/-- The model's check of the memories is their canonical form. -/
theorem memOk_iff (s : State) : s.memOk = true ↔ s.chip.host.Canon :=
  (Bool.and_eq_true_iff ..).trans ⟨fun ⟨hmem, harea⟩ => ⟨hmem, harea⟩, fun hc => ⟨hc.mem, hc.area⟩⟩

/-- Settles O3: every command goes on with the queue and the variant as they were. -/
theorem everyCommandCompletes : Obligations.EveryCommandCompletes := fun c s =>
  let ⟨t, hnext, hsteps⟩ := exec_goes c s
  ⟨t, hnext, hsteps.pending, hsteps.variant⟩

/-- Settles O4: a step is a command of the queue's front, or nothing, and every command keeps the canonical form. -/
theorem everyStepKeepsMemoryCanonical : Obligations.EveryStepKeepsMemoryCanonical := by
  intro s t hok hstep
  rw [memOk_iff] at hok ⊢
  cases hqueue : s.pending with
  | nil =>
    obtain rfl : s = t := Host.Outcome.next.inj ((stepRunsTheFrontCommand.2 s hqueue).symm.trans hstep)
    exact hok
  | cons c rest =>
    obtain ⟨u, hnext, hsteps⟩ := exec_goes c { s with pending := rest }
    obtain rfl : u = t := Host.Outcome.next.inj (hnext.symm.trans ((stepRunsTheFrontCommand.1 c rest s hqueue).symm.trans hstep))
    exact hsteps.canon hok

end Machine
end Sys2Proof

/-! The state after reset: every table is the one that its row function gives. -/

namespace Sys2Proof

/-- A row of a table that a function of the row's number fills. -/
theorem Tab.getD_mapRange {α : Type} {n i : Nat} (g : Nat → α) (d : α) (hn : ((List.range n).map g).length = n) (hi : i < n) :
    (⟨(List.range n).map g, hn⟩ : Tab α n).getD i d = g i := by
  simp [Tab.getD, List.getD_eq_getElem?_getD, hi]

namespace Machine

theorem srcInit_of_row {i : Nat} {row : SrcRow} (h : srcRow i = some row) :
    srcInit i = { ev := row.ev, sv := row.sv, flt := row.flt, w := if i = 35 then 40 else 40000 } := by
  unfold srcInit
  rw [h]

theorem reset_fcol_src {i : Nat} (hi : i < 256) : State.reset.chip.field.fcol.src i = srcInit i := Tab.getD_mapRange srcInit {} _ hi

theorem reset_fcm_src {i : Nat} (hi : i < 256) : State.reset.chip.host.fcm.src i = srcInit i := Tab.getD_mapRange srcInit {} _ hi

theorem reset_sl {k : Nat} (hk : k < 96) : State.reset.chip.field.sl k = { pol := { rank := k } } :=
  Tab.getD_mapRange (α := Slot) (fun k => { pol := { rank := k } }) {} _ hk

theorem reset_br {b : Nat} (hb : b < 32) : State.reset.chip.field.br b = { cfg := { rank := 96 + b } } :=
  Tab.getD_mapRange (α := Branch) (fun b => { cfg := { rank := 96 + b } }) {} _ hb

theorem reset_q (i : Nat) : State.reset.chip.host.q i = {} := Tab.getD_fill i _

/-- Settles O2: the single fields stand in the reset state, and each table's rows come from the function that fills it. -/
theorem resetLeavesTheTableValues : Obligations.ResetLeavesTheTableValues := by
  refine ⟨rfl, rfl, rfl, rfl, rfl, rfl, rfl, rfl, fun i hi row hrow => ?sources, fun k hk => ?slots, fun b hb => ?branches, fun q => ?queues, rfl, rfl⟩
  case sources =>
    rw [reset_fcol_src hi, reset_fcm_src hi, srcInit_of_row hrow]
    exact ⟨rfl, rfl, rfl, rfl, rfl⟩
  case slots =>
    rw [reset_sl hk]
    exact ⟨rfl, rfl, rfl⟩
  case branches =>
    rw [reset_br hb]
    exact ⟨rfl, rfl⟩
  case queues =>
    rw [reset_q]
    exact ⟨rfl, rfl⟩

end Machine
end Sys2Proof

/-! The severe sources of a collector (15 R392). -/

namespace Sys2Proof

namespace Collector

variable {c : Collector} {i t : Nat}

theorem recover_due (hs : (c.src i).severe = true) (hq : (c.src i).q ≤ t - (c.src i).last) :
    c.recover i t = { c with sources := c.sources.modifyNat i fun x => { x with severe := false, recov := satN 16 (x.recov + 1) } } :=
  if_pos ⟨hs, hq⟩

theorem recover_not (h : (c.src i).severe = false ∨ t - (c.src i).last < (c.src i).q) : c.recover i t = c := by
  refine if_neg fun ⟨hs, hq⟩ => ?_
  cases h with
  | inl hns => simp [hns] at hs
  | inr hlt => exact absurd hq (Nat.not_le.mpr hlt)

theorem src_recover_self (hi : i < 256) (hs : (c.src i).severe = true) (hq : (c.src i).q ≤ t - (c.src i).last) :
    (c.recover i t).src i = { c.src i with severe := false, recov := min ((c.src i).recov + 1) 0xFFFF } := by
  rw [recover_due hs hq, src, Tab.getD_modifyNat_self _ _ _ _ hi]
  rfl

theorem src_recover_ne {j : Nat} (h : j ≠ i) : (c.recover i t).src j = c.src j := by
  unfold recover
  dsimp only
  split
  · exact Tab.getD_modifyNat_ne _ _ _ _ _ h
  · rfl

end Collector

namespace Machine

theorem State.onHost_eq_self {g : HostDie → HostDie} {s : State} (h : g s.chip.host = s.chip.host) : s.onHost g = s := by
  simp only [State.onHost, h]

theorem exec_severeRecovery_host {i : Fin 256} {s : State} (h : Collector.judges true i = true) :
    exec (.severeRecovery i) s = .next (s.onHost fun h => { h with fcm := h.fcm.recover i h.htb }) :=
  congrArg Host.Outcome.next (if_pos h)

theorem exec_severeRecovery_field {i : Fin 256} {s : State} (h : Collector.judges true i = false) :
    exec (.severeRecovery i) s = .next (s.onField fun f => { f with fcol := f.fcol.recover i f.tick.tb }) :=
  congrArg Host.Outcome.next (if_neg (by simp [h]))

/-- Settles O7: the source's collector takes the recovery, and the other side of the device is not touched. -/
theorem severeSourcesRecoverAfterQuiet : Obligations.SevereSourcesRecoverAfterQuiet := by
  intro i s
  cases hj : Collector.judges true i with
  | true =>
    refine ⟨_, exec_severeRecovery_host hj, fun _ => ⟨rfl, fun hn => ?_, fun hs hq => ⟨Collector.src_recover_self i.isLt hs hq, ?_⟩⟩, nofun⟩
    · exact State.onHost_eq_self (by rw [Collector.recover_not hn])
    · exact fun j hne => Collector.src_recover_ne hne
  | false =>
    refine ⟨_, exec_severeRecovery_field hj, nofun, fun _ => ⟨rfl, fun hn => ?_, fun hs hq => ⟨Collector.src_recover_self i.isLt hs hq, ?_⟩⟩⟩
    · exact State.onField_eq_self (by rw [Collector.recover_not hn])
    · exact fun j hne => Collector.src_recover_ne hne

end Machine
end Sys2Proof

/-! Proofs of the statements of 12_branch_breakers.md: events of one branch, each by its condition. -/

namespace Sys2Proof

namespace FieldDie

variable {f : FieldDie} {b : Nat}

@[simp] theorem br_raiseQ (f : FieldDie) (q src code x b : Nat) : (f.raiseQ q src code x).br b = f.br b := rfl

@[simp] theorem br_brkEvent (f : FieldDie) (b src code j : Nat) : (f.brkEvent b src code).br j = f.br j := br_vector _ _ _

theorem arisen_brkEvent (f : FieldDie) (b src code : Nat) : (f.brkEvent b src code).fcol.arisen =
    f.fcol.arisen ++ [{ tb := f.tick.tb, fine := f.tick.fine, src := qSrc (branchQuad b) src, code := code, value := b }] := by
  rw [brkEvent, vector_fcol]
  rfl

/-- A branch as opening leaves it (R308, R311). -/
def opened (state cause : Nat) (x : Branch) : Branch :=
  { x with
    state := state, cause := if x.closed then cause else x.cause, onCmd := false, pending := false, shedOrder := false, closeReq := false
    closeShed := false, reclosing := false, startPhase := false, accIn := 0 }

theorem br_openBranch (hb : b < 32) (state cause : Nat) : (f.openBranch b state cause).br b = opened state cause (f.br b) := by
  unfold openBranch
  dsimp only
  split
  next hwas => rw [br_brkEvent, br_modBr_self _ _ _ hb, opened, if_pos hwas]
  next hwas => rw [br_modBr_self _ _ _ hb, opened, if_neg hwas]

@[simp] theorem tick_openBranch (f : FieldDie) (b state cause : Nat) : (f.openBranch b state cause).tick = f.tick := by
  unfold openBranch
  dsimp only
  split
  · exact vector_tick _ _
  · rfl

/-- A branch as a gate feedback fault leaves it (R314). -/
theorem br_feedbackFault (hb : b < 32) (src code : Nat) (fb : Bool) :
    (f.feedbackFault b src code fb).br b = { opened 7 7 (f.br b) with on := false, fb := fb, cause := 7 } := by
  rw [feedbackFault, br_brkEvent, br_modBr_self _ _ _ hb, br_openBranch hb]

theorem mem_arisen_feedbackFault (f : FieldDie) (b src code : Nat) (fb : Bool) :
    ⟨f.tick.tb, f.tick.fine, qSrc (branchQuad b) src, code, b⟩ ∈ (f.feedbackFault b src code fb).fcol.arisen := by
  have htick : ∀ g, ((f.openBranch b 7 7).modBr b g).tick = f.tick := fun _ => tick_openBranch f b 7 7
  rw [feedbackFault, arisen_brkEvent, htick]
  exact List.mem_append_right _ (List.mem_singleton_self _)

/-- A branch as its fast trip leaves it (R301, R302, 14 R367). -/
def fastTripped (f : FieldDie) (x : Branch) : Branch :=
  { x with latch := true, cmp := true, on := false, ownTripAt := if f.follows ∧ ¬ x.latch then some f.tick.tb else x.ownTripAt }

end FieldDie

namespace Machine

/-- An event of a branch that waits for a condition: on a branch that the part has, where the condition holds, and everywhere else. -/
theorem State.onBranch_due {b : Nat} {p : FieldDie → Prop} [DecidablePred p] {g : FieldDie → FieldDie} {s : State}
    (h : b < s.chip.variant.branches ∧ p s.chip.field) : s.onBranch b (fun f => if p f then g f else f) = s.onField g := by
  rw [State.onBranch_present h.1, State.onField, State.onField, if_pos h.2]

theorem State.onBranch_not {b : Nat} {p : FieldDie → Prop} [DecidablePred p] {g : FieldDie → FieldDie} {s : State}
    (h : ¬ (b < s.chip.variant.branches ∧ p s.chip.field)) : s.onBranch b (fun f => if p f then g f else f) = s := by
  by_cases hb : b < s.chip.variant.branches
  · rw [State.onBranch_present hb]
    exact State.onField_eq_self (if_neg fun hp => h ⟨hb, hp⟩)
  · exact State.onBranch_absent (Nat.not_lt.mp hb)

theorem branch_lt {b : Nat} {s : State} (h : b < s.chip.variant.branches) : b < 32 := Nat.lt_of_lt_of_le h (Variant.branches_le _)

section BranchEvents

variable {b : Fin 32} {s : State}

/-- The fast trip of an armed branch (R301, R302). -/
theorem exec_fastTrip_due (h : b.val < s.chip.variant.branches ∧ (s.chip.field.br b).armed = true) :
    exec (.fastTrip b) s = .next (s.onField fun f => f.modBr b f.fastTripped) :=
  congrArg Host.Outcome.next (State.onBranch_due h)

theorem exec_fastTrip_not (h : ¬ (b.val < s.chip.variant.branches ∧ (s.chip.field.br b).armed = true)) : exec (.fastTrip b) s = .next s :=
  congrArg Host.Outcome.next (State.onBranch_not h)

/-- The tick in which an armed branch is tested (R303). -/
def ftTestDue (f : FieldDie) (b : Nat) : Prop :=
  (f.br b).armed = true ∧ ((f.br b).testDue = true ∨ f.tick.tb % 40000 = 1000 * b + 500)

theorem exec_ftSelftest_due {pass : Bool} (h : b.val < s.chip.variant.branches ∧ ftTestDue s.chip.field b) :
    exec (.ftSelftest b pass) s = .next (s.onField fun f =>
      let g := f.modBr b fun x => { x with testPass := pass, testDue := false }
      if pass then g else g.raiseQ (branchQuad b) 30 1 b) := by
  obtain ⟨hb, harmed, hdue⟩ := h
  refine congrArg Host.Outcome.next ((State.onBranch_present hb).trans ?_)
  simp only [State.onField, harmed, not_true_eq_false, false_or, not_not_intro hdue, if_false]

theorem exec_ftSelftest_not {pass : Bool} (h : ¬ (b.val < s.chip.variant.branches ∧ ftTestDue s.chip.field b)) :
    exec (.ftSelftest b pass) s = .next s := by
  refine congrArg Host.Outcome.next ?_
  by_cases hb : b.val < s.chip.variant.branches
  · rw [State.onBranch_present hb]
    refine State.onField_eq_self (if_pos ?_)
    have hn : ¬ ftTestDue s.chip.field b := fun hdue => h ⟨hb, hdue⟩
    unfold ftTestDue at hn
    tauto
  · exact State.onBranch_absent (Nat.not_lt.mp hb)

/-- The inrush phase of a closing branch has ended (R310). -/
def inrushOver (f : FieldDie) (b : Nat) : Prop := (f.br b).state = 3 ∧ (f.br b).startTick + (f.br b).cfg.inrushT * 40 ≤ f.tick.tb

theorem exec_inrushEnd_due (h : b.val < s.chip.variant.branches ∧ inrushOver s.chip.field b) :
    exec (.inrushEnd b) s = .next (s.onField fun f =>
      (f.modBr b fun x => { x with state := 4, accIn := 0, closedAt := f.tick.tb }).brkEvent b 25 1) :=
  congrArg Host.Outcome.next (State.onBranch_due h)

theorem exec_inrushEnd_not (h : ¬ (b.val < s.chip.variant.branches ∧ inrushOver s.chip.field b)) : exec (.inrushEnd b) s = .next s :=
  congrArg Host.Outcome.next (State.onBranch_not h)

/-- The reclose delay of a tripped branch has passed, and nothing bars its close (R312, R313). -/
def recloseDue (f : FieldDie) (b : Nat) : Prop :=
  (f.br b).state = 5 ∧ (f.br b).reclosing = true ∧ (f.br b).tripAt + (f.br b).cfg.reDly * 40 ≤ f.tick.tb ∧ ¬ f.closeBarred b = true

theorem exec_recloseDelayEnd_due (h : b.val < s.chip.variant.branches ∧ recloseDue s.chip.field b) :
    exec (.recloseDelayEnd b) s = .next (s.onField fun f => (f.requestClose b).modBr b fun x => { x with recl := min 3 (x.recl + 1) }) :=
  congrArg Host.Outcome.next (State.onBranch_due h)

theorem exec_recloseDelayEnd_not (h : ¬ (b.val < s.chip.variant.branches ∧ recloseDue s.chip.field b)) :
    exec (.recloseDelayEnd b) s = .next s :=
  congrArg Host.Outcome.next (State.onBranch_not h)

/-- A closed branch has stayed closed for its reclose reset (R312). -/
def recloseResetDue (f : FieldDie) (b : Nat) : Prop := (f.br b).state = 4 ∧ (f.br b).closedAt + (f.br b).cfg.reReset * 40000 ≤ f.tick.tb

theorem exec_recloseResetEnd_due (h : b.val < s.chip.variant.branches ∧ recloseResetDue s.chip.field b) :
    exec (.recloseResetEnd b) s = .next (s.onField fun f => f.modBr b fun x => { x with recl := 0 }) :=
  congrArg Host.Outcome.next (State.onBranch_due h)

theorem exec_recloseResetEnd_not (h : ¬ (b.val < s.chip.variant.branches ∧ recloseResetDue s.chip.field b)) :
    exec (.recloseResetEnd b) s = .next s :=
  congrArg Host.Outcome.next (State.onBranch_not h)

/-- The four feedback faults: gate closed though commanded low, gate open though high, a closed branch lost, one stuck (R314). -/
theorem exec_gateFbFailOpen_due (h : b.val < s.chip.variant.branches ∧ (s.chip.field.br b).state ≠ 0 ∧ ¬ (s.chip.field.br b).on = true) :
    exec (.gateFbFailOpen b) s = .next (s.onField fun f => f.feedbackFault b 27 1 true) :=
  congrArg Host.Outcome.next (State.onBranch_due h)

theorem exec_gateFbFailOpen_not (h : ¬ (b.val < s.chip.variant.branches ∧ (s.chip.field.br b).state ≠ 0 ∧ ¬ (s.chip.field.br b).on = true)) :
    exec (.gateFbFailOpen b) s = .next s :=
  congrArg Host.Outcome.next (State.onBranch_not h)

theorem exec_gateFbFailClose_due (h : b.val < s.chip.variant.branches ∧ (s.chip.field.br b).state ≠ 0 ∧ (s.chip.field.br b).on = true) :
    exec (.gateFbFailClose b) s = .next (s.onField fun f => f.feedbackFault b 28 1 false) :=
  congrArg Host.Outcome.next (State.onBranch_due h)

theorem exec_gateFbFailClose_not (h : ¬ (b.val < s.chip.variant.branches ∧ (s.chip.field.br b).state ≠ 0 ∧ (s.chip.field.br b).on = true)) :
    exec (.gateFbFailClose b) s = .next s :=
  congrArg Host.Outcome.next (State.onBranch_not h)

theorem exec_gateFbLost_due (h : b.val < s.chip.variant.branches ∧ (s.chip.field.br b).closed = true) :
    exec (.gateFbLost b) s = .next (s.onField fun f => f.feedbackFault b 28 2 false) :=
  congrArg Host.Outcome.next (State.onBranch_due h)

theorem exec_gateFbLost_not (h : ¬ (b.val < s.chip.variant.branches ∧ (s.chip.field.br b).closed = true)) : exec (.gateFbLost b) s = .next s :=
  congrArg Host.Outcome.next (State.onBranch_not h)

theorem exec_gateFbStuck_due (h : b.val < s.chip.variant.branches ∧ (s.chip.field.br b).state ≠ 0 ∧ ¬ (s.chip.field.br b).closed = true) :
    exec (.gateFbStuck b) s = .next (s.onField fun f => f.feedbackFault b 28 3 true) :=
  congrArg Host.Outcome.next (State.onBranch_due h)

theorem exec_gateFbStuck_not (h : ¬ (b.val < s.chip.variant.branches ∧ (s.chip.field.br b).state ≠ 0 ∧ ¬ (s.chip.field.br b).closed = true)) :
    exec (.gateFbStuck b) s = .next s :=
  congrArg Host.Outcome.next (State.onBranch_not h)

theorem exec_brkOpenCurrent_due (h : b.val < s.chip.variant.branches ∧ (s.chip.field.br b).openRun = 40) :
    exec (.brkOpenCurrent b) s = .next (s.onField fun f => (f.modBr b fun x => { x with openRun := 41 }).raiseQ (branchQuad b) 29 1 b) :=
  congrArg Host.Outcome.next (State.onBranch_due h)

theorem exec_brkOpenCurrent_not (h : ¬ (b.val < s.chip.variant.branches ∧ (s.chip.field.br b).openRun = 40)) :
    exec (.brkOpenCurrent b) s = .next s :=
  congrArg Host.Outcome.next (State.onBranch_not h)

end BranchEvents

/-- A point of the staged bank as a write of one of its values leaves it (R321). -/
theorem staged_stagePoint (f : FieldDie) {c p : Nat} (isT : Bool) (n : Nat) (hc : c < 8) (hp : p < 8) :
    ((f.stagePoint c p isT n).brk.staged.getD c (Tab.fill 8 {})).getD p {} =
      if isT then curvePt ((f.brk.staged.getD c (Tab.fill 8 {})).getD p {}).m n
      else curvePt n ((f.brk.staged.getD c (Tab.fill 8 {})).getD p {}).t := by
  rw [FieldDie.stagePoint, FieldDie.modBrk, Tab.getD_modifyNat_self _ _ _ _ hc, Tab.getD_modifyNat_self _ _ _ _ hp]

/-- Settles O34: each event of a branch acts where its condition holds and nowhere else; the feedback faults exclude each other by the state of
BRK_ON and of the branch. -/
theorem breakersTripRecloseAndLockOut : Obligations.BreakersTripRecloseAndLockOut := by
  refine ⟨?trip, ?selftest, ?inrush, ?reclose, ?reset, ?gate, ?closed, ?current, ?pfw, ?curve⟩
  case trip =>
    intro b s
    by_cases h : b.val < s.chip.variant.branches ∧ (s.chip.field.br b).armed = true
    · refine ⟨_, exec_fastTrip_due h, rfl, fun ha => absurd h.1 (Nat.not_lt.mpr ha), rfl, fun hn => by simp [hn] at h, fun hb _ => ?_⟩
      have htrip := FieldDie.br_modBr_self s.chip.field b s.chip.field.fastTripped (branch_lt hb)
      exact ⟨congrArg Branch.latch htrip, congrArg Branch.cmp htrip, congrArg Branch.on htrip, (congrArg Branch.state htrip).trans rfl,
        fun j hj => FieldDie.br_modBr_ne _ _ _ _ hj⟩
    · exact ⟨s, exec_fastTrip_not h, rfl, fun _ => rfl, rfl, fun _ => rfl, fun hb ha => absurd ⟨hb, ha⟩ h⟩
  case selftest =>
    intro b p s
    by_cases h : b.val < s.chip.variant.branches ∧ ftTestDue s.chip.field b
    · obtain ⟨hb, harmed, hdue⟩ := id h
      refine ⟨_, exec_ftSelftest_due h, rfl, fun ha => absurd hb (Nat.not_lt.mpr ha), fun hn => ?_, fun _ _ _ => ?_⟩
      · rcases hn with hn | ⟨hn, hne⟩
        · simp [hn] at harmed
        · simp [hn, hne] at hdue
      · have htested := FieldDie.br_modBr_self s.chip.field b (fun x => { x with testPass := p, testDue := false }) (branch_lt hb)
        cases p with
        | true => exact ⟨htested, (List.append_nil _).symm⟩
        | false => exact ⟨htested, rfl⟩
    · exact ⟨s, exec_ftSelftest_not h, rfl, fun _ => rfl, fun _ => rfl, fun hb ha hd => absurd ⟨hb, ha, hd⟩ h⟩
  case inrush =>
    intro b s
    by_cases h : b.val < s.chip.variant.branches ∧ inrushOver s.chip.field b
    · obtain ⟨hb, h3, hover⟩ := id h
      refine ⟨_, exec_inrushEnd_due h, rfl, fun ha => absurd hb (Nat.not_lt.mpr ha), fun _ _ _ => ⟨?_, ?_, ?_⟩, fun hn => ?_⟩
      · exact (FieldDie.br_brkEvent _ _ _ _ _).trans (FieldDie.br_modBr_self _ _ _ (branch_lt hb))
      · exact FieldDie.arisen_brkEvent _ _ _ _
      · exact FieldDie.mem_vectors_vector _ 41
      · omega
    · exact ⟨s, exec_inrushEnd_not h, rfl, fun _ => rfl, fun hb h3 ht => absurd ⟨hb, h3, ht⟩ h, fun _ => rfl⟩
  case reclose =>
    intro b s
    by_cases h : b.val < s.chip.variant.branches ∧ recloseDue s.chip.field b
    · obtain ⟨hb, h5, hre, hdly, hbar⟩ := id h
      have hclosing := (FieldDie.br_modBr_self (s.chip.field.requestClose b) b (fun x => { x with recl := min 3 (x.recl + 1) }) (branch_lt hb)).trans
        (congrArg (fun x : Branch => { x with recl := min 3 (x.recl + 1) }) (FieldDie.br_modBr_self s.chip.field b _ (branch_lt hb)))
      refine ⟨_, exec_recloseDelayEnd_due h, rfl, fun ha => absurd hb (Nat.not_lt.mpr ha), fun _ _ _ _ _ => ⟨congrArg Branch.state hclosing,
        congrArg Branch.closeReq hclosing, (congrArg Branch.closeShed hclosing).trans (by simp [h5]), congrArg Branch.recl hclosing⟩, fun hn => ?_⟩
      rcases hn with hn | hn | hn
      · exact absurd h5 hn
      · simp [hn] at hre
      · exact absurd hn hbar
    · exact ⟨s, exec_recloseDelayEnd_not h, rfl, fun _ => rfl,
        fun hb h5 hre hd hbar => absurd ⟨hb, h5, hre, hd, Bool.eq_false_iff.mp hbar⟩ h, fun _ => rfl⟩
  case reset =>
    intro b s
    by_cases h : b.val < s.chip.variant.branches ∧ recloseResetDue s.chip.field b
    · exact ⟨_, exec_recloseResetEnd_due h, rfl, fun ha => absurd h.1 (Nat.not_lt.mpr ha),
        fun hb _ _ => FieldDie.br_modBr_self _ _ _ (branch_lt hb), fun hn => absurd h.2.1 hn⟩
    · exact ⟨s, exec_recloseResetEnd_not h, rfl, fun _ => rfl, fun hb h4 ht => absurd ⟨hb, h4, ht⟩ h, fun _ => rfl⟩
  case gate =>
    intro b s
    by_cases h : b.val < s.chip.variant.branches ∧ (s.chip.field.br b).state ≠ 0
    · obtain ⟨hb, h0⟩ := h
      have hfault := fun code fb => FieldDie.br_feedbackFault (f := s.chip.field) (branch_lt hb) 28 code fb
      have hfault' := FieldDie.br_feedbackFault (f := s.chip.field) (branch_lt hb) 27 1 true
      cases hon : (s.chip.field.br b).on with
      | false =>
        refine ⟨_, s, exec_gateFbFailOpen_due ⟨hb, h0, by simp [hon]⟩, exec_gateFbFailClose_not (by simp [hon]), rfl, rfl,
          fun ha => absurd hb (Nat.not_lt.mpr ha), fun hz => absurd hz h0, fun _ _ _ => ?_, fun _ _ hy => by simp at hy⟩
        exact ⟨congrArg Branch.state hfault', congrArg Branch.cause hfault', congrArg Branch.fb hfault', rfl,
          FieldDie.mem_arisen_feedbackFault _ _ _ _ _⟩
      | true =>
        refine ⟨s, _, exec_gateFbFailOpen_not (by simp [hon]), exec_gateFbFailClose_due ⟨hb, h0, hon⟩, rfl, rfl,
          fun ha => absurd hb (Nat.not_lt.mpr ha), fun hz => absurd hz h0, fun _ _ hn => by simp at hn, fun _ _ _ => ?_⟩
        exact ⟨congrArg Branch.state (hfault 1 false), congrArg Branch.on (hfault 1 false), congrArg Branch.fb (hfault 1 false), rfl,
          FieldDie.mem_arisen_feedbackFault _ _ _ _ _⟩
    · exact ⟨s, s, exec_gateFbFailOpen_not fun hd => h ⟨hd.1, hd.2.1⟩, exec_gateFbFailClose_not fun hd => h ⟨hd.1, hd.2.1⟩, rfl, rfl,
        fun _ => ⟨rfl, rfl⟩, fun _ => ⟨rfl, rfl⟩, fun hb h0 _ => absurd ⟨hb, h0⟩ h, fun hb h0 _ => absurd ⟨hb, h0⟩ h⟩
  case closed =>
    intro b s
    by_cases hb : b.val < s.chip.variant.branches
    · have habsent : ∀ {q : Prop}, s.chip.variant.branches ≤ b.val → q := fun ha => absurd hb (Nat.not_lt.mpr ha)
      have hfault := fun code fb => FieldDie.br_feedbackFault (f := s.chip.field) (branch_lt hb) 28 code fb
      cases hcl : (s.chip.field.br b).closed with
      | true =>
        refine ⟨_, s, exec_gateFbLost_due ⟨hb, hcl⟩, exec_gateFbStuck_not (by simp [hcl]), rfl, rfl, habsent, fun _ _ => ?_, fun _ hn => by simp at hn⟩
        exact ⟨congrArg Branch.state (hfault 2 false), congrArg Branch.onCmd (hfault 2 false), rfl, FieldDie.mem_arisen_feedbackFault _ _ _ _ _⟩
      | false =>
        by_cases h0 : (s.chip.field.br b).state = 0
        · exact ⟨s, s, exec_gateFbLost_not (by simp [hcl]), exec_gateFbStuck_not (by simp [h0]), rfl, rfl, habsent, fun _ hy => by simp at hy,
            fun _ _ hne => absurd h0 hne⟩
        · refine ⟨s, _, exec_gateFbLost_not (by simp [hcl]), exec_gateFbStuck_due ⟨hb, h0, by simp [hcl]⟩, rfl, rfl, habsent,
            fun _ hy => by simp at hy, fun _ _ _ => ?_⟩
          exact ⟨rfl, congrArg Branch.state (hfault 3 true), congrArg Branch.fb (hfault 3 true), FieldDie.mem_arisen_feedbackFault _ _ _ _ _⟩
    · exact ⟨s, s, exec_gateFbLost_not fun hd => hb hd.1, exec_gateFbStuck_not fun hd => hb hd.1, rfl, rfl, fun _ => ⟨rfl, rfl⟩,
        fun hy => absurd hy hb, fun hy => absurd hy hb⟩
  case current =>
    intro b s
    by_cases h : b.val < s.chip.variant.branches ∧ (s.chip.field.br b).openRun = 40
    · exact ⟨_, exec_brkOpenCurrent_due h, rfl, fun ha => absurd h.1 (Nat.not_lt.mpr ha),
        fun hb _ => ⟨FieldDie.br_modBr_self _ _ _ (branch_lt hb), rfl⟩, fun hn => absurd h.2 hn⟩
    · exact ⟨s, exec_brkOpenCurrent_not h, rfl, fun _ => rfl, fun hb hr => absurd ⟨hb, hr⟩ h, fun _ => rfl⟩
  case pfw =>
    intro g s
    refine ⟨_, rfl, rfl, rfl, fun x => List.mem_filter.trans (and_congr_right fun _ => ?_)⟩
    simp [imp_iff_not_or]
  case curve =>
    intro c p isT w s
    cases hlock : s.chip.field.brk.bseqLock with
    | true => exact ⟨s, congrArg Host.Outcome.next (State.onField_eq_self (if_pos hlock)), rfl, rfl, rfl, fun _ => rfl, nofun⟩
    | false =>
      have hwrite : exec (.curvePointWrite c p isT w) s = .next (s.onField fun f => f.stagePoint c p isT w.toNat) :=
        congrArg Host.Outcome.next (by simp only [State.onField, hlock, Bool.false_eq_true, if_false])
      refine ⟨_, hwrite, rfl, rfl, rfl, nofun, fun _ => ?_⟩
      have hpoint := staged_stagePoint s.chip.field isT w.toNat c.isLt p.isLt
      cases isT with
      | true => exact congrArg CurvePt.t hpoint
      | false => exact congrArg CurvePt.m hpoint

end Machine
end Sys2Proof

/-! The commands of group 0x50: what a command of the field leaves apart from its completion, and then each command by its outcome. -/

namespace Sys2Proof
namespace Machine

section FieldCommands

variable {c : FCmd} {r : Request} {s : State} {g : FieldDie} {st : Status} {x : Nat}

/-- A field-executed command that answers at once leaves its completion, and all that is not of the barrier as its meaning
leaves it. -/
theorem State.field_done (h : fieldTakes c r s) (hop : c.op s.chip.variant s.chip.field (arriving c r s) = (g, some (st, x)))
    (hc : g.bar.completions = s.chip.field.bar.completions) (ht : g.twin = s.chip.field.twin) :
    fieldAnswers s (s.field c r) r st x ∧
      ∀ {α : Type} (p : FieldDie → α), (∀ f b, p { f with bar := b } = p f) → p (s.field c r).chip.field = p g := by
  refine ⟨(State.field_answers h hop hc ht).1, fun p hp => ?_⟩
  rw [State.field_completes h hop, fieldDone_field h, hp]

end FieldCommands

section BranchCommands

variable {r : Request} {s : State}

theorem setBranchC_outside (hft : ftOk (ftCode (r.u32 4) (s.chip.field.shunt (r.unit - 96)).scale) = false) :
    setBranchC.op s.chip.variant s.chip.field (arriving setBranchC r s) = (s.chip.field, some (.badParam, 0)) :=
  if_pos (.inl (Bool.eq_false_iff.mp hft))

/-- A branch as SET_BRANCH configures it, with the SCALE of its channel (R299, R300). -/
def branchSet (r : Request) (scale : Nat) (x : Branch) : Branch :=
  { x with
    cfg := { x.cfg with
      configured := true, iR := r.u32 0, invR := 2 ^ 40 / r.u32 0, ftI := r.u32 4, ftInI := r.u32 8, ftCode := ftCode (r.u32 4) scale
      ftCodeIn := ftCode (r.u32 8) scale, inrushT := r.u32 12, rank := r.par 19 1, curve := r.par 18 1, inCurve := r.par 17 1
      filt := r.par 16 1 / 16, startClosed := r.par 16 1 % 2 == 1, cool := r.u32 20, reReset := r.par 26 2, reN := r.par 24 1
      reDly := r.u32 28 }
    armed := true, testDue := true, state := if x.state = 0 then 1 else x.state }

theorem setBranchC_inside (hft : ftOk (ftCode (r.u32 4) (s.chip.field.shunt (r.unit - 96)).scale) = true)
    (hftIn : ftOk (ftCode (r.u32 8) (s.chip.field.shunt (r.unit - 96)).scale) = true)
    (hcurve : curveOk (s.chip.field.brk.curves.getD (r.par 18 1) (Tab.fill 8 {})) = true)
    (hcurveIn : curveOk (s.chip.field.brk.curves.getD (r.par 17 1) (Tab.fill 8 {})) = true) :
    setBranchC.op s.chip.variant s.chip.field (arriving setBranchC r s) =
      (s.chip.field.modBr (r.unit - 96) (branchSet r (s.chip.field.shunt (r.unit - 96)).scale), some (.ok, 0)) := by
  refine if_neg ?_
  rintro (hn | hn | hn | hn)
  · exact hn hft
  · exact hn hftIn
  · exact absurd hcurve (Bool.eq_false_iff.mp (Bool.not_eq_true' _ ▸ hn))
  · exact absurd hcurveIn (Bool.eq_false_iff.mp (Bool.not_eq_true' _ ▸ hn))

/-- The field with the point of a SET_CURVE_POINT staged (R304). -/
def pointStaged (r : Request) (f : FieldDie) : FieldDie :=
  (f.stagePoint (r.u32 0) (r.u32 4) false (r.u32 8)).stagePoint (r.u32 0) (r.u32 4) true (r.u32 12)

theorem setCurvePointC_stages (h0 : r.u32 16 = 0) :
    setCurvePointC.op s.chip.variant s.chip.field (arriving setCurvePointC r s) = (pointStaged r s.chip.field, some (.ok, 0)) :=
  if_pos h0

theorem setCurvePointC_commits (h1 : r.u32 16 = 1) (hok : bankOk (pointStaged r s.chip.field).brk.staged = true) :
    setCurvePointC.op s.chip.variant s.chip.field (arriving setCurvePointC r s) =
      ((pointStaged r s.chip.field).modBrk fun k => { k with curves := k.staged, bank := !k.bank }, some (.ok, 0)) :=
  (if_neg (ne_of_eq_of_ne h1 Nat.one_ne_zero)).trans (if_pos hok)

theorem setCurvePointC_fails (h1 : r.u32 16 = 1) (hbad : ¬ bankOk (pointStaged r s.chip.field).brk.staged = true) :
    setCurvePointC.op s.chip.variant s.chip.field (arriving setCurvePointC r s) = (s.chip.field, some (.badParam, 0)) :=
  (if_neg (ne_of_eq_of_ne h1 Nat.one_ne_zero)).trans (if_neg hbad)

theorem point_pointStaged (f : FieldDie) (hc : r.u32 0 < 8) (hp : r.u32 4 < 8) :
    (((pointStaged r f).brk.staged.getD (r.u32 0) (Tab.fill 8 {})).getD (r.u32 4) {}).m = r.u32 8 ∧
    (((pointStaged r f).brk.staged.getD (r.u32 0) (Tab.fill 8 {})).getD (r.u32 4) {}).t = r.u32 12 := by
  rw [pointStaged, staged_stagePoint _ _ _ hc hp, staged_stagePoint _ _ _ hc hp]
  exact ⟨rfl, rfl⟩

/-- The point that SET_CURVE_POINT names exists. -/
theorem point_of_fieldTakes (h : fieldTakes setCurvePointC r s) : r.u32 0 < 8 ∧ r.u32 4 < 8 := by
  obtain ⟨_, _, _, _, _, _, hadm, _⟩ := h
  have hchk : need (r.u32 0 < 8 && r.u32 4 < 8 && 0x10000 ≤ r.u32 8 && r.u32 8 ≤ 1000 * 0x10000 && 1 ≤ r.u32 12 && r.u32 16 ≤ 1) = none :=
    chk_of_admitF hadm
  rw [need_eq_none] at hchk
  simp only [Bool.and_eq_true, decide_eq_true_eq] at hchk
  tauto

/-- CLOSE_BRANCH goes by the branch's state (R308, R217). -/
theorem closeBranchC_op {st : Nat} (hst : (s.chip.field.br (r.unit - 96)).state = st) :
    closeBranchC.op s.chip.variant s.chip.field (arriving closeBranchC r s) =
      if st = 0 ∨ st = 7 then (s.chip.field, some (.wrongMode, 0))
      else if 2 ≤ st ∧ st ≤ 4 then (s.chip.field, some (.ok, 0))
      else if st = 6 ∧ s.chip.field.cap.capped then (s.chip.field, some (.busy, 0))
      else (s.chip.field.requestClose (r.unit - 96), some (.ok, 0)) := hst ▸ rfl

theorem closeBranchC_locked (hst : (s.chip.field.br (r.unit - 96)).state = 0 ∨ (s.chip.field.br (r.unit - 96)).state = 7) :
    closeBranchC.op s.chip.variant s.chip.field (arriving closeBranchC r s) = (s.chip.field, some (.wrongMode, 0)) := by
  rw [closeBranchC_op rfl, if_pos hst]

theorem closeBranchC_closing (h2 : 2 ≤ (s.chip.field.br (r.unit - 96)).state) (h4 : (s.chip.field.br (r.unit - 96)).state ≤ 4) :
    closeBranchC.op s.chip.variant s.chip.field (arriving closeBranchC r s) = (s.chip.field, some (.ok, 0)) := by
  rw [closeBranchC_op rfl, if_neg (by omega), if_pos ⟨h2, h4⟩]

theorem closeBranchC_capped (h6 : (s.chip.field.br (r.unit - 96)).state = 6) (hcap : s.chip.field.cap.capped = true) :
    closeBranchC.op s.chip.variant s.chip.field (arriving closeBranchC r s) = (s.chip.field, some (.busy, 0)) := by
  simp [closeBranchC_op h6, hcap]

theorem closeBranchC_requests (hst : (s.chip.field.br (r.unit - 96)).state = 1 ∨ (s.chip.field.br (r.unit - 96)).state = 5 ∨
    ((s.chip.field.br (r.unit - 96)).state = 6 ∧ s.chip.field.cap.capped = false)) :
    closeBranchC.op s.chip.variant s.chip.field (arriving closeBranchC r s) = (s.chip.field.requestClose (r.unit - 96), some (.ok, 0)) := by
  rcases hst with h1 | h5 | ⟨h6, hcap⟩
  · simp [closeBranchC_op h1]
  · simp [closeBranchC_op h5]
  · simp [closeBranchC_op h6, hcap]

/-- OPEN_BRANCH by the branch's state (R322). -/
theorem openBranchC_unused (h0 : (s.chip.field.br (r.unit - 96)).state = 0) :
    openBranchC.op s.chip.variant s.chip.field (arriving openBranchC r s) = (s.chip.field, some (.wrongMode, 0)) :=
  if_pos h0

theorem openBranchC_open (hst : (s.chip.field.br (r.unit - 96)).state = 1 ∨ (s.chip.field.br (r.unit - 96)).state = 7) :
    openBranchC.op s.chip.variant s.chip.field (arriving openBranchC r s) = (s.chip.field, some (.ok, 0)) := by
  have h0 : (s.chip.field.br (r.unit - 96)).state ≠ 0 := by omega
  exact (if_neg h0).trans (if_pos hst)

/-- The field as OPEN_BRANCH leaves it, with the tick of the command on a branch that it opened (R311, R322). -/
def openedByCommand (f : FieldDie) (b : Nat) : FieldDie :=
  (f.openBranch b 1 1).modBr b fun x => { x with cmdOpen := if (f.br b).closed then some (f.tick.tb, (f.br b).state == 3) else none }

theorem openBranchC_opens (h0 : (s.chip.field.br (r.unit - 96)).state ≠ 0) (h1 : (s.chip.field.br (r.unit - 96)).state ≠ 1)
    (h7 : (s.chip.field.br (r.unit - 96)).state ≠ 7) :
    openBranchC.op s.chip.variant s.chip.field (arriving openBranchC r s) = (openedByCommand s.chip.field (r.unit - 96), some (.ok, 0)) :=
  (if_neg h0).trans (if_neg (not_or_intro h1 h7))

end BranchCommands

end Machine

namespace FieldDie

variable {f : FieldDie} {b : Nat}

theorem completions_openBranch (f : FieldDie) (b state cause : Nat) : (f.openBranch b state cause).bar.completions = f.bar.completions := by
  unfold openBranch
  dsimp only
  split
  · exact vector_completions _ _
  · rfl

theorem twin_openBranch (f : FieldDie) (b state cause : Nat) : (f.openBranch b state cause).twin = f.twin := by
  unfold openBranch
  dsimp only
  split
  · exact vector_twin _ _
  · rfl

theorem arisen_openBranch {state cause : Nat} (h : (f.br b).closed = true) : (f.openBranch b state cause).fcol.arisen =
    f.fcol.arisen ++ [{ tb := f.tick.tb, fine := f.tick.fine, src := qSrc (branchQuad b) 25, code := 2, value := b }] := by
  unfold openBranch
  dsimp only
  rw [if_pos h]
  exact arisen_brkEvent _ _ _ _

end FieldDie

namespace Machine

section

variable {r : Request} {s : State} {b : Nat}

theorem br_openedByCommand (f : FieldDie) (hb : b < 32) : ((openedByCommand f b).br b) =
    { FieldDie.opened 1 1 (f.br b) with cmdOpen := if (f.br b).closed then some (f.tick.tb, (f.br b).state == 3) else none } := by
  rw [openedByCommand, FieldDie.br_modBr_self _ _ _ hb, FieldDie.br_openBranch hb]

/-- OPEN_BRANCH of a branch that it opens: the command answers, and the branch is open. -/
theorem field_openBranch (h : fieldTakes openBranchC r s) (h0 : (s.chip.field.br (r.unit - 96)).state ≠ 0)
    (h1 : (s.chip.field.br (r.unit - 96)).state ≠ 1) (h7 : (s.chip.field.br (r.unit - 96)).state ≠ 7) :
    fieldAnswers s (s.field openBranchC r) r .ok 0 ∧
      (s.field openBranchC r).chip.field.br (r.unit - 96) = (openedByCommand s.chip.field (r.unit - 96)).br (r.unit - 96) ∧
      (s.field openBranchC r).chip.field.fcol = (openedByCommand s.chip.field (r.unit - 96)).fcol := by
  obtain ⟨hans, hrest⟩ := State.field_done h (openBranchC_opens h0 h1 h7) (FieldDie.completions_openBranch _ _ _ _) (FieldDie.twin_openBranch _ _ _ _)
  exact ⟨hans, FieldDie.br_of_branch (hrest FieldDie.branch fun _ _ => rfl) _, hrest FieldDie.fcol fun _ _ => rfl⟩

/-- The tests that TEST_PFW starts: one for each group that it names (R318). -/
theorem mem_tests_testPfwC {g : Nat} (hg : g < 8) (hbit : (r.u32 0).testBit g = true) :
    (⟨g, s.chip.field.tick.tb + r.u32 4 * 40⟩ : TestPfw) ∈
      (testPfwC.op s.chip.variant s.chip.field (arriving testPfwC r s)).1.brk.tests :=
  List.mem_append_right _ (List.mem_map.mpr ⟨g, List.mem_filter.mpr ⟨List.mem_range.mpr hg, hbit⟩, rfl⟩)

end

/-- Settles O35: each command by the state of its branch; what it refuses leaves the branches, and TEST_PFW's completion is still to come. -/
theorem branchCommandsSetOpenAndClose : Obligations.BranchCommandsSetOpenAndClose := by
  refine ⟨?set, ?point, ?close, ?opens, ?clear, ?test, ?getBranch, ?getAcc⟩
  case set =>
    intro r s h
    have hb : r.unit - 96 < 32 := branch_lt_of_fieldTakes rfl h
    refine ⟨s.field setBranchC r, rfl, fun hft => ?_, fun hft hftIn hcurve hcurveIn => ?_⟩
    · obtain ⟨hans, hrest⟩ := State.field_done h (setBranchC_outside hft) rfl rfl
      exact ⟨hans, hrest FieldDie.branch fun _ _ => rfl⟩
    · obtain ⟨hans, hrest⟩ := State.field_done h (setBranchC_inside hft hftIn hcurve hcurveIn) rfl rfl
      have hset := (FieldDie.br_of_branch (hrest FieldDie.branch fun _ _ => rfl) (r.unit - 96)).trans (FieldDie.br_modBr_self _ _ _ hb)
      exact ⟨hans, congrArg Branch.armed hset, congrArg (·.cfg.configured) hset, congrArg (·.cfg.iR) hset, congrArg (·.cfg.inrushT) hset,
        congrArg (·.cfg.ftCode) hset, congrArg Branch.state hset⟩
  case point =>
    intro r s h
    refine ⟨s.field setCurvePointC r, rfl, fun h0 => ?_, fun h1 => ?_⟩
    · obtain ⟨hans, hrest⟩ := State.field_done h (setCurvePointC_stages h0) rfl rfl
      obtain ⟨hc, hp⟩ := point_of_fieldTakes h
      have hbrk : (s.field setCurvePointC r).chip.field.brk = (pointStaged r s.chip.field).brk := hrest FieldDie.brk fun _ _ => rfl
      rw [hbrk]
      exact ⟨hans, rfl, point_pointStaged _ hc hp⟩
    · by_cases hok : bankOk (pointStaged r s.chip.field).brk.staged = true
      · obtain ⟨hans, hrest⟩ := State.field_done h (setCurvePointC_commits h1 hok) rfl rfl
        have hbrk := hrest FieldDie.brk fun _ _ => rfl
        exact .inr ⟨(congrArg Brk.curves hbrk).trans (congrArg Brk.staged hbrk).symm, congrArg Brk.bank hbrk, hans⟩
      · obtain ⟨hans, hrest⟩ := State.field_done h (setCurvePointC_fails h1 hok) rfl rfl
        exact .inl ⟨hrest FieldDie.brk fun _ _ => rfl, hans⟩
  case close =>
    intro r s h
    have hb : r.unit - 96 < 32 := branch_lt_of_fieldTakes rfl h
    refine ⟨s.field closeBranchC r, rfl, fun hst => ?_, fun h2 h4 => ?_, fun h6 hcap => ?_, fun hst => ?_⟩
    · obtain ⟨hans, hrest⟩ := State.field_done h (closeBranchC_locked hst) rfl rfl
      exact ⟨hans, hrest FieldDie.branch fun _ _ => rfl⟩
    · obtain ⟨hans, hrest⟩ := State.field_done h (closeBranchC_closing h2 h4) rfl rfl
      exact ⟨hans, hrest FieldDie.branch fun _ _ => rfl⟩
    · obtain ⟨hans, hrest⟩ := State.field_done h (closeBranchC_capped h6 hcap) rfl rfl
      exact ⟨hans, hrest FieldDie.branch fun _ _ => rfl⟩
    · obtain ⟨hans, hrest⟩ := State.field_done h (closeBranchC_requests hst) rfl rfl
      have hreq := (FieldDie.br_of_branch (hrest FieldDie.branch fun _ _ => rfl) (r.unit - 96)).trans (FieldDie.br_modBr_self _ _ _ hb)
      exact ⟨hans, congrArg Branch.state hreq, congrArg Branch.closeReq hreq⟩
  case opens =>
    intro r s h
    have hb : r.unit - 96 < 32 := branch_lt_of_fieldTakes rfl h
    have hopened := br_openedByCommand s.chip.field hb
    refine ⟨s.field openBranchC r, rfl, fun h0 => ?_, fun hst => ?_, fun hst => ?_, fun hcl => ?_⟩
    · obtain ⟨hans, hrest⟩ := State.field_done h (openBranchC_unused h0) rfl rfl
      exact ⟨hans, hrest FieldDie.branch fun _ _ => rfl⟩
    · obtain ⟨hans, hrest⟩ := State.field_done h (openBranchC_open hst) rfl rfl
      exact ⟨hans, hrest FieldDie.branch fun _ _ => rfl⟩
    · obtain ⟨hans, hbr, _⟩ := field_openBranch h (by omega) (by omega) (by omega)
      rw [hbr, hopened]
      exact ⟨hans, rfl, rfl⟩
    · have hst : (s.chip.field.br (r.unit - 96)).state = 3 ∨ (s.chip.field.br (r.unit - 96)).state = 4 := by simpa [Branch.closed] using hcl
      obtain ⟨hans, hbr, hfcol⟩ := field_openBranch h (by omega) (by omega) (by omega)
      rw [hbr, hopened, hfcol]
      exact ⟨hans, rfl, rfl, if_pos hcl, FieldDie.arisen_openBranch hcl⟩
  case clear =>
    intro r s h
    have hb : r.unit - 96 < 32 := branch_lt_of_fieldTakes rfl h
    refine ⟨s.field clearLockoutC r, rfl, fun hn => ?_, fun h7 => ?_⟩
    · obtain ⟨hans, hrest⟩ := State.field_done h (if_pos hn) rfl rfl
      exact ⟨hans, hrest FieldDie.branch fun _ _ => rfl⟩
    · obtain ⟨hans, hrest⟩ := State.field_done h (if_neg (not_not_intro h7)) rfl rfl
      exact ⟨hans, (FieldDie.br_of_branch (hrest FieldDie.branch fun _ _ => rfl) (r.unit - 96)).trans (FieldDie.br_modBr_self _ _ _ hb)⟩
  case test =>
    intro r s h
    have hpends := (State.field_pends h rfl).1
    refine ⟨_, rfl, State.field_waits h rfl rfl, congrArg (·.brk.testReq) hpends, fun g hg hbit => ?_⟩
    rw [hpends]
    exact ⟨_, mem_tests_testPfwC hg hbit, rfl, rfl⟩
  case getBranch =>
    intro r s h
    rw [← result2_eq]
    exact ⟨_, rfl, State.field_reads h rfl⟩
  case getAcc => exact fun r s h => ⟨_, rfl, State.field_reads h rfl⟩

end Machine
end Sys2Proof

/-! Proofs of the statements of 11_insertion_and_the_march.md: each event of the March by its condition. -/

namespace Sys2Proof

namespace FieldDie

variable {v : Variant} {f : FieldDie} {k b : Nat}

theorem mem_waitingBranches (h : b ∈ f.waitingBranches v) : b < v.branches := by
  have hmem : b ∈ branches v := List.mem_of_mem_filter h
  simpa [branches] using hmem

/-- What waits in the March is a slot or a branch that the part has (R289). -/
theorem unit_of_mem_marchList {x u : Nat} (h : (x, u) ∈ f.marchList v) : u < v.slots ∨ (96 ≤ u ∧ u - 96 < v.branches) := by
  simp only [marchList, List.mem_mergeSort, List.mem_append, List.mem_map, Prod.mk.injEq] at h
  rcases h with ⟨k, hk, _, rfl⟩ | ⟨b, hb, _, rfl⟩
  · have hmem : k ∈ FieldDie.slots v := List.mem_of_mem_filter hk
    exact .inl (by simpa [FieldDie.slots] using hmem)
  · have hlt := mem_waitingBranches hb
    exact .inr ⟨by omega, by omega⟩

/-- A March start of a slot and of a branch (R283, R289). -/
theorem marchStart_slot (hk : k < 96) : f.marchStart k =
    (f.modSl k fun s => { s with ctx := { s.ctx with run := true }, ins := { s.ins with state := 3, startTick := f.tick.tb, startPhase := false } }).modMarch
      fun m => { m with
        nextOk := f.tick.tb + 40 * max f.march.spacing (f.sl k).sess.softstart, lastUnit := k, starts := (m.starts + 1) % 256
        startEdge := some f.tick.tb } := by
  simp only [marchStart, hk, if_true]

theorem marchStart_branch (hk : 96 ≤ k) : f.marchStart k =
    (f.startBranch (k - 96)).modMarch fun m => { m with
      nextOk := f.tick.tb + 40 * f.march.brSpacing, lastUnit := k, starts := (m.starts + 1) % 256, startEdge := some f.tick.tb } := by
  simp only [marchStart, Nat.not_lt.mpr hk, if_false]

/-- A slot of an empty session as the broadcast leaves it (R296). -/
def broadcastSlot (s : Slot) : Slot :=
  if s.sess.state = 0 ∧ ¬ s.port.present then
    { s with port := s.port.enqueue { type := 4, once := true, epoch := s.sess.epoch }, sess := { s.sess with bcast := true } }
  else s

/-- The broadcast to slot `k`. -/
def broadcastTo (f : FieldDie) (k : Nat) : FieldDie :=
  if (f.sl k).sess.state = 0 ∧ ¬ (f.sl k).port.present then
    (f.send k { type := 4, once := true }).modSess k fun x => { x with bcast := true }
  else f

theorem sl_broadcastTo_self (hk : k < 96) : (f.broadcastTo k).sl k = broadcastSlot (f.sl k) := by
  unfold broadcastTo broadcastSlot
  split
  · rw [sl_modSess_self _ _ hk, sl_send_self _ _ hk]
  · rfl

theorem sl_broadcastTo_ne {j : Nat} (h : k ≠ j) : (f.broadcastTo j).sl k = f.sl k := by
  have haround : (f.broadcastTo j).around j = f.around j := by
    unfold broadcastTo
    split
    · rw [around_modSess, around_send]
    · rfl
  exact (others_of_around haround).1 k h

/-- The broadcast reaches each slot once. -/
theorem sl_foldl_broadcastTo (hk : k < v.slots) : (((FieldDie.slots v).foldl broadcastTo f).sl k) = broadcastSlot (f.sl k) :=
  foldl_at (view := fun f : FieldDie => f.sl k) (g := broadcastSlot) List.nodup_range (List.mem_range.mpr hk) (fun _ _ hne => sl_broadcastTo_ne hne.symm)
    fun _ => sl_broadcastTo_self (Nat.lt_of_lt_of_le hk (Variant.slots_le v))

theorem march_foldl_broadcastTo (l : List Nat) : (l.foldl broadcastTo f).march = f.march :=
  foldl_keeps FieldDie.march (fun g j => by unfold broadcastTo; split <;> rfl) l f

end FieldDie

namespace Machine

section SlotEvents

/-- An event of a slot that waits for a condition: on a slot that the part has, where the condition holds, and everywhere else. -/
theorem State.onSlot_due {k : Nat} {p : FieldDie → Prop} [DecidablePred p] {g : FieldDie → FieldDie} {s : State}
    (h : k < s.chip.variant.slots ∧ p s.chip.field) : s.onSlot k (fun f => if p f then g f else f) = s.onField g := by
  rw [State.onSlot_present h.1, State.onField, State.onField, if_pos h.2]

theorem State.onSlot_not {k : Nat} {p : FieldDie → Prop} [DecidablePred p] {g : FieldDie → FieldDie} {s : State}
    (h : ¬ (k < s.chip.variant.slots ∧ p s.chip.field)) : s.onSlot k (fun f => if p f then g f else f) = s := by
  by_cases hk : k < s.chip.variant.slots
  · exact State.onSlot_eq_self (if_neg fun hp => h ⟨hk, hp⟩)
  · exact State.onSlot_absent (Nat.not_lt.mp hk)

/-- An event of the field that waits for a condition. -/
theorem State.onField_due {p : FieldDie → Prop} [DecidablePred p] {g h : FieldDie → FieldDie} {s : State} (hp : p s.chip.field) :
    s.onField (fun f => if p f then g f else h f) = s.onField g := by
  rw [State.onField, State.onField, if_pos hp]

theorem State.onField_else {p : FieldDie → Prop} [DecidablePred p] {g h : FieldDie → FieldDie} {s : State} (hp : ¬ p s.chip.field) :
    s.onField (fun f => if p f then g f else h f) = s.onField h := by
  rw [State.onField, State.onField, if_neg hp]

theorem State.onField_not {p : FieldDie → Prop} [DecidablePred p] {g : FieldDie → FieldDie} {s : State} (hp : ¬ p s.chip.field) :
    s.onField (fun f => if p f then g f else f) = s := State.onField_else hp

end SlotEvents

section MarchEvents

variable {k : Fin 96} {b : Fin 32} {s : State}

/-- A unit in QUALIFYING that meets R286. -/
def qualifies (f : FieldDie) (k : Nat) : Prop := (f.sl k).ins.state = 1 ∧ f.meetsR286 k = true

theorem exec_qualified_due (h : k.val < s.chip.variant.slots ∧ qualifies s.chip.field k) :
    exec (.qualified k) s = .next (s.onField fun f => f.modSl k fun x => { x with ins := { x.ins with state := 2 } }) :=
  congrArg Host.Outcome.next (State.onSlot_due h)

theorem exec_qualified_not (h : ¬ (k.val < s.chip.variant.slots ∧ qualifies s.chip.field k)) : exec (.qualified k) s = .next s :=
  congrArg Host.Outcome.next (State.onSlot_not h)

/-- A branch that waits, with the window held for INS_BR (R287). -/
def branchWaited (f : FieldDie) (b : Nat) : Prop := (f.br b).state = 2 ∧ 400 * f.march.insBr ≤ (f.br b).winRun

theorem exec_branchQualified_due (h : b.val < s.chip.variant.branches ∧ branchWaited s.chip.field b) :
    exec (.branchQualified b) s = .next (s.onField fun f => f.modBr b fun x => { x with winRun := 400 * f.march.insBr + 1 }) :=
  congrArg Host.Outcome.next (State.onBranch_due h)

theorem exec_branchQualified_not (h : ¬ (b.val < s.chip.variant.branches ∧ branchWaited s.chip.field b)) :
    exec (.branchQualified b) s = .next s :=
  congrArg Host.Outcome.next (State.onBranch_not h)

theorem exec_busUp_due (h : 40 ≤ s.chip.field.march.busUpRun) :
    exec .busUp s = .next (s.onField fun f => f.modMarch fun m => { m with busUp := true }) :=
  congrArg Host.Outcome.next (State.onField_due h)

theorem exec_busUp_not (h : ¬ 40 ≤ s.chip.field.march.busUpRun) : exec .busUp s = .next s :=
  congrArg Host.Outcome.next (State.onField_not h)

/-- What holds a March start back (R289, R290). -/
abbrev marchHeld (v : Variant) (f : FieldDie) : Prop :=
  f.marchPaused = true ∨ (f.march.phaseOn && !f.march.firstReleased) = true ∨ f.tick.tb < f.march.nextOk ∨ f.march.startEdge = some f.tick.tb ∨
    f.grid.releaseEdge = some f.tick.tb ∨ f.anyRelease v = true

theorem exec_marchStart_held (h : marchHeld s.chip.variant s.chip.field) : exec .marchStart s = .next s :=
  congrArg Host.Outcome.next (State.onField_eq_self (if_pos h))

theorem exec_marchStart_none (h : s.chip.field.marchList s.chip.variant = []) : exec .marchStart s = .next s := by
  by_cases hheld : marchHeld s.chip.variant s.chip.field
  · exact exec_marchStart_held hheld
  · refine congrArg Host.Outcome.next (State.onField_eq_self ((if_neg hheld).trans ?_))
    rw [h]

theorem exec_marchStart_starts {x u : Nat} {rest : List (Nat × Nat)} (hheld : ¬ marchHeld s.chip.variant s.chip.field)
    (h : s.chip.field.marchList s.chip.variant = (x, u) :: rest) : exec .marchStart s = .next (s.onField fun f => f.marchStart u) := by
  refine congrArg Host.Outcome.next ((State.onField_else hheld).trans ?_)
  rw [State.onField, State.onField, h]

/-- The first start of the start phase is due (R291). -/
def firstStartDue (v : Variant) (f : FieldDie) : Prop :=
  f.march.phaseOn = true ∧ ¬ f.march.firstReleased = true ∧
    ((f.march.phaseBegin + 24000 ≤ f.tick.tb ∧ ((f.phaseSlots v).all fun k => (f.sl k).ins.state == 2) = true) ∨ f.march.phaseBegin + 80000 ≤ f.tick.tb)

theorem exec_firstStartRelease_due (h : firstStartDue s.chip.variant s.chip.field) :
    exec .firstStartRelease s = .next (s.onField fun f => f.modMarch fun m => { m with firstReleased := true }) :=
  congrArg Host.Outcome.next (State.onField_due h)

theorem exec_firstStartRelease_not (h : ¬ firstStartDue s.chip.variant s.chip.field) : exec .firstStartRelease s = .next s :=
  congrArg Host.Outcome.next (State.onField_not h)

/-- The start phase is over: no unit and no branch is left in it (R291). -/
def phaseOver (v : Variant) (f : FieldDie) : Prop :=
  f.march.phaseOn = true ∧ f.march.phaseBegin + 24000 ≤ f.tick.tb ∧ f.phaseSlots v = [] ∧
    ¬ (FieldDie.branches v).any (fun b => (f.br b).startPhase) = true

theorem exec_marchComplete_due (h : phaseOver s.chip.variant s.chip.field) : exec .marchComplete s = .next (s.onField FieldDie.phaseEnd) :=
  congrArg Host.Outcome.next (State.onField_due h)

theorem exec_marchComplete_not (h : ¬ phaseOver s.chip.variant s.chip.field) : exec .marchComplete s = .next s :=
  congrArg Host.Outcome.next (State.onField_not h)

/-- The start phase has run into its limit (R291). -/
def phaseLate (f : FieldDie) : Prop := f.march.phaseOn = true ∧ f.march.phaseBegin + 40000 * f.march.startLimit ≤ f.tick.tb

theorem exec_marchLate_due (h : phaseLate s.chip.field) : exec .marchLate s = .next (s.onField fun f => f.phaseEnd.raise 205 1) :=
  congrArg Host.Outcome.next (State.onField_due h)

theorem exec_marchLate_not (h : ¬ phaseLate s.chip.field) : exec .marchLate s = .next s :=
  congrArg Host.Outcome.next (State.onField_not h)

/-- The soft start of a unit has passed (R283). -/
def softstartOver (f : FieldDie) (k : Nat) : Prop :=
  (f.sl k).ins.state = 3 ∧ (f.sl k).ins.startTick + max 1 (40 * (f.sl k).sess.softstart) ≤ f.tick.tb

theorem exec_softstartEnd_due (h : k.val < s.chip.variant.slots ∧ softstartOver s.chip.field k) :
    exec (.softstartEnd k) s = .next (s.onField fun f => (f.modSl k fun x => { x with ins := { x.ins with state := 4 } }).insEvent k 22 1) :=
  congrArg Host.Outcome.next (State.onSlot_due h)

theorem exec_softstartEnd_not (h : ¬ (k.val < s.chip.variant.slots ∧ softstartOver s.chip.field k)) : exec (.softstartEnd k) s = .next s :=
  congrArg Host.Outcome.next (State.onSlot_not h)

/-- The broadcast is not due: the device does not drive, has driven for less than 1 ms, or has sent it (R296). -/
def broadcastHeld (f : FieldDie) : Prop := ¬ f.driving = true ∨ f.march.driveTicks < 40 ∨ f.march.coldDone = true

theorem exec_coldSoftResetBroadcast_due (h : ¬ broadcastHeld s.chip.field) : exec .coldSoftResetBroadcast s =
    .next (s.onField fun f => ((FieldDie.slots s.chip.variant).foldl FieldDie.broadcastTo f).modMarch fun m => { m with coldDone := true }) :=
  congrArg Host.Outcome.next (State.onField_else h)

theorem exec_coldSoftResetBroadcast_not (h : broadcastHeld s.chip.field) : exec .coldSoftResetBroadcast s = .next s :=
  congrArg Host.Outcome.next (State.onField_eq_self (if_pos h))

end MarchEvents

theorem slot_lt {k : Nat} {s : State} (h : k < s.chip.variant.slots) : k < 96 := Nat.lt_of_lt_of_le h (Variant.slots_le _)

/-- Settles O30: each event of the March acts where its condition holds; a start takes the first unit of the March's list, a slot or a branch. -/
theorem unitsMarchOneAtATime : Obligations.UnitsMarchOneAtATime := by
  refine ⟨?qualified, ?branch, ?bus, ?start, ?first, ?complete, ?late, ?soft, ?cold⟩
  case qualified =>
    intro k s
    by_cases h : k.val < s.chip.variant.slots ∧ qualifies s.chip.field k
    · obtain ⟨hk, h1, hmeets⟩ := id h
      refine ⟨_, exec_qualified_due h, rfl, fun ha => absurd hk (Nat.not_lt.mpr ha), otherSlots_of_around (FieldDie.around_modSl _ _),
        fun _ _ _ => FieldDie.sl_modSl_self _ _ _ k.isLt, fun hn => ?_⟩
      rcases hn with hn | hn
      · exact absurd h1 hn
      · simp [hn] at hmeets
    · exact ⟨s, exec_qualified_not h, rfl, fun _ => rfl, otherSlots_refl s k, fun hk h1 hm => absurd ⟨hk, h1, hm⟩ h, fun _ => rfl⟩
  case branch =>
    intro b s
    by_cases h : b.val < s.chip.variant.branches ∧ branchWaited s.chip.field b
    · obtain ⟨hb, h2, hwin⟩ := id h
      refine ⟨_, exec_branchQualified_due h, rfl, rfl, fun ha => absurd hb (Nat.not_lt.mpr ha),
        fun _ _ _ => FieldDie.br_modBr_self _ _ _ b.isLt, fun hn => ?_⟩
      omega
    · exact ⟨s, exec_branchQualified_not h, rfl, rfl, fun _ => rfl, fun hb h2 hw => absurd ⟨hb, h2, hw⟩ h, fun _ => rfl⟩
  case bus =>
    intro s
    by_cases h : 40 ≤ s.chip.field.march.busUpRun
    · exact ⟨_, exec_busUp_due h, rfl, fun _ => rfl, fun hn => absurd h (Nat.not_le.mpr hn)⟩
    · exact ⟨s, exec_busUp_not h, rfl, fun hy => absurd hy h, fun _ => rfl⟩
  case start =>
    intro s
    by_cases hheld : marchHeld s.chip.variant s.chip.field
    · refine ⟨s, exec_marchStart_held hheld, rfl, fun _ => rfl, fun x k rest hp hph hnext hedge hrel hany _ => ?_⟩
      rcases hheld with h | h | h | h | h | h
      · simp [hp] at h
      · simp [hph] at h
      · exact absurd hnext (Nat.not_le.mpr h)
      · exact absurd h hedge
      · exact absurd h hrel
      · simp [hany] at h
    · cases hlist : s.chip.field.marchList s.chip.variant with
      | nil => exact ⟨s, exec_marchStart_none hlist, rfl, fun _ => rfl, fun x k rest _ _ _ _ _ _ hne => nomatch hne⟩
      | cons xu rest =>
        obtain ⟨x, u⟩ := xu
        refine ⟨_, exec_marchStart_starts hheld hlist, rfl, fun hn => ?_, fun x' k rest' _ _ _ _ _ _ heq => ?_⟩
        · rcases hn with hn | hn | hn
          · exact absurd (.inl hn) hheld
          · exact absurd (.inr (.inr (.inl hn))) hheld
          · cases hn
        · obtain rfl : u = k := congrArg Prod.snd (List.cons.inj heq).1
          have hunit := FieldDie.unit_of_mem_marchList (hlist ▸ List.mem_cons_self : (x, u) ∈ s.chip.field.marchList s.chip.variant)
          refine ⟨fun h96 => ?_, fun hlt => ?_⟩
          · have hb : u - 96 < 32 := hunit.elim (fun hs => absurd (slot_lt hs) (Nat.not_lt.mpr h96)) fun hb => branch_lt hb.2
            simp only [State.onField, FieldDie.marchStart_branch h96]
            exact ⟨rfl, congrArg Branch.state (FieldDie.br_modBr_self _ _ _ hb)⟩
          · have hstart := FieldDie.sl_modSl_self s.chip.field u (fun x => { x with
              ctx := { x.ctx with run := true }, ins := { x.ins with state := 3, startTick := s.chip.field.tick.tb, startPhase := false } }) hlt
            simp only [State.onField, FieldDie.marchStart_slot hlt]
            exact ⟨congrArg (·.ctx.run) hstart, congrArg (·.ins.state) hstart, congrArg (·.ins.startTick) hstart, rfl, rfl,
              ⟨fun j hj => FieldDie.sl_modSl_ne _ _ _ _ hj, rfl, rfl⟩, rfl⟩
  case first =>
    intro s
    by_cases h : firstStartDue s.chip.variant s.chip.field
    · obtain ⟨hon, hnot, hdue⟩ := id h
      refine ⟨_, exec_firstStartRelease_due h, rfl, fun _ _ _ => rfl, fun hn => ?_⟩
      rcases hn with hn | hn | hn
      · simp [hn] at hon
      · exact absurd hn hnot
      · omega
    · exact ⟨s, exec_firstStartRelease_not h, rfl, fun hon hn h80 => absurd ⟨hon, Bool.eq_false_iff.mp hn, .inr h80⟩ h, fun _ => rfl⟩
  case complete =>
    intro s
    by_cases h : phaseOver s.chip.variant s.chip.field
    · obtain ⟨hon, ht, hnone, _⟩ := id h
      refine ⟨_, exec_marchComplete_due h, rfl, fun _ _ _ _ => ⟨rfl, fun hsp => if_pos hsp, rfl⟩, fun hn => ?_⟩
      rcases hn with hn | hn | hn
      · simp [hn] at hon
      · omega
      · exact absurd hnone hn
    · refine ⟨s, exec_marchComplete_not h, rfl, fun hon ht hnone hbr => absurd ⟨hon, ht, hnone, ?_⟩ h, fun _ => rfl⟩
      simpa [FieldDie.branches] using hbr
  case late =>
    intro s
    by_cases h : phaseLate s.chip.field
    · obtain ⟨hon, ht⟩ := id h
      refine ⟨_, exec_marchLate_due h, rfl, fun _ _ => ⟨rfl, rfl⟩, fun hn => ?_⟩
      rcases hn with hn | hn
      · simp [hn] at hon
      · omega
    · exact ⟨s, exec_marchLate_not h, rfl, fun hon ht => absurd ⟨hon, ht⟩ h, fun _ => rfl⟩
  case soft =>
    intro k s
    by_cases h : k.val < s.chip.variant.slots ∧ softstartOver s.chip.field k
    · refine ⟨_, exec_softstartEnd_due h, rfl, fun ha => absurd h.1 (Nat.not_lt.mpr ha), ?_, fun _ _ _ => ⟨?_, ?_⟩, fun hn => absurd h.2.1 hn⟩
      · exact ⟨fun j hj => (FieldDie.sl_insEvent _ _ _ _ _).trans (FieldDie.sl_modSl_ne _ _ _ _ hj), FieldDie.vector_branch _ _,
          FieldDie.vector_quad _ _⟩
      · exact (FieldDie.sl_insEvent _ _ _ _ _).trans (FieldDie.sl_modSl_self _ _ _ k.isLt)
      · exact FieldDie.arisen_insEvent _ _ _ _
    · exact ⟨s, exec_softstartEnd_not h, rfl, fun _ => rfl, otherSlots_refl s k, fun hk h3 ht => absurd ⟨hk, h3, ht⟩ h, fun _ => rfl⟩
  case cold =>
    intro s
    by_cases h : broadcastHeld s.chip.field
    · refine ⟨s, exec_coldSoftResetBroadcast_not h, rfl, fun _ => rfl, fun hd ht hc => ?_⟩
      rcases h with h | h | h
      · exact absurd hd h
      · omega
      · simp [hc] at h
    · refine ⟨_, exec_coldSoftResetBroadcast_due h, rfl, fun hn => absurd (hn.imp_left Bool.eq_false_iff.mp) h, fun _ _ _ => ⟨?_, fun k hk h0 hp => ?_⟩⟩
      · exact congrArg (fun m : March => { m with coldDone := true }) (FieldDie.march_foldl_broadcastTo _)
      · have hsl : (((FieldDie.slots s.chip.variant).foldl FieldDie.broadcastTo s.chip.field).sl k) = _ := FieldDie.sl_foldl_broadcastTo hk
        rw [FieldDie.broadcastSlot, if_pos ⟨h0, by simp [hp]⟩] at hsl
        refine ⟨congrArg (·.sess.bcast) hsl, ?_⟩
        have hport := congrArg (·.port.queue) hsl
        exact ⟨_, hport ▸ Port.mem_queue_enqueue _ _, rfl, rfl⟩

end Machine
end Sys2Proof

/-! Proofs of the statements of 16_recorder.md. A page operation that joins the queue is work of the storage manager alone; then what the recorder
does by itself, each event by its condition. -/

namespace Sys2Proof

namespace HostDie

variable {h : HostDie}

/-- The memory port takes its next operation from the storage manager's queue, and touches nothing else. -/
theorem nandNext_rest (h : HostDie) : h.nandNext = { h with stor := h.nandNext.stor } := by
  unfold nandNext
  split
  · rfl
  · split <;> rfl

theorem nandOp_rest (h : HostDie) (o : NandOp) : h.nandOp o = { h with stor := (h.nandOp o).stor } :=
  nandNext_rest { h with stor := { h.stor with ops := h.stor.ops ++ [o] } }

@[simp] theorem nandOp_rech (h : HostDie) (o : NandOp) : (h.nandOp o).rech = h.rech := by rw [nandOp_rest]
@[simp] theorem nandOp_hif (h : HostDie) (o : NandOp) : (h.nandOp o).hif = h.hif := by rw [nandOp_rest]
@[simp] theorem nandOp_mode (h : HostDie) (o : NandOp) : (h.nandOp o).mode = h.mode := by rw [nandOp_rest]

/-- Handing the buffered records on: nothing where the storage manager has them all, and otherwise a page operation (R416). -/
theorem handAll_none (hn : h.rech.buffer.length ≤ h.rech.handed) : h.handAll = h :=
  if_pos (Nat.sub_eq_zero_of_le hn)

theorem handAll_some (hn : h.rech.handed < h.rech.buffer.length) : h.handAll =
    { h with rech := { h.rech with handed := h.rech.buffer.length, openAt := none } }.nandOp (.records (h.rech.buffer.length - h.rech.handed)) :=
  if_neg (Nat.sub_ne_zero_of_lt hn)

theorem rech_handAll (hn : h.rech.handed < h.rech.buffer.length) :
    h.handAll.rech = { h.rech with handed := h.rech.buffer.length, openAt := none } := by
  rw [handAll_some hn, nandOp_rech]

@[simp] theorem buffer_handAll (h : HostDie) : h.handAll.rech.buffer = h.rech.buffer := by
  by_cases hn : h.rech.handed < h.rech.buffer.length
  · rw [rech_handAll hn]
  · rw [handAll_none (Nat.not_lt.mp hn)]

theorem thaw_frozen (hf : h.rech.frozen = true) : h.thaw = { h with rech := { h.rech with frozen := false, thawAt := some h.htb } } :=
  if_pos hf

end HostDie

namespace FieldDie

variable {f : FieldDie} {e : Nat}

/-- The rows of the ring up to the end tick of the capture (R422). -/
def traceRows (f : FieldDie) (e : Nat) : List (List Nat) := f.recf.rows.take (f.recf.rows.length - (f.recf.rowAt - e))

/-- The capture as which the ring is frozen (R422). -/
def capture (f : FieldDie) (e : Nat) : Trace :=
  { id := f.recf.postId, pre := f.recf.postPre, firstValid := 4096 - min 4096 (f.traceRows e).length, tbTrig := f.recf.postTrig
    ops := f.recf.chOp.rows, shifts := f.recf.chShift.rows
    rows := List.replicate (4096 - min 4096 (f.traceRows e).length) (List.replicate 16 0) ++
      (f.traceRows e).drop ((f.traceRows e).length - min 4096 (f.traceRows e).length) }

theorem length_capture (f : FieldDie) (e : Nat) : (f.capture e).rows.length = 4096 := by
  simp only [capture, List.length_append, List.length_replicate, List.length_drop]
  omega

theorem freezeTrace_due (he : f.recf.post = some e) (hr : f.recf.rows ≠ []) (hle : e ≤ f.recf.rowAt) : f.freezeTrace =
    { f with recf := { f.recf with
        held := f.recf.held ++ [(f.recf.ring, f.capture e)], ring := nextRing f.recf
        rows := f.recf.rows.drop (f.recf.rows.length - (f.recf.rowAt - e)), post := none } } := by
  have hnot : ¬ (f.recf.rows.isEmpty = true ∨ f.recf.rowAt < e) := by
    rintro (hn | hn)
    · exact hr (List.isEmpty_iff.mp hn)
    · omega
  unfold freezeTrace
  simp only [he, if_neg hnot]
  rfl

theorem freezeTrace_not (h : f.recf.post = none ∨ f.recf.rows = [] ∨ ∃ e, f.recf.post = some e ∧ f.recf.rowAt < e) : f.freezeTrace = f := by
  unfold freezeTrace
  rcases h with h | h | ⟨e, h, hlt⟩
  · simp only [h]
  · dsimp only
    split
    · exact if_pos (.inl (List.isEmpty_iff.mpr h))
    · rfl
  · simp [h, hlt]

end FieldDie

namespace Machine

section RecorderEvents

variable {s : State}

theorem exec_recPageFlush_closed (h : s.chip.host.rech.openAt = none) : exec .recPageFlush s = .next s :=
  congrArg Host.Outcome.next (State.onHost_eq_self (by simp only [h]))

theorem exec_recPageFlush_open {a : Nat} (h : s.chip.host.rech.openAt = some a) : exec .recPageFlush s =
    .next (s.onHost fun h => if h.urgentNow ∨ 40 * h.rech.flushDly ≤ h.htb - a then h.handAll else h) := by
  refine congrArg Host.Outcome.next ?_
  simp only [State.onHost, h]

/-- The freeze has stood for 10 s (R424). -/
def thawDue (h : HostDie) : Prop := h.rech.frozen = true ∧ 400000 ≤ h.htb - h.rech.frozenAt

theorem exec_recAutoThaw_due (h : thawDue s.chip.host) : exec .recAutoThaw s = .next (s.onHost HostDie.thaw) :=
  congrArg Host.Outcome.next (congrArg (fun x => { s with chip := { s.chip with host := x } }) (if_pos h))

theorem exec_recAutoThaw_not (h : ¬ thawDue s.chip.host) : exec .recAutoThaw s = .next s :=
  congrArg Host.Outcome.next (State.onHost_eq_self (if_neg h))

/-- The oldest capture has crossed whole, and region H has stored it (R423). -/
def captureStored (s : State) (x : Trace) : Prop :=
  traceSize ≤ s.chip.field.recf.sendOff ∧ s.linked = true ∧ (s.chip.host.rech.traces.getLast?.map (·.1)) = some x.id

theorem exec_traceCaptureWritten_due {k : Nat} {x : Trace} {rest : List (Nat × Trace)} (hheld : s.chip.field.recf.held = (k, x) :: rest)
    (h : captureStored s x) : exec .traceCaptureWritten s =
      .next (s.onField fun f => { f with recf := { f.recf with held := f.recf.held.drop 1, sendOff := 0 } }) := by
  refine congrArg Host.Outcome.next ?_
  dsimp only
  rw [hheld]
  exact if_pos h

theorem exec_traceCaptureWritten_not (h : ∀ k x rest, s.chip.field.recf.held = (k, x) :: rest → ¬ captureStored s x) :
    exec .traceCaptureWritten s = .next s := by
  refine congrArg Host.Outcome.next ?_
  dsimp only
  split
  · rfl
  next k x rest hheld => exact if_neg (h k x rest hheld)

end RecorderEvents

/-- Settles O44: the page, the freeze, the capture and its hand-over each by its condition; the two reads clear the counter that they return. -/
theorem recorderActsOnItsOwn : Obligations.RecorderActsOnItsOwn := by
  refine ⟨?flush, ?thaw, ?freeze, ?written, ?status, ?count⟩
  case flush =>
    intro s
    cases hopen : s.chip.host.rech.openAt with
    | none => exact ⟨s, exec_recPageFlush_closed hopen, rfl, rfl, fun _ => rfl, nofun⟩
    | some a =>
      refine ⟨_, exec_recPageFlush_open hopen, rfl, ?_, nofun, fun a' ha hdly hlt => ?_⟩
      · simp only [State.onHost]
        split
        · exact HostDie.buffer_handAll _
        · rfl
      · obtain rfl : a = a' := Option.some.inj ha
        simp only [State.onHost, if_pos (Or.inr hdly : s.chip.host.urgentNow = true ∨ _), HostDie.rech_handAll hlt]
        exact ⟨trivial, trivial⟩
  case thaw =>
    intro s
    by_cases h : thawDue s.chip.host
    · obtain ⟨hf, ht⟩ := id h
      refine ⟨_, exec_recAutoThaw_due h, rfl, fun _ _ => congrArg HostDie.rech (HostDie.thaw_frozen hf), fun hn => ?_⟩
      rcases hn with hn | hn
      · simp [hn] at hf
      · omega
    · refine ⟨s, exec_recAutoThaw_not h, rfl, fun hf ht => absurd ⟨hf, ?_⟩ h, fun _ => rfl⟩
      omega
  case freeze =>
    intro s
    refine ⟨_, rfl, rfl, fun e he hr hle => ?_, fun hn => State.onField_eq_self (FieldDie.freezeTrace_not hn)⟩
    simp only [State.onField, FieldDie.freezeTrace_due he hr hle]
    exact ⟨trivial, trivial, _, rfl, rfl, FieldDie.length_capture _ _, rfl⟩
  case written =>
    intro s
    by_cases h : ∃ k x rest, s.chip.field.recf.held = (k, x) :: rest ∧ captureStored s x
    · obtain ⟨k, x, rest, hheld, hsize, hlink, hid⟩ := h
      refine ⟨_, exec_traceCaptureWritten_due hheld ⟨hsize, hlink, hid⟩, rfl, fun k' x' rest' heq _ _ _ => ?_, fun hn => ?_⟩
      · obtain ⟨-, rfl⟩ := List.cons.inj (hheld.symm.trans heq)
        simp only [State.onField, hheld, List.drop_succ_cons, List.drop_zero]
      · rcases hn with hn | hn | hn
        · simp [hn] at hheld
        · exact absurd hsize (Nat.not_le.mpr hn)
        · simp [hn] at hlink
    · refine ⟨s, exec_traceCaptureWritten_not fun k x rest hheld hst => h ⟨k, x, rest, hheld, hst⟩, rfl, fun k x rest hheld hsize hlink hid => ?_,
        fun _ => rfl⟩
      exact absurd ⟨k, x, rest, hheld, hsize, hlink, hid⟩ h
  case status =>
    intro s hon
    exact ⟨_, congrArg Host.Outcome.next (State.hostRead_on hon), rfl, rfl, rfl⟩
  case count => exact fun s => ⟨_, rfl, rfl, by simp [pack, State.onField, State.on], rfl⟩

end Machine
end Sys2Proof

/-! The recorder's commands. What a host-executed command leaves apart from its completion, or with its completion still to come; then each command
of group 0x90. -/

namespace Sys2Proof
namespace Machine

section HostCommands

theorem hostOnly_host (c : HCmd) (r : Request) (s : State) : hostOnly s (s.host c r) := by
  unfold State.host
  split <;> rfl

variable {c : HCmd} {r : Request} {s : State} {g : HostDie} {st : Status} {x : Nat}

/-- A completion joins the completions that wait for its queue's ring, and touches nothing else. -/
theorem complete_rest (g : HostDie) (r : Request) (st : Status) (x : Nat) :
    g.complete r st x = { g with hif := { g.hif with queues := (g.complete r st x).hif.queues } } := by
  unfold HostDie.complete
  split <;> rfl

/-- A host-executed command that answers at once leaves its completion, and all but the queues as its meaning leaves it. -/
theorem State.host_done (h : hostTakes c r s)
    (hop : c.op s.chip.variant (s.chip.host.accept { r with opcode := c.code }) { r with opcode := c.code } = (g, some (st, x)))
    (hq : g.hif.queues = (s.chip.host.accept { r with opcode := c.code }).hif.queues) (he : g.mode.epoch = s.chip.host.mode.epoch) :
    hostOnly s (s.host c r) ∧ hostAnswers s (s.host c r) r st x ∧
      ∀ {α : Type} (p : HostDie → α), (∀ h q, p { h with hif := { h.hif with queues := q } } = p h) → p (s.host c r).chip.host = p g := by
  rw [State.host_completes h hop]
  refine ⟨rfl, ?_, fun p hp => (congrArg p (complete_rest _ _ _ _)).trans (hp _ _)⟩
  have hwaiting := HostDie.complete_waiting g { r with opcode := c.code } st x h.2.1
  rw [hq, he] at hwaiting
  exact hwaiting.trans (by simp)

/-- A host-executed command whose completion is still to come leaves region H as its meaning leaves it. -/
theorem State.host_pends (h : hostTakes c r s)
    (hop : c.op s.chip.variant (s.chip.host.accept { r with opcode := c.code }) { r with opcode := c.code } = (g, none))
    (hq : g.hif.queues = (s.chip.host.accept { r with opcode := c.code }).hif.queues) :
    hostOnly s (s.host c r) ∧ hostWaits s (s.host c r) r ∧ (s.host c r).chip.host = g := by
  rw [State.host_takes h]
  dsimp only
  rw [hop]
  refine ⟨rfl, ?_, rfl⟩
  unfold hostWaits
  dsimp only
  rw [hq, HostDie.accept_waiting]

end HostCommands

end Machine

namespace HostDie

variable {h : HostDie}

/-- A page operation that has joined the queue waits there, or is the one that the port runs. -/
theorem queued_nandOp (h : HostDie) (o : NandOp) : o ∈ (h.nandOp o).stor.ops ∨ (h.nandOp o).stor.current = some o := by
  have hmem : o ∈ h.stor.ops ++ [o] := List.mem_append_right _ (List.mem_singleton_self o)
  unfold nandOp nandNext
  split
  · exact .inl hmem
  · split
    next p _ =>
      by_cases hp : o = p
      · exact .inr (congrArg some hp.symm)
      · exact .inl ((List.mem_erase_of_ne hp).mpr hmem)
    next => exact .inl hmem

/-- Handing the buffered records on touches no other part of the recorder. -/
theorem rech_handAll_eq (h : HostDie) : ∃ n a, h.handAll.rech = { h.rech with handed := n, openAt := a } := by
  by_cases hn : h.rech.handed < h.rech.buffer.length
  · exact ⟨_, _, rech_handAll hn⟩
  · exact ⟨h.rech.handed, h.rech.openAt, by rw [handAll_none (Nat.not_lt.mp hn)]⟩

@[simp] theorem hif_handAll (h : HostDie) : h.handAll.hif = h.hif := by
  by_cases hn : h.rech.handed < h.rech.buffer.length
  · rw [handAll_some hn, nandOp_hif]
  · rw [handAll_none (Nat.not_lt.mp hn)]

theorem thaw_running (hf : h.rech.frozen = false) : h.thaw = h := if_neg (Bool.eq_false_iff.mp hf)

theorem thaw_hif (h : HostDie) : h.thaw.hif = h.hif := by
  unfold thaw
  split <;> rfl

theorem thaw_mode (h : HostDie) : h.thaw.mode = h.mode := by
  unfold thaw
  split <;> rfl

/-- A read that the NAND answers without a bit to correct brings its data. -/
theorem readBlock_good (h : HostDie) (part l : Nat) : h.readBlock part l .good = (h, true) := by
  unfold readBlock
  split <;> rfl

end HostDie

/-- A LIST record is work of the recorder's queue: the lists stay (16 R413). -/
theorem lists_listRecord (f : FieldDie) (status : Word) (l : Nat) : (f.listRecord status l).recf.lists = f.recf.lists := by
  unfold FieldDie.listRecord
  split <;> rfl

theorem length_queue_listRecord {f : FieldDie} (h : f.recf.queue.length < 64) (status : Word) (l : Nat) :
    (f.listRecord status l).recf.queue.length = f.recf.queue.length + 1 := by
  unfold FieldDie.listRecord
  rw [if_neg (Nat.not_le.mpr h)]
  exact List.length_append

theorem bar_listRecord (f : FieldDie) (status : Word) (l : Nat) : (f.listRecord status l).bar = f.bar := by
  unfold FieldDie.listRecord
  split <;> rfl

theorem twin_listRecord (f : FieldDie) (status : Word) (l : Nat) : (f.listRecord status l).twin = f.twin := by
  unfold FieldDie.listRecord
  split <;> rfl

/-- The staged OPs of a list after REC_SET_LIST (Table 16-7). -/
def listStaged (r : Request) (xs : List Nat) : List Nat :=
  (List.range (max xs.length (r.par 2 1 + r.par 3 1 % 32))).map fun i =>
    if r.par 2 1 ≤ i ∧ i < r.par 2 1 + r.par 3 1 % 32 then r.par (4 + 2 * (i - r.par 2 1)) 2 else xs.getD i 0

theorem listStaged_get {r : Request} {i : Nat} (xs : List Nat) (hlo : r.par 2 1 ≤ i) (hhi : i < r.par 2 1 + r.par 3 1 % 32) :
    (listStaged r xs)[i]? = some (r.par (4 + 2 * (i - r.par 2 1)) 2) := by
  simp [listStaged, hlo, hhi]

theorem length_listStaged_take (r : Request) (xs : List Nat) :
    ((listStaged r xs).take (r.par 2 1 + r.par 3 1 % 32)).length = r.par 2 1 + r.par 3 1 % 32 := by
  simp [listStaged]

/-- A list after REC_SET_LIST, staged and committed (R413). -/
def listSet (r : Request) (x : SnapList) : SnapList :=
  if (r.par 3 1).testBit 7 then
    { x with staged := listStaged r x.staged, ops := (listStaged r x.staged).take (r.par 2 1 + r.par 3 1 % 32), gen := (x.gen + 1) % 2 ^ 16 }
  else { x with staged := listStaged r x.staged }

/-- The field with the list of a REC_SET_LIST set. -/
def listSetIn (r : Request) (f : FieldDie) : FieldDie := { f with recf := { f.recf with lists := f.recf.lists.modifyNat (r.par 0 2) (listSet r) } }

theorem staged_listSet (r : Request) (x : SnapList) : (listSet r x).staged = listStaged r x.staged := by
  unfold listSet
  split <;> rfl

theorem list_listSetIn {r : Request} (f : FieldDie) (hl : r.par 0 2 < 4) :
    (listSetIn r f).recf.lists.getD (r.par 0 2) {} = listSet r (f.recf.lists.getD (r.par 0 2) {}) :=
  Tab.getD_modifyNat_self _ _ _ _ hl

namespace Machine

section RecorderCommands

variable {r : Request} {s : State}

theorem list_of_fieldTakes (h : fieldTakes recSetListC r s) : r.par 0 2 < 4 := by
  obtain ⟨_, _, _, _, _, _, hadm, _⟩ := h
  have hchk : need (r.par 0 2 < 4 && r.par 2 1 ≤ 95 && r.par 3 1 % 32 ≤ 14 && r.par 2 1 + r.par 3 1 % 32 ≤ 96 && r.par 3 1 / 32 % 4 == 0) = none :=
    chk_of_admitF hadm
  rw [need_eq_none] at hchk
  simp only [Bool.and_eq_true, decide_eq_true_eq] at hchk
  tauto

theorem channel_of_fieldTakes (h : fieldTakes cmdRecSetTrace r s) : r.u32 0 < 16 := by
  obtain ⟨_, _, _, _, _, _, hadm, _⟩ := h
  have hchk : need (r.u32 0 < 16 && r.u32 4 < 0x10000 && r.u32 8 ≤ 16 && (r.u32 12 ≤ 4095 || r.u32 12 == 0xFFFFFFFF)) = none := chk_of_admitF hadm
  rw [need_eq_none] at hchk
  simp only [Bool.and_eq_true, decide_eq_true_eq] at hchk
  tauto

theorem comparator_of_fieldTakes (h : fieldTakes cmdRecSetLevel r s) : r.u32 0 < 4 := by
  obtain ⟨_, _, _, _, _, _, hadm, _⟩ := h
  have hchk : need (r.u32 0 < 4 && r.u32 4 < 16 && -32768 ≤ r.s32 8 && r.s32 8 ≤ 32767 && r.u32 12 < 3 && r.u32 16 < 4 && r.u32 20 < 2) = none :=
    chk_of_admitF hadm
  rw [need_eq_none] at hchk
  simp only [Bool.and_eq_true, decide_eq_true_eq] at hchk
  tauto

/-- REC_SET_LIST sets the list, and a commit makes its LIST record (R413). -/
theorem recSetListC_op : recSetListC.op s.chip.variant s.chip.field (arriving recSetListC r s) =
    (if (r.par 3 1).testBit 7 then (listSetIn r s.chip.field).listRecord s.chip.field.modeStatus (r.par 0 2) else listSetIn r s.chip.field,
      some (.ok, 0)) := rfl

theorem recSetListC_stages (hc : (r.par 3 1).testBit 7 = false) :
    recSetListC.op s.chip.variant s.chip.field (arriving recSetListC r s) = (listSetIn r s.chip.field, some (.ok, 0)) := by
  rw [recSetListC_op, if_neg (Bool.eq_false_iff.mp hc)]

theorem recSetListC_commits (hc : (r.par 3 1).testBit 7 = true) :
    recSetListC.op s.chip.variant s.chip.field (arriving recSetListC r s) =
      ((listSetIn r s.chip.field).listRecord s.chip.field.modeStatus (r.par 0 2), some (.ok, 0)) := by
  rw [recSetListC_op, if_pos hc]

theorem recSetTrace_busy (hp : s.chip.field.recf.post.isSome = true) :
    cmdRecSetTrace.op s.chip.variant s.chip.field (arriving cmdRecSetTrace r s) = (s.chip.field, some (.busy, 0)) := if_pos hp

/-- The recorder's trace settings after REC_SET_TRACE (R420). -/
def traceSet (r : Request) (x : Recf) : Recf :=
  { x with
    chOp := x.chOp.modifyNat (r.u32 0) (fun _ => r.u32 4), chShift := x.chShift.modifyNat (r.u32 0) (fun _ => r.u32 8)
    pre := if r.u32 12 = 0xFFFFFFFF then x.pre else r.u32 12 }

theorem recSetTrace_sets (hp : s.chip.field.recf.post = none) : cmdRecSetTrace.op s.chip.variant s.chip.field (arriving cmdRecSetTrace r s) =
    ({ s.chip.field with recf := traceSet r s.chip.field.recf }, some (.ok, 0)) := if_neg (by simp [hp])

/-- REC_FREEZE and REC_CLEAR by the state of the recorder. -/
theorem recFreeze_frozen {h : HostDie} (hf : h.rech.frozen = true) (v : Variant) (q : Request) : cmdRecFreeze.op v h q = (h, some (.busy, 0)) :=
  if_pos (.inl hf)

/-- Region H frozen at END (R424). -/
def frozenAt (h : HostDie) (e : Nat) : HostDie := { h with rech := { h.rech with frozen := true, endSeq := e, frozenAt := h.htb } }

theorem endSeq_frozenAt (h : HostDie) (e : Nat) : (frozenAt h e).rech.endSeq = e := rfl

theorem recFreeze_freezes {h : HostDie} {n : Nat} (hf : h.rech.frozen = false) (ht : h.rech.thawAt = none) (hn : h.rech.nextSeq = n) (v : Variant)
    (q : Request) : cmdRecFreeze.op v h q = (frozenAt h ((n + 2 ^ 32 - 1) % 2 ^ 32), some (.ok, (n + 2 ^ 32 - 1) % 2 ^ 32)) := by
  subst hn
  refine if_neg ?_
  rw [hf, ht]
  exact fun hn => hn.elim Bool.false_ne_true Bool.false_ne_true

theorem recClear_winter {h : HostDie} (hw : h.mode.winter = true) (v : Variant) (q : Request) : cmdRecClear.op v h q = (h, some (.wrongMode, 0)) :=
  if_pos hw

theorem recClear_frozen {h : HostDie} (hw : h.mode.winter = false) (hf : h.rech.frozen = true) (v : Variant) (q : Request) :
    cmdRecClear.op v h q = (h, some (.busy, 0)) :=
  (if_neg (Bool.eq_false_iff.mp hw)).trans (if_pos hf)

theorem recClear_full {h : HostDie} (hw : h.mode.winter = false) (hf : h.rech.frozen = false) (hl : 256 ≤ h.rech.ledger.length) (v : Variant)
    (q : Request) : cmdRecClear.op v h q = (h, some (.full, 0)) :=
  (if_neg (Bool.eq_false_iff.mp hw)).trans ((if_neg (Bool.eq_false_iff.mp hf)).trans (if_pos hl))

/-- The ledger entry of a clear (R425). -/
def clearEntry (h : HostDie) (q : Request) : Ledger :=
  { index := h.rech.ledger.length, what := q.u32 0, keySlot := q.keySlot, tb := h.htb, wall := h.wall
    lastSeq := (h.rech.nextSeq + 2 ^ 32 - 1) % 2 ^ 32, lastTrace := (h.rech.traces.getLast?.map (·.1)).getD 0xFFFF, cleared := false }

/-- Region H with a clear entered in the ledger, and its page operation queued (R426). -/
def clearEntered (h : HostDie) (q : Request) : HostDie :=
  { h with rech := { h.rech with ledger := h.rech.ledger ++ [clearEntry h q], clearCmds := h.rech.clearCmds ++ [q] } }.nandOp .ledger

theorem recClear_enters {h : HostDie} (hw : h.mode.winter = false) (hf : h.rech.frozen = false) (hl : h.rech.ledger.length < 256) (v : Variant)
    (q : Request) : cmdRecClear.op v h q = (clearEntered h q, none) :=
  (if_neg (Bool.eq_false_iff.mp hw)).trans ((if_neg (Bool.eq_false_iff.mp hf)).trans (if_neg (Nat.not_le.mpr hl)))

theorem rech_clearEntered (h : HostDie) (q : Request) : (clearEntered h q).rech =
    { h.rech with ledger := h.rech.ledger ++ [clearEntry h q], clearCmds := h.rech.clearCmds ++ [q] } := HostDie.nandOp_rech _ _

/-- Region H with a flush asked for: every buffered record is handed on (R416). -/
def flushAsked (h : HostDie) (q : Request) : HostDie :=
  { h with rech := { h.rech with urgent := true, flushCmds := h.rech.flushCmds ++ [q] } }.handAll

theorem recFlush_empty {h : HostDie} (hb : h.rech.buffer = []) (v : Variant) (q : Request) : cmdRecFlush.op v h q = (h, some (.ok, 0)) :=
  if_pos (by simp [hb])

theorem recFlush_asks {h : HostDie} (hb : h.rech.buffer ≠ []) (v : Variant) (q : Request) : cmdRecFlush.op v h q = (flushAsked h q, none) :=
  if_neg (by simpa using hb)

/-- The records that REC_READ returns (Table 16-7). -/
def recordsRead (h : HostDie) (q : Request) : List Record := (h.readable.filter fun x => q.u32 0 ≤ x.seq).take (q.u32 4)

/-- RESULT of REC_READ: how many records, and the SEQ after the last. -/
def recordsResult (h : HostDie) (q : Request) : Nat :=
  (recordsRead h q).length + 2 ^ 32 * match (recordsRead h q).getLast? with | some x => (x.seq + 1) % 2 ^ 32 | none => q.u32 0

theorem recRead_good {h : HostDie} {q : Request} (hm : q.media = .good) (v : Variant) : cmdRecRead.op v h q =
    (h.bufWrite (q.par 8 8) ((recordsRead h q).flatMap Record.bytes), some (.ok, recordsResult h q)) := by
  have hread : ∀ i l, (if i < h.rech.log.length then h.readBlock 6 l q.media else (h, true)) = (h, true) := by
    intro i l
    rw [hm, HostDie.readBlock_good, ite_self]
  simp only [cmdRecRead, hread, not_true_eq_false, if_false]
  rfl

theorem recReadTrace_none {h : HostDie} {q : Request} (hf : h.rech.traces.find? (fun y => y.1 == q.u32 0) = none) (v : Variant) :
    cmdRecReadTrace.op v h q = (h, some (.badParam, 0)) := by
  simp only [cmdRecReadTrace, hf]

theorem recReadTrace_some {h : HostDie} {q : Request} {x : Nat × List Byte} (hm : q.media = .good)
    (hf : h.rech.traces.find? (fun y => y.1 == q.u32 0) = some x) (v : Variant) :
    cmdRecReadTrace.op v h q = (h.bufWrite (q.par 8 8) (slice (q.u32 4) (q.u32 16) x.2), some (.ok, 0)) := by
  simp only [cmdRecReadTrace, hf, hm, HostDie.readBlock_good, if_true]

theorem recReadLedger_none {h : HostDie} {q : Request} (hf : h.rech.ledger.find? (fun y => y.index == q.u32 0) = none) (v : Variant) :
    cmdRecReadLedger.op v h q = (h, some (.badParam, 0)) := by
  simp only [cmdRecReadLedger, hf]

theorem recReadLedger_some {h : HostDie} {q : Request} {x : Ledger} (hm : q.media = .good)
    (hf : h.rech.ledger.find? (fun y => y.index == q.u32 0) = some x) (v : Variant) :
    cmdRecReadLedger.op v h q = (h.bufWrite (q.par 8 8) (slice 0 32 (Config.ledgerLayout (HostDie.ledgerFields x))), some (.ok, 0)) := by
  simp only [cmdRecReadLedger, hf, hm, HostDie.readBlock_good, if_true]

end RecorderCommands

/-- Settles O43: the settings of the field side go by their parameters, and the commands of region H by the state of the recorder. -/
theorem recorderCommandsSetAndAnswer : Obligations.RecorderCommandsSetAndAnswer := by
  refine ⟨?trigger, ?list, ?trace, ?level, ?manual, ?freeze, ?thaw, ?flush, ?clear, ?setFlush, ?status, ?read, ?readTrace, ?readLedger⟩
  case trigger =>
    intro r s h
    obtain ⟨hans, hrest⟩ := State.field_done h rfl rfl rfl
    have htrig := hrest (fun f => f.recf.trig) fun _ _ => rfl
    refine ⟨_, rfl, hans, (congrArg List.length htrig).trans List.length_mapIdx, fun i x hx => ?_⟩
    rw [htrig, List.getElem?_mapIdx, hx]
    rfl
  case list =>
    intro r s h
    have hl := list_of_fieldTakes h
    cases hc : (r.par 3 1).testBit 7 with
    | false =>
      obtain ⟨hans, hrest⟩ := State.field_done h (recSetListC_stages hc) rfl rfl
      have hset := (hrest (fun f => f.recf.lists.getD (r.par 0 2) {}) fun _ _ => rfl).trans (list_listSetIn _ hl)
      have hplain := hset.trans (if_neg (by simp [hc]))
      refine ⟨_, rfl, hans, fun _ => ⟨(congrArg SnapList.ops hplain).trans rfl, (congrArg SnapList.gen hplain).trans rfl, hrest (fun f => f.recf.queue) fun _ _ => rfl⟩,
        nofun, fun i hlo hhi => ?_⟩
      rw [hset, staged_listSet]
      exact listStaged_get _ hlo hhi
    | true =>
      obtain ⟨hans, hrest⟩ := State.field_done h (recSetListC_commits hc) (congrArg FBarrier.completions (bar_listRecord _ _ _)) (twin_listRecord _ _ _)
      have hset := (hrest (fun f => f.recf.lists.getD (r.par 0 2) {}) fun _ _ => rfl).trans
        ((congrArg (fun t => t.getD (r.par 0 2) {}) (lists_listRecord _ _ _)).trans (list_listSetIn _ hl))
      have hcommit := hset.trans (if_pos hc)
      refine ⟨_, rfl, hans, nofun, fun _ => ⟨congrArg SnapList.gen hcommit, ?_, fun hlt => ?_⟩, fun i hlo hhi => ?_⟩
      · rw [hcommit]
        exact length_listStaged_take _ _
      · exact (congrArg List.length (hrest (fun f => f.recf.queue) fun _ _ => rfl)).trans ((length_queue_listRecord (f := listSetIn r s.chip.field) hlt _ _).trans rfl)
      · rw [hset, staged_listSet]
        exact listStaged_get _ hlo hhi
  case trace =>
    intro r s h
    refine ⟨s.field cmdRecSetTrace r, rfl, fun hp => ?_, fun hp => ?_⟩
    · obtain ⟨hans, hrest⟩ := State.field_done h (recSetTrace_busy hp) rfl rfl
      exact ⟨hrest FieldDie.recf fun _ _ => rfl, hans⟩
    · obtain ⟨hans, hrest⟩ := State.field_done h (recSetTrace_sets hp) rfl rfl
      have hch := channel_of_fieldTakes h
      rw [show (s.field cmdRecSetTrace r).chip.field.recf = traceSet r s.chip.field.recf from hrest FieldDie.recf fun _ _ => rfl]
      exact ⟨Tab.getD_modifyNat_self _ _ _ _ hch, Tab.getD_modifyNat_self _ _ _ _ hch, rfl, hans⟩
  case level =>
    intro r s h
    obtain ⟨hans, hrest⟩ := State.field_done h rfl rfl rfl
    exact ⟨_, rfl, hans, (hrest (fun f => f.recf.levels.getD (r.u32 0) {}) fun _ _ => rfl).trans
      (Tab.getD_modifyNat_self _ _ _ _ (comparator_of_fieldTakes h))⟩
  case manual =>
    intro r s h
    have hhits := congrArg (fun f : FieldDie => f.recf.hits) (State.field_pends h rfl).1
    exact ⟨_, rfl, State.field_waits h rfl rfl, _, rfl, rfl, rfl, rfl, hhits⟩
  case freeze =>
    intro r s h
    cases hf : s.chip.host.rech.frozen with
    | true =>
      obtain ⟨honly, hans, hrest⟩ := State.host_done h (recFreeze_frozen (h := s.chip.host.accept _) hf _ _) rfl rfl
      exact ⟨_, rfl, honly, fun _ => ⟨hans, hrest HostDie.rech fun _ _ => rfl⟩, nofun⟩
    | false =>
      refine ⟨s.host cmdRecFreeze r, rfl, hostOnly_host _ _ _, nofun, fun _ ht => ?_⟩
      obtain ⟨-, hans, hrest⟩ := State.host_done h (recFreeze_freezes (h := s.chip.host.accept _) (n := s.chip.host.rech.nextSeq) hf ht rfl _ _) rfl rfl
      have hrech := hrest HostDie.rech fun _ _ => rfl
      exact ⟨congrArg Rech.frozen hrech, congrArg Rech.frozenAt hrech, (congrArg Rech.endSeq hrech).trans (endSeq_frozenAt _ _), hans⟩
  case thaw =>
    intro r s h
    obtain ⟨honly, hans, hrest⟩ := State.host_done h rfl (congrArg Hif.queues (HostDie.thaw_hif _)) (congrArg HMode.epoch (HostDie.thaw_mode _))
    have hrech := hrest HostDie.rech fun _ _ => rfl
    refine ⟨_, rfl, honly, hans, ?_⟩
    rw [hrech]
    cases hf : s.chip.host.rech.frozen with
    | true =>
      rw [HostDie.thaw_frozen (h := s.chip.host.accept _) hf]
      exact ⟨rfl, rfl⟩
    | false =>
      rw [HostDie.thaw_running (h := s.chip.host.accept _) hf]
      exact ⟨hf, rfl⟩
  case flush =>
    intro r s h
    refine ⟨s.host cmdRecFlush r, rfl, hostOnly_host _ _ _, ?_, fun hb => ?_, fun hb => ?_⟩
    · by_cases hb : s.chip.host.rech.buffer = []
      · obtain ⟨-, -, hrest⟩ := State.host_done h (recFlush_empty (h := s.chip.host.accept _) hb _ _) rfl rfl
        exact hrest (fun h => h.rech.buffer) fun _ _ => rfl
      · obtain ⟨-, -, hhost⟩ := State.host_pends h (recFlush_asks (h := s.chip.host.accept _) hb _ _) (congrArg Hif.queues (HostDie.hif_handAll _))
        rw [hhost]
        exact HostDie.buffer_handAll _
    · exact (State.host_done h (recFlush_empty (h := s.chip.host.accept _) hb _ _) rfl rfl).2.1
    · obtain ⟨-, hwait, hhost⟩ := State.host_pends h (recFlush_asks (h := s.chip.host.accept _) hb _ _) (congrArg Hif.queues (HostDie.hif_handAll _))
      obtain ⟨n, a, hrech⟩ := HostDie.rech_handAll_eq { s.chip.host.accept { r with opcode := cmdRecFlush.code } with
        rech := { s.chip.host.rech with
          urgent := true, flushCmds := s.chip.host.rech.flushCmds ++ [{ r with opcode := cmdRecFlush.code }] } }
      have hrech' : (s.host cmdRecFlush r).chip.host.rech = _ := (congrArg HostDie.rech hhost).trans hrech
      rw [hrech']
      exact ⟨hwait, rfl, List.length_append⟩
  case clear =>
    intro r s h
    refine ⟨s.host cmdRecClear r, rfl, hostOnly_host _ _ _, fun hw => ?_, fun hw hf => ?_, fun hw hf hl => ?_, fun hw hf hl => ?_⟩
    · obtain ⟨-, hans, hrest⟩ := State.host_done h (recClear_winter (h := s.chip.host.accept _) hw _ _) rfl rfl
      exact ⟨hans, hrest HostDie.rech fun _ _ => rfl⟩
    · obtain ⟨-, hans, hrest⟩ := State.host_done h (recClear_frozen (h := s.chip.host.accept _) hw hf _ _) rfl rfl
      exact ⟨hans, hrest HostDie.rech fun _ _ => rfl⟩
    · obtain ⟨-, hans, hrest⟩ := State.host_done h (recClear_full (h := s.chip.host.accept _) hw hf hl _ _) rfl rfl
      exact ⟨hans, hrest HostDie.rech fun _ _ => rfl⟩
    · obtain ⟨-, hwait, hhost⟩ := State.host_pends h (recClear_enters (h := s.chip.host.accept _) hw hf hl _ _) (congrArg Hif.queues (HostDie.nandOp_hif _ _))
      rw [hhost, rech_clearEntered]
      exact ⟨hwait, rfl, rfl, List.length_append, HostDie.queued_nandOp _ _, _, rfl, rfl, rfl, rfl, rfl, rfl⟩
  case setFlush =>
    intro r s h
    obtain ⟨honly, hans, hrest⟩ := State.host_done h rfl rfl rfl
    exact ⟨_, rfl, honly, hans, hrest HostDie.rech fun _ _ => rfl⟩
  case status =>
    intro r s h
    obtain ⟨honly, hans, hrest⟩ := State.host_done h rfl rfl rfl
    exact ⟨_, rfl, honly, hrest HostDie.rech fun _ _ => rfl, hans⟩
  case read =>
    intro r s h hm
    obtain ⟨honly, -, hrest⟩ := State.host_done h (recRead_good (q := { r with opcode := cmdRecRead.code }) hm _) rfl rfl
    exact ⟨_, rfl, honly, hrest HostDie.rech fun _ _ => rfl, hrest (fun h => h.hif.mem) fun _ _ => rfl⟩
  case readTrace =>
    intro r s h hm
    refine ⟨s.host cmdRecReadTrace r, rfl, hostOnly_host _ _ _, fun x hx => ?_, fun hn => ?_⟩
    · obtain ⟨-, hans, hrest⟩ := State.host_done h (recReadTrace_some (h := s.chip.host.accept _) (q := { r with opcode := cmdRecReadTrace.code }) hm hx _) rfl rfl
      exact ⟨hans, hrest (fun h => h.hif.mem) fun _ _ => rfl⟩
    · exact (State.host_done h (recReadTrace_none (h := s.chip.host.accept _) (q := { r with opcode := cmdRecReadTrace.code }) hn _) rfl rfl).2.1
  case readLedger =>
    intro r s h hm
    cases hf : s.chip.host.rech.ledger.find? (fun y => y.index == r.u32 0) with
    | none =>
      obtain ⟨honly, hans, hrest⟩ := State.host_done h (recReadLedger_none (h := s.chip.host.accept _) (q := { r with opcode := cmdRecReadLedger.code }) hf _) rfl rfl
      exact ⟨_, rfl, honly, hrest HostDie.rech fun _ _ => rfl, nofun, fun _ => hans⟩
    | some x =>
      obtain ⟨honly, hans, hrest⟩ := State.host_done h (recReadLedger_some (h := s.chip.host.accept _) (q := { r with opcode := cmdRecReadLedger.code }) hm hf _) rfl rfl
      refine ⟨_, rfl, honly, hrest HostDie.rech fun _ _ => rfl, fun y hy => ?_, nofun⟩
      obtain rfl : x = y := Option.some.inj hy
      exact ⟨hans, hrest (fun h => h.hif.mem) fun _ _ => rfl⟩

end Machine
end Sys2Proof

/-! The commands of the security engine (19 R493, R494, Table 19-9). -/

namespace Sys2Proof
namespace Machine

section SecurityCommands

variable {c : HCmd} {r : Request} {s : State}

/-- A host-executed command that takes effect has its parameters in their ranges. -/
theorem chk_of_hostTakes (h : hostTakes c r s) :
    c.chk s.chip.variant (s.chip.host.accept { r with opcode := c.code }) { r with opcode := c.code } = none := by
  obtain ⟨_, _, hadm⟩ := h
  unfold admitH at hadm
  cases hchk : c.chk s.chip.variant (s.chip.host.accept { r with opcode := c.code }) { r with opcode := c.code } with
  | none => rfl
  | some st => grind

theorem keySlot_secSetAuthKey (h : hostTakes cmdSecSetAuthKey r s) : r.u32 0 < 4 := by
  have hchk : need (r.u32 0 < 4 && s.chip.host.bufOk (r.par 8 8) 32) = none := chk_of_hostTakes h
  rw [need_eq_none, Bool.and_eq_true] at hchk
  exact of_decide_eq_true hchk.1

theorem keySlots_secClearAuthKey (h : hostTakes cmdSecClearAuthKey r s) : r.u32 0 < 4 ∧ r.keySlot ≠ r.u32 0 := by
  have hchk : need (r.u32 0 < 4 && r.keySlot != r.u32 0 && s.chip.host.sec.filled (r.u32 0) &&
    1 < ((List.range 4).filter s.chip.host.sec.filled).length) = none := chk_of_hostTakes h
  rw [need_eq_none] at hchk
  simp only [Bool.and_eq_true, decide_eq_true_eq, bne_iff_ne] at hchk
  tauto

theorem keySlot_secAddFwKey (h : hostTakes cmdSecAddFwKey r s) :
    r.u32 0 < 4 ∧ (s.chip.host.sec.fwKeys.getD (r.u32 0) {}).programmed = false := by
  have hchk : need (r.u32 0 < 4 && s.chip.host.bufOk (r.par 8 8) 32 && !(s.chip.host.sec.fwKeys.getD (r.u32 0) {}).programmed) = none :=
    chk_of_hostTakes h
  rw [need_eq_none] at hchk
  simp only [Bool.and_eq_true, decide_eq_true_eq, Bool.not_eq_true'] at hchk
  tauto

theorem keySlot_secRevokeFwKey (h : hostTakes cmdSecRevokeFwKey r s) : r.u32 0 < 4 := by
  have hchk := chk_of_hostTakes h
  simp only [cmdSecRevokeFwKey, need_eq_none, Bool.and_eq_true, decide_eq_true_eq] at hchk
  exact hchk.1.1.1.1

/-- Region H after the draws of a SEC_RANDOM. -/
def drawn (h : HostDie) (n : Nat) : HostDie := { h with sec := { h.sec with draws := h.sec.draws + n } }

theorem secRandom_healthy {h : HostDie} {q : Request} (hr : Config.rngHealthy h.sec.draws = true) (v : Variant) : cmdSecRandom.op v h q =
    ((drawn h (q.u32 0)).bufWrite (q.par 8 8) ((List.range (q.u32 0)).map fun i => Config.random (h.sec.draws + i)), some (.ok, 0)) :=
  if_pos hr

theorem secRandom_fails {h : HostDie} {q : Request} (hr : Config.rngHealthy h.sec.draws = false) (v : Variant) : cmdSecRandom.op v h q =
    ((drawn h (q.u32 0)).raise 251 1, some (.aborted, 0)) :=
  if_neg (Bool.eq_false_iff.mp hr)

/-- RESULT of SEC_GET_KEYS without the running image's key: three bits for each of the four slots. -/
def keyBits (a p v : Nat → Bool) : Nat :=
  (pack ((List.range 4).flatMap fun k => [(k, bit (a k)), (8 + k, bit (p k)), (12 + k, bit (v k))])).toNat

theorem bit_le_one (b : Bool) : bit b ≤ 1 := by cases b <;> decide

theorem four_bits_le (a : Nat → Bool) : bit (a 0) ≤ 1 ∧ bit (a 1) ≤ 1 ∧ bit (a 2) ≤ 1 ∧ bit (a 3) ≤ 1 :=
  ⟨bit_le_one _, bit_le_one _, bit_le_one _, bit_le_one _⟩

theorem decide_bit_eq_one (b : Bool) : decide (bit b = 1) = b := by cases b <;> decide

theorem keyBits_eq (a p v : Nat → Bool) : keyBits a p v =
    bit (a 0) + 2 * bit (a 1) + 4 * bit (a 2) + 8 * bit (a 3) + 256 * bit (p 0) + 512 * bit (p 1) + 1024 * bit (p 2) + 2048 * bit (p 3) +
      4096 * bit (v 0) + 8192 * bit (v 1) + 16384 * bit (v 2) + 32768 * bit (v 3) := by
  have ha := four_bits_le a
  have hp := four_bits_le p
  have hv := four_bits_le v
  have hrange : List.range 4 = [0, 1, 2, 3] := by decide
  simp only [keyBits, pack, hrange, List.flatMap_cons, List.flatMap_nil, List.cons_append, List.nil_append, List.foldl_cons, List.foldl_nil,
    BitVec.toNat_ofNat]
  omega

/-- Each bit of the key word says its slot's state, under what stands above it. -/
theorem testBit_keyBits (a p v : Nat → Bool) (m : Nat) {k : Nat} (hk : k < 4) :
    (keyBits a p v + 2 ^ 16 * m).testBit k = a k ∧ (keyBits a p v + 2 ^ 16 * m).testBit (8 + k) = p k ∧
      (keyBits a p v + 2 ^ 16 * m).testBit (12 + k) = v k := by
  have ha := four_bits_le a
  have hp := four_bits_le p
  have hv := four_bits_le v
  have hbit : ∀ (i : Nat) (b : Bool), (keyBits a p v + 2 ^ 16 * m) / 2 ^ i % 2 = bit b → (keyBits a p v + 2 ^ 16 * m).testBit i = b :=
    fun i b heq => by rw [Nat.testBit_eq_decide_div_mod_eq, heq, decide_bit_eq_one]
  refine ⟨hbit _ _ ?_, hbit _ _ ?_, hbit _ _ ?_⟩
  all_goals
    rw [keyBits_eq]
    obtain rfl | rfl | rfl | rfl : k = 0 ∨ k = 1 ∨ k = 2 ∨ k = 3 := by omega
    all_goals omega

theorem key_keyBits (a p v : Nat → Bool) (m : Nat) (hm : m < 4) : (keyBits a p v + 2 ^ 16 * m) / 2 ^ 16 % 4 = m := by
  have ha := four_bits_le a
  have hp := four_bits_le p
  have hv := four_bits_le v
  rw [keyBits_eq]
  omega

end SecurityCommands

/-- Settles O55: each command leaves the key, the buffer or the draws that it names. -/
theorem securityCommandsKeepTheKeys : Obligations.SecurityCommandsKeepTheKeys := by
  refine ⟨?setAuth, ?clearAuth, ?addFw, ?revokeFw, ?identity, ?attest, ?random, ?keys⟩
  case setAuth =>
    intro r s h
    obtain ⟨honly, hans, hrest⟩ := State.host_done h rfl rfl rfl
    refine ⟨_, rfl, honly, hans, (hrest (fun h => h.sec.authKeys.getD (r.u32 0) none) fun _ _ => rfl).trans ?_, fun k hk => ?_,
      hrest (fun h => h.sec.fwKeys) fun _ _ => rfl, hrest (fun h => h.hif.check) fun _ _ => rfl, hrest (fun h => h.hif.ready) fun _ _ => rfl⟩
    · exact Tab.getD_modifyNat_self _ _ _ _ (keySlot_secSetAuthKey h)
    · exact (hrest (fun h => h.sec.authKeys.getD k none) fun _ _ => rfl).trans (Tab.getD_modifyNat_ne _ _ _ _ _ hk)
  case clearAuth =>
    intro r s h
    obtain ⟨honly, hans, hrest⟩ := State.host_done h rfl rfl rfl
    obtain ⟨hslot, hown⟩ := keySlots_secClearAuthKey h
    refine ⟨_, rfl, honly, hans, (hrest (fun h => h.sec.authKeys.getD (r.u32 0) none) fun _ _ => rfl).trans ?_, hown, fun k hk => ?_,
      hrest (fun h => h.sec.fwKeys) fun _ _ => rfl, hrest (fun h => h.hif.check) fun _ _ => rfl, hrest (fun h => h.hif.ready) fun _ _ => rfl⟩
    · exact Tab.getD_modifyNat_self _ _ _ _ hslot
    · exact (hrest (fun h => h.sec.authKeys.getD k none) fun _ _ => rfl).trans (Tab.getD_modifyNat_ne _ _ _ _ _ hk)
  case addFw =>
    intro r s h
    obtain ⟨honly, hans, hrest⟩ := State.host_done h rfl rfl rfl
    obtain ⟨hslot, hfree⟩ := keySlot_secAddFwKey h
    exact ⟨_, rfl, honly, hans, hfree, (hrest (fun h => h.sec.fwKeys.getD (r.u32 0) {}) fun _ _ => rfl).trans
      (Tab.getD_modifyNat_self _ _ _ _ hslot), hrest (fun h => h.sec.authKeys) fun _ _ => rfl⟩
  case revokeFw =>
    intro r s h
    obtain ⟨honly, hans, hrest⟩ := State.host_done h rfl rfl rfl
    have hkey := (hrest (fun h => h.sec.fwKeys.getD (r.u32 0) {}) fun _ _ => rfl).trans
      (Tab.getD_modifyNat_self _ _ _ _ (keySlot_secRevokeFwKey h))
    exact ⟨_, rfl, honly, hans, congrArg FwKey.revoked hkey, (congrArg FwKey.hash hkey).trans rfl, hrest (fun h => h.fcm.arisen) fun _ _ => rfl⟩
  case identity =>
    intro r s h
    obtain ⟨honly, hans, hrest⟩ := State.host_done h rfl rfl rfl
    exact ⟨_, rfl, honly, hans, hrest (fun h => h.hif.mem) fun _ _ => rfl⟩
  case attest =>
    intro r s h
    obtain ⟨honly, hans, hrest⟩ := State.host_done h rfl rfl rfl
    exact ⟨_, rfl, honly, hans, hrest (fun h => h.hif.mem) fun _ _ => rfl⟩
  case random =>
    intro r s h
    cases hr : Config.rngHealthy s.chip.host.sec.draws with
    | true =>
      obtain ⟨honly, hans, hrest⟩ := State.host_done h (secRandom_healthy (h := s.chip.host.accept _) hr _) rfl rfl
      exact ⟨_, rfl, honly, hrest (fun h => h.sec.draws) fun _ _ => rfl, fun _ => ⟨hans, hrest (fun h => h.hif.mem) fun _ _ => rfl⟩, nofun⟩
    | false =>
      obtain ⟨honly, hans, hrest⟩ := State.host_done h (secRandom_fails (h := s.chip.host.accept _) hr _) rfl rfl
      exact ⟨_, rfl, honly, hrest (fun h => h.sec.draws) fun _ _ => rfl, nofun,
        fun _ => ⟨hans, hrest (fun h => h.hif.mem) fun _ _ => rfl, hrest (fun h => h.fcm.arisen) fun _ _ => rfl⟩⟩
  case keys =>
    intro r s h
    have hop : cmdSecGetKeys.op s.chip.variant (s.chip.host.accept { r with opcode := cmdSecGetKeys.code }) { r with opcode := cmdSecGetKeys.code } =
      (s.chip.host.accept { r with opcode := cmdSecGetKeys.code }, some (.ok, keyBits (fun k => (s.chip.host.sec.authKeys.getD k none).isSome)
        (fun k => (s.chip.host.sec.fwKeys.getD k {}).programmed) (fun k => (s.chip.host.sec.fwKeys.getD k {}).revoked) +
          2 ^ 16 * (s.chip.host.stor.key % 4))) := rfl
    obtain ⟨honly, hans, hrest⟩ := State.host_done h hop rfl rfl
    exact ⟨_, _, rfl, honly, hrest HostDie.sec fun _ _ => rfl, hans, key_keyBits _ _ _ _ (Nat.mod_lt _ (by decide)), fun k hk => testBit_keyBits _ _ _ _ hk⟩

end Machine
end Sys2Proof

/-! The configuration commands of region H (19 R489, R492): on a standby, CFG_READ answers from the stored blob only where its field side runs
that very blob. -/

namespace Sys2Proof
namespace Machine

/-- A standby that holds a blob which its field side does not run: the telemetry set names no CRC, the stored blob has CRC 1. -/
def staleStandby : State := State.reset.onHost fun h => { h with
  power := { h.power with vinh := true, asleep := false }, mode := { h.mode with mode := 5, notConfigured := false }
  cfg := { h.cfg with blob := some [7], gen := 0, crc := 1 } }

/-- A CFG_READ of one byte into the shared area. -/
def readOneByte : Request := { unit := 0xFF, params := 0x080000 * 2 ^ 64 + 1 * 2 ^ 32 }

theorem hostTakes_readOneByte : hostTakes cmdCfgRead readOneByte staleStandby := by
  refine ⟨by decide, by decide, ?_⟩
  decide +kernel

/-- R492: the standby answers NOT_CONFIGURED, though the blob is there. -/
theorem refused_readOneByte : ((staleStandby.host cmdCfgRead readOneByte).chip.host.hif.queues.get 0).waiting.map (·.status) =
    [.notConfigured] := by decide +kernel

theorem blob_staleStandby : staleStandby.chip.host.cfg.blob = some [7] ∧ staleStandby.chip.host.mode.notConfigured = false := by decide +kernel

theorem waiting_staleStandby : (staleStandby.chip.host.hif.queues.get 0).waiting = [] := by decide +kernel

/-- Refutes O54: a standby whose field side does not run the stored blob (R492) answers a CFG_READ with NOT_CONFIGURED, where the statement has
it answer with the blob. -/
theorem not_configurationCommandsOfTheHost : ¬ Obligations.ConfigurationCommandsOfTheHost := by
  rintro ⟨_, _, _, _, hread, _⟩
  obtain ⟨t, hexec, _, _, _, hblob⟩ := hread readOneByte staleStandby hostTakes_readOneByte
  have ht : staleStandby.host cmdCfgRead readOneByte = t := by
    injection hexec
  obtain ⟨_, hans⟩ := hblob [7] blob_staleStandby.1 blob_staleStandby.2
  have hok : (t.chip.host.hif.queues.get 0).waiting.map (·.status) = [.ok] :=
    congrArg (List.map (·.status)) (hans.trans (congrArg (· ++ _) waiting_staleStandby))
  rw [← ht, refused_readOneByte] at hok
  exact absurd hok (by decide)

end Machine
end Sys2Proof

/-! Command tokens (18 R474, R475): routing touches region H alone, and the head of the check list is judged by the lockout and by its token. -/

namespace Sys2Proof

/-- A failed token raises AUTH_FAILURE with its opcode (R475). -/
theorem HostDie.arisen_authFailed (h : HostDie) (r : Request) : (h.authFailed r).fcm.arisen = h.fcm.arisen ++
    [{ tb := h.htb, fine := 0xFFFF, src := 248, code := 1, value := r.opcode }] := by
  simp [authFailed, raise]

namespace Machine

section HostOnly

variable {s t u : State} {p : HostDie → Prop} [DecidablePred p] {g g' : HostDie → HostDie}

theorem State.onHost_due (hp : p s.chip.host) : s.onHost (fun h => if p h then g h else g' h) = s.onHost g := by
  rw [State.onHost, State.onHost, if_pos hp]

theorem State.onHost_else (hp : ¬ p s.chip.host) : s.onHost (fun h => if p h then g h else g' h) = s.onHost g' := by
  rw [State.onHost, State.onHost, if_neg hp]

theorem State.onHost_not (hp : ¬ p s.chip.host) : s.onHost (fun h => if p h then g h else h) = s :=
  (State.onHost_else hp).trans rfl

theorem hostOnly_self (s : State) : hostOnly s s := rfl

theorem hostOnly_onHost (s : State) (g : HostDie → HostDie) : hostOnly s (s.onHost g) := rfl

theorem hostOnly_trans (h : hostOnly s t) (h' : hostOnly t u) : hostOnly s u := by
  unfold hostOnly at h h' ⊢
  rw [h', h]

theorem hostOnly_cfgLoad (r : Request) (s : State) : hostOnly s (s.cfgLoad r) := by
  unfold State.cfgLoad
  dsimp only
  split <;> exact hostOnly_onHost _ _

theorem hostOnly_route (r : Request) (s : State) : hostOnly s (s.route r) := by
  unfold State.route
  split
  · exact hostOnly_onHost _ _
  split
  · exact hostOnly_cfgLoad _ _
  split
  · exact hostOnly_onHost _ _
  split <;> exact hostOnly_onHost _ _

theorem hostOnly_routeAll (rs : List Request) (s : State) : hostOnly s (s.routeAll rs) := by
  induction rs generalizing s with
  | nil => exact hostOnly_self s
  | cons r rs ih =>
    unfold State.routeAll
    dsimp only
    split
    · exact hostOnly_trans (hostOnly_onHost _ _) (ih _)
    · exact hostOnly_trans (hostOnly_route _ _) (ih _)

/-- A command that no check stops and that region H does not run joins the forward buffer (18 R464). -/
theorem route_forwards {r : Request} (ho : r.opcode ∈ opcodes) (hl : r.opcode ≠ 0x1001) (hc : hostCmd r = none)
    (hr : s.chip.host.stor.recovery = false) :
    s.route r = s.onHost (fun h => { h with hif := { h.hif with ready := h.hif.ready ++ [h.withBuffer r] } }) := by
  unfold State.route
  rw [if_neg (by simp [ho]), if_neg hl, hc]
  exact if_neg (by simp [hr])

end HostOnly

section Tokens

/-- The check that a token passes (R475): one is there, its slot is filled, and it is that key's over the message with the nonce. -/
def tokenGood (h : HostDie) (r : Request) : Bool :=
  r.auth && (match h.sec.authKeys.getD r.keySlot none with
    | some k => Hash.token k (tokenMessage h.sec.nonce r) == r.token
    | none => false)

/-- The security engine after a judged check with its count of failures in a row (R475). -/
def judgedSec (h : HostDie) (fails : Nat) : Sec := { h.sec with
  nonce := (h.sec.nonce + 1) % 2 ^ 64, failures := fails, lockout := fails == 16, lockedAt := if fails = 16 then h.htb else h.sec.lockedAt }

/-- Region H with its check list taken and a check judged. -/
def judged (h : HostDie) (fails : Nat) : HostDie := { h with hif := { h.hif with check := [] }, sec := judgedSec h fails }

/-- Where a judged command goes: on to where it runs, or to AUTH_FAIL. -/
def afterCheck (s : State) (r : Request) (ok : Bool) : State :=
  let s := s.onHost fun h => judged h (if ok then 0 else s.chip.host.sec.failures + 1)
  if ok then s.route { r with authOk := true } else s.onHost fun h => h.authFailed r

variable {s : State} {r : Request} {rest : List Request}

theorem tokenGood_of_key {h : HostDie} {k : List Byte} (ha : r.auth = true) (hk : h.sec.authKeys.getD r.keySlot none = some k)
    (ht : Hash.token k (tokenMessage h.sec.nonce r) = r.token) : tokenGood h r = true := by
  simp [tokenGood, ha, hk, ht]

theorem tokenGood_eq_false {h : HostDie} (hbad : r.auth = false ∨ ∀ k, h.sec.authKeys.getD r.keySlot none = some k →
    Hash.token k (tokenMessage h.sec.nonce r) ≠ r.token) : tokenGood h r = false := by
  unfold tokenGood
  rcases hbad with ha | hbad
  · rw [ha, Bool.false_and]
  · split
    next k hk => simp [hbad k hk]
    next => exact Bool.and_false _

theorem exec_authCheckDone_idle (hc : s.chip.host.hif.check = []) : exec .authCheckDone s = .next s := by
  refine congrArg Host.Outcome.next ?_
  dsimp only
  rw [hc]

theorem exec_authCheckDone_locked (hc : s.chip.host.hif.check = r :: rest) (hl : s.chip.host.sec.lockout = true) :
    exec .authCheckDone s = .next (((s.onHost fun h => { h with hif := { h.hif with check := [] } }).onHost
      fun h => h.complete r .authFail).routeAll rest) := by
  refine congrArg Host.Outcome.next ?_
  dsimp only
  rw [hc]
  dsimp only
  rw [if_pos hl]

theorem exec_authCheckDone_judges (hc : s.chip.host.hif.check = r :: rest) (hl : s.chip.host.sec.lockout = false) :
    exec .authCheckDone s = .next ((afterCheck s r (tokenGood s.chip.host r)).routeAll rest) := by
  refine congrArg Host.Outcome.next ?_
  dsimp only
  rw [hc]
  dsimp only
  rw [if_neg (Bool.eq_false_iff.mp hl)]
  rfl

end Tokens

/-- The end of a lockout falls due (R475). -/
abbrev LockoutOver (h : HostDie) : Prop := h.sec.lockout = true ∧ 40000 ≤ h.htb - h.sec.lockedAt

theorem exec_authLockoutEnd_due {s : State} (h : LockoutOver s.chip.host) : exec .authLockoutEnd s =
    .next (s.onHost fun h => { h with sec := { h.sec with lockout := false, failures := 0 } }) :=
  congrArg Host.Outcome.next (State.onHost_due (p := LockoutOver) h)

theorem exec_authLockoutEnd_not {s : State} (h : ¬ LockoutOver s.chip.host) : exec .authLockoutEnd s = .next s :=
  congrArg Host.Outcome.next (State.onHost_not (p := LockoutOver) h)

theorem not_lockoutOver {h : HostDie} (hn : h.sec.lockout = false ∨ h.htb < h.sec.lockedAt + 40000) : ¬ LockoutOver h := by
  rintro ⟨hl, ht⟩
  rcases hn with hn | hn
  · exact Bool.false_ne_true (hn.symm.trans hl)
  · omega

/-- Settles O49: the lockout, a token that fails and a token that passes are the three ways of a judged check. -/
theorem tokensAreJudgedInOrder : Obligations.TokensAreJudgedInOrder := by
  refine ⟨?check, ?lockoutEnd⟩
  case check =>
    intro s
    cases hc : s.chip.host.hif.check with
    | nil => exact ⟨s, exec_authCheckDone_idle hc, hostOnly_self s, fun _ => rfl, nofun⟩
    | cons r rest =>
      cases hl : s.chip.host.sec.lockout with
      | true =>
        refine ⟨_, exec_authCheckDone_locked hc hl, hostOnly_trans (t := (s.onHost _).onHost _) rfl (hostOnly_routeAll _ _), nofun, ?_⟩
        rintro q hq hs
        obtain ⟨rfl, rfl⟩ := List.cons.inj hq
        refine ⟨fun _ => ⟨?_, ?_, ?_⟩, nofun, fun _ => nofun⟩
        · exact HostDie.complete_sec _ _ _ _
        · exact HostDie.complete_fcm _ _ _ _
        · exact HostDie.complete_waiting _ _ _ _ hs
      | false =>
        refine ⟨_, exec_authCheckDone_judges hc hl, hostOnly_trans ?_ (hostOnly_routeAll _ _), nofun, ?_⟩
        · unfold afterCheck
          dsimp only
          split
          · exact hostOnly_trans (hostOnly_onHost _ _) (hostOnly_route _ _)
          · exact hostOnly_onHost _ _
        rintro q hq hs
        obtain ⟨rfl, rfl⟩ := List.cons.inj hq
        refine ⟨nofun, fun _ hbad => ?_, fun k _ ha hk ht ho hload hcmd hrec => ?_⟩
        · rw [tokenGood_eq_false hbad]
          exact ⟨HostDie.authFailed_sec _ _, HostDie.arisen_authFailed _ _, HostDie.authFailed_waiting _ _ hs⟩
        · rw [tokenGood_of_key ha hk ht]
          have hroute : afterCheck s r true = _ := route_forwards (r := { r with authOk := true }) ho hload hcmd hrec
          rw [hroute]
          exact ⟨rfl, rfl, rfl⟩
  case lockoutEnd =>
    intro s
    by_cases h : LockoutOver s.chip.host
    · refine ⟨_, exec_authLockoutEnd_due h, rfl, fun _ _ => rfl, fun hn => absurd h (not_lockoutOver hn)⟩
    · exact ⟨s, exec_authLockoutEnd_not h, rfl, fun hl ht => absurd ⟨hl, by omega⟩ h, fun _ => rfl⟩

end Machine
end Sys2Proof

/-! The rings of a queue (18 R461 to R466). -/

namespace Sys2Proof
namespace HostDie

section Queues

variable {h : HostDie} {i j : Nat} {w : Word}

/-- A vector raised touches the pending vectors alone. -/
theorem vector_rest (h : HostDie) (v : Nat) : h.vector v = { h with hif := { h.hif with vecPend := (h.vector v).hif.vecPend } } := by
  unfold vector
  split <;> rfl

@[simp] theorem q_vector (h : HostDie) (v i : Nat) : (h.vector v).q i = h.q i := by
  rw [vector_rest]
  rfl

@[simp] theorem mem_vector (h : HostDie) (v : Nat) : (h.vector v).hif.mem = h.hif.mem := by
  rw [vector_rest]

theorem q_modQ_self (h : HostDie) (g : QPair → QPair) (hi : i < 32) : (h.modQ i g).q i = g (h.q i) :=
  Tab.getD_modifyNat_self _ _ _ _ hi

theorem q_modQ_ne (h : HostDie) (g : QPair → QPair) (hj : j ≠ i) : (h.modQ i g).q j = h.q j :=
  Tab.getD_modifyNat_ne _ _ _ _ _ hj

theorem q_queueError_self (h : HostDie) (code : Nat) (hi : i < 32) : (h.queueError i code).q i = { h.q i with error := true, errCode := code } :=
  (q_vector _ _ _).trans (q_modQ_self _ _ hi)

/-- A doorbell does nothing to a queue that is off or in ERROR (R465). -/
theorem sqTail_off (hoff : (h.q i).en = false ∨ (h.q i).error = true) : h.sqTail i w = h := if_pos (by simpa using hoff)

theorem sqTail_far (hen : (h.q i).en = true) (herr : (h.q i).error = false) (hw : 2 ^ (h.q i).sqLog2 ≤ bits 15 0 w) :
    h.sqTail i w = h.queueError i 1 :=
  (if_neg (by simp [hen, herr])).trans (if_pos hw)

theorem sqTail_moves (hen : (h.q i).en = true) (herr : (h.q i).error = false) (hw : bits 15 0 w < 2 ^ (h.q i).sqLog2) :
    h.sqTail i w = h.modQ i (fun x => { x with sqTail := bits 15 0 w }) :=
  (if_neg (by simp [hen, herr])).trans (if_neg (Nat.not_le.mpr hw))

theorem cqHead_off (hoff : (h.q i).en = false ∨ (h.q i).error = true) : h.cqHead i w = h := if_pos (by simpa using hoff)

theorem cqHead_far (hen : (h.q i).en = true) (herr : (h.q i).error = false) (hw : 2 ^ (h.q i).cqLog2 ≤ bits 15 0 w) :
    h.cqHead i w = h.queueError i 1 :=
  (if_neg (by simp [hen, herr])).trans (if_pos hw)

theorem cqHead_moves (hen : (h.q i).en = true) (herr : (h.q i).error = false) (hw : bits 15 0 w < 2 ^ (h.q i).cqLog2) :
    h.cqHead i w = h.modQ i (fun x => { x with cqHead := bits 15 0 w }) :=
  (if_neg (by simp [hen, herr])).trans (if_neg (Nat.not_le.mpr hw))

theorem q_writeQcfg (h : HostDie) (i j : Nat) (w : Word) : (h.writeQcfg i w).q j = (h.modQ i (fun x => x.writeCfg h.ringsOk w)).q j := by
  unfold writeQcfg
  dsimp only
  split
  · exact q_vector _ _ _
  · rfl

theorem nextQueue_lt (hn : h.nextQueue = some i) : i < 32 := by
  obtain ⟨k, _, rfl⟩ := List.mem_map.mp (List.mem_of_find?_eq_some hn)
  exact Nat.mod_lt _ (by decide)

theorem fetchable_pos (hn : h.nextQueue = some i) : 0 < h.fetchable i := 
  of_decide_eq_true (List.find?_some (p := fun i => decide (0 < h.fetchable i)) hn)

/-- What region H adds to a forwarded command leaves its interface and its streams as they were. -/
theorem hif_forwardShare (h : HostDie) (r : Request) : (h.forwardShare r).1.hif = h.hif ∧ (h.forwardShare r).1.bar = h.bar := by
  unfold forwardShare
  split
  · exact ⟨rfl, rfl⟩
  · unfold allSources
    split
    · exact ⟨rfl, rfl⟩
    split <;> exact ⟨rfl, rfl⟩

/-- Held completions of a queue wait for its ring once MBOX_EN and the queue are set again (R466). -/
theorem bringHeld_off {q : Fin 32} (hoff : h.hif.mboxEn = false ∨ (h.q q).en = false ∨ h.held.filter (fun c => c.queue == q) = []) :
    h.bringHeld q = h := if_pos (by simpa using hoff)

/-- The held completions of a queue, marked as such. -/
def heldOf (h : HostDie) (q : Fin 32) : List Completion := (h.held.filter fun c => c.queue == q).map fun (c : Completion) => { c with held := true }

theorem bringHeld_on {q : Fin 32} (hm : h.hif.mboxEn = true) (hen : (h.q q).en = true) (hmine : h.held.filter (fun c => c.queue == q) ≠ []) :
    h.bringHeld q = { h with held := h.held.filter (fun c => c.queue != q) }.modQ q (fun x => { x with waiting := heldOf h q ++ x.waiting }) :=
  if_neg (by simpa [hm, hen] using hmine)

theorem no_heldOf {q : Fin 32} (hn : ∀ c ∈ h.held, c.queue ≠ q) : h.held.filter (fun c => c.queue == q) = [] := by
  simpa using hn

theorem held_bringHeld {q : Fin 32} (hm : h.hif.mboxEn = true) (hen : (h.q q).en = true) :
    (h.bringHeld q).held = h.held.filter (fun c => c.queue != q) ∧
      ((h.bringHeld q).q q).waiting.length = (h.q q).waiting.length + (h.held.filter fun c => c.queue == q).length := by
  by_cases hmine : h.held.filter (fun c => c.queue == q) = []
  · rw [bringHeld_off (.inr (.inr hmine)), hmine]
    refine ⟨(List.filter_eq_self.mpr fun c hc => ?_).symm, rfl⟩
    simpa using (List.filter_eq_nil_iff.mp hmine) c hc
  · rw [bringHeld_on hm hen hmine]
    refine ⟨rfl, ?_⟩
    rw [q_modQ_self _ _ q.isLt]
    change (heldOf h q ++ (h.q q).waiting).length = _
    rw [List.length_append, heldOf, List.length_map, Nat.add_comm]

section Completions

variable {c : Completion} {rest : List Completion} {ok : Bool}

/-- A queue that is on, without an error, on a link that is up: its next completion meets the ring (R463). -/
structure Serves (h : HostDie) (i : Nat) : Prop where
  en : (h.q i).en = true
  error : (h.q i).error = false
  link : h.power.link = .qspi ∨ h.power.linkUp = true

theorem Serves.on (hs : Serves h i) : ¬ (¬ (h.q i).en ∨ (h.q i).error ∨ (h.power.link = .pcie ∧ ¬ h.power.linkUp)) := by
  obtain ⟨hen, herr, hlink⟩ := hs
  rw [hen, herr]
  rintro (hn | hn | ⟨hp, hn⟩)
  · exact hn rfl
  · exact Bool.false_ne_true hn
  · rcases hlink with hq | hu
    · exact absurd (hp.symm.trans hq) (by decide)
    · exact hn hu

theorem writeCompletion_empty (hw : (h.q i).waiting = []) : h.writeCompletion i ok = h := by
  unfold writeCompletion
  dsimp only
  rw [hw]

theorem writeCompletion_full (hw : (h.q i).waiting = c :: rest) (hs : Serves h i) (hr : (h.q i).room = false) : h.writeCompletion i ok = h := by
  unfold writeCompletion
  dsimp only
  rw [hw]
  dsimp only
  rw [if_neg hs.on, if_pos (by simp [hr])]

theorem writeCompletion_fails (hw : (h.q i).waiting = c :: rest) (hs : Serves h i) (hr : (h.q i).room = true) :
    h.writeCompletion i false = (h.modQ i (fun x => { x with waiting := rest, qcnt := x.qcnt - 1 })).queueError i 3 := by
  unfold writeCompletion
  dsimp only
  rw [hw]
  dsimp only
  rw [if_neg hs.on, if_neg (by simp [hr]), if_pos (by decide)]

/-- Region H with a completion's bytes in the ring of its queue. -/
def ringWritten (h : HostDie) (i : Nat) (c : Completion) : HostDie :=
  h.bufWrite ((h.q i).cqBase + 16 * (h.q i).cqTail) (c.bytes (h.q i).phase)

theorem mem_modQ_bufWrite (h : HostDie) (a : Nat) (bs : List Byte) (i : Nat) (g : QPair → QPair) :
    ((h.bufWrite a bs).modQ i g).hif.mem = memWriteAll h.hif.mem a bs := rfl

theorem q_bufWrite (h : HostDie) (a : Nat) (bs : List Byte) (j : Nat) : (h.bufWrite a bs).q j = h.q j := rfl

/-- A queue whose next completion has been written. -/
def completionTaken (c : Completion) (rest : List Completion) (t : Nat) (x : QPair) : QPair :=
  { x with waiting := rest, qcnt := if c.held ∨ c.peer then x.qcnt else x.qcnt - 1, cqTail := t, phase := if t = 0 then !x.phase else x.phase }

theorem writeCompletion_writes (hw : (h.q i).waiting = c :: rest) (hs : Serves h i) (hr : (h.q i).room = true) :
    h.writeCompletion i true =
      ((ringWritten h i c).modQ i (completionTaken c rest (((h.q i).cqTail + 1) % 2 ^ (h.q i).cqLog2))).vector i := by
  unfold writeCompletion
  dsimp only
  rw [hw]
  dsimp only
  rw [if_neg hs.on, if_neg (by simp [hr]), if_neg (by decide)]
  rfl

/-- A completion that meets room in the ring: the queue and the ring after it. -/
theorem q_writeCompletion (hi : i < 32) (hw : (h.q i).waiting = c :: rest) (hs : Serves h i) (hr : (h.q i).room = true) :
    (h.writeCompletion i true).q i = completionTaken c rest (((h.q i).cqTail + 1) % 2 ^ (h.q i).cqLog2) (h.q i) := by
  rw [writeCompletion_writes hw hs hr, q_vector, q_modQ_self _ _ hi, ringWritten, q_bufWrite]

theorem mem_writeCompletion (hw : (h.q i).waiting = c :: rest) (hs : Serves h i) (hr : (h.q i).room = true) :
    (h.writeCompletion i true).hif.mem = memWriteAll h.hif.mem ((h.q i).cqBase + 16 * (h.q i).cqTail) (c.bytes (h.q i).phase) := by
  rw [writeCompletion_writes hw hs hr, mem_vector, ringWritten, mem_modQ_bufWrite]

end Completions
end Queues
end HostDie

namespace Machine

section Fetch

variable {s : State} {i : Nat} {ds : List Request}

/-- The descriptors that a fetch brings, as requests of their queue (18 R462). -/
def fetchedOf (h : HostDie) (i : Nat) (ds : List Request) : List Request :=
  (match h.power.link with | .pcie => ds.take (h.fetchable i) | .qspi => h.ringDescriptors i (h.fetchable i)).map fun (r : Request) =>
    { r with queue := Fin.ofNat 32 i, authOk := false, peer := false, silent := false, arrival := 0 }

/-- Region H with fetched commands in progress, their queue served last and its ring moved on. -/
def fetchedIn (h : HostDie) (i : Nat) (ds : List Request) : HostDie :=
  (ds.foldl HostDie.accept { h with hif := { h.hif with served := i } }).modQ i fun x => { x with sqHead := (x.sqHead + ds.length) % 2 ^ x.sqLog2 }

theorem exec_descriptorFetch_idle (x : Fetch) (hn : s.chip.host.mailboxOn = false ∨ s.chip.host.nextQueue = none) :
    exec (.descriptorFetch x) s = .next s := by
  have hnone : (if s.chip.host.mailboxOn then s.chip.host.nextQueue else none) = none := by
    rcases hn with hn | hn <;> simp [hn]
  refine congrArg Host.Outcome.next ?_
  dsimp only
  rw [hnone]

theorem exec_descriptorFetch_failed (hm : s.chip.host.mailboxOn = true) (hn : s.chip.host.nextQueue = some i) :
    exec (.descriptorFetch .failed) s = .next (s.onHost (fun h => { h with hif := { h.hif with served := i } }.queueError i 2)) := by
  refine congrArg Host.Outcome.next ?_
  dsimp only
  rw [if_pos hm, hn]

theorem exec_descriptorFetch_good (hm : s.chip.host.mailboxOn = true) (hn : s.chip.host.nextQueue = some i) :
    exec (.descriptorFetch (.good ds)) s =
      .next ((s.onHost fun h => fetchedIn h i (fetchedOf s.chip.host i ds)).routeAll (fetchedOf s.chip.host i ds)) := by
  refine congrArg Host.Outcome.next ?_
  dsimp only
  rw [if_pos hm, hn]
  rfl

/-- Under PCIe a single descriptor that fits is the request itself. -/
theorem fetchedOf_single {d : Request} {h : HostDie} (hl : h.power.link = .pcie) (hf : 0 < h.fetchable i) (hq : d.queue.val = i)
    (hauth : d.authOk = false) (hp : d.peer = false) (hs : d.silent = false) (ha : d.arrival = 0) : fetchedOf h i [d] = [d] := by
  have hqueue : Fin.ofNat 32 i = d.queue := by
    subst hq
    exact Fin.ext (Nat.mod_eq_of_lt d.queue.isLt)
  unfold fetchedOf
  rw [hl, hqueue]
  dsimp only
  rw [List.take_of_length_le (show [d].length ≤ h.fetchable i from hf)]
  change [({ d with authOk := false, peer := false, silent := false, arrival := 0 } : Request)] = [d]
  cases d
  cases hauth
  cases hp
  cases hs
  cases ha
  rfl

theorem queues_accept (h : HostDie) (d : Request) : (h.accept d).q d.queue =
    { h.q d.queue with qcnt := (h.q d.queue).qcnt + 1, fetched := ((h.q d.queue).fetched + 1) % 2 ^ 32 } :=
  Tab.getD_modifyNat_self _ _ _ _ d.queue.isLt

/-- A command that needs no check and follows none of its queue is routed at once (18 R464). -/
theorem routeAll_single {d : Request} (hn : s.chip.host.needsCheck d = false) (hc : s.chip.host.hif.check = []) : s.routeAll [d] = s.route d := by
  unfold State.routeAll
  dsimp only
  rw [if_neg (by simp [hn, hc])]
  rfl

/-- Whether a field command needs a check does not depend on what region H holds (18 R475). -/
theorem needsCheck_of_field {h g : HostDie} {d : Request} (hc : hostCmd d = none) (hn : h.needsCheck d = false) : g.needsCheck d = false := by
  unfold HostDie.needsCheck at hn ⊢
  rw [hc] at hn ⊢
  exact hn

theorem q_fetchedIn (h : HostDie) (d : Request) : (fetchedIn h d.queue.val [d]).q d.queue.val =
    { h.q d.queue with
      qcnt := (h.q d.queue).qcnt + 1, fetched := ((h.q d.queue).fetched + 1) % 2 ^ 32
      sqHead := ((h.q d.queue).sqHead + 1) % 2 ^ (h.q d.queue).sqLog2 } := by
  unfold fetchedIn
  rw [HostDie.q_modQ_self _ _ d.queue.isLt, List.foldl_cons, List.foldl_nil, queues_accept]
  rfl

end Fetch

section Forward

variable {s : State}

/-- COMMAND_FORWARD has a command, a link and a slot of the tick (18 R464). -/
def forwardsNow (s : State) : Prop := s.chip.host.linkOn = true ∧ s.chip.host.bar.forward.length < 3

theorem exec_commandForward_empty (hr : s.chip.host.hif.ready = []) : exec .commandForward s = .next s := by
  refine congrArg Host.Outcome.next ?_
  dsimp only
  rw [hr]

theorem exec_commandForward_held (hn : s.chip.host.linkOn = false ∨ 3 ≤ s.chip.host.bar.forward.length) : exec .commandForward s = .next s := by
  refine congrArg Host.Outcome.next ?_
  dsimp only
  split
  · rfl
  · exact if_pos (by simpa using hn)

/-- Region H with a command forwarded: its share done, the completion awaited. -/
def forwarded (h : HostDie) (r : Request) (rest : List Request) : HostDie :=
  let g := { h with hif := { h.hif with ready := rest } }
  let a := (g.forwardShare r).1.await r (g.forwardShare r).2
  { a with bar := { a.bar with forward := a.bar.forward ++ [r] } }

theorem exec_commandForward_goes {r : Request} {rest : List Request} (hr : s.chip.host.hif.ready = r :: rest) (hl : s.chip.host.linkOn = true)
    (hf : s.chip.host.bar.forward.length < 3) : exec .commandForward s = .next (s.onHost fun h => forwarded h r rest) := by
  refine congrArg Host.Outcome.next ?_
  dsimp only
  rw [hr]
  exact if_neg (by simp [hl, Nat.not_le.mpr hf])

theorem hif_forwarded (h : HostDie) (r : Request) (rest : List Request) :
    (forwarded h r rest).hif.ready = rest ∧ (forwarded h r rest).bar.forward = h.bar.forward ++ [r] ∧
      ∃ n, (forwarded h r rest).hif.outstanding = h.hif.outstanding ++ [(r.queue.val, r.tag, n)] := by
  obtain ⟨hif, hbar⟩ := HostDie.hif_forwardShare { h with hif := { h.hif with ready := rest } } r
  exact ⟨congrArg Hif.ready hif, congrArg (fun b : HBarrier => b.forward ++ [r]) hbar, _,
    congrArg (fun x : Hif => x.outstanding ++ [(r.queue.val, r.tag, ({ h with hif := { h.hif with ready := rest } }.forwardShare r).2)]) hif⟩

end Forward

/-- Whether the time of the held completions is over (R466). -/
def heldOver (h : HostDie) : Prop := ∃ n, h.heldSince = some n ∧ 400000 ≤ h.htb - n

/-- Region H at a discard of the held completions (R466). -/
def heldDiscarded (h : HostDie) : HostDie :=
  match h.heldSince with
  | some n => if 400000 ≤ h.htb - n then { h with held := [] } else h
  | none => h

theorem heldDiscarded_over {h : HostDie} (hd : heldOver h) : heldDiscarded h = { h with held := [] } := by
  obtain ⟨n, hh, ht⟩ := hd
  unfold heldDiscarded
  rw [hh]
  exact if_pos ht

theorem heldDiscarded_not {h : HostDie} (hd : ¬ heldOver h) : heldDiscarded h = h := by
  unfold heldDiscarded
  split
  next n hh => exact if_neg fun ht => hd ⟨n, hh, ht⟩
  next => rfl

theorem exec_heldCompletionDiscard (s : State) : exec .heldCompletionDiscard s = .next (s.onHost heldDiscarded) := rfl

section Access

variable {s : State} {g : HostDie → HostDie} {c : Instr}

/-- A side that is off or asleep does not take an access (02 R60). -/
theorem access_off (hc : exec c s = .next (s.hostAccess g)) (hl : s.chip.host.listens = false) : exec c s = .next s :=
  hc.trans (congrArg Host.Outcome.next (State.hostAccess_off hl))

theorem access_on (hc : exec c s = .next (s.hostAccess g)) (hl : s.chip.host.listens = true) : exec c s = .next (s.onHost g) :=
  hc.trans (congrArg Host.Outcome.next (State.hostAccess_on hl))

/-- An access that leaves region H as it is leaves everything. -/
theorem access_idle (hc : exec c s = .next (s.hostAccess g)) (hg : s.chip.host.listens = true → g s.chip.host = s.chip.host) :
    exec c s = .next s := by
  cases hl : s.chip.host.listens with
  | false => exact access_off hc hl
  | true => exact (access_on hc hl).trans (congrArg Host.Outcome.next (State.onHost_eq_self (hg hl)))

theorem hostOnly_hostAccess (g : HostDie → HostDie) (s : State) : hostOnly s (s.hostAccess g) := by
  unfold State.hostAccess
  split <;> rfl

end Access

/-- The two doorbells of a queue: off, moved, or out of the ring. -/
theorem exec_sqTailDoorbell (q : Fin 32) (w : Word) (s : State) : exec (.sqTailDoorbell q w) s = .next (s.hostAccess fun h => h.sqTail q w) := rfl

theorem exec_cqHeadDoorbell (q : Fin 32) (w : Word) (s : State) : exec (.cqHeadDoorbell q w) s = .next (s.hostAccess fun h => h.cqHead q w) := rfl

theorem exec_completionWrite (q : Fin 32) (ok : Bool) (s : State) :
    exec (.completionWrite q ok) s = .next (s.hostAccess fun h => (h.bringHeld q).writeCompletion q ok) := rfl

theorem exec_heldCompletionWrite (q : Fin 32) (s : State) : exec (.heldCompletionWrite q) s = .next (s.hostAccess fun h => h.bringHeld q) := rfl

theorem exec_undefinedOpcode (r : Request) (s : State) :
    exec (.undefinedOpcode r) s = .next (s.hostAccess fun h => if opcodes.contains r.opcode then h else h.complete r .badOpcode) := rfl

/-- Settles O48: each event of a ring, by the state of its queue. -/
theorem ringsMoveCommandsAndCompletions : Obligations.RingsMoveCommandsAndCompletions := by
  refine ⟨?sqTail, ?cqHead, ?qcfg, ?fetch, ?forward, ?completion, ?held, ?discard, ?undefined⟩
  case sqTail =>
    intro q w s
    refine ⟨_, rfl, hostOnly_hostAccess _ _, fun hl hen herr => ?_, fun hoff => ?_⟩
    · rw [State.hostAccess_on hl]
      refine ⟨fun hw => ?_, fun hw => ?_⟩
      · exact (congrArg (·.q q) (HostDie.sqTail_moves hen herr hw)).trans (HostDie.q_modQ_self _ _ q.isLt)
      · exact (congrArg (·.q q) (HostDie.sqTail_far hen herr hw)).trans (HostDie.q_queueError_self _ _ q.isLt)
    · rcases hoff with hl | hoff
      · exact State.hostAccess_off hl
      · exact Host.Outcome.next.inj (access_idle (exec_sqTailDoorbell q w s) fun _ => HostDie.sqTail_off hoff)
  case cqHead =>
    intro q w s
    refine ⟨_, rfl, hostOnly_hostAccess _ _, fun hl hen herr => ?_, fun hoff => ?_⟩
    · rw [State.hostAccess_on hl]
      refine ⟨fun hw => ?_, fun hw => ?_⟩
      · exact (congrArg (·.q q) (HostDie.cqHead_moves hen herr hw)).trans (HostDie.q_modQ_self _ _ q.isLt)
      · exact (congrArg (·.q q) (HostDie.cqHead_far hen herr hw)).trans (HostDie.q_queueError_self _ _ q.isLt)
    · rcases hoff with hl | hoff
      · exact State.hostAccess_off hl
      · exact Host.Outcome.next.inj (access_idle (exec_cqHeadDoorbell q w s) fun _ => HostDie.cqHead_off hoff)
  case qcfg =>
    intro q w s hl
    refine ⟨_, access_on (g := fun h => h.writeQcfg q w) rfl hl, rfl, ?_, fun k hk => ?_⟩
    · exact (HostDie.q_writeQcfg _ _ _ _).trans (HostDie.q_modQ_self _ _ q.isLt)
    · exact (HostDie.q_writeQcfg _ _ _ _).trans (HostDie.q_modQ_ne _ _ hk)
  case fetch =>
    intro x s
    by_cases hidle : s.chip.host.mailboxOn = false ∨ s.chip.host.nextQueue = none
    · refine ⟨s, exec_descriptorFetch_idle x hidle, rfl, fun _ => rfl, fun i hm hn => ?_⟩
      rcases hidle with hoff | hnone
      · exact absurd (hoff.symm.trans hm) Bool.false_ne_true
      · exact absurd (hnone.symm.trans hn) nofun
    · obtain ⟨hon, hsome⟩ := not_or.mp hidle
      obtain ⟨i, hi⟩ := Option.ne_none_iff_exists'.mp hsome
      have hm := Bool.eq_true_of_not_eq_false hon
      cases x with
      | failed =>
        refine ⟨_, exec_descriptorFetch_failed hm hi, rfl, fun hn => absurd hn hidle, fun j _ hj => ⟨fun _ => ?_, nofun⟩⟩
        obtain rfl : i = j := Option.some.inj (hi.symm.trans hj)
        refine ⟨HostDie.q_queueError_self _ _ (HostDie.nextQueue_lt hi), ?_⟩
        exact congrArg (fun h => h.hif.served) (HostDie.vector_rest _ _)
      | good ds =>
        refine ⟨_, exec_descriptorFetch_good hm hi, hostOnly_trans (hostOnly_onHost _ _) (hostOnly_routeAll _ _), fun hn => absurd hn hidle,
          fun j _ hj => ⟨nofun, ?_⟩⟩
        obtain rfl : i = j := Option.some.inj (hi.symm.trans hj)
        intro d hd hq hauth hp hs ha hlink hop hneeds hcmd hload hrec hcheck
        obtain rfl : ds = [d] := by injection hd
        rw [fetchedOf_single hlink (HostDie.fetchable_pos hi) hq hauth hp hs ha]
        have hroute := routeAll_single (s := s.onHost fun h => fetchedIn h i [d]) (d := d) (needsCheck_of_field hcmd hneeds) hcheck
        rw [hroute, route_forwards (s := s.onHost fun h => fetchedIn h i [d]) (List.contains_iff_mem.mp hop) hload hcmd hrec]
        subst hq
        have hq : ∀ {α : Type} (p : QPair → α), p ((fetchedIn s.chip.host d.queue [d]).q d.queue) = p _ := fun p => congrArg p (q_fetchedIn _ d)
        refine ⟨?_, ?_, ?_⟩
        · exact hq QPair.sqHead
        · exact hq QPair.qcnt
        · exact List.length_append
  case forward =>
    intro s
    cases hr : s.chip.host.hif.ready with
    | nil => exact ⟨s, exec_commandForward_empty hr, rfl, fun _ => rfl, nofun⟩
    | cons r rest =>
      by_cases hgo : s.chip.host.linkOn = true ∧ s.chip.host.bar.forward.length < 3
      · obtain ⟨hl, hf⟩ := hgo
        refine ⟨_, exec_commandForward_goes hr hl hf, rfl, fun hn => ?_, fun q rest' hq _ _ => ?_⟩
        · rcases hn with hn | hn | hn
          · exact absurd hn nofun
          · exact absurd (hn.symm.trans hl) Bool.false_ne_true
          · omega
        · obtain ⟨rfl, rfl⟩ := List.cons.inj hq
          obtain ⟨hready, hforward, hout⟩ := hif_forwarded s.chip.host r rest
          exact ⟨hforward, hready, hout⟩
      · refine ⟨s, exec_commandForward_held ?_, rfl, fun _ => rfl, fun _ _ _ hl hf => absurd ⟨hl, hf⟩ hgo⟩
        cases hl : s.chip.host.linkOn with
        | false => exact .inl rfl
        | true => exact .inr (Nat.not_lt.mp fun hf => hgo ⟨hl, hf⟩)
  case completion =>
    intro q ok s
    refine ⟨_, rfl, hostOnly_hostAccess _ _, fun hn => ?_, fun c rest hl hheld hw hen herr hlink => ?_⟩
    · rcases hn with hl | ⟨hw, hheld⟩
      · exact State.hostAccess_off hl
      · refine Host.Outcome.next.inj (access_idle (exec_completionWrite q ok s) fun _ => ?_)
        rw [HostDie.bringHeld_off (.inr (.inr (HostDie.no_heldOf hheld))), HostDie.writeCompletion_empty hw]
    · have hserves : HostDie.Serves s.chip.host q := ⟨hen, herr, hlink⟩
      have hbring := HostDie.bringHeld_off (h := s.chip.host) (q := q) (.inr (.inr (HostDie.no_heldOf hheld)))
      rw [State.hostAccess_on hl]
      refine ⟨fun hroom => State.onHost_eq_self ?_, fun hroom hok => ?_, fun hroom hok => ?_⟩
      · rw [hbring, HostDie.writeCompletion_full hw hserves hroom]
      · rw [State.onHost_host, hbring, hok, HostDie.writeCompletion_fails hw hserves hroom, HostDie.q_queueError_self _ _ q.isLt,
          HostDie.q_modQ_self _ _ q.isLt]
        exact ⟨rfl, rfl, rfl, HostDie.mem_vector _ _⟩
      · rw [State.onHost_host, hbring, hok, HostDie.q_writeCompletion q.isLt hw hserves hroom]
        exact ⟨rfl, rfl, HostDie.mem_writeCompletion hw hserves hroom⟩
  case held =>
    intro q s
    refine ⟨_, rfl, hostOnly_hostAccess _ _, fun hl hm hen => ?_, fun hn => ?_⟩
    · rw [State.hostAccess_on hl]
      exact HostDie.held_bringHeld hm hen
    · refine Host.Outcome.next.inj (access_idle (exec_heldCompletionWrite q s) fun hl => HostDie.bringHeld_off ?_)
      rcases hn with hn | hn | hn
      · exact absurd (hn.symm.trans hl) Bool.false_ne_true
      · exact .inl hn
      · exact .inr (.inl hn)
  case discard =>
    intro s
    by_cases hd : heldOver s.chip.host
    · obtain ⟨n, hh, ht⟩ := id hd
      refine ⟨_, exec_heldCompletionDiscard s, rfl, fun _ _ _ => heldDiscarded_over hd, fun m hm hlt => ?_, fun hn => absurd (hn.symm.trans hh) nofun⟩
      obtain rfl : n = m := Option.some.inj (hh.symm.trans hm)
      omega
    · have hself : s.onHost heldDiscarded = s := State.onHost_eq_self (heldDiscarded_not hd)
      exact ⟨_, exec_heldCompletionDiscard s, rfl, fun n hn ht => absurd ⟨n, hn, ht⟩ hd, fun _ _ _ => hself, fun _ => hself⟩
  case undefined =>
    intro r s
    refine ⟨_, rfl, hostOnly_hostAccess _ _, fun hn => ?_, fun hl hop hs => ?_⟩
    · refine Host.Outcome.next.inj (access_idle (exec_undefinedOpcode r s) fun hl => if_pos ?_)
      rcases hn with hn | hn
      · exact List.contains_iff_mem.mpr hn
      · exact absurd (hn.symm.trans hl) Bool.false_ne_true
    · rw [State.hostAccess_on hl]
      have hbad : ¬ opcodes.contains r.opcode = true := fun hn => hop (List.contains_iff_mem.mp hn)
      unfold hostAnswers
      rw [State.onHost_host, if_neg hbad]
      exact HostDie.complete_waiting _ _ _ _ hs

end Machine
end Sys2Proof

/-! The control registers, the vectors and the link events of the host interface (18 R456 to R470). -/

namespace Sys2Proof

theorem Tab.getD_map {α β : Type} {n i : Nat} (t : Tab α n) (g : α → β) (d : β) (e : α) (hi : i < n) : (t.map g).getD i d = g (t.getD i e) := by
  have hr : i < t.rows.length := t.size_eq.symm ▸ hi
  simp [Tab.map, Tab.getD, hr]

namespace HostDie

section Vectors

variable {h : HostDie} {v : Nat}

/-- The word of a W1C write, placed in its half of the vectors. -/
theorem getLsbD_half (w : Word) (high : Bool) {k : Nat} (hk : k < 64) : (BitVec.ofNat 64 (w.toNat * if high then 2 ^ 32 else 1)).getLsbD k =
    if high then decide (32 ≤ k) && w.getLsbD (k - 32) else w.getLsbD k := by
  rw [BitVec.getLsbD_ofNat, decide_eq_true hk, Bool.true_and]
  cases high with
  | true => exact Nat.testBit_mul_two_pow _ _ _
  | false => exact congrArg (·.testBit k) (Nat.mul_one _)

theorem signal_off (hoff : h.hif.vecPend.getLsbD v = false ∨ h.masked v = true) : h.signal v = h := if_pos (by simpa using hoff)

theorem signal_pcie (hp : h.hif.vecPend.getLsbD v = true) (hm : h.masked v = false) (hl : h.power.link = .pcie) (hu : h.power.linkUp = true) :
    h.signal v = { h with hif := { h.hif with
      lastMsi := some ((h.hif.msix.getD v {}).addr, (h.hif.msix.getD v {}).data)
      vecPend := h.hif.vecPend &&& ~~~ (BitVec.twoPow 64 v) } } := by
  unfold signal
  rw [if_neg (by simp [hp, hm]), hl]
  exact if_pos hu

theorem signal_qspi (hp : h.hif.vecPend.getLsbD v = true) (hm : h.masked v = false) (hl : h.power.link = .qspi) : h.signal v =
    if h.hif.irqPulse ∧ 8 ≤ h.hif.irqMap.getD v 0 then
      { h with hif := { h.hif with pulses := h.hif.pulses.modifyNat (h.hif.irqMap.getD v 0 % 8) (· + 1) } }
    else h := by
  unfold signal
  rw [if_neg (by simp [hp, hm]), hl]

/-- A signalled vector leaves the masks as they are. -/
theorem msix_signal (h : HostDie) (v : Nat) : (h.signal v).hif.msix = h.hif.msix := by
  unfold signal
  split
  · rfl
  split
  · split <;> rfl
  · dsimp only
    split <;> rfl

theorem vecPend_signal_qspi (hl : h.power.link = .qspi) : (h.signal v).hif.vecPend = h.hif.vecPend := by
  unfold signal
  split
  · rfl
  · rw [hl]
    dsimp only
    split <;> rfl

/-- A message sent has its pending bit cleared (R470). -/
theorem getLsbD_sent (x : BitVec 64) (v : Fin 64) : (x &&& ~~~ (BitVec.twoPow 64 v)).getLsbD v = false := by
  simp

/-- Region H with an entry of the MSI-X table unmasked. -/
def unmasked (h : HostDie) (v : Fin 64) : HostDie := { h with hif := { h.hif with msix := h.hif.msix.modify v (fun e => { e with masked := false }) } }

theorem msix_unmasked (h : HostDie) (v : Fin 64) : (unmasked h v).hif.msix.getD v {} = { h.hif.msix.getD v {} with masked := false } :=
  Tab.getD_modifyNat_self _ _ _ _ v.isLt

theorem masked_unmasked {v : Fin 64} (hl : h.power.link = .pcie) (hf : h.hif.functionMask = false) : (unmasked h v).masked v = false := by
  unfold masked
  change (match h.power.link with | .pcie => h.hif.functionMask || ((unmasked h v).hif.msix.getD v {}).masked | .qspi => _) = _
  rw [hl, msix_unmasked, hf]
  rfl

end Vectors
end HostDie

namespace Machine

section LinkEvents

/-- What an event of the PCIe link does to region H: nothing under QSPI. -/
def onPcie (g : HostDie → HostDie) (h : HostDie) : HostDie :=
  match h.power.link with
  | .qspi => h
  | .pcie => g h

variable {s : State} {g : HostDie → HostDie} {c : Instr}

theorem pcie_idle (hc : exec c s = .next (s.hostAccess (onPcie g))) (hlink : s.chip.host.power.link = .qspi) : exec c s = .next s := by
  refine access_idle hc fun _ => ?_
  unfold onPcie
  rw [hlink]

theorem pcie_acts (hc : exec c s = .next (s.hostAccess (onPcie g))) (hl : s.chip.host.listens = true) (hlink : s.chip.host.power.link = .pcie) :
    exec c s = .next (s.onHost g) := by
  have hg : onPcie g s.chip.host = g s.chip.host := by
    unfold onPcie
    rw [hlink]
  rw [access_on hc hl, State.onHost, hg]
  rfl

end LinkEvents

/-- A queue after a Function Level Reset (R456). -/
def queueReset (q : QPair) : QPair := { q with en := false, error := false, errCode := 0, waiting := [], qcnt := 0 }

/-- Region H after a Function Level Reset (R456). -/
def functionReset (h : HostDie) : HostDie :=
  let reset (b : Blk) : Blk := { b with lastOp := 1, resetCnt := satN 16 (b.resetCnt + 1) }
  let h := ((h.modBlk 1 reset).modBlk 3 reset).silence
  { h with
    power := { h.power with linkUp := true }
    hif := { h.hif with
      queues := h.hif.queues.map queueReset, check := [], ready := [], lost := 0, msix := Tab.fill 64 {}, functionMask := false } }

theorem en_functionReset (h : HostDie) {i : Nat} (hi : i < 32) : ((functionReset h).q i).en = false := by
  have hq : (functionReset h).q i = queueReset (h.q i) := Tab.getD_map _ _ _ _ hi
  rw [hq, queueReset]

/-- Settles O50: each access of the registers and each event of the link, on a side that listens and on one that does not. -/
theorem interfaceRegistersAndVectors : Obligations.InterfaceRegistersAndVectors := by
  refine ⟨?deaf, ?ctrl, ?evqHead, ?evqCfg, ?ovf, ?pend, ?unmask, ?signal, ?linkDown, ?aer, ?flr, ?bad⟩
  case deaf =>
    intro w high v q x s hl
    have haccess : ∀ g, Host.Outcome.next (s.hostAccess g) = (.next s : Out) := fun g => congrArg Host.Outcome.next (State.hostAccess_off hl)
    have hread : ∀ g, Host.Outcome.next (s.hostRead g) = (.next s : Out) := fun g => congrArg Host.Outcome.next (State.hostRead_off hl)
    simp only [List.forall_mem_cons, List.not_mem_nil, false_implies, implies_true, and_true]
    exact ⟨haccess _, haccess _, hread _, haccess _, haccess _, haccess _, haccess _, haccess _, haccess _, haccess _, haccess _, haccess _,
      hread _, hread _, hread _⟩
  case ctrl =>
    intro w s hl
    exact ⟨_, access_on (g := fun h => h.writeCtrl w) rfl hl, rfl, rfl⟩
  case evqHead =>
    intro w s hl
    exact ⟨_, access_on (g := fun h => h.writeEvqHead w) rfl hl, rfl, rfl⟩
  case evqCfg =>
    intro s hl
    exact ⟨_, congrArg Host.Outcome.next (State.hostRead_on hl), rfl, rfl, rfl⟩
  case ovf =>
    intro s hl
    exact ⟨_, access_on (g := fun h => { h with hif := { h.hif with ovf := false } }) rfl hl, rfl, rfl⟩
  case pend =>
    intro high w s hl
    refine ⟨_, access_on (g := fun h => h.clearPend high w) rfl hl, rfl, rfl, fun k hk => ?_⟩
    change (s.chip.host.hif.vecPend &&& ~~~ (BitVec.ofNat 64 _)).getLsbD k = _
    rw [BitVec.getLsbD_and, BitVec.getLsbD_not, decide_eq_true hk, Bool.true_and, HostDie.getLsbD_half w high hk]
  case unmask =>
    intro v s hl
    have hexec : exec (.msixUnmask v) s = .next (s.hostAccess (onPcie fun h => (h.unmasked v).signal v)) := rfl
    cases hlink : s.chip.host.power.link with
    | qspi => exact ⟨s, pcie_idle hexec hlink, rfl, fun _ => rfl, nofun⟩
    | pcie =>
      refine ⟨_, pcie_acts hexec hl hlink, rfl, nofun, fun _ => ⟨?_, fun hp hf hu => ?_⟩⟩
      · rw [State.onHost_host, HostDie.msix_signal, HostDie.msix_unmasked]
      · rw [State.onHost_host, HostDie.signal_pcie (h := s.chip.host.unmasked v) hp (HostDie.masked_unmasked hlink hf) hlink hu, HostDie.msix_unmasked]
        exact ⟨HostDie.getLsbD_sent _ _, rfl⟩
  case signal =>
    intro v s hl
    refine ⟨_, access_on (g := fun h => h.signal v) rfl hl, rfl, fun hoff => State.onHost_eq_self (HostDie.signal_off hoff), fun hp hm => ⟨?_, ?_⟩⟩
    · intro hlink hu
      rw [State.onHost_host, HostDie.signal_pcie hp hm hlink hu]
      exact ⟨HostDie.getLsbD_sent _ _, rfl⟩
    · intro hlink
      rw [State.onHost_host]
      refine ⟨HostDie.vecPend_signal_qspi hlink, fun hpulse l hlt hmap => ?_⟩
      rw [HostDie.signal_qspi hp hm hlink, hmap, if_pos ⟨hpulse, Nat.le_add_right _ _⟩, Nat.add_mod_left, Nat.mod_eq_of_lt hlt]
      exact Tab.getD_modifyNat_self _ _ _ _ hlt
  case linkDown =>
    intro s hl
    have hexec : exec .pcieLinkDown s =
      .next (s.hostAccess (onPcie fun h => { h with power := { h.power with linkUp := false } }.raise 6 1)) := rfl
    cases hlink : s.chip.host.power.link with
    | qspi => exact ⟨s, pcie_idle hexec hlink, rfl, fun _ => rfl, nofun⟩
    | pcie => exact ⟨_, pcie_acts hexec hl hlink, rfl, nofun, fun _ => ⟨rfl, rfl, rfl⟩⟩
  case aer =>
    intro s hl
    have hexec : exec .pcieAerError s = .next (s.hostAccess (onPcie fun h => h.raise 6 2)) := rfl
    cases hlink : s.chip.host.power.link with
    | qspi => exact ⟨s, pcie_idle hexec hlink, rfl, fun _ => rfl, nofun⟩
    | pcie => exact ⟨_, pcie_acts hexec hl hlink, rfl, nofun, fun _ => ⟨rfl, rfl, rfl⟩⟩
  case flr =>
    intro s hl
    have hexec : exec .pcieFlr s = .next (s.hostAccess (onPcie functionReset)) := rfl
    cases hlink : s.chip.host.power.link with
    | qspi => exact ⟨s, pcie_idle hexec hlink, rfl, fun _ => rfl, nofun⟩
    | pcie =>
      exact ⟨_, pcie_acts hexec hl hlink, rfl, nofun, fun _ => ⟨fun i hi => en_functionReset _ hi, rfl, rfl, rfl, rfl, rfl, rfl⟩⟩
  case bad =>
    intro x s hl
    have hexec : exec (.qspiBadInstruction x) s = .next (s.hostAccess fun h =>
      if h.power.link = .qspi ∧ x ∉ [0x0B, 0xEB, 0x02, 0x38] then h.raise 6 3 else h) := rfl
    refine ⟨_, access_on hexec hl, rfl, fun hlink h1 h2 h3 h4 => if_pos ⟨hlink, by simpa using And.intro h1 ⟨h2, h3, h4⟩⟩,
      fun hn => State.onHost_eq_self (if_neg ?_)⟩
    rintro ⟨hlink, hx⟩
    simp only [List.mem_cons, List.not_mem_nil, or_false, not_or] at hx
    obtain ⟨h1, h2, h3, h4⟩ := hx
    rcases hn with hn | hn | hn | hn | hn
    · exact absurd (hn.symm.trans hlink) (by decide)
    · exact h1 hn
    · exact h2 hn
    · exact h3 hn
    · exact h4 hn

end Machine
end Sys2Proof

/-! The QSPI window (18 R457 to R460). -/

namespace Sys2Proof
namespace HostDie

section Window

variable {h : HostDie} {a : Nat}

theorem areaBytes_inside (hlo : 0x080000 ≤ a) (hhi : a + 4 ≤ 0x140000) : areaBytes a = 4 := by
  rw [areaBytes, if_pos hlo]
  omega

/-- An offset between two registers is none of the map (log entry 5). -/
theorem windowRead_between (v : Variant) (h : HostDie) (h4 : a % 4 ≠ 0) (ha : a < 0x010000) : h.windowRead v a = (0, h) :=
  (if_pos ha).trans (if_neg h4)

theorem windowRead_area (v : Variant) (h : HostDie) (hlo : 0x080000 ≤ a) (hhi : a + 4 ≤ 0x140000) :
    h.windowRead v a = (BitVec.ofNat 32 (ofLe (memReadAll h.hif.mem a 4)), h) := by
  rw [windowRead, if_neg (by omega), areaBytes_inside hlo hhi]

theorem windowWrite_between (h : HostDie) (w : Word) (h4 : a % 4 ≠ 0) (ha : a < 0x010000) : h.windowWrite a w = h :=
  (if_pos ha).trans (if_pos h4)

theorem windowWrite_area (h : HostDie) (w : Word) (hlo : 0x080000 ≤ a) (hhi : a + 4 ≤ 0x140000) :
    h.windowWrite a w = h.bufWrite a (leBytes 4 w.toNat) := by
  rw [windowWrite, if_neg (by omega), areaBytes_inside hlo hhi, List.take_of_length_le (by simp [leBytes])]
  rfl

theorem windowWrite_doorbell (h : HostDie) (q : Fin 32) (w : Word) : h.windowWrite (0x3000 + 8 * q.val) w =
    { h with hif := { h.hif with doorbells := h.hif.doorbells ++ [(0x3000 + 8 * q.val, w)] } } := by
  have hq := q.isLt
  rw [windowWrite, if_pos (by omega), if_neg (by omega), if_pos (by omega)]

theorem doorbell_sqTail (h : HostDie) (q : Fin 32) (w : Word) : h.doorbell (0x3000 + 8 * q.val) w = h.sqTail q w := by
  rw [doorbell, if_pos (by omega)]
  congr 1
  omega

/-- A doorbell takes effect as CS_N rises (R459). -/
theorem csRise_doorbell (hd : h.hif.doorbells = []) (q : Fin 32) (w : Word) : (h.windowWrite (0x3000 + 8 * q.val) w).csRise = h.sqTail q w := by
  have hself : { h with hif := { h.hif with doorbells := [] } } = h := by rw [← hd]
  rw [windowWrite_doorbell, hd, csRise, List.nil_append, List.foldl_cons, List.foldl_nil, doorbell_sqTail]
  exact congrArg (fun h => h.sqTail q w) hself

end Window
end HostDie

namespace Machine

section Transactions

variable {s : State} {a : Nat} {w x : Word} {h : HostDie}

theorem qspiRead_none (n : Nat) (hn : s.chip.host.power.link = .pcie ∨ s.chip.host.listens = false) : qspiRead a n s = .next s := by
  unfold qspiRead
  split
  · rfl
  next hlink => rw [State.hostRead_off (hn.resolve_left (by simp [hlink]))]

theorem qspiWrite_none (xs : List Word) (hn : s.chip.host.power.link = .pcie ∨ s.chip.host.listens = false) : qspiWrite a xs s = .next s := by
  unfold qspiWrite
  split
  · rfl
  next hlink => rw [State.hostAccess_off (hn.resolve_left (by simp [hlink]))]

/-- A read of one word under QSPI (R457, R458). -/
theorem qspiRead_word (hl : s.chip.host.listens = true) (hlink : s.chip.host.power.link = .qspi)
    (hw : s.chip.host.windowRead s.chip.variant a = (x, h)) :
    qspiRead a 1 s = .next { s with chip := { s.chip with host := h, readData := [x] } } := by
  have hburst : s.chip.host.burstRead s.chip.variant a 1 = ([x], h) := by
    simp only [HostDie.burstRead, hw]
  rw [qspiRead, hlink]
  dsimp only
  rw [State.hostRead_on hl, hburst]

/-- A write of one word under QSPI; its doorbell takes effect as CS_N rises (R457, R459). -/
theorem qspiWrite_word (hl : s.chip.host.listens = true) (hlink : s.chip.host.power.link = .qspi) :
    qspiWrite a [w] s = .next (s.onHost fun h => (h.windowWrite a w).csRise) := by
  rw [qspiWrite, hlink]
  dsimp only
  rw [State.hostAccess_on hl]
  rfl

end Transactions

/-- Settles O51: a word between registers, a register, a word of the shared area, and a doorbell. -/
theorem theWindowServesAlignedWords : Obligations.TheWindowServesAlignedWords := by
  refine ⟨?deaf, ?between, ?readArea, ?writeArea, ?readRegister, ?doorbell⟩
  case deaf =>
    intro a n ws b s hn
    refine ⟨qspiRead_none n hn, qspiRead_none n hn, qspiWrite_none ws hn, qspiWrite_none ws hn, ?_⟩
    cases b with
    | true => exact qspiWrite_none ws hn
    | false => exact qspiRead_none _ hn
  case between =>
    intro a w s hl hlink h4 ha
    have hread := qspiRead_word hl hlink (HostDie.windowRead_between _ _ h4 ha)
    refine ⟨⟨_, hread, hread, rfl⟩, fun hd => ?_⟩
    have hwrite : qspiWrite a [w] s = .next s := by
      rw [qspiWrite_word hl hlink]
      refine congrArg Host.Outcome.next (State.onHost_eq_self ?_)
      rw [HostDie.windowWrite_between _ _ h4 ha, HostDie.csRise_of_doorbells_nil hd]
    exact ⟨hwrite, hwrite, hwrite⟩
  case readArea =>
    intro a s hl hlink hlo hhi
    have hread := qspiRead_word hl hlink (HostDie.windowRead_area _ _ hlo hhi)
    exact ⟨_, hread, hread, fun _ => hread, rfl⟩
  case writeArea =>
    intro a w s hl hlink hlo hhi hd
    have hwrite := qspiWrite_word (w := w) (a := a) hl hlink
    refine ⟨_, hwrite, hwrite, hwrite, ?_, rfl⟩
    rw [State.onHost_host, HostDie.windowWrite_area _ _ hlo hhi]
    exact HostDie.csRise_of_doorbells_nil hd
  case readRegister =>
    intro a s hl hlink h4 ha
    have hw : s.chip.host.windowRead s.chip.variant a = s.chip.host.regRead s.chip.variant a := (if_pos ha).trans (if_pos h4)
    exact ⟨_, qspiRead_word hl hlink hw, rfl, rfl⟩
  case doorbell =>
    intro q w s hl hlink hd
    refine ⟨_, qspiWrite_word hl hlink, (access_on (exec_sqTailDoorbell q w s) hl).trans ?_⟩
    rw [State.onHost, State.onHost, HostDie.csRise_doorbell hd]

end Machine
end Sys2Proof

/-! The update commands (17 R436, R442, R450 to R453). -/

namespace Sys2Proof
namespace HostDie

section Header

variable {α : Type}

/-- A page operation that joins the queue leaves the rest of the storage manager as it is. -/
theorem stor_nandOp (h : HostDie) (o : NandOp) (p : Stor → α) (hp : ∀ s c os, p { s with current := c, ops := os } = p s) :
    p (h.nandOp o).stor = p h.stor := by
  unfold nandOp nandNext
  split
  · exact hp h.stor h.stor.current _
  split <;> exact hp h.stor _ _

/-- A rewrite of the boot header changes it, raises its GEN, and leaves the rest of the storage manager as it is (R439). -/
theorem stor_rewriteHeader (h : HostDie) (g : BootHeader → BootHeader) (p : Stor → α) (hp : ∀ s c os, p { s with current := c, ops := os } = p s) :
    p (h.rewriteHeader g).stor = p { h.stor with hdr := { g h.stor.hdr with gen := (h.stor.hdr.gen + 1) % 2 ^ 32 } } :=
  stor_nandOp _ _ p hp

theorem rewriteHeader_rest (h : HostDie) (g : BootHeader → BootHeader) : h.rewriteHeader g = { h with stor := (h.rewriteHeader g).stor } :=
  nandOp_rest _ _

@[simp] theorem hif_rewriteHeader (h : HostDie) (g : BootHeader → BootHeader) : (h.rewriteHeader g).hif = h.hif := by rw [rewriteHeader_rest]
@[simp] theorem mode_rewriteHeader (h : HostDie) (g : BootHeader → BootHeader) : (h.rewriteHeader g).mode = h.mode := by rw [rewriteHeader_rest]

theorem arisen_raise_rewriteHeader (h : HostDie) (g : BootHeader → BootHeader) (src code : Nat) :
    ((h.rewriteHeader g).raise src code).fcm.arisen = h.fcm.arisen ++ [{ tb := h.htb, fine := 0xFFFF, src := src, code := code, value := 0 }] := by
  rw [rewriteHeader_rest]
  rfl

/-- The bytes staged are no concern of the header or of the page operations. -/
theorem staged_nandOp (h : HostDie) (o : NandOp) (k : Nat) : (h.nandOp o).stor.staged k = h.stor.staged k :=
  stor_nandOp h o (·.staged k) fun _ _ _ => rfl

theorem staged_rewriteHeader (h : HostDie) (g : BootHeader → BootHeader) (k : Nat) : (h.rewriteHeader g).stor.staged k = h.stor.staged k :=
  stor_rewriteHeader h g (·.staged k) fun _ _ _ => rfl

end Header

section Staging

/-- Region H with bytes staged after the ones kept (R450). -/
def stageKept (h : HostDie) (k : Nat) (bs : List Byte) : HostDie :=
  h.modStor fun s => if k = 1 then { s with stagedCfg := bs } else { s with stagedImg := bs }

/-- The part of STAGING of a kind erased before its first bytes. -/
def stageErased (h : HostDie) (k : Nat) : HostDie :=
  if k = 1 then h.erasePart 3 (h.stor.blocksOf (8 * 2 ^ 20)) 4096 else h.erasePart 3 0 (h.stor.blocksOf (8 * 2 ^ 20))

/-- The header with a commit of a kind taken back. -/
def stageUnpended (h : HostDie) (k : Nat) : HostDie :=
  h.rewriteHeader fun d => if k = 1 then { d with cfgPending := false } else { d with pending := false }

theorem staged_stageKept (h : HostDie) (k : Nat) (bs : List Byte) : (stageKept h k bs).stor.staged k = bs := by
  unfold Stor.staged stageKept modStor
  dsimp only
  split <;> rfl

theorem stageKept_rest (h : HostDie) (k : Nat) (bs : List Byte) : stageKept h k bs = { h with stor := (stageKept h k bs).stor } := rfl

theorem stageErased_rest (h : HostDie) (k : Nat) : (stageErased h k).hif = h.hif ∧ ∀ j, (stageErased h k).stor.staged j = h.stor.staged j := by
  unfold stageErased
  split <;> exact ⟨rfl, fun _ => rfl⟩

/-- Whether a commit of a kind stands in the header. -/
def stagePending (h : HostDie) (k : Nat) : Bool := if k = 1 then h.stor.hdr.cfgPending else h.stor.hdr.pending

/-- The bytes staged after IMG_STAGE (R450). -/
def stageBytes (h : HostDie) (q : Request) : List Byte :=
  (if q.u32 4 = 0 then [] else h.stor.staged (q.u32 0)) ++ h.bufRead q (q.par 16 8) (q.u32 8)

/-- What IMG_STAGE leaves before its page operation (R450). -/
def stagedIn (h : HostDie) (q : Request) : HostDie :=
  let g := stageKept h (q.u32 0) (stageBytes h q)
  let g := if ¬ q.u32 4 = 0 then g else stageErased g (q.u32 0)
  if q.u32 4 = 0 ∧ stagePending h (q.u32 0) then stageUnpended g (q.u32 0) else g

theorem imgStage_busy {h : HostDie} (hu : h.holdUp = true) (v : Variant) (q : Request) : cmdImgStage.op v h q = (h, some (.busy, 0)) := if_pos hu

theorem imgStage_stages {h : HostDie} (hu : h.holdUp = false) (v : Variant) (q : Request) :
    cmdImgStage.op v h q = ((stagedIn h q).nandOp (.staging q), none) := by
  refine (if_neg (Bool.eq_false_iff.mp hu)).trans ?_
  unfold stagedIn stageErased stageKept stageUnpended stageBytes stagePending
  rfl

theorem stagedIn_rest (h : HostDie) (q : Request) : (stagedIn h q).hif = h.hif ∧ (stagedIn h q).stor.staged (q.u32 0) = stageBytes h q := by
  have hkept := staged_stageKept h (q.u32 0) (stageBytes h q)
  obtain ⟨hhif, hstaged⟩ := stageErased_rest (stageKept h (q.u32 0) (stageBytes h q)) (q.u32 0)
  have herased := (hstaged _).trans hkept
  unfold stagedIn
  dsimp only
  by_cases hfirst : q.u32 4 = 0
  · rw [if_neg (not_not.mpr hfirst)]
    split
    · exact ⟨(hif_rewriteHeader _ _).trans hhif, (staged_rewriteHeader _ _ _).trans herased⟩
    · exact ⟨hhif, herased⟩
  · rw [if_pos hfirst, if_neg fun hn => hfirst hn.1]
    exact ⟨rfl, hkept⟩

end Staging

section Scrub

variable {h : HostDie}

/-- A scrub that begins asks for block 0 first (R436). -/
def scrubStarted (h : HostDie) : HostDie :=
  (h.modStor fun s => { s with
    scrubbing := true, rewritten := 0
    scrubLeft := [1, 2] ++ (s.blocks.filter fun b => startScrub.taken' b).map (·.phys) }).nandOp (.scrub 0)

theorem startScrub_on (hs : h.stor.scrubbing = false) (hf : h.stor.formatted = true) (hb : h.booted = true) (hl : h.listens = true) :
    h.startScrub = scrubStarted h :=
  if_neg (by simp [hs, hf, hb, hl])

theorem startScrub_off (hn : h.stor.scrubbing = true ∨ h.stor.formatted = false ∨ h.booted = false ∨ h.listens = false) : h.startScrub = h :=
  if_pos (by simpa using hn)

theorem hif_startScrub (h : HostDie) : h.startScrub.hif = h.hif := by
  unfold startScrub
  split
  · rfl
  · exact nandOp_hif _ _

theorem scrubCmds_startScrub (h : HostDie) : h.startScrub.stor.scrubCmds = h.stor.scrubCmds := by
  unfold startScrub
  split
  · rfl
  · exact stor_nandOp _ _ Stor.scrubCmds fun _ _ _ => rfl

theorem scrubbing_startScrub (hf : h.stor.formatted = true) (hb : h.booted = true) (hl : h.listens = true) :
    h.startScrub.stor.scrubbing = true := by
  cases hs : h.stor.scrubbing with
  | true => rw [startScrub_off (.inl hs), hs]
  | false =>
    rw [startScrub_on hs hf hb hl]
    exact stor_nandOp _ _ Stor.scrubbing fun _ _ _ => rfl

end Scrub

section FieldLoad

/-- Waiting UPDATE_FIELDs complete as the load begins, which touches nothing but the queues. -/
theorem foldl_complete_rest (rs : List Request) (h : HostDie) :
    (rs.foldl (fun h r => h.complete r .ok) h).bar = h.bar ∧ (rs.foldl (fun h r => h.complete r .ok) h).stor = h.stor := by
  induction rs generalizing h with
  | nil => exact ⟨rfl, rfl⟩
  | cons r rs ih =>
    obtain ⟨hbar, hstor⟩ := ih (h.complete r .ok)
    exact ⟨hbar.trans (complete_bar _ _ _ _), hstor.trans (complete_stor _ _ _ _)⟩

theorem startLoad_rest (h : HostDie) : h.startLoad.bar = { h.bar with blocks := h.stor.loadBlocks } ∧
    h.startLoad.stor = { h.stor with loading := true, fieldLoaded := false, fieldStale := false, updCmds := [] } :=
  foldl_complete_rest _ _

end FieldLoad

section Format

/-- What a format leaves of a block: a retired one, a free one and the ledger's own stay, the others are erased (R431, R434). -/
def formatted (b : NandBlock) : NandBlock :=
  if b.retired ∨ b.part = 0xF ∨ (b.part = 6 ∧ b.logical < 2) then b else { phys := b.phys, erases := satN 24 (b.erases + 1) }

theorem formatted_retired {b : NandBlock} (hb : b.retired = true) : formatted b = b := if_pos (.inl hb)

theorem formatted_free (b : NandBlock) :
    (formatted b).retired = true ∨ (formatted b).part = 0xF ∨ ((formatted b).part = 6 ∧ (formatted b).logical < 2) := by
  unfold formatted
  split
  next hkeep => exact hkeep
  next => exact .inr (.inl rfl)

end Format
end HostDie

namespace Machine

section UpdateCommands

variable {h : HostDie} {q : Request}

/-- The boot header with a commit (R450), and with one taken back (R453). -/
def commitHeader (q : Request) (d : BootHeader) : BootHeader :=
  if q.u32 0 = 1 then { d with cfgPending := true, cfgLen := q.u32 4 } else { d with pending := true, stagedLen := q.u32 4 }

def cancelHeader (q : Request) (d : BootHeader) : BootHeader :=
  if q.u32 0 = 1 then { d with cfgPending := false } else { d with pending := false }

theorem imgCommit_op (v : Variant) (h : HostDie) (q : Request) :
    cmdImgCommit.op v h q = (((h.rewriteHeader (commitHeader q)).raise 246 1).vector 47, some (.ok, 0)) := rfl

theorem stageCancel_op (v : Variant) (h : HostDie) (q : Request) : cmdStageCancel.op v h q = (h.rewriteHeader (cancelHeader q), some (.ok, 0)) := rfl

/-- The boot header after SET_UPDATE_MODE (R442). -/
def modeHeader (h : HostDie) (q : Request) (d : BootHeader) : BootHeader :=
  { d with manifest := q.u32 0 == 1, confirmT := q.u32 4, pending := d.pending && !decide (rd 1 4 h.stor.stagedImg ≠ q.u32 0 + 1) }

theorem setUpdateMode_op (v : Variant) (h : HostDie) (q : Request) : cmdSetUpdateMode.op v h q = (h.rewriteHeader (modeHeader h q), some (.ok, 0)) := rfl

theorem setRollbackFloor_op (v : Variant) (h : HostDie) (q : Request) : cmdSetRollbackFloor.op v h q =
    ((h.modStor fun s => { s with otpFloor := max h.stor.otpFloor (q.u32 0) }).rewriteHeader fun d => { d with floor := max h.stor.otpFloor (q.u32 0) },
      some (.ok, 0)) := rfl

/-- Region H as UPDATE_FIELD takes a field that is not driven, or that may be (R451). -/
def updating (h : HostDie) : HostDie := h.modStor fun s => { s with fieldStale := false, loadTries := 0 }

theorem updateField_refused (hf : h.mode.fieldRunning = true) (hd : h.mode.word.getLsbD 7 = true) (h0 : q.u32 0 = 0) (v : Variant) :
    updateFieldC.op v h q = (h, some (.wrongMode, 0)) := if_pos ⟨hf, hd, h0⟩

theorem updateField_resets (hf : h.mode.fieldRunning = true) (hd : h.mode.word.getLsbD 7 = false ∨ q.u32 0 = 1) (v : Variant) :
    updateFieldC.op v h q = ({ updating h with
      bar := { h.bar with forward := h.bar.forward ++ [ownCommand 0x0002 4] }
      stor := { (updating h).stor with updCmds := h.stor.updCmds ++ [q] } }, none) := by
  refine (if_neg ?_).trans (if_pos hf)
  rintro ⟨_, hd', h0⟩
  rcases hd with hd | h1
  · exact Bool.false_ne_true (hd.symm.trans hd')
  · omega

theorem updateField_loads (hf : h.mode.fieldRunning = false) (v : Variant) :
    updateFieldC.op v h q = (if h.booted ∧ ¬ h.stor.loading then (updating h).startLoad else updating h, some (.ok, 0)) :=
  (if_neg fun hn => Bool.false_ne_true (hf.symm.trans hn.1)).trans (if_neg fun hn => Bool.false_ne_true (hf.symm.trans hn))

theorem storFormat_refused (hr : h.stor.recovery = false) (v : Variant) : cmdStorFormat.op v h q = (h, some (.wrongMode, 0)) :=
  if_pos (by simp [hr])

/-- Region H after a format (R431, R438). -/
def formattedHost (h : HostDie) (q : Request) : HostDie :=
  let g := BitVec.ofNat 32 (q.u32 0)
  let hdr : BootHeader := { gen := 1, geometry := g, sizes := partSizes { h.stor with hdr := { h.stor.hdr with geometry := g } } q, floor := h.stor.otpFloor }
  let h := h.modStor (fun s => { s with
    formatted := true, hdr := hdr, slotA := [], slotB := [], stagedImg := [], stagedCfg := [], copies := [], learned := []
    learnedUsed := 0, blocks := s.blocks.map HostDie.formatted })
  { h with rech := { h.rech with
    log := [], pages := [], traces := [], capacity := q.u32 8 * 2 ^ 20 / 512, traceCapacity := q.u32 12 * 2 ^ 20 / traceSize
    full := false, trFull := false, fullRaised := false, trFullRaised := false, nextSeq := 0 } }

theorem storFormat_formats (hr : h.stor.recovery = true) (v : Variant) :
    cmdStorFormat.op v h q = ((formattedHost h q).nandOp .header, some (.ok, 0)) := if_neg (by simp [hr])

theorem scrubNow_busy (hu : h.holdUp = true) (v : Variant) : cmdStorScrubNow.op v h q = (h, some (.busy, 0)) := if_pos hu

theorem scrubNow_unformatted (hu : h.holdUp = false) (hf : h.stor.formatted = false) (v : Variant) :
    cmdStorScrubNow.op v h q = (h, some (.mediaError, 0)) :=
  (if_neg (Bool.eq_false_iff.mp hu)).trans (if_pos (by simp [hf]))

theorem scrubNow_starts (hu : h.holdUp = false) (hf : h.stor.formatted = true) (v : Variant) :
    cmdStorScrubNow.op v h q = ((h.modStor fun s => { s with scrubCmds := s.scrubCmds ++ [q] }).startScrub, none) :=
  (if_neg (Bool.eq_false_iff.mp hu)).trans (if_neg (by simp [hf]))

/-- RESULT of GET_STORAGE above its status word: the blocks in use and the top of the ERASES. -/
def storageUse (h : HostDie) (q : Request) : Nat :=
  satN 16 (h.stor.blocks.filter (fun b => b.part == q.u32 0 && !b.retired)).length + 2 ^ 16 * satN 16 ((h.stor.blocks.map (·.erases)).foldl max 0 / 16)

theorem getStorage_op (v : Variant) (h : HostDie) (q : Request) : cmdGetStorage.op v h q =
    (h.modStor fun s => { s with ueCnt := 0 }, some (.ok, h.storStatus.toNat + 2 ^ 32 * storageUse h q)) := by
  have hsum : ∀ w a b : Nat, w + 2 ^ 32 * (a + 2 ^ 16 * b) = w + 2 ^ 32 * a + 2 ^ 48 * b := by omega
  rw [storageUse, hsum]
  rfl

end UpdateCommands

/-- Settles O45: each command of the group by its refusals and by what it leaves in the header, in the areas and in the commands that wait. -/
theorem updateCommandsChangeTheHeader : Obligations.UpdateCommandsChangeTheHeader := by
  refine ⟨?stage, ?commit, ?cancel, ?mode, ?field, ?floor, ?format, ?scrub, ?update, ?storage⟩
  case stage =>
    intro r s h
    refine ⟨_, rfl, hostOnly_host _ _ _, fun hu => ?_, fun hu => ?_⟩
    · obtain ⟨_, hans, hrest⟩ := State.host_done h (HostDie.imgStage_busy (h := s.chip.host.accept _) hu _ _) rfl rfl
      exact ⟨hrest HostDie.stor fun _ _ => rfl, hans⟩
    · obtain ⟨hhif, hstaged⟩ := HostDie.stagedIn_rest (s.chip.host.accept { r with opcode := cmdImgStage.code }) { r with opcode := cmdImgStage.code }
      obtain ⟨_, hwait, hg⟩ := State.host_pends h (HostDie.imgStage_stages (h := s.chip.host.accept _) hu _ _)
        (congrArg Hif.queues ((HostDie.nandOp_hif _ _).trans hhif))
      refine ⟨hwait, ?_⟩
      rw [hg]
      exact (HostDie.staged_nandOp _ _ _).trans hstaged
  case commit =>
    intro r s h
    have hcommit := imgCommit_op s.chip.variant (s.chip.host.accept { r with opcode := cmdImgCommit.code }) { r with opcode := cmdImgCommit.code }
    obtain ⟨honly, hans, hrest⟩ := State.host_done h hcommit (by simp) (by simp)
    have hhdr : ∀ {α : Type} (p : BootHeader → α), p (s.host cmdImgCommit r).chip.host.stor.hdr = p { commitHeader r s.chip.host.stor.hdr with
        gen := (s.chip.host.stor.hdr.gen + 1) % 2 ^ 32 } := fun p => by
      refine (hrest (fun h => p h.stor.hdr) fun _ _ => rfl).trans ?_
      rw [HostDie.vector_stor]
      exact HostDie.stor_rewriteHeader _ _ (fun s => p s.hdr) fun _ _ _ => rfl
    refine ⟨_, rfl, honly, hans, hhdr BootHeader.gen, ?_, fun h0 => ?_, fun h1 => ?_⟩
    · have harisen : (s.host cmdImgCommit r).chip.host.fcm.arisen = s.chip.host.fcm.arisen ++ [hostEvent s 246 1] := by
        refine (hrest (fun h => h.fcm.arisen) fun _ _ => rfl).trans ?_
        rw [HostDie.vector_fcm]
        exact HostDie.arisen_raise_rewriteHeader _ _ _ _
      rw [harisen]
      exact List.mem_append_right _ (List.mem_singleton_self _)
    · have himage : commitHeader r s.chip.host.stor.hdr = { s.chip.host.stor.hdr with pending := true, stagedLen := r.u32 4 } := if_neg (by omega)
      exact ⟨(hhdr BootHeader.pending).trans (congrArg BootHeader.pending himage), (hhdr BootHeader.stagedLen).trans (congrArg BootHeader.stagedLen himage)⟩
    · have hconfig : commitHeader r s.chip.host.stor.hdr = { s.chip.host.stor.hdr with cfgPending := true, cfgLen := r.u32 4 } := if_pos h1
      exact ⟨(hhdr BootHeader.cfgPending).trans (congrArg BootHeader.cfgPending hconfig), (hhdr BootHeader.cfgLen).trans (congrArg BootHeader.cfgLen hconfig)⟩
  case cancel =>
    intro r s h
    obtain ⟨honly, hans, hrest⟩ := State.host_done h (stageCancel_op _ _ _) (by simp) (by simp)
    have hhdr : ∀ {α : Type} (p : BootHeader → α), p (s.host cmdStageCancel r).chip.host.stor.hdr = p { cancelHeader r s.chip.host.stor.hdr with
        gen := (s.chip.host.stor.hdr.gen + 1) % 2 ^ 32 } := fun p =>
      (hrest (fun h => p h.stor.hdr) fun _ _ => rfl).trans (HostDie.stor_rewriteHeader _ _ (fun s => p s.hdr) fun _ _ _ => rfl)
    refine ⟨_, rfl, honly, hans, fun h0 => ?_, fun h1 => ?_⟩
    · have himage : cancelHeader r s.chip.host.stor.hdr = { s.chip.host.stor.hdr with pending := false } := if_neg (by omega)
      exact (hhdr BootHeader.pending).trans (congrArg BootHeader.pending himage)
    · have hconfig : cancelHeader r s.chip.host.stor.hdr = { s.chip.host.stor.hdr with cfgPending := false } := if_pos h1
      exact (hhdr BootHeader.cfgPending).trans (congrArg BootHeader.cfgPending hconfig)
  case mode =>
    intro r s h
    obtain ⟨honly, hans, hrest⟩ := State.host_done h (setUpdateMode_op _ _ _) (by simp) (by simp)
    have hhdr : ∀ {α : Type} (p : BootHeader → α), p (s.host cmdSetUpdateMode r).chip.host.stor.hdr = p { modeHeader s.chip.host r s.chip.host.stor.hdr with
        gen := (s.chip.host.stor.hdr.gen + 1) % 2 ^ 32 } := fun p =>
      (hrest (fun h => p h.stor.hdr) fun _ _ => rfl).trans (HostDie.stor_rewriteHeader _ _ (fun s => p s.hdr) fun _ _ _ => rfl)
    exact ⟨_, rfl, honly, hans, hhdr BootHeader.manifest, hhdr BootHeader.confirmT⟩
  case field =>
    intro r s h
    refine ⟨_, rfl, hostOnly_host _ _ _, fun hf hd h0 => ?_, fun hf hd => ?_, fun hf => ?_⟩
    · obtain ⟨_, hans, hrest⟩ := State.host_done h (updateField_refused (h := s.chip.host.accept _) (q := { r with opcode := updateFieldC.code }) hf hd h0 _) rfl rfl
      exact ⟨hans, hrest HostDie.bar fun _ _ => rfl⟩
    · have hop := updateField_resets (h := s.chip.host.accept { r with opcode := updateFieldC.code }) (q := { r with opcode := updateFieldC.code })
        hf hd s.chip.variant
      obtain ⟨_, hwait, hg⟩ := State.host_pends h hop rfl
      rw [hg]
      exact ⟨hwait, rfl, List.length_append⟩
    · have hcomp := State.host_completes h (updateField_loads (h := s.chip.host.accept _) (q := { r with opcode := updateFieldC.code }) hf _)
      rw [hcomp]
      dsimp only [State.onHost]
      rw [HostDie.complete_bar, HostDie.complete_stor]
      split
      next hgo =>
        obtain ⟨hbar, hstor⟩ := HostDie.startLoad_rest (updating (s.chip.host.accept { r with opcode := updateFieldC.code }))
        rw [hbar, hstor]
        exact ⟨rfl, fun _ _ => ⟨rfl, rfl⟩⟩
      next hno => exact ⟨rfl, fun hb hl => absurd ⟨hb, by simp [hl]⟩ hno⟩
  case floor =>
    intro r s h
    obtain ⟨honly, hans, hrest⟩ := State.host_done h (setRollbackFloor_op _ _ _) (by simp [HostDie.modStor]) (by simp [HostDie.modStor])
    refine ⟨_, rfl, honly, hans, (hrest (fun h => h.stor.otpFloor) fun _ _ => rfl).trans ?_⟩
    exact HostDie.stor_rewriteHeader _ _ Stor.otpFloor fun _ _ _ => rfl
  case format =>
    intro r s h
    refine ⟨_, rfl, hostOnly_host _ _ _, fun hr => ?_, fun hr => ?_⟩
    · obtain ⟨_, hans, hrest⟩ := State.host_done h (storFormat_refused (h := s.chip.host.accept _) hr _) rfl rfl
      exact ⟨hans, hrest HostDie.stor fun _ _ => rfl⟩
    · obtain ⟨_, hans, hrest⟩ := State.host_done h (storFormat_formats (h := s.chip.host.accept _) hr _)
        (congrArg Hif.queues (HostDie.nandOp_hif _ _)) (congrArg HMode.epoch (HostDie.nandOp_mode _ _))
      have hstor : ∀ {α : Type} (p : Stor → α), (∀ s c os, p { s with current := c, ops := os } = p s) →
          p (s.host cmdStorFormat r).chip.host.stor = p (formattedHost s.chip.host r).stor := fun p hp =>
        (hrest (fun h => p h.stor) fun _ _ => rfl).trans (HostDie.stor_nandOp _ _ p hp)
      have hrech : (s.host cmdStorFormat r).chip.host.rech = (formattedHost s.chip.host r).rech :=
        (hrest HostDie.rech fun _ _ => rfl).trans (HostDie.nandOp_rech _ _)
      have hblocks : (s.host cmdStorFormat r).chip.host.stor.blocks = s.chip.host.stor.blocks.map HostDie.formatted :=
        hstor Stor.blocks fun _ _ _ => rfl
      rw [hrech, hblocks]
      refine ⟨hans, hstor Stor.formatted fun _ _ _ => rfl, hstor Stor.slotA fun _ _ _ => rfl, hstor Stor.slotB fun _ _ _ => rfl,
        hstor Stor.copies fun _ _ _ => rfl, hstor Stor.learned fun _ _ _ => rfl, rfl, rfl, rfl, fun b hb hret => ?_, fun b hb => ?_⟩
      · exact List.mem_map.mpr ⟨b, hb, HostDie.formatted_retired hret⟩
      · obtain ⟨x, _, rfl⟩ := List.mem_map.mp hb
        exact HostDie.formatted_free x
  case scrub =>
    intro r s h
    refine ⟨_, rfl, hostOnly_host _ _ _, fun hu => ?_, fun hu hf => ?_, fun hu hf => ?_⟩
    · obtain ⟨_, hans, hrest⟩ := State.host_done h (scrubNow_busy (h := s.chip.host.accept _) hu _) rfl rfl
      exact ⟨hans, hrest HostDie.stor fun _ _ => rfl⟩
    · obtain ⟨_, hans, hrest⟩ := State.host_done h (scrubNow_unformatted (h := s.chip.host.accept _) hu hf _) rfl rfl
      exact ⟨hans, hrest HostDie.stor fun _ _ => rfl⟩
    · obtain ⟨_, hwait, hg⟩ := State.host_pends h (scrubNow_starts (h := s.chip.host.accept _) hu hf _)
        (congrArg Hif.queues (HostDie.hif_startScrub _))
      obtain ⟨hlistens, _, _⟩ := h
      rw [hg]
      refine ⟨hwait, ?_, fun hb => HostDie.scrubbing_startScrub hf hb hlistens⟩
      exact (congrArg List.length (HostDie.scrubCmds_startScrub _)).trans List.length_append
  case update =>
    intro r s h
    obtain ⟨honly, hans, hrest⟩ := State.host_done h rfl rfl rfl
    exact ⟨_, rfl, honly, hrest HostDie.stor fun _ _ => rfl, hans⟩
  case storage =>
    intro r s h
    obtain ⟨honly, hans, hrest⟩ := State.host_done h (getStorage_op _ _ _) rfl rfl
    exact ⟨_, _, rfl, honly, hrest HostDie.stor fun _ _ => rfl, hans⟩

end Machine
end Sys2Proof

/-! The memory port and the partitions (17 R433 to R452). -/

namespace Sys2Proof
namespace HostDie

section Blocks

variable {h g k : HostDie}

/-- A step of region H that touches the storage manager, events and pending vectors alone. -/
def StorageStep (h g : HostDie) : Prop := g = { h with stor := g.stor, fcm := g.fcm, hif := { h.hif with vecPend := g.hif.vecPend } }

theorem StorageStep.refl (h : HostDie) : StorageStep h h := rfl

theorem StorageStep.trans (hg : StorageStep h g) (hk : StorageStep g k) : StorageStep h k := by
  unfold StorageStep at *
  rw [hk, hg]

theorem StorageStep.queues (hg : StorageStep h g) : g.hif.queues = h.hif.queues := by
  rw [hg]

theorem StorageStep.mode (hg : StorageStep h g) : g.mode = h.mode := by
  rw [hg]

theorem StorageStep.rech (hg : StorageStep h g) : g.rech = h.rech := by
  rw [hg]

theorem storageStep_vector (h : HostDie) (v : Nat) : StorageStep h (h.vector v) := by
  unfold StorageStep vector
  split <;> rfl

theorem storageStep_checkSpare (h : HostDie) : StorageStep h h.checkSpare := by
  unfold checkSpare
  dsimp only
  split
  · exact (StorageStep.trans (g := (h.modStor _).raise 243 1) rfl (storageStep_vector _ _))
  · rfl

theorem storageStep_ensure (h : HostDie) (part l : Nat) : StorageStep h (h.ensure part l).1 := by
  unfold ensure
  split
  · exact StorageStep.refl h
  split
  next s _ => exact StorageStep.trans (g := { h with stor := s }) rfl (storageStep_checkSpare _)
  next => exact StorageStep.refl h

/-- `ensureAll` as a fold over what it has and whether all was well so far. -/
def ensureFold (part : Nat) (ls : List Nat) (a : HostDie × Bool) : HostDie × Bool :=
  ls.foldl (fun a l => ((a.1.ensure part l).1, a.2 && (a.1.ensure part l).2)) a

theorem ensureAll_eq (h : HostDie) (part : Nat) (ls : List Nat) : h.ensureAll part ls = ensureFold part ls (h, true) := rfl

theorem storageStep_ensureFold (part : Nat) (ls : List Nat) (a : HostDie × Bool) : StorageStep a.1 (ensureFold part ls a).1 := by
  induction ls generalizing a with
  | nil => exact StorageStep.refl _
  | cons l ls ih => exact (storageStep_ensure a.1 part l).trans (ih _)

theorem ensureFold_failed (part : Nat) (ls : List Nat) (h : HostDie) : (ensureFold part ls (h, false)).2 = false := by
  induction ls generalizing h with
  | nil => rfl
  | cons l ls ih => exact ih _

/-- Blocks that are all there need no step. -/
theorem ensureAll_found {part : Nat} {ls : List Nat} (hall : ∀ l ∈ ls, (h.stor.find part l).isSome = true) : h.ensureAll part ls = (h, true) := by
  rw [ensureAll_eq]
  induction ls with
  | nil => rfl
  | cons l ls ih =>
    have hfound : h.ensure part l = (h, true) := if_pos (hall l (List.mem_cons_self ..))
    change ensureFold part ls ((h.ensure part l).1, true && (h.ensure part l).2) = _
    rw [hfound]
    exact ih fun l' hl' => hall l' (List.mem_cons_of_mem _ hl')

/-- A first block that finds no place leaves the operation without room (R435). -/
theorem ensureAll_fails {part l : Nat} {ls : List Nat} (hf : h.stor.find part l = none) (hg : h.stor.give part l 0 h.day = none) :
    (h.ensureAll part (l :: ls)).2 = false := by
  have hens : h.ensure part l = (h, false) := by
    unfold ensure
    rw [hf, hg]
    rfl
  rw [ensureAll_eq]
  change (ensureFold part ls ((h.ensure part l).1, true && (h.ensure part l).2)).2 = _
  rw [hens]
  exact ensureFold_failed part ls h

end Blocks

section Port

variable {h : HostDie} {o : NandOp}

theorem wantLevel_rest (h : HostDie) : h.wantLevel = { h with stor := h.wantLevel.stor } := by
  unfold wantLevel
  split
  · split
    · rfl
    · exact nandOp_rest _ _
  · rfl

/-- Region H with the memory port idle. -/
def portFree (h : HostDie) : HostDie := h.modStor fun s => { s with current := none }

/-- The port free, and the blocks that an operation writes to. -/
def roomFor (h : HostDie) (o : NandOp) : HostDie × Bool := (portFree h).ensureAll (h.opBlocks o).1 (h.opBlocks o).2

/-- What follows the end of an operation: levelling where it is due, and the next operation (R437). -/
def portServes (h : HostDie) : HostDie := h.wantLevel.nandNext

theorem portServes_rest (h : HostDie) : h.portServes = { h with stor := h.portServes.stor } := by
  calc h.portServes = { h.wantLevel with stor := h.portServes.stor } := nandNext_rest _
    _ = _ := congrArg (fun g : HostDie => { g with stor := h.portServes.stor }) (wantLevel_rest h)

/-- A page operation that writes data, as against a scrub or a levelling. -/
def Writes (o : NandOp) : Prop := (∀ p, o ≠ .scrub p) ∧ ∀ p, o ≠ .level p

theorem span_portFree (h : HostDie) (off n : Nat) : (portFree h).stor.span off n = h.stor.span off n := rfl

theorem blockBytes_portFree (h : HostDie) : (portFree h).stor.blockBytes = h.stor.blockBytes := rfl

/-- Where an operation writes does not depend on what the port runs. -/
theorem opBlocks_portFree (h : HostDie) (o : NandOp) : (portFree h).opBlocks o = h.opBlocks o := by
  cases o with
  | staging r => exact congrArg (Prod.mk 3) (span_portFree h _ _)
  | config r => exact congrArg (Prod.mk 4) (span_portFree h _ _)
  | trace => exact congrArg (Prod.mk 7) (span_portFree h _ _)
  | learned => exact congrArg (fun b => (5, [(h.stor.learnedUsed - 1) * 64 / b])) (blockBytes_portFree h)
  | _ => rfl

theorem nandDone_good (hc : h.stor.current = some o) (ho : Writes o) :
    h.nandDone .good = ((roomFor h o).1.opEnded (roomFor h o).2 o).portServes := by
  obtain ⟨hs, hl⟩ := ho
  unfold nandDone roomFor
  rw [hc, ← opBlocks_portFree]
  dsimp only
  split
  next p => exact absurd rfl (hs p)
  next p => exact absurd rfl (hl p)
  next =>
    rw [← portFree]
    generalize (portFree h).opBlocks o = x
    rfl

/-- An operation without room ends at once, whatever the NAND answers (R435). -/
theorem nandDone_noRoom (x : NandResult) (hc : h.stor.current = some o) (ho : Writes o) (hroom : (roomFor h o).2 = false) :
    h.nandDone x = ((roomFor h o).1.opEnded false o).portServes := by
  obtain ⟨hs, hl⟩ := ho
  unfold roomFor at *
  unfold nandDone
  rw [hc]
  rw [← opBlocks_portFree] at hroom ⊢
  dsimp only
  split
  next p => exact absurd rfl (hs p)
  next p => exact absurd rfl (hl p)
  next =>
    rw [← portFree]
    generalize (portFree h).opBlocks o = y at hroom ⊢
    rw [hroom]
    cases x <;> rfl

end Port

section Records

theorem rech_foldl_complete (rs : List Request) (st : Status) (h : HostDie) : (rs.foldl (fun h q => h.complete q st) h).rech = h.rech := by
  induction rs generalizing h with
  | nil => rfl
  | cons r rs ih => exact (ih _).trans (complete_rech _ _ _ _)

theorem rech_flushEnds (h : HostDie) (st : Status) : (h.flushEnds st).rech = { h.rech with flushCmds := [], urgent := false } :=
  rech_foldl_complete _ _ _

theorem rech_logFull (h : HostDie) : h.logFull.rech = { h.rech with full := true, fullRaised := true } := by
  unfold logFull
  dsimp only
  split
  · rfl
  · exact vector_rech _ _

/-- Region H with the first `n` records of the buffer in the log (R416). -/
def recordsMoved (h : HostDie) (n : Nat) : HostDie :=
  { h with rech := { h.rech with
    log := h.rech.log ++ h.rech.buffer.take n, pages := h.rech.pages ++ pageFill n h.pageRecords, buffer := h.rech.buffer.drop n
    handed := h.rech.handed - n, missRaised := if 0 < n then false else h.rech.missRaised } }

/-- A log that has become full is reported, and a buffer that has become empty ends the flushes (R416, R418). -/
def recordsReported (h : HostDie) : HostDie :=
  let g := if h.recFree = 0 then h.logFull else h
  if g.rech.buffer.isEmpty then g.flushEnds .ok else g

theorem recordsWritten_eq {h : HostDie} {n : Nat} (hroom : (pageFill n h.pageRecords).length * h.pageRecords ≤ h.recFree) :
    h.recordsWritten n = recordsReported (recordsMoved h n) := if_neg (Nat.not_lt.mpr hroom)

theorem log_recordsReported (h : HostDie) :
    (recordsReported h).rech.log = h.rech.log ∧ (recordsReported h).rech.buffer = h.rech.buffer := by
  have hfull : (if h.recFree = 0 then h.logFull else h).rech.log = h.rech.log ∧
      (if h.recFree = 0 then h.logFull else h).rech.buffer = h.rech.buffer := by
    split
    · rw [rech_logFull]
      exact ⟨rfl, rfl⟩
    · exact ⟨rfl, rfl⟩
  unfold recordsReported
  generalize (if h.recFree = 0 then h.logFull else h) = g at hfull ⊢
  dsimp only
  split
  · rw [rech_flushEnds]
    exact hfull
  · exact hfull

end Records

section Clears

/-- What the steps of a clear after its first leave: what the log and the traces hold, and all but the recorder, the storage manager and events. -/
structure LogKept (h g : HostDie) : Prop where
  queues : g.hif.queues = h.hif.queues
  mode : g.mode = h.mode
  htb : g.htb = h.htb
  log : g.rech.log = h.rech.log
  missCnt : g.rech.missCnt = h.rech.missCnt
  traces : g.rech.traces = h.rech.traces
  clearCmds : g.rech.clearCmds = h.rech.clearCmds
  ledger : g.rech.ledger = h.rech.ledger

variable {h g k : HostDie}

theorem LogKept.refl (h : HostDie) : LogKept h h := ⟨rfl, rfl, rfl, rfl, rfl, rfl, rfl, rfl⟩

theorem LogKept.trans (hg : LogKept h g) (hk : LogKept g k) : LogKept h k :=
  ⟨hk.queues.trans hg.queues, hk.mode.trans hg.mode, hk.htb.trans hg.htb, hk.log.trans hg.log, hk.missCnt.trans hg.missCnt,
    hk.traces.trans hg.traces, hk.clearCmds.trans hg.clearCmds, hk.ledger.trans hg.ledger⟩

theorem StorageStep.logKept (hg : StorageStep h g) : LogKept h g := by
  rw [hg]
  exact ⟨rfl, rfl, rfl, rfl, rfl, rfl, rfl, rfl⟩

theorem storageStep_nandOp (h : HostDie) (o : NandOp) : StorageStep h (h.nandOp o) := by
  unfold StorageStep
  rw [nandOp_rest]

theorem logKept_handAll (h : HostDie) : LogKept h h.handAll := by
  unfold handAll
  dsimp only
  split
  · exact LogKept.refl h
  · exact LogKept.trans (g := { h with rech := { h.rech with handed := h.rech.buffer.length, openAt := none } })
      ⟨rfl, rfl, rfl, rfl, rfl, rfl, rfl, rfl⟩ (storageStep_nandOp _ _).logKept

theorem logKept_ite {c : Prop} [Decidable c] (hg : LogKept h g) (hk : LogKept h k) : LogKept h (if c then g else k) := by
  split
  · exact hg
  · exact hk

theorem logKept_storeRecord (h : HostDie) (r : Record) : LogKept h (h.storeRecord r) := by
  refine LogKept.trans ?_ (logKept_ite (logKept_handAll _) (LogKept.refl _))
  exact ⟨rfl, rfl, rfl, rfl, rfl, rfl, rfl, rfl⟩

theorem logKept_storeTrace (h : HostDie) : LogKept h h.storeTrace := by
  unfold storeTrace
  split
  · exact LogKept.refl h
  split
  · unfold tracesFull
    dsimp only
    split
    · exact ⟨rfl, rfl, rfl, rfl, rfl, rfl, rfl, rfl⟩
    · refine LogKept.trans (g := ({ h with rech := { h.rech with trFull := true, trFullRaised := true } } : HostDie).raise 240 1) ?_
        (storageStep_vector _ _).logKept
      exact ⟨rfl, rfl, rfl, rfl, rfl, rfl, rfl, rfl⟩
  split
  · exact LogKept.refl h
  · exact (storageStep_nandOp _ _).logKept

theorem logKept_foldl {α : Type} (xs : List α) {f : HostDie → α → HostDie} (hf : ∀ h x, LogKept h (f h x)) (h : HostDie) :
    LogKept h (xs.foldl f h) := by
  induction xs generalizing h with
  | nil => exact LogKept.refl h
  | cons x xs ih => exact (hf h x).trans (ih _)

theorem logKept_stor (h : HostDie) (s : Stor) : LogKept h { h with stor := s } := ⟨rfl, rfl, rfl, rfl, rfl, rfl, rfl, rfl⟩

/-- A clear's first step: log and traces emptied as its entry says (R426). -/
def logCleared (h : HostDie) (l : Ledger) : HostDie :=
  let recs := l.what.testBit 0
  let tr := l.what.testBit 1
  let r := h.rech
  { h with rech := { r with
    log := if recs then [] else r.log, pages := if recs then [] else r.pages, buffer := if recs then [] else r.buffer
    handed := if recs then 0 else r.handed, clears := if tr then r.clears + 1 else r.clears
    full := r.full && !recs, fullRaised := r.fullRaised && !recs, missCnt := if recs then 0 else r.missCnt
    missRaised := r.missRaised && !recs, nextSeq := 0
    traces := if tr then [] else r.traces, trFull := r.trFull && !tr, trFullRaised := r.trFullRaised && !tr } }

/-- The ledger with a clear's entry marked as carried through (R426). -/
def ledgerMarked (l : Ledger) (xs : List Ledger) : List Ledger := xs.map fun x => if x.index = l.index then { x with cleared := true } else x

/-- A clear empties what its entry names, marks it, and leaves the rest of log and traces. -/
theorem clearLog_eq (h : HostDie) (l : Ledger) :
    ∃ g, LogKept (logCleared h l) g ∧ h.clearLog l = { g with rech := { g.rech with ledger := ledgerMarked l g.rech.ledger } } := by
  refine ⟨_, ?_, rfl⟩
  refine LogKept.trans ?_ (logKept_foldl _ (fun _ _ => logKept_storeRecord _ _) _)
  refine LogKept.trans ?_ (logKept_ite (LogKept.refl _) ⟨rfl, rfl, rfl, rfl, rfl, rfl, rfl, rfl⟩)
  refine LogKept.trans ?_ (logKept_storeRecord _ _)
  refine LogKept.trans ?_ (logKept_ite ((logKept_stor _ _).trans (logKept_storeTrace _)) (LogKept.refl _))
  refine LogKept.trans ?_ (logKept_ite (logKept_stor _ _) (LogKept.refl _))
  exact logKept_stor (logCleared h l) _

/-- What every clear leaves, whatever it clears. -/
structure ClearStep (h g : HostDie) : Prop where
  queues : g.hif.queues = h.hif.queues
  mode : g.mode = h.mode
  htb : g.htb = h.htb
  clearCmds : g.rech.clearCmds = h.rech.clearCmds

theorem clearStep_clearLog (h : HostDie) (l : Ledger) : ClearStep h (h.clearLog l) := by
  obtain ⟨g, hkept, heq⟩ := clearLog_eq h l
  rw [heq]
  exact ⟨hkept.queues, hkept.mode, hkept.htb, hkept.clearCmds⟩

theorem clearStep_foldl (ls : List Ledger) (h : HostDie) : ClearStep h (ls.foldl clearLog h) := by
  induction ls generalizing h with
  | nil => exact ⟨rfl, rfl, rfl, rfl⟩
  | cons l ls ih =>
    have hl := clearStep_clearLog h l
    have hls := ih (h.clearLog l)
    exact ⟨hls.queues.trans hl.queues, hls.mode.trans hl.mode, hls.htb.trans hl.htb, hls.clearCmds.trans hl.clearCmds⟩

/-- Region H with the clears that stand in the ledger carried through, and their commands taken. -/
def clearsCarried (h : HostDie) : HostDie :=
  let g := (h.rech.ledger.filter fun l => !l.cleared).foldl clearLog h
  { g with rech := { g.rech with clearCmds := [] } }

theorem finishClears_single {r : Request} (hc : h.rech.clearCmds = [r]) :
    h.finishClears = (((clearsCarried h).complete r .ok).raise 241 1).vector 45 := by
  have hcmds := (clearStep_foldl (h.rech.ledger.filter fun l => !l.cleared) h).clearCmds.trans hc
  unfold finishClears
  dsimp only
  rw [hcmds]
  rfl

theorem dropClears_single {r : Request} (hc : h.rech.clearCmds = [r]) : h.dropClears =
    ({ h with rech := { h.rech with clearCmds := [], ledger := h.rech.ledger.filter (·.cleared) } } : HostDie).complete r .mediaError := by
  unfold dropClears
  rw [hc]
  rfl

/-- The one clear that stands in the ledger is carried through as its entry says (R426). -/
theorem clearsCarried_single {l : Ledger} (hl : h.rech.ledger.filter (fun x => !x.cleared) = [l]) :
    (∀ x ∈ (clearsCarried h).rech.ledger, x.cleared = true) ∧
      (clearsCarried h).rech.log = (if l.what.testBit 0 then [] else h.rech.log) ∧
      (clearsCarried h).rech.missCnt = (if l.what.testBit 0 then 0 else h.rech.missCnt) ∧
      (clearsCarried h).rech.traces = (if l.what.testBit 1 then [] else h.rech.traces) := by
  obtain ⟨g, hkept, heq⟩ := clearLog_eq h l
  unfold clearsCarried
  rw [hl, List.foldl_cons, List.foldl_nil, heq]
  refine ⟨fun x hx => ?_, hkept.log, hkept.missCnt, hkept.traces⟩
  obtain ⟨y, hy, rfl⟩ := List.mem_map.mp hx
  have hmem : y ∈ h.rech.ledger := hkept.ledger ▸ hy
  split
  · rfl
  next hne =>
    refine Bool.eq_true_of_not_eq_false fun hcl => hne ?_
    have hyl : y ∈ [l] := hl ▸ List.mem_filter.mpr ⟨hmem, by simp [hcl]⟩
    rw [List.mem_singleton.mp hyl]

end Clears
end HostDie

namespace Machine

section PortEvents

open HostDie

variable {s : State} {r : Request} {x : NandResult}

theorem exec_nandOpDone (x : NandResult) (s : State) : exec (.nandOpDone x) s = .next (s.onHost fun h => h.nandDone x) := rfl

/-- The scrub period has passed, as far as the days are known (R436). -/
theorem exec_scrubPeriod_waits (hw : s.chip.host.wallSet = true ∧ s.chip.host.day < s.chip.host.stor.scrubDay + s.chip.host.stor.scrubPeriod) :
    exec .scrubPeriod s = .next s :=
  congrArg Host.Outcome.next (State.onHost_eq_self (if_pos hw))

theorem exec_scrubPeriod_over
    (hw : ¬ (s.chip.host.wallSet = true ∧ s.chip.host.day < s.chip.host.stor.scrubDay + s.chip.host.stor.scrubPeriod)) :
    exec .scrubPeriod s = .next (s.onHost HostDie.startScrub) :=
  congrArg Host.Outcome.next (State.onHost_else
    (p := fun h => h.wallSet = true ∧ h.day < h.stor.scrubDay + h.stor.scrubPeriod) (g := fun h => h) (g' := startScrub) hw)

/-- The compaction of LEARNED is due (R449). -/
abbrev compactionRuns (h : HostDie) : Prop := h.booted = true ∧ h.listens = true

/-- The records that a compaction keeps (R449). -/
def learnedKept (h : HostDie) : List Learned := (newest (inForce h.stor.learned)).take (h.learnedCapacity * 3 / 4)

theorem compact_small {h : HostDie} (hc : h.stor.learnedUsed * 4 ≤ h.learnedCapacity * 3) : h.compact = h := if_pos hc

theorem compact_over {h : HostDie} (hc : h.learnedCapacity * 3 < h.stor.learnedUsed * 4) : h.compact =
    { h with stor := { h.stor.erasePart 5 0 4096 with learned := learnedKept h, learnedUsed := (learnedKept h).length } }.nandOp .learned :=
  if_neg (Nat.not_le.mpr hc)

theorem exec_learnedCompaction_due (hr : compactionRuns s.chip.host) : exec .learnedCompaction s = .next (s.onHost compact) :=
  congrArg Host.Outcome.next (State.onHost_due (p := compactionRuns) hr)

theorem exec_learnedCompaction_not (hr : ¬ compactionRuns s.chip.host) : exec .learnedCompaction s = .next s :=
  congrArg Host.Outcome.next (State.onHost_not (p := compactionRuns) hr)

theorem portServes_idle {h : HostDie} (ho : h.stor.ops = []) (hl : h.levelCandidate = none) : (portFree h).portServes = portFree h := by
  have hlevel : (portFree h).levelCandidate = none := hl
  have hwant : (portFree h).wantLevel = portFree h := by
    unfold wantLevel
    rw [hlevel]
  have hready : (portFree h).stor.ops.filter (portFree h).nandReady = [] := by
    change h.stor.ops.filter _ = []
    rw [ho, List.filter_nil]
  unfold portServes
  rw [hwant, nandNext, hready]
  rfl

/-- The end of an operation whose blocks are all there (R437). -/
theorem nandDone_found {h : HostDie} {o : NandOp} (hc : h.stor.current = some o) (ho : Writes o)
    (hall : ∀ l ∈ (h.opBlocks o).2, (h.stor.find (h.opBlocks o).1 l).isSome = true) :
    h.nandDone .good = ((portFree h).opEnded true o).portServes := by
  have hroom : roomFor h o = (portFree h, true) := ensureAll_found (h := portFree h) hall
  rw [nandDone_good hc ho, hroom]

theorem give_portFree {h : HostDie} {part l : Nat} (hg : h.stor.give part l 0 h.day = none) :
    (portFree h).stor.give part l 0 (portFree h).day = none := by
  unfold Stor.give at hg ⊢
  rw [Option.map_eq_none_iff] at hg ⊢
  exact hg

theorem storageStep_roomFor (h : HostDie) (o : NandOp) : StorageStep h (roomFor h o).1 :=
  StorageStep.trans (g := portFree h) rfl (storageStep_ensureFold _ _ (portFree h, true))

/-- A command that an operation's end completes has answered once the port has gone on. -/
theorem hostAnswers_portServes {k g : HostDie} {st : Status} (hs : r.silent = false) (hx : s.chip.host.nandDone x = k.portServes)
    (hk : k.hif.queues = (g.complete r st).hif.queues) (hq : g.hif.queues = s.chip.host.hif.queues) (hm : g.mode = s.chip.host.mode) :
    hostAnswers s (s.onHost fun h => h.nandDone x) r st 0 := by
  have ht : (s.onHost fun h => h.nandDone x).chip.host.hif.queues = (g.complete r st).hif.queues := by
    rw [State.onHost_host, hx, portServes_rest]
    exact hk
  unfold hostAnswers
  rw [ht]
  refine (complete_waiting _ _ _ _ hs).trans ?_
  rw [hq, hm]

/-- Staged bytes that could not be written are cut off again (R450). -/
def stagingCut (r : Request) (s : Stor) : Stor :=
  if r.u32 0 = 1 then { s with stagedCfg := s.stagedCfg.take (r.u32 4) } else { s with stagedImg := s.stagedImg.take (r.u32 4) }

theorem opEnded_staging_failed (h : HostDie) (r : Request) : h.opEnded false (.staging r) = (h.modStor (stagingCut r)).complete r .mediaError := rfl

theorem opEnded_staging_good (h : HostDie) (r : Request) : h.opEnded true (.staging r) = h.complete r .ok := rfl

theorem clearStep_clearsCarried (h : HostDie) : (clearsCarried h).hif.queues = h.hif.queues ∧ (clearsCarried h).mode = h.mode ∧
    (clearsCarried h).htb = h.htb :=
  have hstep := clearStep_foldl (h.rech.ledger.filter fun l => !l.cleared) h
  ⟨hstep.queues, hstep.mode, hstep.htb⟩

/-- Region H with a clear's command answered and REC_CLEARED raised (R426). -/
def clearAnswered (h : HostDie) (r : Request) : HostDie := ((h.complete r .ok).raise 241 1).vector 45

theorem queues_clearAnswered (h : HostDie) (r : Request) : (clearAnswered h r).hif.queues = (h.complete r .ok).hif.queues :=
  (storageStep_vector _ _).queues

theorem rech_clearAnswered (h : HostDie) (r : Request) : (clearAnswered h r).rech = h.rech :=
  (vector_rech _ _).trans (complete_rech _ _ _ _)

theorem arisen_clearAnswered (h : HostDie) (r : Request) : (clearAnswered h r).fcm.arisen = h.fcm.arisen ++
    [{ tb := h.htb, fine := 0xFFFF, src := 241, code := 1, value := 0 }] := by
  simp [clearAnswered, HostDie.raise]

/-- A clear's ledger entry on the NAND carries the clear through (R426). -/
theorem ledger_written (hc : s.chip.host.stor.current = some .ledger) (hclear : s.chip.host.rech.clearCmds = [r]) (hs : r.silent = false)
    (h0 : (s.chip.host.stor.find 6 0).isSome = true) (h1 : (s.chip.host.stor.find 6 1).isSome = true) :
    ∃ t, exec (.nandOpDone .good) s = .next t ∧ hostOnly s t ∧ hostAnswers s t r .ok 0 ∧ hostEvent s 241 1 ∈ t.chip.host.fcm.arisen ∧
      t.chip.host.rech.clearCmds = [] ∧
      ∀ l, s.chip.host.rech.ledger.filter (fun x => !x.cleared) = [l] →
        (∀ x ∈ t.chip.host.rech.ledger, x.cleared = true) ∧
        (l.what.testBit 0 = true → t.chip.host.rech.log = [] ∧ t.chip.host.rech.missCnt = 0) ∧
        (l.what.testBit 1 = true → t.chip.host.rech.traces = []) ∧
        (l.what.testBit 0 = false → t.chip.host.rech.log = s.chip.host.rech.log) ∧
        (l.what.testBit 1 = false → t.chip.host.rech.traces = s.chip.host.rech.traces) := by
  have hall : ∀ l ∈ (s.chip.host.opBlocks .ledger).2, (s.chip.host.stor.find (s.chip.host.opBlocks .ledger).1 l).isSome = true := by
    intro l hl
    have hl : l ∈ [0, 1] := hl
    simp only [List.mem_cons, List.not_mem_nil, or_false] at hl
    rcases hl with rfl | rfl
    · exact h0
    · exact h1
  have hdone : s.chip.host.nandDone .good = (clearAnswered (clearsCarried (portFree s.chip.host)) r).portServes := by
    rw [nandDone_found hc ⟨nofun, nofun⟩ hall]
    exact congrArg portServes (finishClears_single (h := portFree s.chip.host) hclear)
  obtain ⟨hqueues, hmode, hhtb⟩ := clearStep_clearsCarried (portFree s.chip.host)
  have hrech : (s.onHost fun h => h.nandDone .good).chip.host.rech = (clearsCarried (portFree s.chip.host)).rech := by
    rw [State.onHost_host, hdone, portServes_rest]
    exact rech_clearAnswered _ _
  have harisen : (s.onHost fun h => h.nandDone .good).chip.host.fcm.arisen =
      (clearsCarried (portFree s.chip.host)).fcm.arisen ++ [hostEvent s 241 1] := by
    rw [State.onHost_host, hdone, portServes_rest]
    refine (arisen_clearAnswered _ _).trans ?_
    rw [hhtb]
    rfl
  refine ⟨_, exec_nandOpDone .good s, rfl, hostAnswers_portServes hs hdone (queues_clearAnswered _ _) hqueues hmode, ?_, ?_, fun l hl => ?_⟩
  · rw [harisen]
    exact List.mem_append_right _ (List.mem_singleton_self _)
  · rw [hrech]
    rfl
  · obtain ⟨hmarked, hlog, hmiss, htraces⟩ := clearsCarried_single (h := portFree s.chip.host) hl
    rw [hrech]
    exact ⟨hmarked, fun h0 => ⟨hlog.trans (if_pos h0), hmiss.trans (if_pos h0)⟩, fun h1 => htraces.trans (if_pos h1),
      fun h0 => hlog.trans (if_neg (Bool.eq_false_iff.mp h0)), fun h1 => htraces.trans (if_neg (Bool.eq_false_iff.mp h1))⟩

theorem opEnded_ledger_failed (h : HostDie) : h.opEnded false .ledger = h.dropClears := rfl

/-- A clear whose ledger entry finds no block is undone (17 R435). -/
theorem ledger_failed (hc : s.chip.host.stor.current = some .ledger) (hclear : s.chip.host.rech.clearCmds = [r]) (hs : r.silent = false)
    (hfind : s.chip.host.stor.find 6 0 = none) (hgive : s.chip.host.stor.give 6 0 0 s.chip.host.day = none) :
    ∃ t, exec (.nandOpDone .good) s = .next t ∧ hostOnly s t ∧ hostAnswers s t r .mediaError 0 ∧ t.chip.host.rech.clearCmds = [] ∧
      t.chip.host.rech.log = s.chip.host.rech.log ∧
      t.chip.host.rech.ledger = s.chip.host.rech.ledger.filter (fun x => x.cleared) := by
  have hroom : (roomFor s.chip.host .ledger).2 = false :=
    ensureAll_fails (h := portFree s.chip.host) hfind (give_portFree hgive)
  have hstep := storageStep_roomFor s.chip.host .ledger
  have hcmds : (roomFor s.chip.host .ledger).1.rech.clearCmds = [r] := (congrArg Rech.clearCmds hstep.rech).trans hclear
  have hdone := nandDone_noRoom .good hc ⟨nofun, nofun⟩ hroom
  rw [opEnded_ledger_failed, dropClears_single hcmds] at hdone
  have hrech : (s.onHost fun h => h.nandDone .good).chip.host.rech =
      { s.chip.host.rech with clearCmds := [], ledger := s.chip.host.rech.ledger.filter (·.cleared) } := by
    rw [State.onHost_host, hdone, portServes_rest, ← hstep.rech]
    exact complete_rech _ _ _ _
  refine ⟨_, exec_nandOpDone .good s, rfl, hostAnswers_portServes hs hdone rfl hstep.queues hstep.mode, ?_⟩
  rw [hrech]
  exact ⟨rfl, rfl, rfl⟩

end PortEvents

/-- Settles O46: the end of a page operation by what it wrote, the scrub, the compaction and the status read. -/
theorem storageManagerServesThePort : Obligations.StorageManagerServesThePort := by
  refine ⟨?header, ?records, ?staging, ?ledger, ?scrub, ?compaction, ?status⟩
  case header =>
    intro s hc ho hl
    refine ⟨_, exec_nandOpDone .good s, rfl, ?_⟩
    have hdone := HostDie.nandDone_good hc ⟨nofun, nofun⟩
    exact hdone.trans (portServes_idle ho hl)
  case records =>
    intro s n hc hfree hall
    have hdone := nandDone_found hc ⟨nofun, nofun⟩ hall
    refine ⟨_, exec_nandOpDone .good s, rfl, ?_⟩
    rw [State.onHost_host, hdone, HostDie.portServes_rest]
    change (HostDie.recordsWritten (HostDie.portFree s.chip.host) n).rech.log = _ ∧ (HostDie.recordsWritten (HostDie.portFree s.chip.host) n).rech.buffer = _
    rw [HostDie.recordsWritten_eq (h := HostDie.portFree s.chip.host) hfree]
    exact HostDie.log_recordsReported _
  case staging =>
    intro s r hc hs
    refine ⟨fun hall => ?_, fun x l ls hblocks hfind hgive => ?_⟩
    · have hdone := nandDone_found hc ⟨nofun, nofun⟩ hall
      rw [opEnded_staging_good] at hdone
      exact ⟨_, exec_nandOpDone .good s, rfl, hostAnswers_portServes hs hdone rfl rfl rfl⟩
    · have hroom : (HostDie.roomFor s.chip.host (.staging r)).2 = false := by
        unfold HostDie.roomFor
        rw [hblocks]
        exact HostDie.ensureAll_fails (h := HostDie.portFree s.chip.host) hfind (give_portFree hgive)
      have hdone := HostDie.nandDone_noRoom x hc ⟨nofun, nofun⟩ hroom
      have hstep := storageStep_roomFor s.chip.host (.staging r)
      rw [opEnded_staging_failed] at hdone
      exact ⟨_, exec_nandOpDone x s, rfl, hostAnswers_portServes hs hdone rfl hstep.queues hstep.mode⟩
  case ledger =>
    intro s r hc hclear hs
    exact ⟨fun h0 h1 => ledger_written hc hclear hs h0 h1, fun hfind hgive => ledger_failed hc hclear hs hfind hgive⟩
  case scrub =>
    intro s
    by_cases hw : s.chip.host.wallSet = true ∧ s.chip.host.day < s.chip.host.stor.scrubDay + s.chip.host.stor.scrubPeriod
    · refine ⟨s, exec_scrubPeriod_waits hw, rfl, fun _ => rfl, fun _ _ _ _ hover => ?_⟩
      have hover := hover hw.1
      omega
    · refine ⟨_, exec_scrubPeriod_over hw, rfl, fun hn => State.onHost_eq_self (HostDie.startScrub_off ?_), fun hs hf hb hl _ => ?_⟩
      · rcases hn with hn | hn | hn | hn | hn
        · exact .inl hn
        · exact .inr (.inl hn)
        · exact .inr (.inr (.inl hn))
        · exact .inr (.inr (.inr hn))
        · exact absurd hn hw
      · rw [State.onHost_host, HostDie.startScrub_on hs hf hb hl]
        exact ⟨HostDie.stor_nandOp _ _ Stor.scrubbing fun _ _ _ => rfl, HostDie.stor_nandOp _ _ Stor.rewritten fun _ _ _ => rfl,
          HostDie.queued_nandOp _ _⟩
  case compaction =>
    intro s
    by_cases hr : compactionRuns s.chip.host
    · refine ⟨_, exec_learnedCompaction_due hr, rfl, fun hn => State.onHost_eq_self (compact_small ?_), fun _ _ hover => ?_⟩
      · rcases hn with hn | hn | hn
        · exact absurd (hn.symm.trans hr.1) Bool.false_ne_true
        · exact absurd (hn.symm.trans hr.2) Bool.false_ne_true
        · exact hn
      · have hlearned := HostDie.stor_nandOp { s.chip.host with stor := { s.chip.host.stor.erasePart 5 0 4096 with
            learned := learnedKept s.chip.host, learnedUsed := (learnedKept s.chip.host).length } } .learned Stor.learned fun _ _ _ => rfl
        have hused := HostDie.stor_nandOp { s.chip.host with stor := { s.chip.host.stor.erasePart 5 0 4096 with
            learned := learnedKept s.chip.host, learnedUsed := (learnedKept s.chip.host).length } } .learned Stor.learnedUsed fun _ _ _ => rfl
        rw [State.onHost_host, compact_over hover]
        exact ⟨hlearned, hused.trans (congrArg List.length hlearned).symm⟩
    · exact ⟨s, exec_learnedCompaction_not hr, rfl, fun _ => rfl, fun hb hl => absurd ⟨hb, hl⟩ hr⟩
  case status =>
    intro s hl
    exact ⟨_, congrArg Host.Outcome.next (State.hostRead_on hl), rfl, rfl, rfl⟩

end Machine
end Sys2Proof

/-! Block commands (19 R497): a sweep of MEAS whose idle spare is already wanted for good takes the channel over at once, and that spare swap
is then the block's last operation. -/

namespace Sys2Proof
namespace Machine

/-- A running, configured, active field whose first MEAS spare of quadrant 0 stands idle and is wanted for channel 0. -/
def spareWanted : State := State.reset.onField fun f => { f with
  power := { f.power with phase := .running }, cfg := { f.cfg with loaded := true }, twin := { f.twin with role := 2, activeN := true }
  quad := f.quad.modifyNat 0 fun x => { x with meas := { x.meas with cal := x.meas.cal.modifyNat 0 fun y => { y with state := 0, wanted := some 0 } } } }

/-- BLOCK_OP with action 2, a sweep, on MEAS of quadrant 0. -/
def sweepQuadrant0 : Request := { unit := 0xFF, flags := 1, authOk := true, params := 4 + 3 * 2 ^ 32 + 2 * 2 ^ 64 }

theorem fieldTakes_sweepQuadrant0 : fieldTakes blockOpC sweepQuadrant0 spareWanted := by
  refine ⟨by decide, by decide, by decide, by decide, by decide, by decide, ?_, ?_⟩
  · decide +kernel
  · decide +kernel

theorem params_sweepQuadrant0 : sweepQuadrant0.u32 0 = 4 ∧ sweepQuadrant0.u32 4 = 3 ∧ sweepQuadrant0.u32 8 = 2 := by decide +kernel

theorem cal_spareWanted : ((spareWanted.chip.field.qd 0).meas.cal.rows.any fun x => x.state < 4) = true := by decide +kernel

/-- The block shows the swap (LAST_OP 5), not the sweep. -/
theorem lastOp_sweepQuadrant0 : (((spareWanted.field blockOpC sweepQuadrant0).chip.field.blkAt spareWanted.chip.variant 4 3).map fun x => (x.state, x.lastOp)) =
    some (3, 5) := by decide +kernel

/-- Refutes O57: a sweep asked for while an idle spare is wanted for good starts with the swap, so the block shows LAST_OP 5 where the statement,
which admits every state with a spare in use, has it show 2. -/
theorem not_blockCommandsRunAtTheirTarget : ¬ Obligations.BlockCommandsRunAtTheirTarget := by
  rintro ⟨_, _, _, hblockOp, _⟩
  obtain ⟨h0, h4, h8⟩ := params_sweepQuadrant0
  obtain ⟨t, hexec, _, _, _, _, hsweep, _⟩ := hblockOp sweepQuadrant0 spareWanted fieldTakes_sweepQuadrant0 (by rw [h0]; decide)
  have ht : t = spareWanted.field blockOpC sweepQuadrant0 := by
    have hrun : exec (.blockOp sweepQuadrant0) spareWanted = .next (spareWanted.field blockOpC sweepQuadrant0) :=
      congrArg Host.Outcome.next (if_neg (by rw [blkOnHost, h0]; decide))
    exact Host.Outcome.next.inj (hexec.symm.trans hrun)
  have hspare : ∃ x ∈ (spareWanted.chip.field.qd (sweepQuadrant0.u32 0 - 4)).meas.cal.rows, x.state < 4 := by
    obtain ⟨x, hx, hlt⟩ := List.any_eq_true.mp cal_spareWanted
    exact ⟨x, by rw [h0]; exact hx, of_decide_eq_true hlt⟩
  have hlast := hsweep h8 hspare
  rw [ht, h0, h4, lastOp_sweepQuadrant0] at hlast
  exact absurd hlast (by decide)

end Machine
end Sys2Proof

/-! Fault collection (15 R389 to R391, R397, R407 to R409): the sources of a collector under each operation, region H's judging, and the
commands of group 0x80 on the side of their source's scope. -/

namespace Sys2Proof

/-- In a numbered list no entry bears a number below the first. -/
theorem filter_numbered_below (p : Source → Bool) (l : List Source) {m k : Nat} (hk : k < m) :
    (l.mapIdx fun i a => (i + m, a)).filter (fun x => x.1 == k && p x.2) = [] := by
  rw [List.filter_eq_nil_iff]
  intro x hx
  obtain ⟨i, hi, rfl⟩ := List.mem_mapIdx.mp hx
  have hne : i + m ≠ k := by omega
  simp [hne]

/-- In a numbered list one entry at most bears a number. -/
theorem length_filter_numbered (p : Source → Bool) (l : List Source) {m k : Nat} (hk : k < l.length) :
    ((l.mapIdx fun i a => (i + m, a)).filter (fun x => x.1 == k + m && p x.2)).length = bit (p (l.getD k {})) := by
  induction l generalizing m k with
  | nil => simp at hk
  | cons a rest ih =>
    have hnext : (fun i b => ((i + 1 + m, b) : Nat × Source)) = fun i b => (i + (m + 1), b) := by
      funext i b
      rw [Nat.add_assoc, Nat.add_comm 1 m]
    rw [List.mapIdx_cons, hnext, List.filter_cons]
    cases k with
    | zero =>
      rw [Nat.zero_add, filter_numbered_below p rest (Nat.lt_succ_self m)]
      cases hp : p a <;> simp [hp, bit]
    | succ k =>
      rw [if_neg (by simp), Nat.add_right_comm k 1 m, Nat.add_assoc k m 1, ih (by simpa using hk), List.getD_cons_succ]

namespace Collector

variable {c : Collector} {k j : Nat} {pick : Nat → Bool}

theorem src_ack (hj : j < 256) : (c.ack pick).1.src j = if pick j then { c.src j with pend := false } else c.src j := by
  change (c.sources.mapIdx fun i (s : Source) => if pick i then { s with pend := false } else s).getD j {} = _
  rw [Tab.getD_mapIdx _ _ _ {} hj]
  rfl

theorem src_clearRecov (hj : j < 256) : (c.clearRecov pick).src j = if pick j then { c.src j with recov := 0 } else c.src j := by
  change (c.sources.mapIdx fun i (s : Source) => if pick i then { s with recov := 0 } else s).getD j {} = _
  rw [Tab.getD_mapIdx _ _ _ {} hj]
  rfl

theorem src_outside (hj : 256 ≤ j) : c.src j = {} := by
  rw [src, Tab.getD, List.getD_eq_default _ _ (by rw [c.sources.size_eq]; exact hj)]

theorem src_ack_not (hj : pick j = false) : (c.ack pick).1.src j = c.src j := by
  by_cases h : j < 256
  · rw [src_ack h, hj]
    rfl
  · rw [src_outside (Nat.le_of_not_lt h), src_outside (Nat.le_of_not_lt h)]

theorem src_clearRecov_not (hj : pick j = false) : (c.clearRecov pick).src j = c.src j := by
  by_cases h : j < 256
  · rw [src_clearRecov h, hj]
    rfl
  · rw [src_outside (Nat.le_of_not_lt h), src_outside (Nat.le_of_not_lt h)]

theorem src_ack_ne (hj : j ≠ k) : (c.ack fun i => i == k).1.src j = c.src j := src_ack_not (pick := fun i => i == k) (beq_false_of_ne hj)

theorem src_clearRecov_ne (hj : j ≠ k) : (c.clearRecov fun i => i == k).src j = c.src j :=
  src_clearRecov_not (pick := fun i => i == k) (beq_false_of_ne hj)

/-- An acknowledgement of one source clears the flag of one source at most. -/
theorem ack_count_one (hk : k < 256) : (c.ack (fun i => i == k)).2 = bit (c.src k).pend :=
  length_filter_numbered (m := 0) (·.pend) c.sources.rows (c.sources.size_eq.symm ▸ hk)

theorem src_setSource_self {r : Request} (hk : r.u32 0 < 256) : (c.setSource r).src (r.u32 0) = { c.src (r.u32 0) with
    ev := r.u32 4, sv := r.u32 8, flt := r.u32 12 == 1, n := r.u32 16, w := r.u32 20, q := r.u32 24 } :=
  Tab.getD_modifyNat_self _ _ _ _ hk

theorem src_setSource_ne {r : Request} (hj : j ≠ r.u32 0) : (c.setSource r).src j = c.src j := Tab.getD_modifyNat_ne _ _ _ _ _ hj

/-- Ageing touches only the window counts. -/
theorem src_age_flags (t : Nat) (hj : j < 256) : ((c.age t).src j).pend = (c.src j).pend ∧ ((c.age t).src j).severe = (c.src j).severe := by
  have hage : (c.age t).src j = if (c.src j).stamps = [] then c.src j else { c.src j with winCnt := min 15 ((c.src j).count t) } :=
    (Tab.getD_map c.sources (fun s => if s.stamps = [] then s else { s with winCnt := min 15 (s.count t) }) {} {} hj).trans rfl
  rw [hage]
  split <;> exact ⟨rfl, rfl⟩

/-- The entry of a judged event. -/
theorem judge_row {host : Bool} {t : Nat} {e : Event} {row : SrcRow} {x : Source} {rung : Nat} {sev esc : Bool} (hrow : srcRow e.src = some row)
    (hev : c.evaluate host row t e = (x, rung, sev, esc)) :
    c.judge host t e = ({ c with
        sources := c.sources.modifyNat e.src (fun _ => x), lastSrc := e.src
        lastData := ({ ev := e, cls := row.cls, rung := rung, severe := sev, escalated := esc } : Entry).data },
      some { ev := e, cls := row.cls, rung := rung, severe := sev, escalated := esc }) := by
  unfold judge
  rw [hrow]
  dsimp only
  rw [hev]

/-- An injected event of a source with a row gives an entry. -/
theorem inject_row {host : Bool} {t : Nat} {e : Event} (hrow : (srcRow e.src).isSome = true) : ∃ en, c.inject host t e = some en := by
  obtain ⟨row, hrow⟩ := Option.isSome_iff_exists.mp hrow
  unfold inject
  rw [judge_row hrow rfl]
  exact ⟨_, rfl⟩

end Collector

/-- A source with a row of the tables is one of the 256. -/
theorem lt_of_srcRow {k : Nat} {row : SrcRow} (h : srcRow k = some row) : k < 256 := by
  unfold srcRow at h
  split at h
  · omega
  · split at h
    · omega
    · by_contra hk
      have hhigh : srcRowHigh k = none := by
        unfold srcRowHigh
        split
        rotate_right
        · rfl
        all_goals omega
      rw [hhigh] at h
      cases h

end Sys2Proof

namespace Sys2Proof

namespace HostDie

/-- An entry on its way to the host touches region H's interface alone, and no queue of it. -/
theorem ringEntry_rest (h : HostDie) (e : Entry) : h.ringEntry e = { h with hif := (h.ringEntry e).hif } := by
  unfold ringEntry
  dsimp only
  split
  · rfl
  · split <;> rfl

theorem queues_ringEntry (h : HostDie) (e : Entry) : (h.ringEntry e).hif.queues = h.hif.queues := by
  unfold ringEntry
  dsimp only
  split
  · rfl
  · split <;> rfl

theorem ruleVectors_rest (h : HostDie) (cls rung : Nat) : h.ruleVectors cls rung = { h with hif := (h.ruleVectors cls rung).hif } := by
  unfold ruleVectors vector
  dsimp only
  split_ifs <;> rfl

theorem queues_ruleVectors (h : HostDie) (cls rung : Nat) : (h.ruleVectors cls rung).hif.queues = h.hif.queues := by
  unfold ruleVectors vector
  dsimp only
  split_ifs <;> rfl

/-- An entry handed to the host with the vectors of its rung. -/
theorem handedOn_rest (h : HostDie) (e : Entry) (cls rung : Nat) :
    (h.ringEntry e).ruleVectors cls rung = { h with hif := ((h.ringEntry e).ruleVectors cls rung).hif } :=
  (ruleVectors_rest _ cls rung).trans
    (congrArg (fun g : HostDie => { g with hif := ((h.ringEntry e).ruleVectors cls rung).hif }) (ringEntry_rest h e))

theorem queues_handedOn (h : HostDie) (e : Entry) (cls rung : Nat) : ((h.ringEntry e).ruleVectors cls rung).hif.queues = h.hif.queues :=
  (queues_ruleVectors _ _ _).trans (queues_ringEntry _ _)

variable {h : HostDie} {e : Event} {row : SrcRow} {x : Source} {rung : Nat} {sev esc : Bool}

/-- The entry of an event as FCM judges it. -/
def judgedEntry (row : SrcRow) (e : Event) (rung : Nat) (sev esc : Bool) : Entry :=
  { ev := e, cls := row.cls, rung := rung, severe := sev, escalated := esc }

/-- Region H after it has judged its one event, before the reaction. -/
def judgedOne (h : HostDie) (row : SrcRow) (e : Event) (x : Source) (rung : Nat) (sev esc : Bool) : HostDie :=
  ({ h with fcm := { h.fcm with
      arisen := [], sources := h.fcm.sources.modifyNat e.src (fun _ => x), lastSrc := e.src, lastData := (judgedEntry row e rung sev esc).data
      lastRx := max 0 rung } }.ringEntry (judgedEntry row e rung sev esc)).ruleVectors row.cls rung

theorem judgeOne_alone (hrow : srcRow e.src = some row) (hev : h.fcm.evaluate true row h.htb e = (x, rung, sev, esc)) :
    judgeOne ({ h with fcm := { h.fcm with arisen := [], lastRx := 0 } }, []) e =
      (h.judgedOne row e x rung sev esc, [judgedEntry row e rung sev esc]) := by
  have hj := Collector.judge_row (c := { h.fcm with arisen := [], lastRx := 0 }) hrow hev
  unfold judgeOne
  dsimp only
  rw [hj]
  rfl

/-- What region H does once its events are judged: a reset, or the live operations and the ageing (R397, R401). -/
def reacted (a : HostDie × List Entry) : HostDie :=
  if a.2.any resets then a.1.regionReset 4 1
  else a.2.foldl (fun h e =>
    if e.rung = 2 then
      match target e.ev.src e.ev.code e.ev.value with
      | .region 0 b => h.startOp b
      | _ => h
    else h) { a.1 with fcm := a.1.fcm.age a.1.htb }

theorem judgeAll_one (harisen : h.fcm.arisen = [e]) (hrow : srcRow e.src = some row)
    (hev : h.fcm.evaluate true row h.htb e = (x, rung, sev, esc)) :
    h.judgeAll = reacted (h.judgedOne row e x rung sev esc, [judgedEntry row e rung sev esc]) := by
  rw [← judgeOne_alone hrow hev]
  unfold judgeAll
  rw [harisen]
  rfl

theorem judgeAll_none (harisen : h.fcm.arisen = []) : h.judgeAll = { h with fcm := h.fcm.age h.htb } := by
  unfold judgeAll
  rw [harisen]
  change ({ h with fcm := { h.fcm with arisen := [], lastRx := h.fcm.lastRx }.age h.htb } : HostDie) = _
  rw [← harisen]

theorem judgeAll_mild (harisen : h.fcm.arisen = [e]) (hrow : srcRow e.src = some row)
    (hev : h.fcm.evaluate true row h.htb e = (x, rung, sev, esc)) (hrung : rung < 2) (hsrc : e.src ≠ 9) :
    h.judgeAll = { h.judgedOne row e x rung sev esc with fcm := (h.judgedOne row e x rung sev esc).fcm.age (h.judgedOne row e x rung sev esc).htb } := by
  have hstay : resets (judgedEntry row e rung sev esc) = false := by
    have h3 : ¬ 3 ≤ rung := by omega
    have h2 : ¬ 2 ≤ rung := by omega
    simp [resets, judgedEntry, h3, h2, hsrc]
  rw [judgeAll_one harisen hrow hev, reacted, if_neg (by simp [hstay])]
  exact if_neg (Nat.ne_of_lt hrung)

theorem judgeAll_severe (harisen : h.fcm.arisen = [e]) (hrow : srcRow e.src = some row)
    (hev : h.fcm.evaluate true row h.htb e = (x, rung, sev, esc)) (hrung : 3 ≤ rung) :
    h.judgeAll = (h.judgedOne row e x rung sev esc).regionReset 4 1 := by
  rw [judgeAll_one harisen hrow hev, reacted, if_pos (by simp [resets, judgedEntry, hrung])]

/-- What the judging leaves of its source. -/
theorem src_judgedOne (hlt : e.src < 256) : (h.judgedOne row e x rung sev esc).fcm.src e.src = x := by
  rw [judgedOne, handedOn_rest]
  exact Tab.getD_modifyNat_self _ _ _ _ hlt

theorem fcm_judgedOne : (h.judgedOne row e x rung sev esc).fcm.arisen = [] ∧ (h.judgedOne row e x rung sev esc).fcm.lastSrc = e.src ∧
    (h.judgedOne row e x rung sev esc).fcm.lastRx = rung ∧ (h.judgedOne row e x rung sev esc).booted = h.booted := by
  rw [judgedOne, handedOn_rest]
  exact ⟨rfl, rfl, Nat.zero_max rung, rfl⟩

end HostDie

namespace FieldDie

/-- An entry on its way to the host touches what waits for the barrier alone, and no completion of it. -/
theorem queueEntry_rest (f : FieldDie) (e : Entry) : f.queueEntry e = { f with bar := (f.queueEntry e).bar } := by
  unfold queueEntry
  split
  · rfl
  · split <;> rfl

theorem completions_queueEntry (f : FieldDie) (e : Entry) : (f.queueEntry e).bar.completions = f.bar.completions := by
  unfold queueEntry
  split
  · rfl
  · split <;> rfl

theorem ruleVectors_rest (f : FieldDie) (cls rung : Nat) : f.ruleVectors cls rung = { f with bar := (f.ruleVectors cls rung).bar } := by
  unfold ruleVectors vector
  dsimp only
  split_ifs <;> rfl

theorem completions_ruleVectors (f : FieldDie) (cls rung : Nat) : (f.ruleVectors cls rung).bar.completions = f.bar.completions := by
  unfold ruleVectors vector
  dsimp only
  split_ifs <;> rfl

theorem handedOn_rest (f : FieldDie) (e : Entry) (cls rung : Nat) :
    (f.queueEntry e).ruleVectors cls rung = { f with bar := ((f.queueEntry e).ruleVectors cls rung).bar } :=
  (ruleVectors_rest _ cls rung).trans
    (congrArg (fun g : FieldDie => { g with bar := ((f.queueEntry e).ruleVectors cls rung).bar }) (queueEntry_rest f e))

end FieldDie

namespace Machine

section BySource

variable {cf : FCmd} {ch : HCmd} {c : FCmd} {r : Request} {s : State}

theorem bySource_host (h : srcHost r = true) : s.bySource cf ch r = s.host ch r := if_pos h

/-- Region H has a share only in a command that names all sources. -/
theorem bySource_field (h : srcHost r = false) (hall : r.u32 0 ≠ 0xFFFFFFFF) : s.bySource cf ch r = s.field cf r := by
  have hshare : (fun g : HostDie => g.allSources cf.code r) = fun g => (g, 0) := by
    funext g
    simp [HostDie.allSources, hall]
  rw [State.bySource, if_neg (by simp [h]), hshare]
  rfl

theorem bySource_all (hall : r.u32 0 = 0xFFFFFFFF) : s.bySource cf ch r = s.fieldShare cf (fun h => h.allSources cf.code r) r := by
  rw [State.bySource, if_neg (by simp [srcHost, hall])]

/-- A forwarded command of which region H does a share: each side's part of it. -/
theorem fieldShare_takes (g : HostDie → HostDie × Nat) (h : fieldTakes c r s) :
    (s.fieldShare c g r).chip.host = (g (s.chip.host.accept { r with opcode := c.code })).1.await { r with opcode := c.code }
        (g (s.chip.host.accept { r with opcode := c.code })).2 ∧
      (s.fieldShare c g r).chip.field = (s.field c r).chip.field := by
  obtain ⟨hat, hl, _, _, htoken, hrec, _, _⟩ := h
  have hat' : ({ r with opcode := c.code } : Request).atTick = false := hat
  simp only [State.field, State.fieldShare, hl, htoken, hrec, hat', not_true_eq_false, Bool.false_eq_true, if_false]
  exact ⟨rfl, rfl⟩

/-- The source that a command names and its checks let through. -/
theorem named_of_srcCheck {v : Variant} {all : Bool} {k : Nat} (h : srcCheck v all k = none) (hk : ¬ (all = true ∧ k = 0xFFFFFFFF)) :
    k < 256 ∧ (srcRow k).isSome = true := by
  rw [srcCheck, if_neg hk] at h
  split at h
  · cases h
  · split at h
    · assumption
    · cases h

/-- A source of the tables that is not of region H is judged by the field side. -/
theorem judges_field (h : srcHost r = false) (hk : r.u32 0 < 256) (hrow : (srcRow (r.u32 0)).isSome = true) :
    Collector.judges false (r.u32 0) = true := by
  obtain ⟨row, hrow⟩ := Option.isSome_iff_exists.mp hrow
  have hscope : (row.scope == Scope.h) = false := by simpa [srcHost, hrow, hk] using h
  simp [Collector.judges, hrow, hscope]

theorem lt_of_srcHost (h : srcHost r = true) : r.u32 0 < 256 := by
  simp only [srcHost, Bool.and_eq_true, decide_eq_true_eq] at h
  exact h.2

theorem row_of_srcHost (h : srcHost r = true) : (srcRow (r.u32 0)).isSome = true := by
  cases hrow : srcRow (r.u32 0) with
  | none => simp [srcHost, hrow] at h
  | some row => rfl

/-- The field side's choice of the one source that a command names. -/
theorem pick_one (hall : r.u32 0 ≠ 0xFFFFFFFF) (hj : Collector.judges false (r.u32 0) = true) :
    (fun i => (r.u32 0 == 0xFFFFFFFF || i == r.u32 0) && Collector.judges false i) = fun i => i == r.u32 0 := by
  funext i
  by_cases hi : i = r.u32 0
  · subst hi
    rw [hj, beq_self_eq_true, Bool.or_true, Bool.and_self]
  · rw [beq_false_of_ne hall, beq_false_of_ne hi, Bool.false_or, Bool.false_and]

end BySource

section Judging

variable {s : State}

theorem hostEventJudge_law (s : State) : ∃ t, exec .hostEventJudge s = .next t ∧ hostOnly s t ∧
    (s.chip.host.fcm.arisen = [] → t.chip.host = { s.chip.host with fcm := s.chip.host.fcm.age s.chip.host.htb }) ∧
    ∀ e row x rung sev esc, s.chip.host.fcm.arisen = [e] → srcRow e.src = some row →
      s.chip.host.fcm.evaluate true row s.chip.host.htb e = (x, rung, sev, esc) →
      (rung < 2 → e.src ≠ 9 → t.chip.host.fcm.arisen = [] ∧ t.chip.host.fcm.lastSrc = e.src ∧ t.chip.host.fcm.lastRx = rung ∧
        (t.chip.host.fcm.src e.src).pend = x.pend ∧ (t.chip.host.fcm.src e.src).severe = x.severe ∧ t.chip.host.booted = s.chip.host.booted) ∧
      (3 ≤ rung → t.chip.host.booted = false ∧ t.chip.host.mode.cause = 4 ∧ t.chip.host.mode.scope = 1) := by
  refine ⟨s.onHost HostDie.judgeAll, rfl, rfl, HostDie.judgeAll_none, fun e row x rung sev esc harisen hrow hev => ⟨fun hrung hsrc => ?_, fun hrung => ?_⟩⟩
  · have hlt := lt_of_srcRow hrow
    obtain ⟨hnil, hlast, hrx, hboot⟩ := HostDie.fcm_judgedOne (h := s.chip.host) (row := row) (e := e) (x := x) (rung := rung) (sev := sev) (esc := esc)
    have hflags := Collector.src_age_flags (c := (s.chip.host.judgedOne row e x rung sev esc).fcm) (s.chip.host.judgedOne row e x rung sev esc).htb hlt
    rw [HostDie.src_judgedOne hlt] at hflags
    rw [State.onHost_host, HostDie.judgeAll_mild harisen hrow hev hrung hsrc]
    exact ⟨hnil, hlast, hrx, hflags.1, hflags.2, hboot⟩
  · rw [State.onHost_host, HostDie.judgeAll_severe harisen hrow hev hrung]
    exact ⟨rfl, rfl, rfl⟩

end Judging

end Machine
end Sys2Proof

namespace Sys2Proof
namespace Machine

section FaultCommands

variable {r : Request} {s : State}

/-- The source that a command on the field side names, its checks passed. -/
theorem named_of_fieldTakes {c : FCmd} {all : Bool} (h : fieldTakes c r s)
    (hc : c.chk s.chip.variant s.chip.field (arriving c r s) = none → srcCheck s.chip.variant all (r.u32 0) = none)
    (hk : ¬ (all = true ∧ r.u32 0 = 0xFFFFFFFF)) : r.u32 0 < 256 ∧ (srcRow (r.u32 0)).isSome = true := by
  obtain ⟨_, _, _, _, _, _, hadm, _⟩ := h
  exact named_of_srcCheck (hc (chk_of_admitF hadm)) hk

/-- One source is no name for all. -/
theorem ne_all_of_lt {k : Nat} (h : k < 256) : k ≠ 0xFFFFFFFF := by omega

/-- What SET_SOURCE checks first (R408). -/
theorem srcCheck_of_setSourceCheck {v : Variant} (h : setSourceCheck v r = none) : srcCheck v false (r.u32 0) = none := by
  unfold setSourceCheck at h
  dsimp only at h
  split at h
  · cases h
  · assumption

theorem ackFaultH_law (hside : srcHost r = true) (h : hostTakes cmdAckFaultH r s) : ∃ t, exec (.ackFault r) s = .next t ∧ hostOnly s t ∧
    hostAnswers s t r .ok (bit (s.chip.host.fcm.src (r.u32 0)).pend) ∧ (t.chip.host.fcm.src (r.u32 0)).pend = false ∧
    ∀ j, j ≠ r.u32 0 → t.chip.host.fcm.src j = s.chip.host.fcm.src j := by
  have hk := lt_of_srcHost hside
  have hop : cmdAckFaultH.op s.chip.variant (s.chip.host.accept { r with opcode := cmdAckFaultH.code }) { r with opcode := cmdAckFaultH.code } =
      ({ s.chip.host.accept { r with opcode := cmdAckFaultH.code } with fcm := (s.chip.host.fcm.ack fun i => i == r.u32 0).1 },
        some (.ok, (s.chip.host.fcm.ack fun i => i == r.u32 0).2)) := rfl
  have ⟨honly, hans, hp⟩ := State.host_done h hop rfl rfl
  have hfcm := hp (·.fcm) fun _ _ => rfl
  rw [Collector.ack_count_one hk] at hans
  refine ⟨_, congrArg Host.Outcome.next (bySource_host hside), honly, hans, ?_, fun j hj => ?_⟩
  · rw [hfcm, Collector.src_ack hk, if_pos (beq_self_eq_true _)]
  · rw [hfcm, Collector.src_ack_ne hj]

theorem ackFault_law (hside : srcHost r = false) (hall : r.u32 0 ≠ 0xFFFFFFFF) (h : fieldTakes cmdAckFault r s) :
    ∃ t, exec (.ackFault r) s = .next t ∧ fieldAnswers s t r .ok (bit (s.chip.field.fcol.src (r.u32 0)).pend) ∧
      (t.chip.field.fcol.src (r.u32 0)).pend = false ∧ ∀ j, j ≠ r.u32 0 → t.chip.field.fcol.src j = s.chip.field.fcol.src j := by
  obtain ⟨hk, hrow⟩ := named_of_fieldTakes (all := true) h id fun hn => hall hn.2
  have hop : cmdAckFault.op s.chip.variant s.chip.field (arriving cmdAckFault r s) =
      ({ s.chip.field with fcol := (s.chip.field.fcol.ack fun i => i == r.u32 0).1 },
        some (.ok, (s.chip.field.fcol.ack fun i => i == r.u32 0).2)) := by
    rw [← pick_one hall (judges_field hside hk hrow)]
    rfl
  have ⟨hans, hp⟩ := State.field_done h hop rfl rfl
  have hfcol := hp (·.fcol) fun _ _ => rfl
  rw [Collector.ack_count_one hk] at hans
  refine ⟨_, congrArg Host.Outcome.next (bySource_field hside hall), hans, ?_, fun j hj => ?_⟩
  · rw [hfcol, Collector.src_ack hk, if_pos (beq_self_eq_true _)]
  · rw [hfcol, Collector.src_ack_ne hj]

theorem ackFault_all_law (hall : r.u32 0 = 0xFFFFFFFF) (h : fieldTakes cmdAckFault r s) : ∃ t, exec (.ackFault r) s = .next t ∧
    ∀ j, j < 256 → (Collector.judges true j = true → (t.chip.host.fcm.src j).pend = false) ∧
      (Collector.judges false j = true → (t.chip.field.fcol.src j).pend = false) := by
  have ⟨hhost, hfield⟩ := fieldShare_takes (fun g => g.allSources cmdAckFault.code r) h
  have hshare (g : HostDie) : g.allSources cmdAckFault.code r =
      ({ g with fcm := (g.fcm.ack (Collector.judges true)).1 }, (g.fcm.ack (Collector.judges true)).2) := if_pos ⟨rfl, hall⟩
  have ⟨_, hp⟩ := State.field_done h (g := { s.chip.field with
    fcol := (s.chip.field.fcol.ack fun i => (r.u32 0 == 0xFFFFFFFF || i == r.u32 0) && Collector.judges false i).1 }) rfl rfl rfl
  refine ⟨_, congrArg Host.Outcome.next (bySource_all hall), fun j hlt => ⟨fun hj => ?_, fun hj => ?_⟩⟩
  · rw [hhost, hshare]
    exact congrArg Source.pend ((Collector.src_ack hlt).trans (if_pos hj))
  · rw [hfield, hp (·.fcol) fun _ _ => rfl, Collector.src_ack hlt, if_pos (by rw [hall, hj]; rfl)]

theorem setSourceH_law (hside : srcHost r = true) (h : hostTakes cmdSetSourceH r s) : ∃ t, exec (.setSource r) s = .next t ∧ hostOnly s t ∧
    hostAnswers s t r .ok 0 ∧ t.chip.host.fcm.src (r.u32 0) = { s.chip.host.fcm.src (r.u32 0) with
      ev := r.u32 4, sv := r.u32 8, flt := r.u32 12 == 1, n := r.u32 16, w := r.u32 20, q := r.u32 24 } := by
  have ⟨honly, hans, hp⟩ := State.host_done h
    (g := { s.chip.host.accept { r with opcode := cmdSetSourceH.code } with fcm := s.chip.host.fcm.setSource r }) rfl rfl rfl
  refine ⟨_, congrArg Host.Outcome.next (bySource_host hside), honly, hans, ?_⟩
  rw [hp (·.fcm) fun _ _ => rfl, Collector.src_setSource_self (lt_of_srcHost hside)]

theorem setSource_law (hside : srcHost r = false) (h : fieldTakes cmdSetSource r s) : ∃ t, exec (.setSource r) s = .next t ∧
    fieldAnswers s t r .ok 0 ∧ t.chip.field.fcol.src (r.u32 0) = { s.chip.field.fcol.src (r.u32 0) with
      ev := r.u32 4, sv := r.u32 8, flt := r.u32 12 == 1, n := r.u32 16, w := r.u32 20, q := r.u32 24 } ∧
    ∀ j, j ≠ r.u32 0 → t.chip.field.fcol.src j = s.chip.field.fcol.src j := by
  obtain ⟨hk, _⟩ := named_of_fieldTakes (all := false) h srcCheck_of_setSourceCheck nofun
  have ⟨hans, hp⟩ := State.field_done h (g := { s.chip.field with fcol := s.chip.field.fcol.setSource r }) rfl rfl rfl
  have hfcol := hp (·.fcol) fun _ _ => rfl
  refine ⟨_, congrArg Host.Outcome.next (bySource_field hside (ne_all_of_lt hk)), hans, ?_, fun j hj => ?_⟩
  · rw [hfcol, Collector.src_setSource_self hk]
  · rw [hfcol, Collector.src_setSource_ne hj]

theorem getSourceH_law (hside : srcHost r = true) (h : hostTakes cmdGetSourceH r s) : ∃ t, exec (.getSource r) s = .next t ∧ hostOnly s t ∧
    t.chip.host.fcm = s.chip.host.fcm ∧ hostAnswers s t r .ok (s.chip.host.fcm.getSource (r.u32 0)) := by
  have ⟨honly, hans, hp⟩ := State.host_done h rfl rfl rfl
  exact ⟨_, congrArg Host.Outcome.next (bySource_host hside), honly, hp (·.fcm) fun _ _ => rfl, hans⟩

theorem getSource_law (hside : srcHost r = false) (h : fieldTakes cmdGetSource r s) : ∃ t, exec (.getSource r) s = .next t ∧
    { t.chip.field with bar := s.chip.field.bar } = s.chip.field ∧ fieldAnswers s t r .ok (s.chip.field.fcol.getSource (r.u32 0)) := by
  obtain ⟨hk, _⟩ := named_of_fieldTakes (all := false) h id nofun
  have ⟨hrest, hans⟩ := State.field_reads h rfl
  exact ⟨_, congrArg Host.Outcome.next (bySource_field hside (ne_all_of_lt hk)), hrest, hans⟩

theorem getFault_law (h : fieldTakes cmdGetFault r s) : ∃ t, exec (.getFault r) s = .next t ∧
    { t.chip.field with bar := s.chip.field.bar } = s.chip.field ∧ fieldAnswers s t r .ok
      ((s.chip.field.fcol.status s.chip.field.power.winter s.chip.field.faultSeen).toNat + 2 ^ 32 * s.chip.field.fcol.lastData) := by
  have ⟨hrest, hans⟩ := State.field_reads h rfl
  exact ⟨_, rfl, hrest, hans⟩

theorem injectEvent_law (hside : srcHost r = false) (h : fieldTakes cmdInjectEvent r s) : ∃ t en, exec (.injectEvent r) s = .next t ∧
    s.chip.field.fcol.inject false s.chip.field.tick.tb (fieldEvent s (r.u32 0) (r.u32 4 / 2 ^ 24) (r.u32 4 % 2 ^ 24)) = some en ∧
    t.chip.field.fcol = s.chip.field.fcol.lastEntry en ∧ t.chip.field.power = s.chip.field.power ∧ fieldAnswers s t r .ok (injectResult en) := by
  obtain ⟨hk, hrow⟩ := named_of_fieldTakes (all := false) h id nofun
  obtain ⟨en, hen⟩ := Collector.inject_row (c := s.chip.field.fcol) (host := false) (t := s.chip.field.tick.tb)
    (e := fieldEvent s (r.u32 0) (r.u32 4 / 2 ^ 24) (r.u32 4 % 2 ^ 24)) hrow
  have hop : cmdInjectEvent.op s.chip.variant s.chip.field (arriving cmdInjectEvent r s) =
      (({ s.chip.field with fcol := s.chip.field.fcol.lastEntry en }.queueEntry en).ruleVectors en.cls 0, some (.ok, injectResult en)) := by
    change (match s.chip.field.fcol.inject false s.chip.field.tick.tb (fieldEvent s (r.u32 0) (r.u32 4 / 2 ^ 24) (r.u32 4 % 2 ^ 24)) with
      | some en => _ | none => _) = _
    rw [hen]
  have hrest := FieldDie.handedOn_rest { s.chip.field with fcol := s.chip.field.fcol.lastEntry en } en en.cls 0
  have ⟨hans, hp⟩ := State.field_done h hop ((FieldDie.completions_ruleVectors _ _ _).trans (FieldDie.completions_queueEntry _ _))
    ((congrArg FieldDie.twin hrest).trans rfl)
  exact ⟨_, en, congrArg Host.Outcome.next (bySource_field hside (ne_all_of_lt hk)), hen,
    (hp (·.fcol) fun _ _ => rfl).trans ((congrArg FieldDie.fcol hrest).trans rfl), (hp (·.power) fun _ _ => rfl).trans ((congrArg FieldDie.power hrest).trans rfl), hans⟩

theorem injectEventH_law (hside : srcHost r = true) (h : hostTakes cmdInjectEventH r s) : ∃ t en, exec (.injectEvent r) s = .next t ∧ hostOnly s t ∧
    s.chip.host.fcm.inject true s.chip.host.htb (hostEvent s (r.u32 0) (r.u32 4 / 2 ^ 24) (r.u32 4 % 2 ^ 24)) = some en ∧
    t.chip.host.fcm = s.chip.host.fcm.lastEntry en ∧ t.chip.host.blk = s.chip.host.blk ∧ t.chip.host.booted = s.chip.host.booted ∧
    hostAnswers s t r .ok (injectResult en) := by
  obtain ⟨en, hen⟩ := Collector.inject_row (c := s.chip.host.fcm) (host := true) (t := s.chip.host.htb)
    (e := hostEvent s (r.u32 0) (r.u32 4 / 2 ^ 24) (r.u32 4 % 2 ^ 24)) (row_of_srcHost hside)
  have hop : cmdInjectEventH.op s.chip.variant (s.chip.host.accept { r with opcode := cmdInjectEventH.code })
        { r with opcode := cmdInjectEventH.code } =
      (({ s.chip.host.accept { r with opcode := cmdInjectEventH.code } with fcm := s.chip.host.fcm.lastEntry en }.ringEntry en).ruleVectors
        en.cls 0, some (.ok, injectResult en)) := by
    change (match s.chip.host.fcm.inject true s.chip.host.htb (hostEvent s (r.u32 0) (r.u32 4 / 2 ^ 24) (r.u32 4 % 2 ^ 24)) with
      | some en => _ | none => _) = _
    rw [hen]
    rfl
  have hrest := HostDie.handedOn_rest
    { s.chip.host.accept { r with opcode := cmdInjectEventH.code } with fcm := s.chip.host.fcm.lastEntry en } en en.cls 0
  have ⟨honly, hans, hp⟩ := State.host_done h hop (HostDie.queues_handedOn _ _ _ _) ((congrArg (fun g : HostDie => g.mode.epoch) hrest).trans rfl)
  exact ⟨_, en, congrArg Host.Outcome.next (bySource_host hside), honly, hen, (hp (·.fcm) fun _ _ => rfl).trans ((congrArg HostDie.fcm hrest).trans rfl),
    (hp (·.blk) fun _ _ => rfl).trans ((congrArg HostDie.blk hrest).trans rfl), (hp (·.booted) fun _ _ => rfl).trans ((congrArg HostDie.booted hrest).trans rfl), hans⟩

theorem clearRecoveryH_law (hside : srcHost r = true) (h : hostTakes cmdClearRecoveryH r s) : ∃ t, exec (.clearRecovery r) s = .next t ∧
    hostOnly s t ∧ hostAnswers s t r .ok 0 ∧ t.chip.host.fcm.src (r.u32 0) = { s.chip.host.fcm.src (r.u32 0) with recov := 0 } := by
  have ⟨honly, hans, hp⟩ := State.host_done h (g := { s.chip.host.accept { r with opcode := cmdClearRecoveryH.code } with
    fcm := s.chip.host.fcm.clearRecov (fun i => i == r.u32 0) }) rfl rfl rfl
  refine ⟨_, congrArg Host.Outcome.next (bySource_host hside), honly, hans, ?_⟩
  rw [hp (·.fcm) fun _ _ => rfl, Collector.src_clearRecov (lt_of_srcHost hside), if_pos (beq_self_eq_true _)]

theorem clearRecovery_law (hside : srcHost r = false) (hall : r.u32 0 ≠ 0xFFFFFFFF) (h : fieldTakes cmdClearRecovery r s) :
    ∃ t, exec (.clearRecovery r) s = .next t ∧ fieldAnswers s t r .ok 0 ∧
      t.chip.field.fcol.src (r.u32 0) = { s.chip.field.fcol.src (r.u32 0) with recov := 0 } ∧
      ∀ j, j ≠ r.u32 0 → t.chip.field.fcol.src j = s.chip.field.fcol.src j := by
  obtain ⟨hk, hrow⟩ := named_of_fieldTakes (all := true) h id fun hn => hall hn.2
  have hop : cmdClearRecovery.op s.chip.variant s.chip.field (arriving cmdClearRecovery r s) =
      ({ s.chip.field with fcol := s.chip.field.fcol.clearRecov (fun i => i == r.u32 0) }, some (.ok, 0)) := by
    rw [← pick_one hall (judges_field hside hk hrow)]
    rfl
  have ⟨hans, hp⟩ := State.field_done h hop rfl rfl
  have hfcol := hp (·.fcol) fun _ _ => rfl
  refine ⟨_, congrArg Host.Outcome.next (bySource_field hside hall), hans, ?_, fun j hj => ?_⟩
  · rw [hfcol, Collector.src_clearRecov hk, if_pos (beq_self_eq_true _)]
  · rw [hfcol, Collector.src_clearRecov_ne hj]

theorem clearRecovery_all_law (hall : r.u32 0 = 0xFFFFFFFF) (h : fieldTakes cmdClearRecovery r s) : ∃ t, exec (.clearRecovery r) s = .next t ∧
    ∀ j, j < 256 → (Collector.judges true j = true → (t.chip.host.fcm.src j).recov = 0) ∧
      (Collector.judges false j = true → (t.chip.field.fcol.src j).recov = 0) := by
  have ⟨hhost, hfield⟩ := fieldShare_takes (fun g => g.allSources cmdClearRecovery.code r) h
  have hshare (g : HostDie) : g.allSources cmdClearRecovery.code r = ({ g with fcm := g.fcm.clearRecov (Collector.judges true) }, 0) :=
    (if_neg fun hn => absurd hn.1 (by decide)).trans (if_pos ⟨rfl, hall⟩)
  have ⟨_, hp⟩ := State.field_done h (g := { s.chip.field with
    fcol := s.chip.field.fcol.clearRecov (fun i => (r.u32 0 == 0xFFFFFFFF || i == r.u32 0) && Collector.judges false i) }) rfl rfl rfl
  refine ⟨_, congrArg Host.Outcome.next (bySource_all hall), fun j hlt => ⟨fun hj => ?_, fun hj => ?_⟩⟩
  · rw [hhost, hshare]
    exact congrArg Source.recov ((Collector.src_clearRecov hlt).trans (if_pos hj))
  · rw [hfield, hp (·.fcol) fun _ _ => rfl, Collector.src_clearRecov hlt, if_pos (by rw [hall, hj]; rfl)]

end FaultCommands

/-- Settles O42: region H's judging, and the commands of group 0x80 on the collector of their source's side. -/
theorem faultSourcesAreJudgedAndSet : Obligations.FaultSourcesAreJudgedAndSet :=
  ⟨hostEventJudge_law,
    fun _ _ => ⟨ackFaultH_law, ackFault_law, ackFault_all_law⟩,
    fun _ _ => ⟨setSourceH_law, setSource_law⟩,
    fun _ _ => ⟨getSourceH_law, getSource_law⟩,
    fun _ _ => getFault_law,
    fun _ _ => ⟨injectEvent_law, injectEventH_law⟩,
    fun _ _ => ⟨clearRecoveryH_law, clearRecovery_law, clearRecovery_all_law⟩⟩

end Machine
end Sys2Proof

/-! Impedance probes (13 R331, R344): a probe that ends without its voltages in a learning cycle gives way to GAP, but the cycle's own request
stays. -/

namespace Sys2Proof
namespace Machine

/-- A field in MINUS of a probe that has no voltage, in the CHARGE step of a learning cycle of slot 0. -/
def probeOfLearner : State := State.reset.onField fun f => f.modCoord fun c => { c with
  phase := 2, unit := 0, start := some 0, half := 0, vp := none, learnUnit := 0, learnStep := 1 }

/-- The request of the learning unit stands after the evaluation (R344). -/
theorem req_probeOfLearner : ((probeOfLearner.onField FieldDie.probeEvaluate).chip.field.bat.coord.req).isSome = true := by decide +kernel

theorem exec_probeEvaluate_probeOfLearner : exec .probeEvaluate probeOfLearner = .next (probeOfLearner.onField FieldDie.probeEvaluate) := rfl

/-- Refutes O36: a probe of a learning unit that ends void leaves the cycle's continuous request at s_L, where the statement, which admits every
learning step, has no request left. -/
theorem not_probesAndLearningRun : ¬ Obligations.ProbesAndLearningRun := by
  rintro ⟨_, _, _, hevaluate, _⟩
  obtain ⟨t, hexec, _, _, hends⟩ := hevaluate probeOfLearner
  have ht : t = probeOfLearner.onField FieldDie.probeEvaluate := Host.Outcome.next.inj (hexec.symm.trans exec_probeEvaluate_probeOfLearner)
  obtain ⟨hvoid, _⟩ := hends 0 rfl rfl (Nat.zero_le _)
  obtain ⟨_, hreq, _⟩ := hvoid rfl
  have hsome := req_probeOfLearner
  rw [← ht, hreq] at hsome
  exact absurd hsome (by decide)

end Machine
end Sys2Proof

/-! The commands of the battery group (13 R326, R330, R342 to R348, R352). -/

namespace Sys2Proof

namespace FieldDie

variable (f : FieldDie) (k : Nat)

/-! A probe that ends void touches the coordinator and the quadrants' counts alone. -/

@[simp] theorem voidProbe_slot : f.voidProbe.slot = f.slot := by unfold voidProbe; split <;> rfl
@[simp] theorem voidProbe_bar : f.voidProbe.bar = f.bar := by unfold voidProbe; split <;> rfl
@[simp] theorem voidProbe_twin : f.voidProbe.twin = f.twin := by unfold voidProbe; split <;> rfl
@[simp] theorem voidProbe_tick : f.voidProbe.tick = f.tick := by unfold voidProbe; split <;> rfl

@[simp] theorem modCoord_slot (g : Coord → Coord) : (f.modCoord g).slot = f.slot := rfl
@[simp] theorem modCoord_bar (g : Coord → Coord) : (f.modCoord g).bar = f.bar := rfl
@[simp] theorem modCoord_twin (g : Coord → Coord) : (f.modCoord g).twin = f.twin := rfl
@[simp] theorem coord_modCoord (g : Coord → Coord) : (f.modCoord g).bat.coord = g f.bat.coord := rfl

variable (src code vec reason : Nat)

@[simp] theorem batEvent_slot : (f.batEvent src code k vec reason).slot = f.slot := by simp [batEvent]
@[simp] theorem batEvent_bat : (f.batEvent src code k vec reason).bat = f.bat := by simp [batEvent]
@[simp] theorem batEvent_twin : (f.batEvent src code k vec reason).twin = f.twin := by simp [batEvent]
@[simp] theorem completions_batEvent : (f.batEvent src code k vec reason).bar.completions = f.bar.completions := by
  unfold batEvent vector
  split <;> rfl

@[simp] theorem writeBattery_slot : (f.writeBattery k).slot = f.slot := by
  unfold writeBattery
  dsimp only
  split
  · split <;> rfl
  · rfl

@[simp] theorem writeBattery_bar : (f.writeBattery k).bar = f.bar := by
  unfold writeBattery
  dsimp only
  split
  · split <;> rfl
  · rfl

@[simp] theorem writeBattery_twin : (f.writeBattery k).twin = f.twin := by
  unfold writeBattery
  dsimp only
  split
  · split <;> rfl
  · rfl

variable {f k}

theorem sl_modBat_self (g : Bat → Bat) (hk : k < 96) : (f.modBat k g).sl k = { f.sl k with bat := g (f.sl k).bat } := sl_modSl_self _ _ _ hk

theorem coord_learnStart : (f.learnStart k).bat.coord.learnUnit = k ∧ (f.learnStart k).bat.coord.learnStep = 1 := by
  simp [learnStart]

theorem coord_abortLearn : (f.abortLearn reason).bat.coord.learnStep = 0 := by
  simp [abortLearn, modBat]

theorem bat_abortLearn (hk : f.bat.coord.learnUnit = k) (hlt : k < 96) :
    ((f.abortLearn reason).sl k).bat.outcome = 3 ∧ ((f.abortLearn reason).sl k).bat.reason = reason := by
  subst hk
  unfold abortLearn
  dsimp only
  rw [sl_of_slot (batEvent_slot _ _ _ _ _ _), sl_modBat_self _ hlt]
  exact ⟨rfl, rfl⟩

end FieldDie

/-- A command on a slot with a STORE contract, and on one without (R352). -/
theorem onStore_storage {f : FieldDie} {r : Request} {res : FieldDie × Option (Status × Nat)} (h : (f.sl r.unit).ctx.role = .storage) :
    onStore f r res = res := if_pos (beq_iff_eq.mpr h)

theorem onStore_other {f : FieldDie} {r : Request} {res : FieldDie × Option (Status × Nat)} (h : (f.sl r.unit).ctx.role ≠ .storage) :
    onStore f r res = (f, some (.wrongMode, 0)) := if_neg (by simpa [Slot.stores] using h)

namespace Machine

section BatteryCommands

variable {r : Request} {s : State}

theorem setProbe_law (r : Request) (s : State) (h : fieldTakes setProbeC r s) : ∃ t, exec (.setProbe r) s = .next t ∧ fieldAnswers s t r .ok 0 ∧
    t.chip.field.bat = { s.chip.field.bat with cfg := { s.chip.field.bat.cfg with
      probeEn := r.u32 0 == 1, amp := r.u32 4, half := r.u32 8, gap := r.u32 12, stale := r.u32 16 } } := by
  have ⟨hans, hp⟩ := State.field_done h rfl rfl rfl
  exact ⟨_, rfl, hans, hp (·.bat) fun _ _ => rfl⟩

theorem setCounting_law (r : Request) (s : State) (h : fieldTakes setCountingC r s) : ∃ t, exec (.setCounting r) s = .next t ∧
    fieldAnswers s t r .ok 0 ∧ t.chip.field.bat = { s.chip.field.bat with cfg := { s.chip.field.bat.cfg with
      gainErr := r.u32 0, offErr := r.u32 4, uOcv := r.u32 8, bmsUnc := r.u32 12, eodPoll := r.u32 16, slopeMin := r.u32 20 } } := by
  have ⟨hans, hp⟩ := State.field_done h rfl rfl rfl
  exact ⟨_, rfl, hans, hp (·.bat) fun _ _ => rfl⟩

theorem setBatWarn_law (r : Request) (s : State) (h : fieldTakes setBatWarnC r s) : ∃ t, exec (.setBatWarn r) s = .next t ∧
    fieldAnswers s t r .ok 0 ∧ t.chip.field.bat = { s.chip.field.bat with cfg := { s.chip.field.bat.cfg with
      warnLow := r.u32 0, warnCrit := r.u32 4, uncWarn := r.u32 8, rWarn := r.u32 12 } } := by
  have ⟨hans, hp⟩ := State.field_done h rfl rfl rfl
  exact ⟨_, rfl, hans, hp (·.bat) fun _ _ => rfl⟩

theorem setLearning_law (r : Request) (s : State) (h : fieldTakes setLearningC r s) : ∃ t, exec (.setLearning r) s = .next t ∧
    fieldAnswers s t r .ok 0 ∧ t.chip.field.bat = { s.chip.field.bat with cfg := { s.chip.field.bat.cfg with
      learnEn := r.u32 0 == 1, learnPeriod := r.u32 4, learnI := r.u32 8, lchg := r.u32 12, learnRamp := r.u32 16, learnMax := r.u32 20 } } := by
  have ⟨hans, hp⟩ := State.field_done h rfl rfl rfl
  exact ⟨_, rfl, hans, hp (·.bat) fun _ _ => rfl⟩

/-- A battery command that changes nothing leaves the estimators and the slots. -/
theorem battery_stands {c : FCmd} {st : Status} {x : Nat} (h : fieldTakes c r s)
    (hop : c.op s.chip.variant s.chip.field (arriving c r s) = (s.chip.field, some (st, x))) :
    fieldAnswers s (s.field c r) r st x ∧ (s.field c r).chip.field.bat = s.chip.field.bat ∧
      (s.field c r).chip.field.slot = s.chip.field.slot := by
  have ⟨hans, hp⟩ := State.field_done h hop rfl rfl
  exact ⟨hans, hp (·.bat) fun _ _ => rfl, hp (·.slot) fun _ _ => rfl⟩

theorem startLearn_law (r : Request) (s : State) (h : fieldTakes startLearnC r s) : ∃ t, exec (.startLearn r) s = .next t ∧
    ((s.chip.field.sl r.unit).ctx.role ≠ .storage → fieldAnswers s t r .wrongMode 0 ∧ t.chip.field.bat = s.chip.field.bat) ∧
    ((s.chip.field.sl r.unit).ctx.role = .storage → s.chip.field.learnAllowed s.chip.variant = true → s.chip.field.learnQualifies r.unit = true →
      fieldAnswers s t r .ok 0 ∧ t.chip.field.bat.coord.learnUnit = r.unit ∧ t.chip.field.bat.coord.learnStep = 1) ∧
    ((s.chip.field.sl r.unit).ctx.role = .storage → s.chip.field.learnAllowed s.chip.variant = false ∨ s.chip.field.learnQualifies r.unit = false →
      fieldAnswers s t r .busy 0 ∧ t.chip.field.bat = s.chip.field.bat) := by
  refine ⟨_, rfl, fun hrole => ?_, fun hrole hallowed hqual => ?_, fun hrole hno => ?_⟩
  · have ⟨hans, hbat, _⟩ := battery_stands h (onStore_other hrole)
    exact ⟨hans, hbat⟩
  · have hop : startLearnC.op s.chip.variant s.chip.field (arriving startLearnC r s) = (s.chip.field.learnStart r.unit, some (.ok, 0)) :=
      (onStore_storage hrole).trans (if_pos ⟨hallowed, hqual⟩)
    have ⟨hans, hp⟩ := State.field_done h hop (by simp [FieldDie.learnStart]) (by simp [FieldDie.learnStart])
    have hcoord := hp (·.bat.coord) fun _ _ => rfl
    rw [hcoord]
    exact ⟨hans, FieldDie.coord_learnStart⟩
  · have hbusy : ¬ (s.chip.field.learnAllowed s.chip.variant = true ∧ s.chip.field.learnQualifies r.unit = true) := by
      rintro ⟨hallowed, hqual⟩
      simp [hallowed, hqual] at hno
    have ⟨hans, hbat, _⟩ := battery_stands h ((onStore_storage hrole).trans (if_neg hbusy))
    exact ⟨hans, hbat⟩

/-- ABORT_LEARN on a slot with a STORE contract, by the learning cycle (R345). -/
theorem abortLearnC_other (hrole : (s.chip.field.sl r.unit).ctx.role = .storage)
    (hno : s.chip.field.bat.coord.learnUnit ≠ r.unit ∨ s.chip.field.bat.coord.learnStep = 0) :
    abortLearnC.op s.chip.variant s.chip.field (arriving abortLearnC r s) = (s.chip.field, some (.badParam, 0)) :=
  (onStore_storage hrole).trans (if_pos hno)

theorem abortLearnC_recovers (hrole : (s.chip.field.sl r.unit).ctx.role = .storage) (hunit : s.chip.field.bat.coord.learnUnit = r.unit)
    (h3 : s.chip.field.bat.coord.learnStep = 3) :
    abortLearnC.op s.chip.variant s.chip.field (arriving abortLearnC r s) = (s.chip.field, some (.ok, 0)) :=
  (onStore_storage hrole).trans ((if_neg (by rw [h3]; exact not_or_intro (not_not_intro hunit) (by decide))).trans (if_pos h3))

theorem abortLearnC_aborts (hrole : (s.chip.field.sl r.unit).ctx.role = .storage) (hunit : s.chip.field.bat.coord.learnUnit = r.unit)
    (hstep : s.chip.field.bat.coord.learnStep = 1 ∨ s.chip.field.bat.coord.learnStep = 2) :
    abortLearnC.op s.chip.variant s.chip.field (arriving abortLearnC r s) = (s.chip.field.abortLearn 2, some (.ok, 0)) :=
  (onStore_storage hrole).trans ((if_neg (not_or_intro (not_not_intro hunit) (by omega))).trans (if_neg (by omega)))

theorem abortLearn_law (r : Request) (s : State) (h : fieldTakes abortLearnC r s) : ∃ t, exec (.abortLearn r) s = .next t ∧
    ((s.chip.field.sl r.unit).ctx.role ≠ .storage → fieldAnswers s t r .wrongMode 0 ∧ t.chip.field.bat = s.chip.field.bat) ∧
    ((s.chip.field.sl r.unit).ctx.role = .storage → s.chip.field.bat.coord.learnUnit = r.unit →
      s.chip.field.bat.coord.learnStep = 3 → fieldAnswers s t r .ok 0 ∧ t.chip.field.bat = s.chip.field.bat) ∧
    ((s.chip.field.sl r.unit).ctx.role = .storage → s.chip.field.bat.coord.learnUnit = r.unit →
      s.chip.field.bat.coord.learnStep = 1 ∨ s.chip.field.bat.coord.learnStep = 2 →
      fieldAnswers s t r .ok 0 ∧ t.chip.field.bat.coord.learnStep = 0 ∧ (t.chip.field.sl r.unit).bat.outcome = 3 ∧
      (t.chip.field.sl r.unit).bat.reason = 2) ∧
    ((s.chip.field.sl r.unit).ctx.role = .storage → s.chip.field.bat.coord.learnUnit ≠ r.unit ∨ s.chip.field.bat.coord.learnStep = 0 →
      fieldAnswers s t r .badParam 0 ∧ t.chip.field.bat = s.chip.field.bat) := by
  refine ⟨_, rfl, fun hrole => ?_, fun hrole hunit h3 => ?_, fun hrole hunit hstep => ?_, fun hrole hno => ?_⟩
  · have ⟨hans, hbat, _⟩ := battery_stands h (onStore_other hrole)
    exact ⟨hans, hbat⟩
  · have ⟨hans, hbat, _⟩ := battery_stands h (abortLearnC_recovers hrole hunit h3)
    exact ⟨hans, hbat⟩
  · have ⟨hans, hp⟩ := State.field_done h (abortLearnC_aborts hrole hunit hstep) (by simp [FieldDie.abortLearn, FieldDie.modBat])
      (by simp [FieldDie.abortLearn, FieldDie.modBat])
    have hcoord := hp (·.bat.coord.learnStep) fun _ _ => rfl
    have hslot := hp (·.sl r.unit) fun _ _ => rfl
    rw [hcoord, hslot]
    exact ⟨hans, FieldDie.coord_abortLearn 2, FieldDie.bat_abortLearn 2 hunit (unit_lt_of_fieldTakes rfl h)⟩
  · have ⟨hans, hbat, _⟩ := battery_stands h (abortLearnC_other hrole hno)
    exact ⟨hans, hbat⟩

/-- A battery as SET_SOC leaves it (R342, R352). -/
def socSet (r : Request) (b : Bat) : Bat :=
  { b.atSoc (r.u32 0) (r.u32 4) with empty := false, full := false, disagree := false, disTold := false, cycleOpen := false }

theorem setSoc_law (r : Request) (s : State) (h : fieldTakes setSocC r s) : ∃ t, exec (.setSoc r) s = .next t ∧
    ((s.chip.field.sl r.unit).ctx.role ≠ .storage → fieldAnswers s t r .wrongMode 0 ∧ t.chip.field.slot = s.chip.field.slot) ∧
    ((s.chip.field.sl r.unit).ctx.role = .storage → fieldAnswers s t r .ok 0 ∧ (t.chip.field.sl r.unit).bat.empty = false ∧
      (t.chip.field.sl r.unit).bat.full = false ∧ (t.chip.field.sl r.unit).bat.cycleOpen = false ∧
      (t.chip.field.sl r.unit).bat.qCap = (s.chip.field.sl r.unit).bat.qCap ∧ ∀ j, j ≠ r.unit → t.chip.field.sl j = s.chip.field.sl j) := by
  refine ⟨_, rfl, fun hrole => ?_, fun hrole => ?_⟩
  · have ⟨hans, _, hslot⟩ := battery_stands h (onStore_other hrole)
    exact ⟨hans, hslot⟩
  · have hop : setSocC.op s.chip.variant s.chip.field (arriving setSocC r s) = (s.chip.field.modBat r.unit (socSet r), some (.ok, 0)) :=
      onStore_storage hrole
    have ⟨hans, hp⟩ := State.field_done h hop rfl rfl
    have hslot (j : Nat) := hp (·.sl j) fun _ _ => rfl
    have hself := (hslot r.unit).trans (FieldDie.sl_modBat_self _ (unit_lt_of_fieldTakes rfl h))
    refine ⟨hans, ?_, ?_, ?_, ?_, fun j hj => (hslot j).trans (FieldDie.sl_modSl_ne _ _ _ _ hj)⟩
    all_goals rw [hself]; rfl

/-- A battery as SET_CAPACITY leaves it (R348, R352). -/
def capacitySet (r : Request) (b : Bat) : Bat := { b.rescale (r.par 0 8) (r.par 8 8) with cycleOpen := false }

theorem setCapacity_law (r : Request) (s : State) (h : fieldTakes setCapacityC r s) : ∃ t, exec (.setCapacity r) s = .next t ∧
    ((s.chip.field.sl r.unit).ctx.role ≠ .storage → fieldAnswers s t r .wrongMode 0 ∧ t.chip.field.slot = s.chip.field.slot) ∧
    ((s.chip.field.sl r.unit).ctx.role = .storage → 10 * r.par 0 8 < (s.chip.field.profile r.unit).qRated ∨
        2 * (s.chip.field.profile r.unit).qRated < r.par 0 8 → fieldAnswers s t r .badParam 0 ∧ t.chip.field.slot = s.chip.field.slot) ∧
    ((s.chip.field.sl r.unit).ctx.role = .storage → (s.chip.field.profile r.unit).qRated ≤ 10 * r.par 0 8 →
      r.par 0 8 ≤ 2 * (s.chip.field.profile r.unit).qRated → fieldAnswers s t r .ok 0 ∧ (t.chip.field.sl r.unit).bat.qCap = r.par 0 8 ∧
      (t.chip.field.sl r.unit).bat.eCap = r.par 8 8 ∧ (t.chip.field.sl r.unit).bat.cycleOpen = false) := by
  refine ⟨_, rfl, fun hrole => ?_, fun hrole hout => ?_, fun hrole hlow hhigh => ?_⟩
  · have ⟨hans, _, hslot⟩ := battery_stands h (onStore_other hrole)
    exact ⟨hans, hslot⟩
  · have hno : ¬ ((s.chip.field.profile r.unit).qRated ≤ 10 * r.par 0 8 ∧ r.par 0 8 ≤ 2 * (s.chip.field.profile r.unit).qRated) := by omega
    have ⟨hans, _, hslot⟩ := battery_stands h ((onStore_storage hrole).trans (if_neg hno))
    exact ⟨hans, hslot⟩
  · have hop : setCapacityC.op s.chip.variant s.chip.field (arriving setCapacityC r s) =
        ((s.chip.field.modBat r.unit (capacitySet r)).writeBattery r.unit, some (.ok, 0)) :=
      (onStore_storage hrole).trans (if_pos ⟨hlow, hhigh⟩)
    have ⟨hans, hp⟩ := State.field_done h hop (by simp [FieldDie.modBat]) (by simp [FieldDie.modBat])
    have hself := ((hp (·.sl r.unit) fun _ _ => rfl).trans (FieldDie.sl_of_slot (FieldDie.writeBattery_slot _ _) _)).trans
      (FieldDie.sl_modBat_self _ (unit_lt_of_fieldTakes rfl h))
    refine ⟨hans, ?_, ?_, ?_⟩
    all_goals rw [hself]; rfl

/-- What a read of a battery answers: 0 without a STORE contract. -/
theorem reads_stores {x y : Nat} (hrole : (s.chip.field.sl r.unit).ctx.role = .storage) :
    (if (s.chip.field.sl r.unit).stores then x else y) = x := if_pos (beq_iff_eq.mpr hrole)

theorem reads_other {x y : Nat} (hrole : (s.chip.field.sl r.unit).ctx.role ≠ .storage) :
    (if (s.chip.field.sl r.unit).stores then x else y) = y := if_neg (by simpa [Slot.stores] using hrole)

theorem getBat_law (r : Request) (s : State) (h : fieldTakes getBatC r s) : ∃ t, exec (.getBat r) s = .next t ∧
    { t.chip.field with bar := s.chip.field.bar } = s.chip.field ∧
    ((s.chip.field.sl r.unit).ctx.role ≠ .storage → fieldAnswers s t r .ok 0) ∧
    ((s.chip.field.sl r.unit).ctx.role = .storage → fieldAnswers s t r .ok ((FieldDie.batSocWord (s.chip.field.sl r.unit)).toNat +
      2 ^ 32 * (s.chip.field.batStatWord r.unit).toNat)) := by
  have ⟨hrest, hans⟩ := State.field_reads h (show getBatC.op s.chip.variant s.chip.field (arriving getBatC r s) =
    (s.chip.field, some (.ok, if (s.chip.field.sl r.unit).stores then
      result2 (FieldDie.batSocWord (s.chip.field.sl r.unit)) (s.chip.field.batStatWord r.unit) else 0)) from rfl)
  refine ⟨_, rfl, hrest, fun hrole => ?_, fun hrole => ?_⟩
  · rwa [reads_other hrole] at hans
  · rwa [reads_stores hrole, result2_eq] at hans

/-- The value that GET_BAT_VALUE answers (R352). -/
def batValue (f : FieldDie) (k n : Nat) : Nat :=
  match n with
  | 0 => enc 64 ((f.sl k).bat.qRem.tdiv 1000)
  | 1 => (f.sl k).bat.qCap
  | 2 => (f.sl k).bat.eCap
  | 3 => enc 64 (f.sl k).bat.disErr
  | _ => result2 (FieldDie.batOcvWord (f.sl k)) (f.batResWord k)

theorem getBatValue_law (r : Request) (s : State) (h : fieldTakes getBatValueC r s) : ∃ t, exec (.getBatValue r) s = .next t ∧
    { t.chip.field with bar := s.chip.field.bar } = s.chip.field ∧
    ((s.chip.field.sl r.unit).ctx.role ≠ .storage → fieldAnswers s t r .ok 0) ∧
    ((s.chip.field.sl r.unit).ctx.role = .storage →
      (r.u32 0 = 0 → fieldAnswers s t r .ok (enc 64 ((s.chip.field.sl r.unit).bat.qRem.tdiv 1000))) ∧
      (r.u32 0 = 1 → fieldAnswers s t r .ok (s.chip.field.sl r.unit).bat.qCap) ∧
      (r.u32 0 = 2 → fieldAnswers s t r .ok (s.chip.field.sl r.unit).bat.eCap) ∧
      (r.u32 0 = 3 → fieldAnswers s t r .ok (enc 64 (s.chip.field.sl r.unit).bat.disErr))) := by
  have ⟨hrest, hans⟩ := State.field_reads h (show getBatValueC.op s.chip.variant s.chip.field (arriving getBatValueC r s) =
    (s.chip.field, some (.ok, if (s.chip.field.sl r.unit).stores then batValue s.chip.field r.unit (r.u32 0) else 0)) from rfl)
  refine ⟨_, rfl, hrest, fun hrole => ?_, fun hrole => ?_⟩
  · rwa [reads_other hrole] at hans
  · rw [reads_stores hrole] at hans
    refine ⟨fun hn => ?_, fun hn => ?_, fun hn => ?_, fun hn => ?_⟩
    all_goals rw [hn] at hans; exact hans

theorem getLearn_law (r : Request) (s : State) (h : fieldTakes getLearnC r s) : ∃ t, exec (.getLearn r) s = .next t ∧
    { t.chip.field with bar := s.chip.field.bar } = s.chip.field ∧
    ((s.chip.field.sl r.unit).ctx.role ≠ .storage → fieldAnswers s t r .ok 0) ∧
    ((s.chip.field.sl r.unit).ctx.role = .storage → fieldAnswers s t r .ok ((s.chip.field.sl r.unit).bat.lastLearn +
      (s.chip.field.sl r.unit).bat.learnCount * 2 ^ 48 + (s.chip.field.sl r.unit).bat.outcome * 2 ^ 40 +
      (s.chip.field.sl r.unit).bat.reason * 2 ^ 32)) := by
  have ⟨hrest, hans⟩ := State.field_reads h (show getLearnC.op s.chip.variant s.chip.field (arriving getLearnC r s) =
    (s.chip.field, some (.ok, if (s.chip.field.sl r.unit).stores then (s.chip.field.sl r.unit).bat.lastLearn +
      (s.chip.field.sl r.unit).bat.learnCount * 2 ^ 48 + (s.chip.field.sl r.unit).bat.outcome * 2 ^ 40 +
      (s.chip.field.sl r.unit).bat.reason * 2 ^ 32 else 0)) from rfl)
  refine ⟨_, rfl, hrest, fun hrole => ?_, fun hrole => ?_⟩
  · rwa [reads_other hrole] at hans
  · rwa [reads_stores hrole] at hans

end BatteryCommands

/-- Settles O37: the settings, the learning and battery commands by the slot's contract, and the reads. -/
theorem batteryCommandsSetAndAnswer : Obligations.BatteryCommandsSetAndAnswer :=
  ⟨setProbe_law, setCounting_law, setBatWarn_law, setLearning_law, startLearn_law, abortLearn_law, setSoc_law, setCapacity_law, getBat_law,
    getBatValue_law, getLearn_law⟩

end Machine
end Sys2Proof

/-! The commands of the twin group (14 R375, R379 to R385), and the start of a handover. -/

namespace Sys2Proof

namespace FieldDie

/-- The next handover touches the handover's state alone (R375, R376). -/
theorem handNext_rest (f : FieldDie) : f.handNext = { f with hand := f.handNext.hand } := by
  unfold handNext
  split
  · rfl
  · split <;> rfl

@[simp] theorem handNext_twin (f : FieldDie) : f.handNext.twin = f.twin := (congrArg FieldDie.twin (handNext_rest f)).trans rfl
@[simp] theorem handNext_bar (f : FieldDie) : f.handNext.bar = f.bar := (congrArg FieldDie.bar (handNext_rest f)).trans rfl
@[simp] theorem handNext_fcol (f : FieldDie) : f.handNext.fcol = f.fcol := (congrArg FieldDie.fcol (handNext_rest f)).trans rfl

/-- One request that waits on the active device is the handover that starts. -/
theorem handNext_one {f : FieldDie} {stamp : Nat} {q : Option Request} (hact : f.isActive = true) (hwait : f.hand.wait = [(stamp, q)]) :
    f.handNext = f.handStart stamp := by
  unfold handNext
  rw [hwait]
  exact if_pos hact

/-- The active device is no standby. -/
theorem not_standby_of_active {f : FieldDie} (h : f.isActive = true) : f.isStandby = false := by
  have h2 : f.twin.role = 2 := beq_iff_eq.mp h
  simp [isStandby, h2]

theorem not_active_of_standby {f : FieldDie} (h : f.isStandby = true) : f.isActive = false := by
  have h1 : f.twin.role = 1 := beq_iff_eq.mp h
  simp [isActive, h1]

theorem role_of_active {f : FieldDie} (h : f.isActive = true) : f.twin.role = 2 := beq_iff_eq.mp h
theorem role_of_standby {f : FieldDie} (h : f.isStandby = true) : f.twin.role = 1 := beq_iff_eq.mp h

@[simp] theorem modHand_bar (f : FieldDie) (g : Handover → Handover) : (f.modHand g).bar = f.bar := rfl
@[simp] theorem modHand_twin (f : FieldDie) (g : Handover → Handover) : (f.modHand g).twin = f.twin := rfl
@[simp] theorem modTwin_bar (f : FieldDie) (g : Twin → Twin) : (f.modTwin g).bar = f.bar := rfl

@[simp] theorem completions_vector (f : FieldDie) (n : Nat) : (f.vector n).bar.completions = f.bar.completions := by
  unfold vector
  split <;> rfl

/-- A standby that leaves step keeps its completions, its role, its epoch and its settings. -/
theorem completions_leaveStep (f : FieldDie) : f.leaveStep.bar.completions = f.bar.completions := by
  unfold leaveStep
  split
  · exact completions_vector _ _
  · rfl

theorem epoch_leaveStep (f : FieldDie) : f.leaveStep.twin.epoch = f.twin.epoch := by
  unfold leaveStep
  split
  · exact (congrArg Twin.epoch (vector_twin _ _)).trans rfl
  · rfl

theorem inStep_leaveStep {f : FieldDie} (h : f.isStandby = true) : f.leaveStep.twin.inStep = false := by
  unfold leaveStep
  split
  · exact congrArg Twin.inStep (vector_twin _ _)
  next hno => simpa [h] using hno

end FieldDie

theorem paired_on {f : FieldDie} {g : FieldDie × Option (Status × Nat)} (h : f.twin.cfg.pairEn = true) : paired f g = g := if_pos h

theorem paired_off {f : FieldDie} {g : FieldDie × Option (Status × Nat)} (h : f.twin.cfg.pairEn = false) :
    paired f g = (f, some (.wrongMode, 0)) := if_neg (by simp [h])

namespace Machine

section TwinCommands

variable {c : FCmd} {r : Request} {s : State}

/-- A field-executed command that answers and keeps its epoch and the completions before it. -/
theorem State.field_ends {g : FieldDie} {st : Status} {x : Nat} (h : fieldTakes c r s)
    (hop : c.op s.chip.variant s.chip.field (arriving c r s) = (g, some (st, x)))
    (hc : g.bar.completions = s.chip.field.bar.completions) (he : g.twin.epoch = s.chip.field.twin.epoch) :
    fieldAnswers s (s.field c r) r st x ∧
      ∀ {α : Type} (p : FieldDie → α), (∀ f b, p { f with bar := b } = p f) → p (s.field c r).chip.field = p g := by
  have ⟨_, _, hs, hpeer, _⟩ := h
  have hfield : (s.field c r).chip.field = g.complete (arriving c r s) st x := by
    rw [State.field_takes h]
    dsimp only
    rw [hop]
  have hcomplete := FieldDie.complete_host g (arriving c r s) st x hs hpeer
  refine ⟨⟨?_, ?_⟩, fun p hp => ?_⟩
  · rw [hfield, hcomplete, ← hc, ← he]
    rfl
  · rw [State.field_takes h]
    rfl
  · rw [hfield, hcomplete]
    exact hp _ _

/-- A command that is turned away by the state leaves the pair and the handover. -/
theorem twin_stands {st : Status} {x : Nat} (h : fieldTakes c r s)
    (hop : c.op s.chip.variant s.chip.field (arriving c r s) = (s.chip.field, some (st, x))) :
    fieldAnswers s (s.field c r) r st x ∧ (s.field c r).chip.field.twin = s.chip.field.twin ∧
      (s.field c r).chip.field.hand = s.chip.field.hand := by
  have ⟨hans, hp⟩ := State.field_done h hop rfl rfl
  exact ⟨hans, hp (·.twin) fun _ _ => rfl, hp (·.hand) fun _ _ => rfl⟩

/-! HANDOVER (R375). -/

theorem handoverC_refused (h : s.chip.field.twin.cfg.pairEn = false ∨ s.chip.field.hfMatch = false ∨ s.chip.field.twin.role = 0 ∨
      (s.chip.field.isStandby = true ∧ s.chip.field.beatFresh = false)) :
    handoverC.op s.chip.variant s.chip.field (arriving handoverC r s) = (s.chip.field, some (.wrongMode, 0)) := by
  cases hpair : s.chip.field.twin.cfg.pairEn with
  | false => exact paired_off hpair
  | true =>
    refine (paired_on hpair).trans (if_pos ?_)
    rcases h with hoff | hhf | hrole | ⟨hstandby, hfresh⟩
    · exact absurd (hpair.symm.trans hoff) (by decide)
    · exact .inl (by simp [hhf])
    · exact .inr (.inl hrole)
    · exact .inr (.inr ⟨hstandby, by simp [hfresh]⟩)

/-- A standby's handover waits for the peer, which it asks. -/
def handAsked (r : Request) (f : FieldDie) : FieldDie := f.modHand fun h => { h with
  wait := h.wait ++ [(r.arrival, some r)], swap := some { newEpoch := f.twin.epoch, stamp := r.arrival, switchEdge := 0 } }

/-- A handover that waits on the active device. -/
def handWaits (r : Request) (f : FieldDie) : FieldDie := f.modHand fun h => { h with wait := h.wait ++ [(r.arrival, some r)] }

theorem handoverC_asks (hpair : s.chip.field.twin.cfg.pairEn = true) (hhf : s.chip.field.hfMatch = true) (hstandby : s.chip.field.isStandby = true)
    (hfresh : s.chip.field.beatFresh = true) :
    handoverC.op s.chip.variant s.chip.field (arriving handoverC r s) = (handAsked (arriving handoverC r s) s.chip.field, none) := by
  have hrole := FieldDie.role_of_standby hstandby
  refine (paired_on hpair).trans ((if_neg ?_).trans (if_pos hstandby))
  rintro (hn | hn | ⟨_, hn⟩)
  · exact hn hhf
  · omega
  · exact hn hfresh

/-- The active device's answer to HANDOVER where no handover runs or has run. -/
theorem handoverC_starts (hpair : s.chip.field.twin.cfg.pairEn = true) (hhf : s.chip.field.hfMatch = true) (hact : s.chip.field.isActive = true)
    (hphase : s.chip.field.hand.phase = 0) (hlast : s.chip.field.hand.lastStamp ≠ some s.chip.field.tick.tb) :
    handoverC.op s.chip.variant s.chip.field (arriving handoverC r s) = ((handWaits (arriving handoverC r s) s.chip.field).handNext, none) := by
  have hrole := FieldDie.role_of_active hact
  have hstandby := FieldDie.not_standby_of_active hact
  refine (paired_on hpair).trans ((if_neg ?_).trans ((if_neg (by simp [hstandby])).trans ((if_neg fun hn => hlast hn.1).trans ?_)))
  · rintro (hn | hn | ⟨hn, _⟩)
    · exact hn hhf
    · omega
    · exact absurd (hstandby.symm.trans hn) (by decide)
  · exact congrArg (·, none) (if_pos (Or.inl hphase))

/-- The pair's state, whatever HANDOVER does. -/
theorem handoverC_other (hpair : s.chip.field.twin.cfg.pairEn = true) (hhf : s.chip.field.hfMatch = true) (hrole : s.chip.field.twin.role ≠ 0)
    (hstandby : s.chip.field.isStandby = false) :
    (∃ st x, handoverC.op s.chip.variant s.chip.field (arriving handoverC r s) = (s.chip.field, some (st, x))) ∨
      ∃ g, handoverC.op s.chip.variant s.chip.field (arriving handoverC r s) = (g, none) ∧ g.twin = s.chip.field.twin := by
  have hop : handoverC.op s.chip.variant s.chip.field (arriving handoverC r s) =
      if s.chip.field.hand.lastStamp = some s.chip.field.tick.tb ∧ (s.chip.field.hand.phase = 0 ∨ s.chip.field.hand.phase = 5) then
        (s.chip.field, some (if s.chip.field.hand.outcome = 1 then (.ok, s.chip.field.twin.epoch)
          else if s.chip.field.hand.outcome = 3 then (.wrongMode, 0) else (.aborted, 0)))
      else (if s.chip.field.hand.phase = 0 ∨ s.chip.field.hand.phase = 5 then (handWaits (arriving handoverC r s) s.chip.field).handNext
        else handWaits (arriving handoverC r s) s.chip.field, none) := by
    refine (paired_on hpair).trans ((if_neg ?_).trans (if_neg (by simp [hstandby])))
    rintro (hn | hn | ⟨hn, _⟩)
    · exact hn hhf
    · exact hrole hn
    · exact absurd (hstandby.symm.trans hn) (by decide)
  rw [hop]
  split
  · exact .inl ⟨_, _, rfl⟩
  · refine .inr ⟨_, rfl, ?_⟩
    split
    · exact FieldDie.handNext_twin _
    · rfl

theorem handover_twin (h : fieldTakes handoverC r s) : (s.field handoverC r).chip.field.twin = s.chip.field.twin := by
  by_cases hno : s.chip.field.twin.cfg.pairEn = false ∨ s.chip.field.hfMatch = false ∨ s.chip.field.twin.role = 0 ∨
      (s.chip.field.isStandby = true ∧ s.chip.field.beatFresh = false)
  · exact (twin_stands h (handoverC_refused hno)).2.1
  · simp only [not_or, not_and, Bool.not_eq_false] at hno
    obtain ⟨hpair, hhf, hrole, hfresh⟩ := hno
    cases hstandby : s.chip.field.isStandby with
    | true => rw [(State.field_pends h (handoverC_asks hpair hhf hstandby (hfresh hstandby))).1]; rfl
    | false =>
      rcases handoverC_other (r := r) hpair hhf hrole hstandby with ⟨st, x, hop⟩ | ⟨g, hop, hg⟩
      · exact (twin_stands h hop).2.1
      · rw [(State.field_pends h hop).1, hg]

theorem handover_law (r : Request) (s : State) (h : fieldTakes handoverC r s) : ∃ t, exec (.handover r) s = .next t ∧
    t.chip.field.twin = s.chip.field.twin ∧
    (s.chip.field.twin.cfg.pairEn = false ∨ s.chip.field.hfMatch = false ∨ s.chip.field.twin.role = 0 →
      t.chip.field.hand = s.chip.field.hand ∧ fieldAnswers s t r .wrongMode 0) ∧
    (s.chip.field.twin.cfg.pairEn = true → s.chip.field.hfMatch = true →
      (s.chip.field.isStandby = true → s.chip.field.beatFresh = false → fieldAnswers s t r .wrongMode 0) ∧
      (s.chip.field.isStandby = true → s.chip.field.beatFresh = true → fieldWaits s t r ∧
        t.chip.field.hand.wait = s.chip.field.hand.wait ++ [(s.chip.field.tick.tb, some (arriving handoverC r s))] ∧
        t.chip.field.hand.swap = some { newEpoch := s.chip.field.twin.epoch, stamp := s.chip.field.tick.tb, switchEdge := 0 }) ∧
      (s.chip.field.isActive = true → s.chip.field.hand.phase = 0 → s.chip.field.hand.wait = [] →
        s.chip.field.hand.lastStamp ≠ some s.chip.field.tick.tb → fieldWaits s t r ∧ t.chip.field.hand.phase = 1 ∧
        t.chip.field.hand.stamp = s.chip.field.tick.tb ∧ t.chip.field.hand.newEpoch = (s.chip.field.twin.epoch + 1) % 65536 ∧
        t.chip.field.hand.switchEdge = s.chip.field.tick.tb + 4)) := by
  refine ⟨_, rfl, handover_twin h, fun hno => ?_, fun hpair hhf => ⟨fun hstandby hfresh => ?_, fun hstandby hfresh => ?_, fun hact hphase hwait hlast => ?_⟩⟩
  · have hno' : s.chip.field.twin.cfg.pairEn = false ∨ s.chip.field.hfMatch = false ∨ s.chip.field.twin.role = 0 ∨
        (s.chip.field.isStandby = true ∧ s.chip.field.beatFresh = false) := by tauto
    have ⟨hans, _, hhand⟩ := twin_stands h (handoverC_refused hno')
    exact ⟨hhand, hans⟩
  · exact (twin_stands h (handoverC_refused (.inr (.inr (.inr ⟨hstandby, hfresh⟩))))).1
  · have ⟨hfield, hout⟩ := State.field_pends h (handoverC_asks hpair hhf hstandby hfresh)
    rw [hfield]
    exact ⟨⟨congrArg (·.bar.completions) hfield, hout⟩, rfl, rfl⟩
  · have hone : (handWaits (arriving handoverC r s) s.chip.field).handNext =
        (handWaits (arriving handoverC r s) s.chip.field).handStart s.chip.field.tick.tb :=
      FieldDie.handNext_one hact (congrArg (· ++ [(s.chip.field.tick.tb, some (arriving handoverC r s))]) hwait)
    have ⟨hfield, hout⟩ := State.field_pends h ((handoverC_starts hpair hhf hact hphase hlast).trans (congrArg (·, none) hone))
    rw [hfield]
    exact ⟨⟨congrArg (·.bar.completions) hfield, hout⟩, rfl, rfl, rfl, rfl⟩

theorem setRevert_law (r : Request) (s : State) (h : fieldTakes setRevertC r s) : ∃ t, exec (.setRevert r) s = .next t ∧
    (s.chip.field.twin.cfg.pairEn = false → t.chip.field.twin = s.chip.field.twin ∧ fieldAnswers s t r .wrongMode 0) ∧
    (s.chip.field.twin.cfg.pairEn = true → fieldAnswers s t r .ok 0 ∧ t.chip.field.hand = { s.chip.field.hand with hold := r.u32 8 == 1 } ∧
      t.chip.field.twin = { s.chip.field.twin with cfg := { s.chip.field.twin.cfg with revertEn := r.u32 0 == 1, revertDly := r.u32 4 } }) := by
  refine ⟨_, rfl, fun hpair => ?_, fun hpair => ?_⟩
  · have ⟨hans, htwin, _⟩ := twin_stands h (paired_off hpair)
    exact ⟨htwin, hans⟩
  · have ⟨hans, hp⟩ := State.field_ends h (paired_on hpair) rfl rfl
    exact ⟨hans, hp (·.hand) fun _ _ => rfl, hp (·.twin) fun _ _ => rfl⟩

/-! DRILL (R380, R381). -/

theorem drillC_refused (h : s.chip.field.twin.cfg.pairEn = false ∨ s.chip.field.isActive = false ∨ s.chip.field.twin.inStep = false ∨
      s.chip.field.hand.drillOn = true) :
    drillC.op s.chip.variant s.chip.field (arriving drillC r s) = (s.chip.field, some (.wrongMode, 0)) := by
  cases hpair : s.chip.field.twin.cfg.pairEn with
  | false => exact paired_off hpair
  | true =>
    refine (paired_on hpair).trans (if_pos ?_)
    rcases h with hoff | hact | hstep | hon
    · exact absurd (hpair.symm.trans hoff) (by decide)
    · exact .inl (by simp [hact])
    · exact .inr (.inl (by simp [hstep]))
    · exact .inr (.inr hon)

/-- The device as a DRILL begins (R380). -/
def drillBegun (r : Request) (f : FieldDie) : FieldDie := f.modHand fun h => { h with
  drillOn := true, drillKind := r.u32 0, drillStep := 0, drillHold := 40 * r.u32 4, drillBack := false, drillAt := f.tick.tb + 1
  drillFail := false, drillReq := some r, tbusFail := 0, portFail := false, readbackFail := false, roundFail := false }

/-- The request of a DRILL's round trip that waits (R381). -/
def drillAsked (r : Request) (f : FieldDie) : FieldDie := (drillBegun r f).modHand fun h => { h with wait := h.wait ++ [(r.arrival, none)] }

theorem drillC_begins (hpair : s.chip.field.twin.cfg.pairEn = true) (hact : s.chip.field.isActive = true) (hstep : s.chip.field.twin.inStep = true)
    (hoff : s.chip.field.hand.drillOn = false) :
    drillC.op s.chip.variant s.chip.field (arriving drillC r s) =
      if r.u32 0 = 0 then (drillBegun (arriving drillC r s) s.chip.field, none)
      else (if s.chip.field.hand.phase = 0 ∨ s.chip.field.hand.phase = 5 then (drillAsked (arriving drillC r s) s.chip.field).handNext
        else drillAsked (arriving drillC r s) s.chip.field, none) := by
  refine (paired_on hpair).trans (if_neg ?_)
  rintro (hn | hn | hn)
  · exact hn hact
  · exact hn hstep
  · exact absurd (hoff.symm.trans hn) (by decide)

/-- A handover that starts or not leaves the DRILL. -/
theorem drill_handNext (f : FieldDie) : f.handNext.hand.drillOn = f.hand.drillOn ∧ f.handNext.hand.drillKind = f.hand.drillKind ∧
    f.handNext.hand.drillFail = f.hand.drillFail := by
  unfold FieldDie.handNext
  split
  · exact ⟨rfl, rfl, rfl⟩
  · split <;> exact ⟨rfl, rfl, rfl⟩

theorem drillC_pends (hpair : s.chip.field.twin.cfg.pairEn = true) (hact : s.chip.field.isActive = true) (hstep : s.chip.field.twin.inStep = true)
    (hoff : s.chip.field.hand.drillOn = false) :
    ∃ g, drillC.op s.chip.variant s.chip.field (arriving drillC r s) = (g, none) ∧ g.twin = s.chip.field.twin ∧
      g.bar = s.chip.field.bar ∧ g.hand.drillOn = true ∧ g.hand.drillKind = r.u32 0 ∧ g.hand.drillFail = false ∧
      (r.u32 0 = 1 → s.chip.field.hand.phase = 0 → s.chip.field.hand.wait = [] → g.hand.phase = 1) := by
  rw [drillC_begins hpair hact hstep hoff]
  split
  next h0 => exact ⟨_, rfl, rfl, rfl, rfl, rfl, rfl, fun h1 => absurd (h0.symm.trans h1) (by decide)⟩
  next =>
    split
    next hphase =>
      have ⟨hon, hkind, hfail⟩ := drill_handNext (drillAsked (arriving drillC r s) s.chip.field)
      refine ⟨_, rfl, FieldDie.handNext_twin _, FieldDie.handNext_bar _, hon, hkind, hfail, fun _ _ hwait => ?_⟩
      have hone : (drillAsked (arriving drillC r s) s.chip.field).hand.wait = [((arriving drillC r s).arrival, none)] :=
        congrArg (· ++ [((arriving drillC r s).arrival, none)]) hwait
      have hactive : (drillAsked (arriving drillC r s) s.chip.field).isActive = true := hact
      rw [FieldDie.handNext_one hactive hone]
      rfl
    next hphase => exact ⟨_, rfl, rfl, rfl, rfl, rfl, rfl, fun _ h0 => absurd (.inl h0) hphase⟩

theorem drill_law (r : Request) (s : State) (h : fieldTakes drillC r s) : ∃ t, exec (.drill r) s = .next t ∧ t.chip.field.twin = s.chip.field.twin ∧
    (s.chip.field.twin.cfg.pairEn = false ∨ s.chip.field.isActive = false ∨ s.chip.field.twin.inStep = false ∨
      s.chip.field.hand.drillOn = true → t.chip.field.hand = s.chip.field.hand ∧ fieldAnswers s t r .wrongMode 0) ∧
    (s.chip.field.twin.cfg.pairEn = true → s.chip.field.isActive = true → s.chip.field.twin.inStep = true → s.chip.field.hand.drillOn = false →
      fieldWaits s t r ∧ t.chip.field.hand.drillOn = true ∧ t.chip.field.hand.drillKind = r.u32 0 ∧ t.chip.field.hand.drillFail = false ∧
      (r.u32 0 = 1 → s.chip.field.hand.phase = 0 → s.chip.field.hand.wait = [] → t.chip.field.hand.phase = 1)) := by
  by_cases hno : s.chip.field.twin.cfg.pairEn = false ∨ s.chip.field.isActive = false ∨ s.chip.field.twin.inStep = false ∨
      s.chip.field.hand.drillOn = true
  · have ⟨hans, htwin, hhand⟩ := twin_stands h (drillC_refused hno)
    refine ⟨_, rfl, htwin, fun _ => ⟨hhand, hans⟩, fun hpair hact hstep hoff => ?_⟩
    simp [hpair, hact, hstep, hoff] at hno
  · have hyes := hno
    simp only [not_or, Bool.not_eq_false, Bool.not_eq_true] at hyes
    obtain ⟨hpair, hact, hstep, hoff⟩ := hyes
    obtain ⟨g, hop, htwin, hbar, hon, hkind, hfail, hphase⟩ := drillC_pends (r := r) hpair hact hstep hoff
    have ⟨hfield, hout⟩ := State.field_pends h hop
    refine ⟨_, rfl, (congrArg FieldDie.twin hfield).trans htwin, fun hn => absurd hn hno, fun _ _ _ _ => ?_⟩
    rw [hfield]
    exact ⟨⟨(congrArg (·.bar.completions) hfield).trans (congrArg FBarrier.completions hbar), hout⟩, hon, hkind, hfail, hphase⟩

theorem leaveStepC_refused (h : s.chip.field.twin.cfg.pairEn = false ∨ s.chip.field.isStandby = false) :
    leaveStepC.op s.chip.variant s.chip.field (arriving leaveStepC r s) = (s.chip.field, some (.wrongMode, 0)) := by
  cases hpair : s.chip.field.twin.cfg.pairEn with
  | false => exact paired_off hpair
  | true =>
    refine (paired_on hpair).trans (if_pos ?_)
    rcases h with hoff | hact
    · exact absurd (hpair.symm.trans hoff) (by decide)
    · simp [hact]

theorem leaveStep_law (r : Request) (s : State) (h : fieldTakes leaveStepC r s) : ∃ t, exec (.leaveStep r) s = .next t ∧
    (s.chip.field.twin.cfg.pairEn = false ∨ s.chip.field.isStandby = false →
      t.chip.field.twin = s.chip.field.twin ∧ fieldAnswers s t r .wrongMode 0) ∧
    (s.chip.field.twin.cfg.pairEn = true → s.chip.field.isStandby = true → fieldAnswers s t r .ok 0 ∧
      t.chip.field.twin.inStep = false ∧ t.chip.field.twin.noAuto = true ∧ t.chip.field.twin.join = 0) := by
  refine ⟨_, rfl, fun hno => ?_, fun hpair hstandby => ?_⟩
  · have ⟨hans, htwin, _⟩ := twin_stands h (leaveStepC_refused hno)
    exact ⟨htwin, hans⟩
  · have hop : leaveStepC.op s.chip.variant s.chip.field (arriving leaveStepC r s) =
        (s.chip.field.leaveStep.modTwin (fun t => { t with noAuto := true, join := 0, parts := [] }), some (.ok, 0)) :=
      (paired_on hpair).trans (if_neg (by simp [hstandby]))
    have ⟨hans, hp⟩ := State.field_ends h hop (FieldDie.completions_leaveStep _) (FieldDie.epoch_leaveStep _)
    exact ⟨hans, (hp (·.twin.inStep) fun _ _ => rfl).trans (FieldDie.inStep_leaveStep hstandby), hp (·.twin.noAuto) fun _ _ => rfl,
      hp (·.twin.join) fun _ _ => rfl⟩

/-! JOIN (R385). -/

theorem joinC_refused (h : s.chip.field.twin.cfg.pairEn = false ∨ s.chip.field.isStandby = false) :
    joinC.op s.chip.variant s.chip.field (arriving joinC r s) = (s.chip.field, some (.wrongMode, 0)) := by
  cases hpair : s.chip.field.twin.cfg.pairEn with
  | false => exact paired_off hpair
  | true =>
    refine (paired_on hpair).trans (if_pos ?_)
    rcases h with hoff | hact
    · exact absurd (hpair.symm.trans hoff) (by decide)
    · simp [hact]

theorem joinC_inStep (hpair : s.chip.field.twin.cfg.pairEn = true) (hstandby : s.chip.field.isStandby = true)
    (hstep : s.chip.field.twin.inStep = true) : joinC.op s.chip.variant s.chip.field (arriving joinC r s) = (s.chip.field, some (.ok, 0)) :=
  (paired_on hpair).trans ((if_neg (by simp [hstandby])).trans (if_pos hstep))

/-- A standby with a JOIN that waits. -/
def joinAsked (r : Request) (f : FieldDie) : FieldDie :=
  f.modTwin fun t => { t with noAuto := false, joinTimes := [], joinReqs := t.joinReqs ++ [(f.tick.tb, r)] }

theorem joinC_joins (hpair : s.chip.field.twin.cfg.pairEn = true) (hstandby : s.chip.field.isStandby = true)
    (hstep : s.chip.field.twin.inStep = false) : joinC.op s.chip.variant s.chip.field (arriving joinC r s) =
      (if s.chip.field.twin.join = 0 then (joinAsked (arriving joinC r s) s.chip.field).joinBegin
        else joinAsked (arriving joinC r s) s.chip.field, none) :=
  (paired_on hpair).trans ((if_neg (by simp [hstandby])).trans (if_neg (by simp [hstep])))

theorem join_law (r : Request) (s : State) (h : fieldTakes joinC r s) : ∃ t, exec (.join r) s = .next t ∧
    (s.chip.field.twin.cfg.pairEn = false ∨ s.chip.field.isStandby = false →
      t.chip.field.twin = s.chip.field.twin ∧ fieldAnswers s t r .wrongMode 0) ∧
    (s.chip.field.twin.cfg.pairEn = true → s.chip.field.isStandby = true →
      (s.chip.field.twin.inStep = true → t.chip.field.twin = s.chip.field.twin ∧ fieldAnswers s t r .ok 0) ∧
      (s.chip.field.twin.inStep = false → fieldWaits s t r ∧ t.chip.field.twin.noAuto = false ∧
        t.chip.field.twin.join = (if s.chip.field.twin.join = 0 then 1 else s.chip.field.twin.join) ∧
        t.chip.field.twin.joinReqs = s.chip.field.twin.joinReqs ++ [(s.chip.field.tick.tb, arriving joinC r s)])) := by
  refine ⟨_, rfl, fun hno => ?_, fun hpair hstandby => ⟨fun hstep => ?_, fun hstep => ?_⟩⟩
  · have ⟨hans, htwin, _⟩ := twin_stands h (joinC_refused hno)
    exact ⟨htwin, hans⟩
  · have ⟨hans, htwin, _⟩ := twin_stands h (joinC_inStep hpair hstandby hstep)
    exact ⟨htwin, hans⟩
  · have ⟨hfield, hout⟩ := State.field_pends h (joinC_joins hpair hstandby hstep)
    unfold fieldWaits
    rw [hfield]
    split
    · exact ⟨⟨rfl, hout⟩, rfl, rfl, rfl⟩
    · exact ⟨⟨rfl, hout⟩, rfl, rfl, rfl⟩

/-! COLD_SWAP (R383). -/

theorem coldSwapC_refused (h : s.chip.field.twin.cfg.pairEn = false ∨ s.chip.field.isActive = false ∨ s.chip.field.beatFresh = false) :
    coldSwapC.op s.chip.variant s.chip.field (arriving coldSwapC r s) = (s.chip.field, some (.wrongMode, 0)) := by
  cases hpair : s.chip.field.twin.cfg.pairEn with
  | false => exact paired_off hpair
  | true =>
    refine (paired_on hpair).trans (if_pos ?_)
    rcases h with hoff | hact | hfresh
    · exact absurd (hpair.symm.trans hoff) (by decide)
    · exact .inl (by simp [hact])
    · exact .inr (.inl (by simp [hfresh]))

/-- What a COLD_SWAP asks of the peer and of the handover (R383). -/
def coldReady (f : FieldDie) : Prop :=
  f.isActive = true ∧ f.beatFresh = true ∧ f.hand.cold.isSome = false ∧ f.peerIs (fun b => b.role == 2 && !b.health1 0 && !b.health1 5) = true

theorem coldSwapC_ready (hpair : s.chip.field.twin.cfg.pairEn = true) (h : coldReady s.chip.field) :
    coldSwapC.op s.chip.variant s.chip.field (arriving coldSwapC r s) =
      (s.chip.field.modHand (fun h => { h with cold := some (arriving coldSwapC r s) }), none) := by
  obtain ⟨hact, hfresh, hcold, hpeer⟩ := h
  refine (paired_on hpair).trans (if_neg ?_)
  rintro (hn | hn | hn | hn)
  · exact hn hact
  · exact hn hfresh
  · exact absurd (hcold.symm.trans hn) (by decide)
  · exact hn hpeer

theorem coldSwapC_unready (hpair : s.chip.field.twin.cfg.pairEn = true) (h : ¬ coldReady s.chip.field) :
    coldSwapC.op s.chip.variant s.chip.field (arriving coldSwapC r s) = (s.chip.field, some (.wrongMode, 0)) := by
  refine (paired_on hpair).trans (if_pos ?_)
  by_contra hno
  simp only [not_or, Bool.not_eq_true, Bool.not_eq_false] at hno
  exact h hno

theorem coldSwap_twin (h : fieldTakes coldSwapC r s) : (s.field coldSwapC r).chip.field.twin = s.chip.field.twin := by
  cases hpair : s.chip.field.twin.cfg.pairEn with
  | false => exact (twin_stands h (paired_off hpair)).2.1
  | true =>
    by_cases hready : coldReady s.chip.field
    · rw [(State.field_pends h (coldSwapC_ready hpair hready)).1]
      rfl
    · exact (twin_stands h (coldSwapC_unready hpair hready)).2.1

theorem coldSwap_law (r : Request) (s : State) (h : fieldTakes coldSwapC r s) : ∃ t, exec (.coldSwap r) s = .next t ∧
    t.chip.field.twin = s.chip.field.twin ∧
    (s.chip.field.twin.cfg.pairEn = true → s.chip.field.isActive = true → s.chip.field.beatFresh = true → s.chip.field.hand.cold = none →
      s.chip.field.peerIs (fun b => b.role == 2 && !b.health1 0 && !b.health1 5) = true →
      fieldWaits s t r ∧ t.chip.field.hand.cold = some (arriving coldSwapC r s)) ∧
    (s.chip.field.twin.cfg.pairEn = false ∨ s.chip.field.isActive = false ∨ s.chip.field.beatFresh = false →
      t.chip.field.hand = s.chip.field.hand ∧ fieldAnswers s t r .wrongMode 0) := by
  refine ⟨_, rfl, coldSwap_twin h, fun hpair hact hfresh hcold hpeer => ?_, fun hno => ?_⟩
  · have ⟨hfield, hout⟩ := State.field_pends h (coldSwapC_ready hpair ⟨hact, hfresh, congrArg Option.isSome hcold, hpeer⟩)
    exact ⟨⟨congrArg (·.bar.completions) hfield, hout⟩, congrArg (·.hand.cold) hfield⟩
  · have ⟨hans, _, hhand⟩ := twin_stands h (coldSwapC_refused hno)
    exact ⟨hhand, hans⟩

theorem getTwin_law (r : Request) (s : State) (h : fieldTakes getTwinC r s) : ∃ t, exec (.getTwin r) s = .next t ∧
    { t.chip.field with bar := s.chip.field.bar } = s.chip.field ∧ fieldAnswers s t r .ok (s.chip.field.twinGet s.chip.variant) := by
  have ⟨hrest, hans⟩ := State.field_reads h rfl
  exact ⟨_, rfl, hrest, hans⟩

end TwinCommands

/-- Settles O41: each command of the twin group by the pair, the role and the peer's heartbeats. -/
theorem twinCommandsMoveTheRole : Obligations.TwinCommandsMoveTheRole :=
  ⟨handover_law, setRevert_law, drill_law, leaveStep_law, join_law, coldSwap_law, getTwin_law⟩

end Machine
end Sys2Proof

/-! Handover, revert and DRILL (14 R376 to R381, R383, R384). -/

namespace Sys2Proof

namespace FieldDie

/-! The release and the assertion of ACTIVE_N (R355, R376). -/

@[simp] theorem releaseActive_twin (f : FieldDie) : f.releaseActive.twin = { f.twin with activeN := false, sampling := false } :=
  (congrArg FieldDie.twin (releaseActive_with_bar f)).trans rfl

@[simp] theorem releaseActive_hand (f : FieldDie) : f.releaseActive.hand = f.hand := (congrArg FieldDie.hand (releaseActive_with_bar f)).trans rfl
@[simp] theorem releaseActive_fcol (f : FieldDie) : f.releaseActive.fcol = f.fcol := (congrArg FieldDie.fcol (releaseActive_with_bar f)).trans rfl
@[simp] theorem releaseActive_tick (f : FieldDie) : f.releaseActive.tick = f.tick := (congrArg FieldDie.tick (releaseActive_with_bar f)).trans rfl

theorem pfwLand_releaseActive (f : FieldDie) : f.releaseActive.brk.pfwLand = Tab.fill 8 false :=
  (congrArg (fun g : FieldDie => g.brk.pfwLand) (releaseActive_with_bar f)).trans rfl

/-- The marks of an edge touch the tick buses alone. -/
theorem markLate_keeps {α : Type} (p : FieldDie → α) (hp : ∀ f n g, p (modBus f n g) = p f) (v : Variant) (f : FieldDie) :
    p (f.markLate v) = p f := foldl_keeps p (fun _ _ => hp _ _ _) _ _

@[simp] theorem assertActive_twin (v : Variant) (f : FieldDie) :
    (f.assertActive v).twin = { f.twin with role := 2, activeN := true, sampling := true } := markLate_keeps FieldDie.twin (fun _ _ _ => rfl) v _

@[simp] theorem assertActive_hand (v : Variant) (f : FieldDie) : (f.assertActive v).hand = f.hand := markLate_keeps FieldDie.hand (fun _ _ _ => rfl) v _

/-- A device that turns standby out of step (R355). -/
theorem toStandbyOut_twin (f : FieldDie) : f.toStandbyOut.twin = { f.outOfStep.twin with activeN := false, sampling := false, role := 1, tookOver := false } :=
  congrArg (fun t : Twin => { t with role := 1, tookOver := false }) (releaseActive_twin f.outOfStep)

/-! The end of a handover (R375, R377, R378). -/

/-- The handover's state as its end writes it, before the waiting requests are answered. -/
def handClosed (f : FieldDie) (outcome : Nat) (moved : Bool) : FieldDie :=
  f.modHand fun h => { h with
    phase := if outcome = 1 then 5 else 0, outcome := outcome, wait := f.hand.wait.filter (fun x => !(x.1 == f.hand.stamp || moved)), asking := false
    out := none, lastStamp := some f.hand.stamp, handovers := if outcome = 1 then satN 16 (h.handovers + 1) else h.handovers
    cond := h.cond && outcome == 1, condFrom := none }

/-- A DRILL whose round trip fails (R381). -/
def roundFailed (h : Handover) : Handover := { h with roundFail := true }

/-- What the completions, a DRILL that fails and, where the role has not moved, the next handover keep, the end of a handover keeps. -/
theorem handEnd_keeps (P : FieldDie → Prop) {f : FieldDie} {outcome : Nat} {st : Status} {moved : Bool}
    (hcomplete : ∀ g r st x, P g → P (complete g r st x)) (hdrill : ∀ g, P g → P ((drillFailed g roundFailed).drillEnd .aborted))
    (hnext : moved = false → ∀ g, P g → P g.handNext) (h : P (f.handClosed outcome moved)) : P (f.handEnd outcome st moved) := by
  unfold handEnd
  dsimp only
  have hanswered : P ((f.hand.wait.filter (fun x => x.1 == f.hand.stamp || moved)).foldl (fun g x => match x.2 with
      | some r => if x.1 = f.hand.stamp then complete g r st (if st = .ok then g.twin.epoch else 0) else complete g r .staleRole
      | none => g) (f.handClosed outcome moved)) := by
    refine List.foldlRecOn _ _ h fun g hg x _ => ?_
    split
    · split
      · exact hcomplete _ _ _ _ hg
      · exact hcomplete _ _ _ _ hg
    · exact hg
  cases moved with
  | true =>
    rw [if_pos rfl]
    split
    · exact hdrill _ hanswered
    · exact hanswered
  | false =>
    rw [if_neg Bool.false_ne_true]
    refine hnext rfl _ ?_
    split
    · exact hdrill _ hanswered
    · exact hanswered

/-- The end of a handover keeps what no completion, DRILL or next handover writes. -/
theorem handEnd_view {α : Type} (p : FieldDie → α) {f : FieldDie} {outcome : Nat} {st : Status} {moved : Bool}
    (hcomplete : ∀ g r st x, p (complete g r st x) = p g) (hdrill : ∀ g, p ((drillFailed g roundFailed).drillEnd .aborted) = p g)
    (hnext : moved = false → ∀ g, p g.handNext = p g) : p (f.handEnd outcome st moved) = p (f.handClosed outcome moved) :=
  handEnd_keeps (fun g => p g = p (f.handClosed outcome moved)) (fun g r st x h => (hcomplete g r st x).trans h) (fun g h => (hdrill g).trans h)
    (fun hm g h => (hnext hm g).trans h) rfl

theorem drillEnd_hand (f : FieldDie) (st : Status) : (f.drillEnd st).hand =
    { f.hand with drillOn := false, drillReq := none, drillBack := false, drills := satN 16 (f.hand.drills + 1) } := by
  unfold drillEnd
  dsimp only
  split
  · exact complete_hand _ _ _ _ _ _
  · rfl

@[simp] theorem drillEnd_fcol (f : FieldDie) (st : Status) : (f.drillEnd st).fcol = f.fcol := by
  unfold drillEnd
  dsimp only
  split
  · exact complete_fcol _ _ _ _ _ _
  · rfl

variable {f : FieldDie} {outcome : Nat} {st : Status} {moved : Bool}

theorem bare_handEnd : (f.handEnd outcome st moved).bare = f.bare :=
  handEnd_view bare (fun g r st x => bare_complete g r st x 0 []) (fun g => (bare_drillEnd _ _).trans (bare_drillFailed g _))
    fun _ g => (congrArg bare (handNext_rest g)).trans rfl

theorem outcome_handNext (f : FieldDie) : f.handNext.hand.outcome = f.hand.outcome ∧ f.handNext.hand.lastStamp = f.hand.lastStamp := by
  unfold handNext
  split
  · exact ⟨rfl, rfl⟩
  · split <;> exact ⟨rfl, rfl⟩

@[simp] theorem outcome_handEnd : (f.handEnd outcome st moved).hand.outcome = outcome :=
  handEnd_view (fun g => g.hand.outcome) (fun g _ _ _ => congrArg Handover.outcome (complete_hand g _ _ _ _ _))
    (fun _ => (congrArg Handover.outcome (drillEnd_hand _ _)).trans rfl) fun _ g => (outcome_handNext g).1

theorem lastStamp_handEnd : (f.handEnd outcome st moved).hand.lastStamp = some f.hand.stamp :=
  handEnd_view (fun g => g.hand.lastStamp) (fun g _ _ _ => congrArg Handover.lastStamp (complete_hand g _ _ _ _ _))
    (fun _ => (congrArg Handover.lastStamp (drillEnd_hand _ _)).trans rfl) fun _ g => (outcome_handNext g).2

theorem wait_handEnd_moved : (f.handEnd outcome st true).hand.wait = [] :=
  (handEnd_view (fun g => g.hand.wait) (fun g _ _ _ => congrArg Handover.wait (complete_hand g _ _ _ _ _))
    (fun _ => (congrArg Handover.wait (drillEnd_hand _ _)).trans rfl) fun hm => absurd hm (by decide)).trans (by simp [handClosed, modHand])

theorem phase_handEnd_moved : (f.handEnd outcome st true).hand.phase = if outcome = 1 then 5 else 0 :=
  handEnd_view (fun g => g.hand.phase) (fun g _ _ _ => congrArg Handover.phase (complete_hand g _ _ _ _ _))
    (fun _ => (congrArg Handover.phase (drillEnd_hand _ _)).trans rfl) fun hm => absurd hm (by decide)

/-- The end of a handover keeps the events that have arisen. -/
theorem arisen_handEnd {e : Event} (h : e ∈ f.fcol.arisen) : e ∈ (f.handEnd outcome st moved).fcol.arisen :=
  handEnd_keeps (fun g => e ∈ g.fcol.arisen) (fun g r st x hg => by rwa [complete_fcol])
    (fun g hg => by rw [drillEnd_fcol]; exact List.mem_append_left _ hg) (fun _ g hg => by rwa [handNext_fcol]) h

theorem twin_of_bare_eq {g : FieldDie} (h : f.bare = g.bare) : f.twin.role = g.twin.role ∧ f.twin.epoch = g.twin.epoch ∧
    f.twin.activeN = g.twin.activeN ∧ f.twin.inStep = g.twin.inStep := by
  have htwin := congrArg FieldDie.twin h
  exact ⟨(congrArg Twin.role htwin).trans rfl, (congrArg Twin.epoch htwin).trans rfl, (congrArg Twin.activeN htwin).trans rfl,
    (congrArg Twin.inStep htwin).trans rfl⟩

/-- The end of a handover moves no role, no epoch and no ACTIVE_N. -/
theorem twin_handEnd : (f.handEnd outcome st moved).twin.role = f.twin.role ∧ (f.handEnd outcome st moved).twin.epoch = f.twin.epoch ∧
    (f.handEnd outcome st moved).twin.activeN = f.twin.activeN := by
  have ⟨hrole, hepoch, hactive, _⟩ := twin_of_bare_eq (bare_handEnd (f := f) (outcome := outcome) (st := st) (moved := moved))
  exact ⟨hrole, hepoch, hactive⟩

/-- The active device gives the role away (R376). -/
theorem twin_handGave (f : FieldDie) : f.handGave.twin.role = 1 ∧ f.handGave.twin.activeN = false ∧ f.handGave.twin.epoch = f.hand.newEpoch := by
  have ⟨hrole, hepoch, hactive⟩ := twin_handEnd (outcome := 1) (st := .ok) (moved := true)
    (f := f.releaseActive.modTwin fun t => { t with role := 1, tookOver := false, epoch := f.hand.newEpoch, leftAt := f.tick.tb })
  have hkeeps : f.handGave.twin = ((f.releaseActive.modTwin fun t => { t with
      role := 1, tookOver := false, epoch := f.hand.newEpoch, leftAt := f.tick.tb }).handEnd 1 .ok true).twin := by
    unfold handGave
    dsimp only
    split
    · exact vector_twin _ _
    · exact vector_twin _ _
  rw [hkeeps]
  refine ⟨hrole, hactive.trans ?_, hepoch⟩
  exact (congrArg Twin.activeN (releaseActive_twin f)).trans rfl

theorem hand_handGave (f : FieldDie) : f.handGave.hand.outcome = 1 ∧ f.handGave.hand.wait = [] := by
  unfold handGave roleVector
  dsimp only
  split
  · simp only [modHand, vector_hand]
    exact ⟨outcome_handEnd, wait_handEnd_moved⟩
  · rw [vector_hand]
    exact ⟨outcome_handEnd, wait_handEnd_moved⟩

theorem bare_vector (f : FieldDie) (n : Nat) : (f.vector n).bare = f.bare := by
  unfold vector
  split <;> rfl

/-- The standby takes the role (R376). -/
theorem twin_handTook (v : Variant) (f : FieldDie) : (f.handTook v).twin.role = 2 ∧ (f.handTook v).twin.activeN = true ∧
    (f.handTook v).twin.epoch = f.twin.epoch := by
  have hkeeps : (f.handTook v).bare = ((f.modTwin fun t => { t with peerActive := false }).assertActive v).bare := by
    unfold handTook roleVector
    dsimp only
    split
    · exact (bare_drillEnd _ _).trans ((bare_vector _ _).trans bare_handEnd)
    · exact (bare_vector _ _).trans bare_handEnd
  have ⟨hrole, hepoch, hactive, _⟩ := twin_of_bare_eq hkeeps
  rw [assertActive_twin] at hrole hepoch hactive
  exact ⟨hrole, hactive, hepoch⟩

theorem outcome_handTook (v : Variant) (f : FieldDie) : (f.handTook v).hand.outcome = 1 := by
  unfold handTook roleVector
  dsimp only
  split
  · rw [drillEnd_hand]
    exact (congrArg Handover.outcome (vector_hand _ _)).trans outcome_handEnd
  · rw [vector_hand]
    exact outcome_handEnd

end FieldDie
end Sys2Proof

namespace Sys2Proof

namespace FieldDie

variable {f : FieldDie}

/-! HANDOVER_RELEASE (R376, R383). -/

theorem handRelease_due (hcold : f.hand.cold = none) (hask : f.hand.asking = true) (hack : f.hand.acked = true)
    (hedge : f.hand.switchEdge = f.tick.tb + 1) : f.handRelease = f.releaseActive.modHand fun h => { h with released := true } := by
  unfold handRelease
  rw [hcold]
  exact if_pos ⟨hask, hack, hedge⟩

theorem handRelease_not (hcold : f.hand.cold = none)
    (h : f.hand.asking = false ∨ f.hand.acked = false ∨ f.hand.switchEdge ≠ f.tick.tb + 1) : f.handRelease = f := by
  unfold handRelease
  rw [hcold]
  refine if_neg ?_
  rintro ⟨hask, hack, hedge⟩
  rcases h with h | h | h
  · exact absurd (h.symm.trans hask) (by decide)
  · exact absurd (h.symm.trans hack) (by decide)
  · exact h hedge

theorem handRelease_cold {r : Request} (hcold : f.hand.cold = some r) : f.handRelease.twin.role = 1 ∧ f.handRelease.twin.activeN = false ∧
    f.handRelease.twin.gaveUp = true ∧ f.handRelease.hand.cold = none := by
  have hbare : f.handRelease.bare = (f.toStandbyOut.modTwin fun t => { t with gaveUp := true }).bare := by
    unfold handRelease roleVector
    rw [hcold]
    exact (bare_vector _ _).trans (bare_complete _ _ _ _ _ _)
  have hhand : f.handRelease.hand.cold = none := by
    unfold handRelease roleVector
    rw [hcold]
    simp only [vector_hand, complete_hand]
    rfl
  have htwin := congrArg FieldDie.twin hbare
  have hout := toStandbyOut_twin f
  exact ⟨((congrArg Twin.role htwin).trans rfl).trans ((congrArg Twin.role hout).trans rfl),
    ((congrArg Twin.activeN htwin).trans rfl).trans ((congrArg Twin.activeN hout).trans rfl), (congrArg Twin.gaveUp htwin).trans rfl, hhand⟩

/-! HANDOVER_SWITCH_EDGE (R376 to R378). -/

/-- Whether the switch edge concerns the device: a handover runs, its edge has come, and the device is not in WINTER. -/
def switchDue (f : FieldDie) : Prop := f.hand.phase ≠ 0 ∧ f.hand.phase ≠ 5 ∧ f.hand.switchEdge ≤ f.tick.tb ∧ f.power.winter = false

theorem switchEdge_due (v : Variant) (p : Bool) (h : f.switchDue) : f.switchEdge v p =
    if f.hand.asking then (if f.hand.acked then f.handGave else f.handEnd 2 .aborted false)
    else if f.hand.phase ≠ 4 then f.handEnd 2 .aborted false
    else if 3 ≤ f.hand.tries then f
    else if p then (f.modTwin fun t => { t with epoch := f.hand.newEpoch }).handTook v
    else ((f.modTwin fun t => { t with epoch := f.hand.newEpoch }).modTwin fun t => { t with peerActive := true }).modHand
      fun h => { h with tries := h.tries + 1 } := by
  obtain ⟨h0, h5, hedge, hwinter⟩ := h
  refine if_neg ?_
  rintro (hn | hn | hn | hn)
  · exact h0 hn
  · exact h5 hn
  · omega
  · exact absurd (hwinter.symm.trans hn) (by decide)

theorem switchEdge_not (v : Variant) (p : Bool)
    (h : f.hand.phase = 0 ∨ f.hand.phase = 5 ∨ f.tick.tb < f.hand.switchEdge ∨ f.power.winter = true) : f.switchEdge v p = f := if_pos h

theorem switchEdge_ends (v : Variant) (p : Bool) (h : f.switchDue)
    (hends : (f.hand.asking = true ∧ f.hand.acked = false) ∨ (f.hand.asking = false ∧ f.hand.phase ≠ 4)) :
    f.switchEdge v p = f.handEnd 2 .aborted false := by
  rw [switchEdge_due v p h]
  rcases hends with ⟨hask, hack⟩ | ⟨hask, hphase⟩
  · simp [hask, hack]
  · simp [hask, hphase]

theorem switchEdge_gives (v : Variant) (p : Bool) (h : f.switchDue) (hask : f.hand.asking = true) (hack : f.hand.acked = true) :
    f.switchEdge v p = f.handGave := by
  simp [switchEdge_due v p h, hask, hack]

theorem switchEdge_takes (v : Variant) (h : f.switchDue) (hask : f.hand.asking = false) (hphase : f.hand.phase = 4) (htries : f.hand.tries < 3) :
    f.switchEdge v true = (f.modTwin fun t => { t with epoch := f.hand.newEpoch }).handTook v := by
  have hmore : ¬ 3 ≤ f.hand.tries := by omega
  simp [switchEdge_due v true h, hask, hphase, hmore]

theorem switchEdge_waits (v : Variant) (h : f.switchDue) (hask : f.hand.asking = false) (hphase : f.hand.phase = 4) (htries : f.hand.tries < 3) :
    f.switchEdge v false = ((f.modTwin fun t => { t with epoch := f.hand.newEpoch }).modTwin fun t => { t with peerActive := true }).modHand
      fun h => { h with tries := h.tries + 1 } := by
  have hmore : ¬ 3 ≤ f.hand.tries := by omega
  simp [switchEdge_due v false h, hask, hphase, hmore]

/-! DRILL_STEP (R380). -/

theorem drillNext_not (ok : Bool) (h : f.hand.drillOn = false ∨ f.hand.drillKind ≠ 0 ∨ f.isActive = false) : f.drillNext ok = f := by
  refine if_pos ?_
  rcases h with h | h | h
  · exact .inl (by simp [h])
  · exact .inr (.inl h)
  · exact .inr (.inr (by simp [h]))

/-- The failures that a step of the DRILL finds (R380). -/
def stepFails (f : FieldDie) (h : Handover) : Handover :=
  if f.hand.drillStep < 8 then { h with tbusFail := Nat.lor h.tbusFail (2 ^ f.hand.drillStep) }
  else if f.hand.drillStep = 8 then { h with portFail := true } else { h with readbackFail := true }

/-- The device with the step judged. -/
def stepJudged (f : FieldDie) (ok : Bool) : FieldDie :=
  (if ok then f else f.drillFailed f.stepFails).modHand fun h => { h with drillStep := h.drillStep + 1 }

theorem drillNext_due (ok : Bool) (hon : f.hand.drillOn = true) (hkind : f.hand.drillKind = 0) (hact : f.isActive = true)
    (hdue : f.hand.drillStep < 8 → f.hand.drillAt + 40 * f.hand.drillStep ≤ f.tick.tb) :
    f.drillNext ok = if (f.stepJudged ok).hand.drillStep = 10 then (f.stepJudged ok).drillEnd .ok else f.stepJudged ok := by
  refine (if_neg ?_).trans (if_neg ?_)
  · rintro (hn | hn | hn)
    · exact hn hon
    · exact hn hkind
    · exact hn hact
  · rintro ⟨hlow, hearly⟩
    have := hdue hlow
    omega

theorem hand_stepJudged (ok : Bool) : (f.stepJudged ok).hand.drillStep = f.hand.drillStep + 1 ∧ (f.stepJudged ok).hand.drillOn = f.hand.drillOn ∧
    (f.stepJudged ok).hand.drills = f.hand.drills := by
  cases ok with
  | true => exact ⟨rfl, rfl, rfl⟩
  | false =>
    have hfails : (f.stepFails f.hand).drillStep = f.hand.drillStep ∧ (f.stepFails f.hand).drillOn = f.hand.drillOn ∧
        (f.stepFails f.hand).drills = f.hand.drills := by
      unfold stepFails
      split
      · exact ⟨rfl, rfl, rfl⟩
      · split <;> exact ⟨rfl, rfl, rfl⟩
    exact ⟨congrArg (· + 1) hfails.1, hfails.2⟩

theorem tbusFail_stepJudged (hlow : f.hand.drillStep < 8) : (f.stepJudged true).hand.tbusFail = f.hand.tbusFail ∧
    (f.stepJudged false).hand.tbusFail = Nat.lor f.hand.tbusFail (2 ^ f.hand.drillStep) :=
  ⟨rfl, congrArg Handover.tbusFail (if_pos hlow)⟩

theorem readbackFail_stepJudged (ok : Bool) (h9 : f.hand.drillStep = 9) :
    (f.stepJudged ok).hand.readbackFail = (f.hand.readbackFail || !ok) := by
  cases ok with
  | true => exact (Bool.or_false _).symm
  | false =>
    have hfails : f.stepFails f.hand = { f.hand with readbackFail := true } := (if_neg (by omega)).trans (if_neg (by omega))
    exact (congrArg Handover.readbackFail hfails).trans (Bool.or_true _).symm

/-! REVERT_EXPIRY (R379). -/

theorem isActive_of_reverting (h : f.reverting = true) : f.isActive = true := by
  simp only [reverting, Bool.and_eq_true] at h
  tauto

/-- The counters of the pair once a read has cleared them (R384). -/
theorem twinCnt_clearTwinCnt (f : FieldDie) : f.clearTwinCnt.twinCnt = 0 := by
  have hzero : pack [(16, 0), (8, 0), (0, 0)] = 0 := by decide
  exact hzero

theorem twinReg_cnt (v : Variant) (f : FieldDie) : (f.twinReg v 0x0B).getD 0 = if f.twin.cfg.pairEn then f.twinCnt else 0 := by
  simp only [twinReg, Option.getD_some]

/-- The device as the revert's handover waits. -/
def revertWaits (f : FieldDie) : FieldDie :=
  (f.raise 229 2).modHand fun h => { h with wait := h.wait ++ [(f.tick.tb, none)], revTicks := 0 }

end FieldDie

namespace Machine

variable {s : State}

theorem handoverRelease_law (s : State) : ∃ t, exec .handoverRelease s = .next t ∧ fieldOnly s t ∧
    (s.chip.field.hand.cold = none → (s.chip.field.hand.asking = true → s.chip.field.hand.acked = true →
        s.chip.field.hand.switchEdge = s.chip.field.tick.tb + 1 →
        t.chip.field.twin = { s.chip.field.twin with activeN := false, sampling := false } ∧ t.chip.field.driving = false ∧
        t.chip.field.brk.pfwLand = Tab.fill 8 false ∧ t.chip.field.hand = { s.chip.field.hand with released := true }) ∧
      (s.chip.field.hand.asking = false ∨ s.chip.field.hand.acked = false ∨
        s.chip.field.hand.switchEdge ≠ s.chip.field.tick.tb + 1 → t = s)) ∧
    (∀ r, s.chip.field.hand.cold = some r → t.chip.field.twin.role = 1 ∧ t.chip.field.twin.activeN = false ∧
      t.chip.field.twin.gaveUp = true ∧ t.chip.field.hand.cold = none) := by
  refine ⟨s.onField FieldDie.handRelease, rfl, rfl, fun hcold => ⟨fun hask hack hedge => ?_, fun hno => ?_⟩, fun r hcold => ?_⟩
  · have htwin := FieldDie.releaseActive_twin s.chip.field
    rw [State.onField_field, FieldDie.handRelease_due hcold hask hack hedge]
    refine ⟨htwin, FieldDie.driving_of_activeN_false ?_, FieldDie.pfwLand_releaseActive _, ?_⟩
    · exact (congrArg Twin.activeN htwin).trans rfl
    · exact congrArg (fun h : Handover => { h with released := true }) (FieldDie.releaseActive_hand s.chip.field)
  · exact State.onField_eq_self (FieldDie.handRelease_not hcold hno)
  · exact FieldDie.handRelease_cold hcold

theorem handoverSwitchEdge_law (p : Bool) (s : State) : ∃ t, exec (.handoverSwitchEdge p) s = .next t ∧ fieldOnly s t ∧
    (s.chip.field.hand.phase = 0 ∨ s.chip.field.hand.phase = 5 ∨ s.chip.field.tick.tb < s.chip.field.hand.switchEdge ∨
      s.chip.field.power.winter = true → t = s) ∧
    (s.chip.field.power.winter = false → s.chip.field.hand.phase ≠ 0 → s.chip.field.hand.phase ≠ 5 → s.chip.field.hand.switchEdge ≤ s.chip.field.tick.tb →
      (s.chip.field.hand.asking = true → s.chip.field.hand.acked = true → t.chip.field.twin.role = 1 ∧ t.chip.field.twin.activeN = false ∧
        t.chip.field.twin.epoch = s.chip.field.hand.newEpoch ∧ t.chip.field.hand.outcome = 1 ∧ t.chip.field.hand.wait = []) ∧
      (s.chip.field.hand.asking = true → s.chip.field.hand.acked = false → t.chip.field.twin.role = s.chip.field.twin.role ∧
        t.chip.field.twin.epoch = s.chip.field.twin.epoch ∧ t.chip.field.hand.outcome = 2) ∧
      (s.chip.field.hand.asking = false → s.chip.field.hand.phase ≠ 4 → t.chip.field.twin.role = s.chip.field.twin.role ∧
        t.chip.field.twin.epoch = s.chip.field.twin.epoch ∧ t.chip.field.hand.outcome = 2) ∧
      (s.chip.field.hand.asking = false → s.chip.field.hand.phase = 4 → s.chip.field.hand.tries < 3 →
        t.chip.field.twin.epoch = s.chip.field.hand.newEpoch ∧
        (p = true → t.chip.field.twin.role = 2 ∧ t.chip.field.twin.activeN = true ∧ t.chip.field.hand.outcome = 1) ∧
        (p = false → t.chip.field.twin.role = s.chip.field.twin.role ∧ t.chip.field.hand.tries = s.chip.field.hand.tries + 1))) := by
  refine ⟨s.onField fun f => f.switchEdge s.chip.variant p, rfl, rfl, fun hno => State.onField_eq_self (FieldDie.switchEdge_not _ _ hno),
    fun hwinter h0 h5 hedge => ?_⟩
  have hdue : s.chip.field.switchDue := ⟨h0, h5, hedge, hwinter⟩
  have ⟨hrole, hepoch, _⟩ := FieldDie.twin_handEnd (f := s.chip.field) (outcome := 2) (st := .aborted) (moved := false)
  rw [State.onField_field]
  refine ⟨fun hask hack => ?_, fun hask hack => ?_, fun hask hphase => ?_, fun hask hphase htries => ?_⟩
  · have ⟨hrole, hactive, hepoch⟩ := FieldDie.twin_handGave s.chip.field
    rw [FieldDie.switchEdge_gives _ p hdue hask hack]
    exact ⟨hrole, hactive, hepoch, FieldDie.hand_handGave _⟩
  · rw [FieldDie.switchEdge_ends _ p hdue (.inl ⟨hask, hack⟩)]
    exact ⟨hrole, hepoch, FieldDie.outcome_handEnd⟩
  · rw [FieldDie.switchEdge_ends _ p hdue (.inr ⟨hask, hphase⟩)]
    exact ⟨hrole, hepoch, FieldDie.outcome_handEnd⟩
  · cases p with
    | true =>
      have ⟨hrole, hactive, hepoch⟩ := FieldDie.twin_handTook s.chip.variant
        (s.chip.field.modTwin fun t => { t with epoch := s.chip.field.hand.newEpoch })
      rw [FieldDie.switchEdge_takes _ hdue hask hphase htries]
      exact ⟨hepoch, fun _ => ⟨hrole, hactive, FieldDie.outcome_handTook _ _⟩, nofun⟩
    | false =>
      rw [FieldDie.switchEdge_waits _ hdue hask hphase htries]
      exact ⟨rfl, nofun, fun _ => ⟨rfl, rfl⟩⟩

theorem handoverAssertFail_law (s : State) : ∃ t, exec .handoverAssertFail s = .next t ∧ fieldOnly s t ∧
    t.chip.field.twin.role = s.chip.field.twin.role ∧
    (s.chip.field.hand.phase ≠ 4 ∨ s.chip.field.hand.asking = true ∨ s.chip.field.hand.tries < 3 → t = s) ∧
    (s.chip.field.hand.phase = 4 → s.chip.field.hand.asking = false → 3 ≤ s.chip.field.hand.tries →
      t.chip.field.hand.phase = 0 ∧ t.chip.field.hand.outcome = 4 ∧ fieldEvent s 230 1 ∈ t.chip.field.fcol.arisen) := by
  by_cases hdue : s.chip.field.hand.phase = 4 ∧ ¬ s.chip.field.hand.asking = true ∧ 3 ≤ s.chip.field.hand.tries
  · have hexec : exec .handoverAssertFail s = .next (s.onField fun f => (f.raise 230 1).handEnd 4 .aborted true) :=
      congrArg Host.Outcome.next (State.onField_due (p := fun f : FieldDie => f.hand.phase = 4 ∧ ¬ f.hand.asking = true ∧ 3 ≤ f.hand.tries) hdue)
    refine ⟨_, hexec, rfl, FieldDie.twin_handEnd.1, fun hno => ?_, fun _ _ _ => ⟨?_, FieldDie.outcome_handEnd, FieldDie.arisen_handEnd ?_⟩⟩
    · obtain ⟨h4, hask, htries⟩ := hdue
      rcases hno with hno | hno | hno
      · exact absurd h4 hno
      · exact absurd hno hask
      · omega
    · exact FieldDie.phase_handEnd_moved
    · exact List.mem_append_right _ (List.mem_singleton_self _)
  · have hexec : exec .handoverAssertFail s = .next s :=
      congrArg Host.Outcome.next (State.onField_not (p := fun f : FieldDie => f.hand.phase = 4 ∧ ¬ f.hand.asking = true ∧ 3 ≤ f.hand.tries) hdue)
    exact ⟨s, hexec, rfl, rfl, fun _ => rfl, fun h4 hask htries => absurd ⟨h4, by simp [hask], htries⟩ hdue⟩

/-- The condition of a revert (R379). -/
abbrev revertDue (f : FieldDie) : Prop := f.reverting = true ∧ 40000 * f.twin.cfg.revertDly ≤ f.hand.revTicks

theorem exec_revertExpiry_due (h : revertDue s.chip.field) : exec .revertExpiry s = .next (s.onField fun f =>
    if f.revertWaits.hand.phase = 0 ∨ f.revertWaits.hand.phase = 5 then f.revertWaits.handNext else f.revertWaits) :=
  congrArg Host.Outcome.next (State.onField_due (p := revertDue) h)

theorem exec_revertExpiry_not (h : ¬ revertDue s.chip.field) : exec .revertExpiry s = .next s :=
  congrArg Host.Outcome.next (State.onField_not (p := revertDue) h)

theorem revertExpiry_law (s : State) : ∃ t, exec .revertExpiry s = .next t ∧ fieldOnly s t ∧ t.chip.field.twin = s.chip.field.twin ∧
    (s.chip.field.reverting = false ∨ s.chip.field.hand.revTicks < 40000 * s.chip.field.twin.cfg.revertDly → t = s) ∧
    (s.chip.field.reverting = true → 40000 * s.chip.field.twin.cfg.revertDly ≤ s.chip.field.hand.revTicks →
      t.chip.field.fcol.arisen = s.chip.field.fcol.arisen ++ [fieldEvent s 229 2] ∧
      (s.chip.field.hand.phase = 0 → s.chip.field.hand.wait = [] →
        t.chip.field.hand.phase = 1 ∧ t.chip.field.hand.stamp = s.chip.field.tick.tb)) := by
  by_cases hdue : revertDue s.chip.field
  · refine ⟨_, exec_revertExpiry_due hdue, rfl, ?_, fun hno => ?_, fun _ _ => ⟨?_, fun h0 hwait => ?_⟩⟩
    · rw [State.onField_field]
      split
      · exact FieldDie.handNext_twin _
      · rfl
    · obtain ⟨hrev, hlong⟩ := hdue
      rcases hno with hno | hno
      · exact absurd (hno.symm.trans hrev) (by decide)
      · omega
    · rw [State.onField_field]
      split
      · rw [FieldDie.handNext_fcol]
        rfl
      · rfl
    · have hact : s.chip.field.revertWaits.isActive = true := FieldDie.isActive_of_reverting hdue.1
      have hone : s.chip.field.revertWaits.hand.wait = [(s.chip.field.tick.tb, none)] := congrArg (· ++ [(s.chip.field.tick.tb, none)]) hwait
      have hfree : s.chip.field.revertWaits.hand.phase = 0 := h0
      rw [State.onField_field, if_pos (Or.inl hfree), FieldDie.handNext_one hact hone]
      exact ⟨rfl, rfl⟩
  · refine ⟨s, exec_revertExpiry_not hdue, rfl, rfl, fun _ => rfl, fun hrev hlong => absurd ⟨hrev, hlong⟩ hdue⟩

theorem drillStep_law (ok : Bool) (s : State) : ∃ t, exec (.drillStep ok) s = .next t ∧ fieldOnly s t ∧
    (s.chip.field.hand.drillOn = false ∨ s.chip.field.hand.drillKind ≠ 0 ∨ s.chip.field.isActive = false → t = s) ∧
    (s.chip.field.hand.drillOn = true → s.chip.field.hand.drillKind = 0 → s.chip.field.isActive = true →
      (s.chip.field.hand.drillStep < 8 → s.chip.field.hand.drillAt + 40 * s.chip.field.hand.drillStep ≤ s.chip.field.tick.tb →
        t.chip.field.hand.drillStep = s.chip.field.hand.drillStep + 1 ∧ t.chip.field.hand.drillOn = true ∧
        (ok = true → t.chip.field.hand.tbusFail = s.chip.field.hand.tbusFail) ∧
        (ok = false → t.chip.field.hand.tbusFail = Nat.lor s.chip.field.hand.tbusFail (2 ^ s.chip.field.hand.drillStep))) ∧
      (s.chip.field.hand.drillStep = 9 → t.chip.field.hand.drillOn = false ∧ t.chip.field.hand.readbackFail = (s.chip.field.hand.readbackFail || !ok) ∧
        t.chip.field.hand.drills = satN 16 (s.chip.field.hand.drills + 1))) := by
  refine ⟨s.onField fun f => f.drillNext ok, rfl, rfl, fun hno => State.onField_eq_self (FieldDie.drillNext_not ok hno), fun hon hkind hact => ?_⟩
  have ⟨hstep, hdrill, hcount⟩ := FieldDie.hand_stepJudged (f := s.chip.field) ok
  rw [State.onField_field]
  refine ⟨fun hlow hdue => ?_, fun h9 => ?_⟩
  · have hgoes : ¬ (s.chip.field.stepJudged ok).hand.drillStep = 10 := by omega
    rw [FieldDie.drillNext_due ok hon hkind hact fun _ => hdue, if_neg hgoes]
    have ⟨hpass, hfail⟩ := FieldDie.tbusFail_stepJudged hlow
    refine ⟨hstep, hdrill.trans hon, fun hok => ?_, fun hok => ?_⟩
    · rw [hok]
      exact hpass
    · rw [hok]
      exact hfail
  · have hends : (s.chip.field.stepJudged ok).hand.drillStep = 10 := by omega
    rw [FieldDie.drillNext_due ok hon hkind hact fun hlow => absurd h9 (by omega), if_pos hends, FieldDie.drillEnd_hand]
    exact ⟨rfl, FieldDie.readbackFail_stepJudged ok h9, congrArg (fun n => satN 16 (n + 1)) hcount⟩

/-- The end of a DRILL's hold (R381). -/
abbrev holdDue (f : FieldDie) : Prop := f.hand.drillOn = true ∧ f.hand.drillKind = 1 ∧ ¬ f.hand.drillBack = true ∧ f.isStandby = true ∧
  f.hand.drillAt + f.hand.drillHold ≤ f.tick.tb

theorem drillHoldEnd_law (s : State) : ∃ t, exec .drillHoldEnd s = .next t ∧ fieldOnly s t ∧
    (s.chip.field.hand.drillOn = true → s.chip.field.hand.drillKind = 1 → s.chip.field.hand.drillBack = false → s.chip.field.isStandby = true →
      s.chip.field.hand.drillAt + s.chip.field.hand.drillHold ≤ s.chip.field.tick.tb → t.chip.field.hand.drillBack = true ∧
      t.chip.field.hand.swap = some { newEpoch := s.chip.field.twin.epoch, stamp := s.chip.field.tick.tb, switchEdge := 0 }) ∧
    (s.chip.field.hand.drillOn = false ∨ s.chip.field.hand.drillKind ≠ 1 ∨ s.chip.field.hand.drillBack = true ∨ s.chip.field.isStandby = false →
      t = s) := by
  by_cases hdue : holdDue s.chip.field
  · have hexec : exec .drillHoldEnd s = .next (s.onField fun f => f.modHand fun h => { h with
        drillBack := true, swap := some { newEpoch := f.twin.epoch, stamp := f.tick.tb, switchEdge := 0 } }) :=
      congrArg Host.Outcome.next (State.onField_due (p := holdDue) hdue)
    refine ⟨_, hexec, rfl, fun _ _ _ _ _ => ⟨rfl, rfl⟩, fun hno => ?_⟩
    obtain ⟨hon, hkind, hback, hstandby, _⟩ := hdue
    simp [hon, hkind, hback, hstandby] at hno
  · refine ⟨s, congrArg Host.Outcome.next (State.onField_not (p := holdDue) hdue), rfl, fun hon hkind hback hstandby hlate => ?_, fun _ => rfl⟩
    exact absurd ⟨hon, hkind, by simp [hback], hstandby, hlate⟩ hdue

theorem twinCntRead_law (s : State) : ∃ t, exec .twinCntRead s = .next t ∧ t.chip.host = s.chip.host ∧
    t.chip.readData = [if s.chip.field.twin.cfg.pairEn then s.chip.field.twinCnt else 0] ∧ t.chip.field.twinCnt = 0 :=
  ⟨_, rfl, rfl, congrArg (fun w : Word => [w]) (FieldDie.twinReg_cnt _ _), FieldDie.twinCnt_clearTwinCnt _⟩

/-- Settles O40: the release, the switch edge and its failures, the revert, and the steps of a DRILL. -/
theorem handoverSwitchesTheRole : Obligations.HandoverSwitchesTheRole :=
  ⟨handoverRelease_law, handoverSwitchEdge_law, handoverAssertFail_law, revertExpiry_law, drillStep_law, drillHoldEnd_law, twinCntRead_law⟩

end Machine
end Sys2Proof

/-! Roles (14 R355 to R358, R369 to R374): what the sessions and the pair write when a device takes or leaves the active role. -/

namespace Sys2Proof

namespace FieldDie

/-- A property that slots, completions, events and vectors do not touch. -/
structure Apart (P : FieldDie → Prop) : Prop where
  modSl : ∀ f k g, P f → P (f.modSl k g)
  complete : ∀ f r st n, P f → P (f.complete r st n)
  raise : ∀ f src code n, P f → P (f.raise src code n)
  vector : ∀ f n, P f → P (f.vector n)

namespace Apart

variable {P : FieldDie → Prop} (hP : Apart P) {f : FieldDie} {k : Nat}

include hP

theorem foldl_complete {st : Request → Status} {n : Request → Nat} (rs : List Request) (hf : P f) :
    P (rs.foldl (fun f r => f.complete r (st r) (n r)) f) :=
  List.foldlRecOn rs _ hf fun g hg r _ => hP.complete g r (st r) (n r) hg

theorem sessEvent {src code n : Nat} (hf : P f) : P (f.sessEvent k src code n) := hP.vector _ _ (hP.raise _ _ _ _ hf)

theorem insEvent {src code : Nat} (hf : P f) : P (f.insEvent k src code) := hP.vector _ _ (hP.raise _ _ _ _ hf)

theorem abandon (hf : P f) : P (f.abandon k) := hP.modSl _ _ _ (hP.foldl_complete (st := fun _ => .aborted) (n := fun _ => 0) _ hf)

theorem softStart {cmd : Option Request} (hf : P f) : P (f.softStart k cmd) :=
  hP.modSl _ _ _ (hP.modSl _ _ _ (hP.modSl _ _ _ (hP.abandon hf)))

theorem toDisabled (hf : P f) : P (f.toDisabled k) := hP.modSl _ _ _ (hP.abandon hf)

theorem answerHard (hf : P f) : P (f.answerHard k) := by
  unfold FieldDie.answerHard
  extract_lets s cleared disabled
  have hcleared : P cleared := hP.modSl _ _ _ hf
  have hdisabled : P disabled := by
    unfold disabled
    split
    · exact hP.toDisabled hcleared
    · exact hcleared
  exact hP.foldl_complete (st := fun _ => .ok) (n := fun r => if r.opcode = 0x4002 then s.sess.epoch else 0) _ hdisabled

theorem declareHard (hf : P f) : P (f.declareHard k) := by
  unfold FieldDie.declareHard
  extract_lets counted told quiet reset
  have htold : P told := hP.sessEvent (hP.modSl _ _ _ hf)
  split
  · exact htold
  · exact hP.answerHard (hP.modSl _ _ _ (hP.modSl _ _ _ (hP.modSl _ _ _ (hP.abandon htold))))

theorem hardFail (hf : P f) : P (f.hardFail k) := by
  unfold FieldDie.hardFail
  extract_lets n counted cmds disabled answered
  have hcounted : P counted := hP.modSl _ _ _ hf
  split
  · exact hP.sessEvent (hP.foldl_complete (st := fun r => if r.opcode = 0x4004 then .ok else .aborted) (n := fun _ => 0) _
      (hP.toDisabled (hP.modSl _ _ _ hcounted)))
  · split
    · exact hP.declareHard hcounted
    · exact hP.modSl _ _ _ hcounted

theorem exchangeLost {fr : Option CtFrame} (hf : P f) : P (f.exchangeLost k fr) := by
  unfold FieldDie.exchangeLost
  extract_lets s gets drop answered dropped
  have hdropped : P dropped := hP.modSl _ _ _ (hP.foldl_complete (st := fun _ => .timeout) (n := fun _ => 0) _ hf)
  split
  · exact hP.hardFail (hP.abandon hdropped)
  · split
    · exact hP.modSl _ _ _ (hP.abandon hdropped)
    · exact hP.softStart hdropped

theorem sendFailed {fr : CtFrame} (hf : P f) : P (f.sendFailed k fr) := by
  unfold FieldDie.sendFailed
  extract_lets failed queued retried s
  have hfailed : P failed := hP.modSl _ _ _ hf
  split
  · exact hP.exchangeLost (hP.modSl _ _ _ hfailed)
  · have hqueued : P queued := hP.modSl _ _ _ hfailed
    split
    · exact hqueued
    · have hretried : P retried := hP.modSl _ _ _ hqueued
      split
      · exact hP.insEvent (hP.modSl _ _ _ hretried)
      · exact hretried

theorem cutShort (hf : P f) : P (f.cutShort k) := by
  unfold FieldDie.cutShort
  split
  · exact hf
  · extract_lets silent
    split
    · exact hP.modSl _ _ _ hf
    · exact hP.sendFailed (hP.modSl _ _ _ hf)

/-- What a takeover in step does to the lines (10 R278). -/
theorem resume {v : Variant} (hf : P f) : P (f.resume v) := by
  unfold FieldDie.resume
  refine List.foldlRecOn _ _ hf fun g hg k _ => ?_
  extract_lets p cut
  have hcut : P cut := hP.cutShort hg
  split
  · exact hP.modSl _ _ _ hcut
  · exact hcut

end Apart

/-! Taking the active role (R358, R371). -/

theorem coldAll_keeps {α : Type} (p : FieldDie → α) (hmod : ∀ f k g, p (modSl f k g) = p f)
    (hturn : ∀ f : FieldDie, p { f with coldTurn := none } = p f) (v : Variant) (f : FieldDie) : p (f.coldAll v) = p f := by
  refine (hturn _).trans (foldl_keeps p (fun g k => ?_) _ _)
  split
  · rfl
  · exact (hmod _ _ _).trans (hmod _ _ _)

@[simp] theorem coldAll_twin (v : Variant) (f : FieldDie) : (f.coldAll v).twin = f.twin := coldAll_keeps FieldDie.twin (fun _ _ _ => rfl) (fun _ => rfl) v f
@[simp] theorem coldAll_hand (v : Variant) (f : FieldDie) : (f.coldAll v).hand = f.hand := coldAll_keeps FieldDie.hand (fun _ _ _ => rfl) (fun _ => rfl) v f

theorem takeRole_twin (v : Variant) (f : FieldDie) : (f.takeRole v).twin =
    { f.twin with join := 0, inStep := false, twinned := false, role := 2, activeN := true, sampling := true } :=
  (coldAll_twin v _).trans (assertActive_twin v _)

theorem takeRole_hand (v : Variant) (f : FieldDie) : (f.takeRole v).hand = f.hand := (coldAll_hand v _).trans (assertActive_hand v _)

/-- The device holds the active role at an epoch, with its takeovers counted. -/
def holdsRole (epoch takeovers : Nat) (f : FieldDie) : Prop :=
  f.twin.role = 2 ∧ f.twin.activeN = true ∧ f.twin.epoch = epoch ∧ f.hand.takeovers = takeovers

theorem holdsRole_of_bare {epoch n : Nat} {f g : FieldDie} (hbare : f.bare = g.bare) (hhand : f.hand = g.hand) (h : holdsRole epoch n g) :
    holdsRole epoch n f := by
  obtain ⟨hrole, hactive, hepoch, htakeovers⟩ := h
  have ⟨hrole', hepoch', hactive', _⟩ := twin_of_bare_eq hbare
  exact ⟨hrole'.trans hrole, hactive'.trans hactive, hepoch'.trans hepoch, (congrArg Handover.takeovers hhand).trans htakeovers⟩

theorem apart_holdsRole (epoch n : Nat) : Apart (holdsRole epoch n) where
  modSl _ _ _ h := h
  complete f r st x h := holdsRole_of_bare (bare_complete f r st x 0 []) (complete_hand f r st x 0 []) h
  raise _ _ _ _ h := h
  vector f x h := holdsRole_of_bare (bare_vector f x) (vector_hand f x) h

theorem holdsRole_writeKept {epoch n : Nat} {f : FieldDie} (h : holdsRole epoch n f) : holdsRole epoch n f.writeKept := h

theorem takeovers_handNext (f : FieldDie) : f.handNext.hand.takeovers = f.hand.takeovers := by
  unfold handNext
  split
  · rfl
  · split <;> rfl

theorem takeovers_handEnd {f : FieldDie} {outcome : Nat} {st : Status} {moved : Bool} :
    (f.handEnd outcome st moved).hand.takeovers = f.hand.takeovers :=
  handEnd_view (fun g => g.hand.takeovers) (fun g _ _ _ => congrArg Handover.takeovers (complete_hand g _ _ _ _ _))
    (fun _ => (congrArg Handover.takeovers (drillEnd_hand _ _)).trans rfl) fun _ g => takeovers_handNext g

/-- The device at the edge at which it takes over, its handover ended (R377). -/
def handoverVoid (f : FieldDie) : FieldDie := if f.hand.phase = 0 ∨ f.hand.phase = 5 then f else f.handEnd 2 .aborted true

theorem epoch_handoverVoid (f : FieldDie) : f.handoverVoid.twin.epoch = f.twin.epoch ∧ f.handoverVoid.hand.takeovers = f.hand.takeovers := by
  unfold handoverVoid
  split
  · exact ⟨rfl, rfl⟩
  · exact ⟨twin_handEnd.2.1, takeovers_handEnd⟩

/-- The device with its takeover counted and reported. -/
def takesOver (v : Variant) (f : FieldDie) : FieldDie :=
  (((f.handoverVoid.modTwin fun t => { t with epoch := (t.epoch + 1) % 65536, tookOver := true }).assertActive v).modHand
    fun h => { h with takeovers := satN 8 (h.takeovers + 1) }).raise 224 1 |>.vector 34

theorem takeover_eq (v : Variant) (f : FieldDie) : f.takeover v =
    (if f.twin.inStep then resume v ((f.takesOver v).modTwin fun t => { t with inStep := false, twinned := false, join := 0 })
      else takeRole v (f.takesOver v)).writeKept := rfl

/-- A takeover counted and reported on a device that holds the role. -/
theorem holdsRole_counted {epoch n : Nat} {g : FieldDie} (h : holdsRole epoch n g) :
    holdsRole epoch (satN 8 (n + 1)) (((g.modHand fun h => { h with takeovers := satN 8 (h.takeovers + 1) }).raise 224 1).vector 34) := by
  obtain ⟨hrole, hactive, hepoch, htakeovers⟩ := h
  exact (apart_holdsRole _ _).vector _ _ ((apart_holdsRole _ _).raise _ _ _ _
    ⟨hrole, hactive, hepoch, congrArg (fun n => satN 8 (n + 1)) htakeovers⟩)

theorem holdsRole_assertActive {epoch n : Nat} {v : Variant} {g : FieldDie} (hepoch : g.twin.epoch = epoch) (htakeovers : g.hand.takeovers = n) :
    holdsRole epoch n (g.assertActive v) := by
  unfold holdsRole
  rw [assertActive_twin, assertActive_hand]
  exact ⟨rfl, rfl, hepoch, htakeovers⟩

theorem holdsRole_takesOver (v : Variant) (f : FieldDie) :
    holdsRole ((f.twin.epoch + 1) % 65536) (satN 8 (f.hand.takeovers + 1)) (f.takesOver v) := by
  have ⟨hepoch, htakeovers⟩ := epoch_handoverVoid f
  exact holdsRole_counted (holdsRole_assertActive (congrArg (fun e => (e + 1) % 65536) hepoch) htakeovers)

/-- A takeover leaves the device in the active role, at the next epoch (R371, R373). -/
theorem holdsRole_takeover (v : Variant) (f : FieldDie) :
    holdsRole ((f.twin.epoch + 1) % 65536) (satN 8 (f.hand.takeovers + 1)) (f.takeover v) := by
  have h := holdsRole_takesOver v f
  rw [takeover_eq]
  refine holdsRole_writeKept ?_
  split
  · exact (apart_holdsRole _ _).resume h
  · obtain ⟨_, _, hepoch, htakeovers⟩ := h
    exact ⟨congrArg Twin.role (takeRole_twin v _), congrArg Twin.activeN (takeRole_twin v _),
      ((congrArg Twin.epoch (takeRole_twin v _)).trans rfl).trans hepoch, (congrArg Handover.takeovers (takeRole_hand v _)).trans htakeovers⟩

end FieldDie
end Sys2Proof

namespace Sys2Proof

namespace FieldDie

variable {f : FieldDie} {v : Variant}

/-! ROLE_DECISION (R357, R358). -/

/-- Whether the role is still to be decided. -/
def undecided (f : FieldDie) : Prop := f.twin.role = 0 ∧ f.running = true ∧ f.power.winter = false

/-- The device as it becomes a standby (R358). -/
def standsBy (f : FieldDie) : FieldDie := f.modTwin fun t => { t with role := 1, leftAt := f.tick.tb }

theorem roleDecision_decided (h : f.twin.role ≠ 0 ∨ f.running = false ∨ f.power.winter = true) : f.roleDecision v = f := by
  refine if_pos ?_
  rcases h with h | h | h
  · exact .inl h
  · exact .inr (.inl (by simp [h]))
  · exact .inr (.inr h)

/-- What is decided, by the pair, the peer's line and its heartbeats. -/
theorem roleDecision_undecided (h : f.undecided) : f.roleDecision v =
    if ¬ f.twin.cfg.pairEn then
      if f.twin.peerActive then (if f.twin.linkTold then f else (f.modTwin (fun t => { t with linkTold := true })).raise 226 1)
      else if f.cfg.loaded then takeRole v f else f
    else if f.twin.peerActive then
      if f.linkUp then f.standsBy.joinBegin else f.standsBy.raise 225 2
    else if f.beatFresh ∧ f.peerIs (·.role == 1) then f.standsBy.joinBegin
    else if f.beatFresh ∧ f.cfg.loaded ∧ f.peerIs (·.health1 5) then takeRole v f
    else if f.beatFresh ∧ f.cfg.loaded ∧ ¬ f.twin.twinB ∧ f.peerIs (·.role == 0) then takeRole v f
    else if ¬ f.beatFresh ∧ f.cfg.loaded ∧ 400 * f.twin.cfg.roleWait ≤ f.twin.waitTicks then takeRole v f
    else f := by
  obtain ⟨hrole, hrun, hwinter⟩ := h
  refine if_neg ?_
  rintro (hn | hn | hn)
  · exact hn hrole
  · exact hn hrun
  · exact absurd (hwinter.symm.trans hn) (by decide)

theorem roleDecision_alone (h : f.undecided) (hpair : f.twin.cfg.pairEn = false) (hpeer : f.twin.peerActive = false) (hloaded : f.cfg.loaded = true) :
    f.roleDecision v = takeRole v f := by
  simp [roleDecision_undecided h, hpair, hpeer, hloaded]

theorem roleDecision_foreign (h : f.undecided) (hpair : f.twin.cfg.pairEn = false) (hpeer : f.twin.peerActive = true) :
    (f.roleDecision v).twin.role = 0 ∧ (f.roleDecision v).twin.activeN = f.twin.activeN := by
  have hrole := h.1
  rw [roleDecision_undecided h, if_pos (by simp [hpair]), if_pos hpeer]
  split
  · exact ⟨hrole, rfl⟩
  · exact ⟨hrole, rfl⟩

theorem roleDecision_joins (h : f.undecided) (hpair : f.twin.cfg.pairEn = true) (hpeer : f.twin.peerActive = true) (hlink : f.linkUp = true) :
    f.roleDecision v = f.standsBy.joinBegin := by
  simp [roleDecision_undecided h, hpair, hpeer, hlink]

theorem roleDecision_unlinked (h : f.undecided) (hpair : f.twin.cfg.pairEn = true) (hpeer : f.twin.peerActive = true) (hlink : f.linkUp = false) :
    f.roleDecision v = f.standsBy.raise 225 2 := by
  simp [roleDecision_undecided h, hpair, hpeer, hlink]

theorem roleDecision_silent (h : f.undecided) (hpair : f.twin.cfg.pairEn = true) (hpeer : f.twin.peerActive = false) (hfresh : f.beatFresh = false)
    (hloaded : f.cfg.loaded = true) :
    f.roleDecision v = if 400 * f.twin.cfg.roleWait ≤ f.twin.waitTicks then takeRole v f else f := by
  simp [roleDecision_undecided h, hpair, hpeer, hfresh, hloaded]

/-! TWIN_TAKEOVER (R371). -/

theorem twinTakeover_not (h : f.running = false ∨ f.twin.cfg.pairEn = false ∨ f.isStandby = false ∨ f.power.winter = true) :
    f.twinTakeover v = f := by
  refine if_pos ?_
  rcases h with h | h | h | h
  · exact .inl (by simp [h])
  · exact .inr (.inl (by simp [h]))
  · exact .inr (.inr (.inl (by simp [h])))
  · exact .inr (.inr (.inr (.inl h)))

/-- A standby that has missed its peer's heartbeats, in no WINTER. -/
def peerMissed (f : FieldDie) : Prop :=
  f.running = true ∧ f.twin.cfg.pairEn = true ∧ f.isStandby = true ∧ f.power.winter = false ∧ 2 ≤ f.twin.missRun

theorem twinTakeover_missed (h : f.peerMissed) : f.twinTakeover v =
    if f.twin.peerActive then
      (if f.twin.linkTold then f else (f.modTwin (fun t => { t with linkTold := true })).raise 225 2).leaveStep
    else if ¬ f.cfg.loaded then f
    else takeover v f := by
  obtain ⟨hrun, hpair, hstandby, hwinter, hmiss⟩ := h
  refine if_neg ?_
  rintro (hn | hn | hn | hn | hn)
  · exact hn hrun
  · exact hn hpair
  · exact hn hstandby
  · exact absurd (hwinter.symm.trans hn) (by decide)
  · exact hn (.inl hmiss)

theorem role_leaveStep (f : FieldDie) : f.leaveStep.twin.role = f.twin.role ∧ f.leaveStep.twin.activeN = f.twin.activeN := by
  unfold leaveStep
  split
  · rw [vector_twin]
    exact ⟨rfl, rfl⟩
  · exact ⟨rfl, rfl⟩

theorem twinTakeover_held (h : f.peerMissed) (hpeer : f.twin.peerActive = true) : (f.twinTakeover v).twin.role = 1 ∧
    (f.twinTakeover v).twin.activeN = f.twin.activeN ∧ (f.twinTakeover v).twin.inStep = false := by
  have hstandby : f.isStandby = true := h.2.2.1
  rw [twinTakeover_missed h, if_pos hpeer]
  split
  · have ⟨hrole, hactive⟩ := role_leaveStep f
    exact ⟨hrole.trans (role_of_standby hstandby), hactive, inStep_leaveStep hstandby⟩
  · have ⟨hrole, hactive⟩ := role_leaveStep ((f.modTwin fun t => { t with linkTold := true }).raise 225 2)
    exact ⟨hrole.trans (role_of_standby hstandby), hactive, inStep_leaveStep hstandby⟩

theorem twinTakeover_takes (h : f.peerMissed) (hpeer : f.twin.peerActive = false) (hloaded : f.cfg.loaded = true) :
    f.twinTakeover v = takeover v f := by
  simp [twinTakeover_missed h, hpeer, hloaded]

/-! TWIN_PEER_LOST (R374, R377). -/

theorem peerLost_not (h : f.isActive = false ∨ f.twin.missRun < 2) : f.peerLost = f := by
  refine if_neg ?_
  rintro ⟨hact, hmiss, _⟩
  rcases h with h | h
  · exact absurd (h.symm.trans hact) (by decide)
  · omega

/-- The device as it finds its peer lost (R374). -/
def peerGone (f : FieldDie) : FieldDie := ((f.modTwin fun t => { t with inStep := false, twinned := false, diffRun := 0 }).raise 225 1).vector 34

/-- A handover that awaits the peer's acknowledgement ends with the peer (R377). -/
def lostHandover (f : FieldDie) : FieldDie := if f.hand.asking ∧ ¬ f.hand.acked then f.handEnd 2 .aborted false else f

theorem peerLost_due (h : f.isActive ∧ 2 ≤ f.twin.missRun ∧ (f.twin.inStep ∨ f.twin.twinned)) : f.peerLost =
    if f.peerGone.lostHandover.hand.drillOn then f.peerGone.lostHandover.drillEnd .aborted else f.peerGone.lostHandover := if_pos h

theorem bare_lostHandover (f : FieldDie) : f.lostHandover.bare = f.bare := by
  unfold lostHandover
  split
  · exact bare_handEnd
  · rfl

theorem arisen_lostHandover {e : Event} (h : e ∈ f.fcol.arisen) : e ∈ f.lostHandover.fcol.arisen := by
  unfold lostHandover
  split
  · exact arisen_handEnd h
  · exact h

theorem bare_peerLost (h : f.isActive ∧ 2 ≤ f.twin.missRun ∧ (f.twin.inStep ∨ f.twin.twinned)) : f.peerLost.bare = f.peerGone.bare := by
  rw [peerLost_due h]
  split
  · exact (bare_drillEnd _ _).trans (bare_lostHandover _)
  · exact bare_lostHandover _

theorem arisen_peerLost (h : f.isActive ∧ 2 ≤ f.twin.missRun ∧ (f.twin.inStep ∨ f.twin.twinned)) :
    ({ tb := f.tick.tb, fine := f.tick.fine, src := 225, code := 1, value := 0 } : Event) ∈ f.peerLost.fcol.arisen := by
  have hgone : ({ tb := f.tick.tb, fine := f.tick.fine, src := 225, code := 1, value := 0 } : Event) ∈ f.peerGone.fcol.arisen := by
    rw [peerGone, vector_fcol]
    exact List.mem_append_right _ (List.mem_singleton_self _)
  rw [peerLost_due h]
  split
  · rw [drillEnd_fcol]
    exact arisen_lostHandover hgone
  · exact arisen_lostHandover hgone

theorem twin_peerGone (f : FieldDie) : f.peerGone.twin.role = f.twin.role ∧ f.peerGone.twin.inStep = false := by
  rw [peerGone, vector_twin]
  exact ⟨rfl, rfl⟩

theorem role_peerLost (f : FieldDie) : f.peerLost.twin.role = f.twin.role := by
  by_cases h : f.isActive ∧ 2 ≤ f.twin.missRun ∧ (f.twin.inStep ∨ f.twin.twinned)
  · exact (twin_of_bare_eq (bare_peerLost h)).1.trans (twin_peerGone f).1
  · exact congrArg (fun g : FieldDie => g.twin.role) (if_neg h : f.peerLost = f)

/-! PEER_ACTIVE_SAMPLE (R355). -/

/-- What a sample of the peer's line writes in every state. -/
def peerSampled (f : FieldDie) (a : Bool) : FieldDie :=
  f.modTwin fun t => { t with peerActive := a, sampling := false, linkTold := t.linkTold && a }

theorem peerSample_clash (hsampling : f.twin.sampling = true) (hb : f.twin.twinB = true) :
    f.peerSample true = (f.peerSampled true).toStandbyOut.raise 226 1 := if_pos ⟨hsampling, rfl, hb⟩

theorem peerSample_calm {a : Bool} (h : f.twin.sampling = false ∨ a = false ∨ f.twin.twinB = false) : f.peerSample a = f.peerSampled a := by
  refine if_neg ?_
  rintro ⟨hsampling, ha, hb⟩
  rcases h with h | h | h
  · exact absurd (h.symm.trans hsampling) (by decide)
  · exact absurd (h.symm.trans ha) (by decide)
  · exact absurd (h.symm.trans hb) (by decide)

theorem peerActive_peerSample (a : Bool) : (f.peerSample a).twin.peerActive = a ∧ (f.peerSample a).twin.sampling = false := by
  by_cases h : f.twin.sampling = true ∧ a = true ∧ f.twin.twinB = true
  · obtain ⟨hsampling, rfl, hb⟩ := h
    rw [peerSample_clash hsampling hb]
    have htwin := toStandbyOut_twin (f.peerSampled true)
    exact ⟨(congrArg Twin.peerActive htwin).trans rfl, (congrArg Twin.sampling htwin).trans rfl⟩
  · have hcalm : f.twin.sampling = false ∨ a = false ∨ f.twin.twinB = false := by
      simp only [not_and_or, Bool.not_eq_true] at h
      exact h
    rw [peerSample_calm hcalm]
    exact ⟨rfl, rfl⟩

/-! JOIN_STEP_END (R369). -/

theorem joinStep_not {o : StepEnd} (h : f.isStandby = false ∨ f.twin.join = 0 ∨ f.running = false) : f.joinStep v o = f := by
  refine if_pos ?_
  rcases h with h | h | h
  · exact .inl (by simp [h])
  · exact .inr (.inl h)
  · exact .inr (.inr (by simp [h]))

/-- A standby that joins. -/
def joining (f : FieldDie) : Prop := f.isStandby = true ∧ f.running = true ∧ f.twin.join ≠ 0

theorem not_idle_of_joining (h : f.joining) : ¬ (¬ f.isStandby = true ∨ f.twin.join = 0 ∨ ¬ f.running = true) := by
  obtain ⟨hstandby, hrun, hjoin⟩ := h
  rintro (hn | hn | hn)
  · exact hn hstandby
  · exact hjoin hn
  · exact hn hrun

/-- The next step of the join. -/
def joinNext (f : FieldDie) : FieldDie := f.modTwin fun t => { t with join := t.join + 1, joinTicks := 0 }

/-- The device in step, as the last step of its join leaves it, before it reports that (R369). -/
def joinedUp (f : FieldDie) : FieldDie := f.modTwin fun t => { t with
  join := 0, inStep := true, twinned := true, diffRun := 0, epoch := match t.beat with | some b => b.epoch | none => t.epoch }

/-- A step of the join that has ended well, by the step (Table 14-4). -/
def stepDone (v : Variant) (f : FieldDie) (n : Nat) : FieldDie :=
  match n with
  | 1 => if f.linkUp ∧ 40 ≤ f.twin.joinBeats then f.joinNext else f
  | 2 =>
    if ¬ f.partMatch v then (f.joinFail).raise 232 1
    else if ¬ f.hfMatch then (f.joinFail).raise 232 2
    else if f.peerIs (fun b => b.role == 1 && !b.health1 0) then f.joinNext else f.joinFail
  | 3 => if f.tick.locked ∨ ¬ f.twin.twinB then (f.modTwin (fun t => { t with adopt := true })).joinNext else f
  | 4 => if f.twin.parts.contains 1 then (f.modTwin (fun t => { t with snapTicks := t.joinTicks })).joinNext else f
  | 5 => f.joinNext
  | _ => if f.twin.joinDigests < 400 then f else ((f.joinedUp.raise 229 1).vector 34).joinDone .ok (fun _ => true)

theorem joinStep_failed (h : f.joining) : f.joinStep v .failed = f.joinFail := if_neg (not_idle_of_joining h)

theorem joinStep_done (h : f.joining) : f.joinStep v .done = f.stepDone v f.twin.join := by
  refine (if_neg (not_idle_of_joining h)).trans ?_
  unfold stepDone joinNext joinedUp
  rfl

theorem twin_joinFail (f : FieldDie) : f.joinFail.twin.role = f.twin.role ∧ f.joinFail.twin.join = 0 ∧ f.joinFail.twin.inStep = f.twin.inStep := by
  unfold joinFail
  dsimp only
  split
  · exact ⟨rfl, rfl, rfl⟩
  · exact ⟨rfl, rfl, rfl⟩

theorem bare_joinDone (f : FieldDie) (st : Status) (pick : Nat → Bool) : (f.joinDone st pick).bare =
    (f.modTwin fun t => { t with joinReqs := t.joinReqs.filter (fun x => !pick x.1) }).bare :=
  foldl_keeps bare (fun g (x : Nat × Request) => bare_complete g x.2 st 0 0 []) _ _

theorem twin_joinDone (f : FieldDie) (st : Status) (pick : Nat → Bool) : (f.joinDone st pick).twin.role = f.twin.role ∧
    (f.joinDone st pick).twin.join = f.twin.join ∧ (f.joinDone st pick).twin.inStep = f.twin.inStep ∧
    (f.joinDone st pick).twin.joinReqs = f.twin.joinReqs.filter (fun x => !pick x.1) := by
  have htwin := congrArg FieldDie.twin (bare_joinDone f st pick)
  exact ⟨(congrArg Twin.role htwin).trans rfl, (congrArg Twin.join htwin).trans rfl, (congrArg Twin.inStep htwin).trans rfl,
    (congrArg Twin.joinReqs htwin).trans rfl⟩

theorem twin_joined (f : FieldDie) : (((f.joinedUp.raise 229 1).vector 34).joinDone .ok (fun _ => true)).twin.role = f.twin.role ∧
    (((f.joinedUp.raise 229 1).vector 34).joinDone .ok (fun _ => true)).twin.join = 0 ∧
    (((f.joinedUp.raise 229 1).vector 34).joinDone .ok (fun _ => true)).twin.inStep = true ∧
    (((f.joinedUp.raise 229 1).vector 34).joinDone .ok (fun _ => true)).twin.joinReqs = [] := by
  have ⟨hrole, hjoin, hstep, hreqs⟩ := twin_joinDone ((f.joinedUp.raise 229 1).vector 34) .ok (fun _ => true)
  rw [hrole, hjoin, hstep, hreqs, vector_twin]
  exact ⟨rfl, rfl, rfl, List.filter_eq_nil_iff.mpr fun x _ => by simp⟩

theorem role_stepDone (n : Nat) : (f.stepDone v n).twin.role = f.twin.role := by
  unfold stepDone
  split
  · split <;> rfl
  · split
    · exact (twin_joinFail f).1
    · split
      · exact (twin_joinFail f).1
      · split
        · rfl
        · exact (twin_joinFail f).1
  · split <;> rfl
  · split <;> rfl
  · rfl
  · split
    · rfl
    · exact (twin_joined f).1

theorem role_joinStep (o : StepEnd) : (f.joinStep v o).twin.role = f.twin.role := by
  by_cases h : f.isStandby = false ∨ f.twin.join = 0 ∨ f.running = false
  · rw [joinStep_not h]
  · have hjoining : f.joining := by
      simp only [not_or, Bool.not_eq_false] at h
      exact ⟨h.1, h.2.2, h.2.1⟩
    cases o with
    | failed => exact (congrArg (fun g : FieldDie => g.twin.role) (joinStep_failed hjoining)).trans (twin_joinFail f).1
    | done => exact (congrArg (fun g : FieldDie => g.twin.role) (joinStep_done hjoining)).trans (role_stepDone _)

end FieldDie
end Sys2Proof

namespace Sys2Proof

namespace FieldDie

variable {f : FieldDie} {v : Variant}

theorem tick_joinFail (f : FieldDie) : f.joinFail.tick = f.tick := by
  unfold joinFail
  dsimp only
  split
  · rfl
  · rfl

theorem stepDone_parts_differ (h : f.partMatch v = false) : f.stepDone v 2 = f.joinFail.raise 232 1 := if_pos (by simp [h])

theorem stepDone_match (hpart : f.partMatch v = true) (hhf : f.hfMatch = true) (hpeer : f.peerIs (fun b => b.role == 1 && !b.health1 0) = true) :
    f.stepDone v 2 = f.joinNext := by
  refine (if_neg ?_).trans ((if_neg ?_).trans (if_pos hpeer))
  · exact fun hn => hn hpart
  · exact fun hn => hn hhf

theorem stepDone_linked (hlink : f.linkUp = true) (hbeats : 40 ≤ f.twin.joinBeats) : f.stepDone v 1 = f.joinNext := if_pos ⟨hlink, hbeats⟩

theorem stepDone_adopts (h : f.tick.locked = true ∨ f.twin.twinB = false) :
    f.stepDone v 3 = (f.modTwin fun t => { t with adopt := true }).joinNext := by
  refine if_pos (h.imp_right fun hb => ?_)
  simp [hb]

theorem stepDone_snapshot (h : 1 ∈ f.twin.parts) :
    f.stepDone v 4 = (f.modTwin fun t => { t with snapTicks := t.joinTicks }).joinNext := if_pos (List.contains_iff_mem.mpr h)

theorem stepDone_short (h : f.twin.joinDigests < 400) : f.stepDone v 6 = f := if_pos h

theorem stepDone_joined (h : 400 ≤ f.twin.joinDigests) :
    f.stepDone v 6 = ((f.joinedUp.raise 229 1).vector 34).joinDone .ok (fun _ => true) := if_neg (Nat.not_lt.mpr h)

/-- Two active devices: twin B gives way (R355). -/
theorem twin_clash (f : FieldDie) : ((f.peerSampled true).toStandbyOut.raise 226 1).twin.role = 1 ∧
    ((f.peerSampled true).toStandbyOut.raise 226 1).twin.activeN = false ∧ ((f.peerSampled true).toStandbyOut.raise 226 1).fcol.arisen =
      f.fcol.arisen ++ [{ tb := f.tick.tb, fine := f.tick.fine, src := 226, code := 1, value := 0 }] := by
  have htwin := toStandbyOut_twin (f.peerSampled true)
  have hcol : (f.peerSampled true).toStandbyOut.fcol = f.fcol := releaseActive_fcol _
  have htick : (f.peerSampled true).toStandbyOut.tick = f.tick := releaseActive_tick _
  refine ⟨(congrArg Twin.role htwin).trans rfl, (congrArg Twin.activeN htwin).trans rfl, ?_⟩
  unfold raise
  dsimp only
  rw [hcol, htick]

end FieldDie

namespace Machine

theorem roleDecision_law (s : State) : ∃ t, exec .roleDecision s = .next t ∧ fieldOnly s t ∧
    (s.chip.field.twin.role ≠ 0 ∨ s.chip.field.running = false ∨ s.chip.field.power.winter = true → t = s) ∧
    (s.chip.field.twin.role = 0 → s.chip.field.running = true → s.chip.field.power.winter = false →
      (s.chip.field.twin.cfg.pairEn = false → s.chip.field.twin.peerActive = false → s.chip.field.cfg.loaded = true →
        t.chip.field.twin.role = 2 ∧ t.chip.field.twin.activeN = true ∧ t.chip.field.twin.sampling = true) ∧
      (s.chip.field.twin.cfg.pairEn = false → s.chip.field.twin.peerActive = true → t.chip.field.twin.role = 0 ∧
        t.chip.field.twin.activeN = s.chip.field.twin.activeN) ∧
      (s.chip.field.twin.cfg.pairEn = true → s.chip.field.twin.peerActive = true → t.chip.field.twin.role = 1 ∧
        t.chip.field.twin.activeN = s.chip.field.twin.activeN ∧ (s.chip.field.linkUp = true → t.chip.field.twin.join = 1) ∧
        (s.chip.field.linkUp = false → t.chip.field.fcol.arisen = s.chip.field.fcol.arisen ++ [fieldEvent s 225 2])) ∧
      (s.chip.field.twin.cfg.pairEn = true → s.chip.field.twin.peerActive = false → s.chip.field.beatFresh = false →
        s.chip.field.cfg.loaded = true → (400 * s.chip.field.twin.cfg.roleWait ≤ s.chip.field.twin.waitTicks →
          t.chip.field.twin.role = 2 ∧ t.chip.field.twin.activeN = true) ∧
        (s.chip.field.twin.waitTicks < 400 * s.chip.field.twin.cfg.roleWait → t = s))) := by
  refine ⟨s.onField fun f => f.roleDecision s.chip.variant, rfl, rfl,
    fun hno => State.onField_eq_self (FieldDie.roleDecision_decided hno), fun hrole hrun hwinter => ?_⟩
  have hund : s.chip.field.undecided := ⟨hrole, hrun, hwinter⟩
  have htakes := FieldDie.takeRole_twin s.chip.variant s.chip.field
  refine ⟨fun hpair hpeer hloaded => ?_, fun hpair hpeer => FieldDie.roleDecision_foreign hund hpair hpeer, fun hpair hpeer => ?_,
    fun hpair hpeer hfresh hloaded => ⟨fun hlong => ?_, fun hshort => State.onField_eq_self ?_⟩⟩
  · rw [State.onField_field, FieldDie.roleDecision_alone hund hpair hpeer hloaded, htakes]
    exact ⟨rfl, rfl, rfl⟩
  · rw [State.onField_field]
    cases hlink : s.chip.field.linkUp with
    | true =>
      rw [FieldDie.roleDecision_joins hund hpair hpeer hlink]
      exact ⟨rfl, rfl, fun _ => rfl, nofun⟩
    | false =>
      rw [FieldDie.roleDecision_unlinked hund hpair hpeer hlink]
      exact ⟨rfl, rfl, nofun, fun _ => rfl⟩
  · rw [State.onField_field, FieldDie.roleDecision_silent hund hpair hpeer hfresh hloaded, if_pos hlong, htakes]
    exact ⟨rfl, rfl⟩
  · exact (FieldDie.roleDecision_silent hund hpair hpeer hfresh hloaded).trans (if_neg (Nat.not_le.mpr hshort))

theorem heartbeatMissed_law (s : State) : ∃ t, exec .heartbeatMissed s = .next t ∧ fieldOnly s t ∧
    (s.chip.field.twin.cfg.pairEn = false ∨ s.chip.field.running = false ∨ s.chip.field.twin.hbSeen = true → t = s) ∧
    (s.chip.field.twin.cfg.pairEn = true → s.chip.field.running = true → s.chip.field.twin.hbSeen = false →
      t.chip.field = { s.chip.field with twin := { s.chip.field.twin with
        hbMiss := satN 8 (s.chip.field.twin.hbMiss + 1), missRun := s.chip.field.twin.missRun + 1 } }) := by
  refine ⟨s.onField FieldDie.heartbeatMissed, rfl, rfl, fun hno => State.onField_eq_self (if_pos ?_), fun hpair hrun hseen => ?_⟩
  · rcases hno with h | h | h <;> simp [h]
  · exact if_neg (by simp [hpair, hrun, hseen])

theorem twinTakeover_law (s : State) : ∃ t, exec .twinTakeover s = .next t ∧ fieldOnly s t ∧
    (s.chip.field.running = false ∨ s.chip.field.twin.cfg.pairEn = false ∨ s.chip.field.isStandby = false ∨
      s.chip.field.power.winter = true → t = s) ∧
    (s.chip.field.running = true → s.chip.field.twin.cfg.pairEn = true → s.chip.field.isStandby = true →
      s.chip.field.power.winter = false → 2 ≤ s.chip.field.twin.missRun →
      (s.chip.field.twin.peerActive = true → t.chip.field.twin.role = 1 ∧ t.chip.field.twin.activeN = s.chip.field.twin.activeN ∧
        t.chip.field.twin.inStep = false) ∧
      (s.chip.field.twin.peerActive = false → s.chip.field.cfg.loaded = true → t.chip.field.twin.role = 2 ∧
        t.chip.field.twin.activeN = true ∧ t.chip.field.twin.epoch = (s.chip.field.twin.epoch + 1) % 65536 ∧
        t.chip.field.hand.takeovers = satN 8 (s.chip.field.hand.takeovers + 1))) := by
  refine ⟨s.onField fun f => f.twinTakeover s.chip.variant, rfl, rfl, fun hno => State.onField_eq_self (FieldDie.twinTakeover_not hno),
    fun hrun hpair hstandby hwinter hmiss => ?_⟩
  have hmissed : s.chip.field.peerMissed := ⟨hrun, hpair, hstandby, hwinter, hmiss⟩
  refine ⟨fun hpeer => FieldDie.twinTakeover_held hmissed hpeer, fun hpeer hloaded => ?_⟩
  rw [State.onField_field, FieldDie.twinTakeover_takes hmissed hpeer hloaded]
  exact FieldDie.holdsRole_takeover _ _

theorem twinPeerLost_law (s : State) : ∃ t, exec .twinPeerLost s = .next t ∧ fieldOnly s t ∧ t.chip.field.twin.role = s.chip.field.twin.role ∧
    (s.chip.field.isActive = false ∨ s.chip.field.twin.missRun < 2 → t = s) ∧
    (s.chip.field.isActive = true → 2 ≤ s.chip.field.twin.missRun → s.chip.field.twin.inStep = true →
      t.chip.field.twin.inStep = false ∧ fieldEvent s 225 1 ∈ t.chip.field.fcol.arisen) := by
  refine ⟨s.onField FieldDie.peerLost, rfl, rfl, FieldDie.role_peerLost _, fun hno => State.onField_eq_self (FieldDie.peerLost_not hno),
    fun hact hmiss hstep => ?_⟩
  have hdue : s.chip.field.isActive ∧ 2 ≤ s.chip.field.twin.missRun ∧ (s.chip.field.twin.inStep ∨ s.chip.field.twin.twinned) :=
    ⟨hact, hmiss, .inl hstep⟩
  have htwin := congrArg FieldDie.twin (FieldDie.bare_peerLost hdue)
  exact ⟨((congrArg Twin.inStep htwin).trans rfl).trans (FieldDie.twin_peerGone _).2, FieldDie.arisen_peerLost hdue⟩

theorem peerActiveSample_law (a : Bool) (s : State) : ∃ t, exec (.peerActiveSample a) s = .next t ∧ fieldOnly s t ∧
    t.chip.field.twin.peerActive = a ∧ t.chip.field.twin.sampling = false ∧
    (s.chip.field.twin.sampling = true → a = true → s.chip.field.twin.twinB = true →
      t.chip.field.twin.role = 1 ∧ t.chip.field.twin.activeN = false ∧
      t.chip.field.fcol.arisen = s.chip.field.fcol.arisen ++ [fieldEvent s 226 1]) ∧
    (s.chip.field.twin.sampling = false ∨ a = false ∨ s.chip.field.twin.twinB = false →
      t.chip.field.twin.role = s.chip.field.twin.role ∧ t.chip.field.twin.activeN = s.chip.field.twin.activeN) := by
  have ⟨hpeer, hsampling⟩ := FieldDie.peerActive_peerSample (f := s.chip.field) a
  refine ⟨s.onField fun f => f.peerSample a, rfl, rfl, hpeer, hsampling, fun hs ha hb => ?_, fun hcalm => ?_⟩
  · subst ha
    rw [State.onField_field, FieldDie.peerSample_clash hs hb]
    exact FieldDie.twin_clash _
  · rw [State.onField_field, FieldDie.peerSample_calm hcalm]
    exact ⟨rfl, rfl⟩

/-- Both lines asserted outside a sampling (R355). -/
abbrev bothAssert (f : FieldDie) : Prop := f.twin.activeN = true ∧ f.twin.peerActive = true ∧ ¬ f.twin.sampling = true

theorem twinInterlock_law (s : State) : ∃ t, exec .twinInterlock s = .next t ∧ fieldOnly s t ∧
    (s.chip.field.twin.activeN = true → s.chip.field.twin.peerActive = true → s.chip.field.twin.sampling = false →
      t.chip.field.fcol.arisen = s.chip.field.fcol.arisen ++ [fieldEvent s 226 1] ∧ t.chip.field.twin = s.chip.field.twin) ∧
    (s.chip.field.twin.activeN = false ∨ s.chip.field.twin.peerActive = false ∨ s.chip.field.twin.sampling = true → t = s) := by
  by_cases hboth : bothAssert s.chip.field
  · have hexec : exec .twinInterlock s = .next (s.onField fun f => f.raise 226 1) :=
      congrArg Host.Outcome.next (State.onField_due (p := bothAssert) hboth)
    refine ⟨_, hexec, rfl, fun _ _ _ => ⟨rfl, rfl⟩, fun hno => ?_⟩
    obtain ⟨hactive, hpeer, hsampling⟩ := hboth
    simp [hactive, hpeer, hsampling] at hno
  · refine ⟨s, congrArg Host.Outcome.next (State.onField_not (p := bothAssert) hboth), rfl, fun hactive hpeer hsampling => ?_, fun _ => rfl⟩
    exact absurd ⟨hactive, hpeer, by simp [hsampling]⟩ hboth

/-- The condition of an automatic join (R370). -/
abbrev joinDue (f : FieldDie) : Prop :=
  f.isStandby = true ∧ f.running = true ∧ ¬ f.power.winter = true ∧ f.linkUp = true ∧ f.twin.join = 0 ∧ ¬ f.twin.inStep = true ∧
    ¬ f.twin.noAuto = true ∧ f.twin.leftAt + 40000 ≤ f.tick.tb ∧
    (f.twin.joinTimes.filter (fun x => decide (f.tick.tb < x + 144000000))).length < 3

theorem joinStart_law (s : State) : ∃ t, exec .joinStart s = .next t ∧ fieldOnly s t ∧ t.chip.field.twin.role = s.chip.field.twin.role ∧
    (s.chip.field.twin.join ≠ 0 ∨ s.chip.field.twin.inStep = true ∨ s.chip.field.isStandby = false ∨ s.chip.field.twin.noAuto = true → t = s) ∧
    (s.chip.field.isStandby = true → s.chip.field.running = true → s.chip.field.power.winter = false → s.chip.field.linkUp = true →
      s.chip.field.twin.join = 0 → s.chip.field.twin.inStep = false → s.chip.field.twin.noAuto = false →
      s.chip.field.twin.leftAt + 40000 ≤ s.chip.field.tick.tb → s.chip.field.twin.joinTimes = [] →
      t.chip.field.twin.join = 1 ∧ t.chip.field.twin.joinTimes = [s.chip.field.tick.tb]) := by
  by_cases hdue : joinDue s.chip.field
  · have hexec : exec .joinStart s = .next (s.onField fun f => (f.modTwin fun t => { t with
        joinTimes := t.joinTimes.filter fun x => decide (f.tick.tb < x + 144000000) }).joinBegin) :=
      congrArg Host.Outcome.next (State.onField_due (p := joinDue) hdue)
    refine ⟨_, hexec, rfl, rfl, fun hno => ?_, fun _ _ _ _ _ _ _ _ hnone => ⟨rfl, ?_⟩⟩
    · obtain ⟨hstandby, _, _, _, hjoin, hstep, hauto, _⟩ := hdue
      simp [hstandby, hjoin, hstep, hauto] at hno
    · exact congrArg (fun l : List Nat => l.filter (fun x => decide (s.chip.field.tick.tb < x + 144000000)) ++ [s.chip.field.tick.tb]) hnone
  · refine ⟨s, congrArg Host.Outcome.next (State.onField_not (p := joinDue) hdue), rfl, rfl, fun _ => rfl,
      fun hstandby hrun hwinter hlink hjoin hstep hauto hlate hnone => absurd ?_ hdue⟩
    refine ⟨hstandby, hrun, by simp [hwinter], hlink, hjoin, by simp [hstep], by simp [hauto], hlate, ?_⟩
    rw [hnone]
    exact Nat.zero_lt_succ 2

theorem joinStepEnd_law (o : StepEnd) (s : State) : ∃ t, exec (.joinStepEnd o) s = .next t ∧ fieldOnly s t ∧
    t.chip.field.twin.role = s.chip.field.twin.role ∧
    (s.chip.field.isStandby = false ∨ s.chip.field.twin.join = 0 ∨ s.chip.field.running = false → t = s) ∧
    (s.chip.field.isStandby = true → s.chip.field.running = true → s.chip.field.twin.join ≠ 0 →
      (o = .failed → t.chip.field.twin.join = 0 ∧ t.chip.field.twin.inStep = s.chip.field.twin.inStep) ∧
      (o = .done → s.chip.field.twin.join = 1 → s.chip.field.linkUp = true → 40 ≤ s.chip.field.twin.joinBeats → t.chip.field.twin.join = 2) ∧
      (o = .done → s.chip.field.twin.join = 2 → (s.chip.field.partMatch s.chip.variant = false → t.chip.field.twin.join = 0 ∧
        fieldEvent s 232 1 ∈ t.chip.field.fcol.arisen) ∧
        (s.chip.field.partMatch s.chip.variant = true → s.chip.field.hfMatch = true →
          s.chip.field.peerIs (fun b => b.role == 1 && !b.health1 0) = true → t.chip.field.twin.join = 3)) ∧
      (o = .done → s.chip.field.twin.join = 3 → s.chip.field.tick.locked = true ∨ s.chip.field.twin.twinB = false →
        t.chip.field.twin.join = 4 ∧ t.chip.field.twin.adopt = true) ∧
      (o = .done → s.chip.field.twin.join = 4 → 1 ∈ s.chip.field.twin.parts → t.chip.field.twin.join = 5) ∧
      (o = .done → s.chip.field.twin.join = 5 → t.chip.field.twin.join = 6) ∧
      (o = .done → s.chip.field.twin.join = 6 → s.chip.field.twin.joinDigests < 400 → t = s) ∧
      (o = .done → s.chip.field.twin.join = 6 → 400 ≤ s.chip.field.twin.joinDigests →
        t.chip.field.twin.join = 0 ∧ t.chip.field.twin.inStep = true ∧ t.chip.field.twin.joinReqs = [])) := by
  refine ⟨s.onField fun f => f.joinStep s.chip.variant o, rfl, rfl, FieldDie.role_joinStep o,
    fun hno => State.onField_eq_self (FieldDie.joinStep_not hno), fun hstandby hrun hjoin => ?_⟩
  have hjoining : s.chip.field.joining := ⟨hstandby, hrun, hjoin⟩
  cases o with
  | failed =>
    rw [State.onField_field, FieldDie.joinStep_failed hjoining]
    exact ⟨fun _ => (FieldDie.twin_joinFail _).2, nofun, nofun, nofun, nofun, nofun, nofun, nofun⟩
  | done =>
    have hdone (n : Nat) (hn : s.chip.field.twin.join = n) : s.chip.field.joinStep s.chip.variant .done = s.chip.field.stepDone s.chip.variant n :=
      (FieldDie.joinStep_done hjoining).trans (congrArg (s.chip.field.stepDone s.chip.variant) hn)
    have hnext (n : Nat) (hn : s.chip.field.twin.join = n) : s.chip.field.joinNext.twin.join = n + 1 := congrArg (· + 1) hn
    refine ⟨nofun, fun _ hat hlink hbeats => ?_, fun _ hat => ⟨fun hpart => ?_, fun hpart hhf hpeer => ?_⟩, fun _ hat hlock => ?_,
      fun _ hat hpart => ?_, fun _ hat => ?_, fun _ hat hshort => State.onField_eq_self ((hdone 6 hat).trans (FieldDie.stepDone_short hshort)),
      fun _ hat hlong => ?_⟩
    · rw [State.onField_field, hdone 1 hat, FieldDie.stepDone_linked hlink hbeats]
      exact hnext 1 hat
    · rw [State.onField_field, hdone 2 hat, FieldDie.stepDone_parts_differ hpart]
      refine ⟨(FieldDie.twin_joinFail _).2.1, List.mem_append_right _ (List.mem_singleton.mpr ?_)⟩
      unfold fieldEvent
      rw [FieldDie.tick_joinFail]
    · rw [State.onField_field, hdone 2 hat, FieldDie.stepDone_match hpart hhf hpeer]
      exact hnext 2 hat
    · rw [State.onField_field, hdone 3 hat, FieldDie.stepDone_adopts hlock]
      exact ⟨hnext 3 hat, rfl⟩
    · rw [State.onField_field, hdone 4 hat, FieldDie.stepDone_snapshot hpart]
      exact hnext 4 hat
    · rw [State.onField_field, hdone 5 hat]
      exact hnext 5 hat
    · rw [State.onField_field, hdone 6 hat, FieldDie.stepDone_joined hlong]
      exact (FieldDie.twin_joined _).2

/-- Settles O39: the decision, a missed heartbeat, the takeover, the loss of the peer, the peer's line, and a join, rule by rule. -/
theorem rolesAreTakenAndLeft : Obligations.RolesAreTakenAndLeft :=
  ⟨roleDecision_law, heartbeatMissed_law, twinTakeover_law, twinPeerLost_law, peerActiveSample_law, twinInterlock_law, joinStart_law,
    joinStepEnd_law⟩

end Machine
end Sys2Proof

/-! Messages of the peer (14 R359 to R366, R369, R375 to R377, R380): what each message leaves of the twin state. -/

namespace Sys2Proof

namespace FieldDie

variable {f : FieldDie} {v : Variant}

/-! TWIN_HEARTBEAT_RX (R360, R369). -/

/-- What a heartbeat writes of the peer's state before its epoch and its step are judged. -/
def beatTaken (f : FieldDie) (b : PeerBeat) : FieldDie :=
  (f.modTwin (fun t => { t with
      hbSeen := true, missRun := 0, waitTicks := 0, beat := some b, joinBeats := t.joinBeats + 1
      gaveUp := t.gaveUp && b.role != 1 })).peerTb b.tb

/-- A heartbeat with the versions of the pair compared (R382). -/
def beatMixed (f : FieldDie) (b : PeerBeat) : FieldDie :=
  if (f.beatTaken b).mixed ∧ ¬ (f.beatTaken b).twin.mixedTold then ((f.beatTaken b).modTwin (fun t => { t with mixedTold := true })).raise 234 1
  else (f.beatTaken b).modTwin (fun t => { t with mixedTold := (f.beatTaken b).mixed })

theorem heartbeat_taken {b : PeerBeat} (hpair : f.twin.cfg.pairEn = true) (hrun : f.running = true) : f.heartbeat v b =
    if (f.beatMixed b).isActive ∧ b.state = 5 ∧ b.part = v.partCode ∧ ¬ f.twin.inStep then
      (((f.beatMixed b).modTwin (fun t => { t with inStep := true, twinned := true, diffRun := 0 })).raise 229 1).vector 34
    else if (f.beatMixed b).isActive ∧ (b.state ≠ 5 ∨ b.part ≠ v.partCode) then
      (f.beatMixed b).modTwin (fun t => { t with inStep := false, twinned := false })
    else f.beatMixed b := if_neg (by simp [hpair, hrun])

/-- What a heartbeat leaves on every device of a pair. -/
def beatHeard (b : PeerBeat) (f g : FieldDie) : Prop :=
  g.twin.beat = some b ∧ g.twin.missRun = 0 ∧ g.twin.hbSeen = true ∧ g.twin.role = f.twin.role ∧ g.twin.activeN = f.twin.activeN

theorem beatHeard_beatTaken (f : FieldDie) (b : PeerBeat) : beatHeard b f (f.beatTaken b) ∧ (f.beatTaken b).twin.inStep = f.twin.inStep := by
  unfold beatTaken peerTb
  dsimp only
  split
  · exact ⟨⟨rfl, rfl, rfl, rfl, rfl⟩, rfl⟩
  · exact ⟨⟨rfl, rfl, rfl, rfl, rfl⟩, rfl⟩

theorem beatHeard_beatMixed (f : FieldDie) (b : PeerBeat) : beatHeard b f (f.beatMixed b) ∧ (f.beatMixed b).twin.inStep = f.twin.inStep := by
  have htaken := beatHeard_beatTaken f b
  unfold beatMixed
  split
  · exact htaken
  · exact htaken

theorem beatHeard_vector {b : PeerBeat} {g : FieldDie} (n : Nat) (h : beatHeard b f g) : beatHeard b f (g.vector n) := by
  unfold beatHeard
  rw [vector_twin]
  exact h

theorem beatHeard_heartbeat {b : PeerBeat} (hpair : f.twin.cfg.pairEn = true) (hrun : f.running = true) :
    beatHeard b f (f.heartbeat v b) := by
  have hmixed := (beatHeard_beatMixed f b).1
  rw [heartbeat_taken hpair hrun]
  split
  · exact beatHeard_vector _ hmixed
  · split
    · exact hmixed
    · exact hmixed

theorem isActive_beatMixed {b : PeerBeat} (h : f.isActive = true) : (f.beatMixed b).isActive = true := by
  obtain ⟨_, _, _, hrole, _⟩ := (beatHeard_beatMixed f b).1
  exact (congrArg (· == 2) hrole).trans h

theorem heartbeat_inStep {b : PeerBeat} (hpair : f.twin.cfg.pairEn = true) (hrun : f.running = true) (hact : f.isActive = true)
    (hstate : b.state = 5) (hpart : b.part = v.partCode) : (f.heartbeat v b).twin.inStep = true := by
  rw [heartbeat_taken hpair hrun]
  split
  · rw [vector_twin]
    rfl
  next hnot =>
    have hwas : f.twin.inStep = true := by
      simpa [isActive_beatMixed hact, hstate, hpart] using hnot
    rw [if_neg (by simp [hstate, hpart])]
    exact (beatHeard_beatMixed f b).2.trans hwas

theorem heartbeat_outOfStep {b : PeerBeat} (hpair : f.twin.cfg.pairEn = true) (hrun : f.running = true) (hact : f.isActive = true)
    (hdiffers : b.state ≠ 5 ∨ b.part ≠ v.partCode) : (f.heartbeat v b).twin.inStep = false := by
  rw [heartbeat_taken hpair hrun, if_neg, if_pos ⟨isActive_beatMixed hact, hdiffers⟩]
  · rfl
  · rintro ⟨_, hstate, hpart, _⟩
    exact hdiffers.elim (· hstate) (· hpart)

/-! TWIN_DIGEST_RX (R366). -/

theorem digest_withPeerDigest (d : Option (BitVec 64)) : (f.modTwin fun t => { t with peerDigest := d }).digest v = f.digest v := by
  have houtputs : (f.modTwin fun t => { t with peerDigest := d }).outputs v = f.outputs v := rfl
  have hstate : (f.modTwin fun t => { t with peerDigest := d }).stateNats = f.stateNats := rfl
  unfold digest
  rw [houtputs, hstate]

/-- The device with the peer's digest of this tick held. -/
def digestHeld (f : FieldDie) (d : BitVec 64) : FieldDie := f.modTwin fun t => { t with peerDigest := some d }

/-- The device with its held digest taken. -/
def digestTaken (f : FieldDie) : FieldDie := f.modTwin fun t => { t with peerDigest := none }

/-- The comparison of a held digest: out of step it is not judged, an equal one ends the run of differences. -/
theorem digestCompare_held (d : BitVec 64) : (f.digestHeld d).digestCompare v =
    if ¬ (f.twin.inStep ∨ f.twin.join = 6) then f.digestTaken
    else if d = f.digestTaken.digest v ∧ ¬ f.twin.heardDiff then
      f.digestTaken.modTwin (fun t => { t with diffRun := 0, joinDigests := t.joinDigests + bit (t.join == 6) })
    else
      let g := f.digestTaken.modTwin (fun t => { t with digMism := satN 16 (t.digMism + 1), joinDigests := 0 })
      if g.mixed ∨ ¬ g.twin.inStep then g
      else
        let g := (g.modTwin (fun t => { t with diffRun := t.diffRun + 1 })).raise 227 1
        if g.isStandby ∧ g.twin.cfg.divergeN ≤ g.twin.diffRun then g.leaveStep else g := rfl

theorem peerDigest_leaveStep (f : FieldDie) : f.leaveStep.twin.peerDigest = f.twin.peerDigest := by
  unfold leaveStep
  split
  · rw [vector_twin]
    rfl
  · rfl

theorem peerDigest_digestCompare (d : BitVec 64) : ((f.digestHeld d).digestCompare v).twin.peerDigest = none := by
  rw [digestCompare_held]
  split
  · rfl
  · split
    · rfl
    · dsimp only
      split
      · rfl
      · split
        · exact peerDigest_leaveStep _
        · rfl

theorem digestCompare_equal {d : BitVec 64} (hstep : f.twin.inStep = true) (hd : d = f.digest v) (hheard : f.twin.heardDiff = false) :
    (f.digestHeld d).digestCompare v = f.digestTaken.modTwin (fun t => { t with diffRun := 0, joinDigests := t.joinDigests + bit (t.join == 6) }) := by
  rw [digestCompare_held, if_neg (by simp [hstep]), if_pos ⟨hd.trans (digest_withPeerDigest none).symm, by simp [hheard]⟩]

/-! The role messages (R375 to R377). -/

/-- Whether a device takes part in a handover. -/
abbrev takesPart (f : FieldDie) : Bool := f.running && f.twin.cfg.pairEn && !f.power.winter

/-- Whether a message belongs to the handover that runs. -/
abbrev isMine (f : FieldDie) (m : RoleMsg) : Bool := m.stamp == f.hand.stamp && m.newEpoch == f.hand.newEpoch

theorem takesPart_of (hrun : f.running = true) (hpair : f.twin.cfg.pairEn = true) (hwinter : f.power.winter = false) : f.takesPart = true := by
  simp [takesPart, hrun, hpair, hwinter]

theorem isMine_of {m : RoleMsg} (hstamp : m.stamp = f.hand.stamp) (hepoch : m.newEpoch = f.hand.newEpoch) : f.isMine m = true := by
  simp [isMine, hstamp, hepoch]

theorem prepare_not {m : RoleMsg} (h : f.running = false ∨ f.twin.cfg.pairEn = false ∨ f.isStandby = false) : f.roleMsg 1 m = f := by
  refine if_pos ?_
  rcases h with h | h | h <;> simp [h]

/-- What keeps a standby from preparing a handover (R376, 02 R69). -/
abbrev prepareRefused (f : FieldDie) : Prop :=
  ¬ f.twin.inStep = true ∨ (f.twin.twinB = true ∧ ¬ f.tick.locked = true) ∨ f.power.winter = true

theorem prepare_taken {m : RoleMsg} (hrun : f.running = true) (hpair : f.twin.cfg.pairEn = true) (hstandby : f.isStandby = true) :
    f.roleMsg 1 m = if f.prepareRefused then
        ((f.modHand (fun h => { h with stamp := m.stamp })).handEnd 3 .wrongMode false).modHand (fun h => { h with out := some (3, m) })
      else f.modHand (fun h => { h with
        phase := 2, stamp := m.stamp, newEpoch := m.newEpoch, switchEdge := m.switchEdge, asking := false, acked := false, tries := 0
        condFrom := some (f.tick.tb + 1), out := some (2, m) }) := if_neg (by simp [hrun, hpair, hstandby])

theorem role_prepare (m : RoleMsg) : (f.roleMsg 1 m).twin.role = f.twin.role := by
  by_cases h : f.running = false ∨ f.twin.cfg.pairEn = false ∨ f.isStandby = false
  · rw [prepare_not h]
  · simp only [not_or, Bool.not_eq_false] at h
    obtain ⟨hrun, hpair, hstandby⟩ := h
    rw [prepare_taken hrun hpair hstandby]
    split
    · exact (twin_handEnd (f := f.modHand fun h => { h with stamp := m.stamp })).1
    · rfl

/-- A message of the phases acts in one role and phase, on the handover that it names. -/
theorem not_phase_of {m : RoleMsg} {asks : Prop} {n : Nat} (h : ¬ asks ∨ f.hand.phase ≠ n ∨ m.stamp ≠ f.hand.stamp) :
    ¬ (f.takesPart = true ∧ asks ∧ f.hand.phase = n ∧ f.isMine m = true) := by
  rintro ⟨_, hasks, hphase, hmine⟩
  have hstamp : m.stamp = f.hand.stamp := beq_iff_eq.mp (Bool.and_eq_true_iff.mp hmine).1
  rcases h with h | h | h
  · exact h hasks
  · exact h hphase
  · exact h hstamp

/-! TWIN_STATE_RX (R369). -/

/-- The device with the slots and the branches of a part of the snapshot. -/
def partTaken (f : FieldDie) (p : StatePart) : FieldDie :=
  p.branches.foldl (fun f x => f.modBr x.1 (fun y => { x.2 with latch := y.latch, on := y.on, fb := y.fb, cmp := y.cmp }))
    (p.slots.foldl (fun f x => f.modSl x.1 (fun _ => x.2)) f)

theorem twin_partTaken (f : FieldDie) (p : StatePart) : (f.partTaken p).twin = f.twin :=
  (foldl_keeps FieldDie.twin (fun (g : FieldDie) (x : Fin 32 × Branch) => (rfl :
      (g.modBr x.1 (fun y => { x.2 with latch := y.latch, on := y.on, fb := y.fb, cmp := y.cmp })).twin = g.twin)) _ _).trans
    (foldl_keeps FieldDie.twin (fun (g : FieldDie) (x : Fin 96 × Slot) => (rfl : (g.modSl x.1 (fun _ => x.2)).twin = g.twin)) _ _)

/-- The epoch that the peer's heartbeats give, its own without one. -/
def beatEpoch (t : Twin) : Nat := match t.beat with | some b => b.epoch | none => t.epoch

theorem applyPart_not {p : StatePart} (h : f.twin.join ≠ 4 ∨ f.running = false) : f.applyPart p = f :=
  if_pos (h.imp_right fun hrun => by simp [hrun])

theorem applyPart_taken {p : StatePart} (hjoin : f.twin.join = 4) (hrun : f.running = true) :
    (f.applyPart p).twin = { f.twin with parts := f.twin.parts ++ [if p.last then 1 else 0], epoch := beatEpoch f.twin } ∧
      (f.applyPart p).disp = p.disp.getD (f.partTaken p).disp ∧ (f.applyPart p).cfg = p.config.getD (f.partTaken p).cfg := by
  have hgoes : ¬ (f.twin.join ≠ 4 ∨ ¬ f.running = true) := by simp [hjoin, hrun]
  unfold applyPart
  rw [if_neg hgoes]
  exact ⟨congrArg (fun t : Twin => { t with parts := t.parts ++ [if p.last then 1 else 0], epoch := beatEpoch t }) (twin_partTaken f p), rfl, rfl⟩

/-! TWIN_DRILL_RX (R380). -/

/-- The failure that a step of the peer's DRILL reports. -/
def drillFault (step port : Nat) (h : Handover) : Handover :=
  if step = 1 then { h with tbusFail := Nat.lor h.tbusFail (2 ^ port % 256) }
  else if step = 2 then { h with portFail := true } else { h with readbackFail := true }

/-- The standby as it follows a step of the peer's DRILL. -/
def drillFollowed (f : FieldDie) (step port : Nat) : FieldDie :=
  f.modHand fun h => { h with
    drillOn := step != 3, drillKind := 0, drillAt := f.tick.tb, drillStep := if step = 1 then port else 8
    drillFail := h.drillFail && !(!f.hand.drillOn), tbusFail := if (!f.hand.drillOn) = true then 0 else h.tbusFail
    portFail := h.portFail && !(!f.hand.drillOn), readbackFail := h.readbackFail && !(!f.hand.drillOn) }

/-- The standby with the step judged. -/
def drillHeard (f : FieldDie) (step port : Nat) (ok : Bool) : FieldDie :=
  if ok then f.drillFollowed step port
  else ((f.drillFollowed step port).drillFailed (drillFault step port)).modTwin (fun t => { t with latent := true })

theorem drillRx_not {step port : Nat} {ok : Bool} (h : f.running = false ∨ f.twin.cfg.pairEn = false ∨ f.power.winter = true) :
    f.drillRx step port ok = f := by
  refine if_pos ?_
  rcases h with h | h | h <;> simp [h]

theorem drillRx_taken {step port : Nat} {ok : Bool} (hrun : f.running = true) (hpair : f.twin.cfg.pairEn = true) (hwinter : f.power.winter = false) :
    f.drillRx step port ok =
      if f.isActive then (if f.hand.drillOn ∧ ¬ ok then f.drillFailed (drillFault step port) else f)
      else if ¬ f.isStandby then f
      else if step = 3 ∧ ¬ (f.drillHeard step port ok).hand.drillFail then
        (f.drillHeard step port ok).modTwin (fun t => { t with latent := false })
      else f.drillHeard step port ok := if_neg (by simp [hrun, hpair, hwinter])

theorem drillHeard_twin (step port : Nat) (ok : Bool) : (f.drillHeard step port ok).twin.role = f.twin.role ∧
    (ok = false → (f.drillHeard step port ok).twin.latent = true ∧ (f.drillHeard step port ok).hand.drillFail = true) := by
  unfold drillHeard
  cases ok with
  | true => exact ⟨rfl, nofun⟩
  | false => exact ⟨rfl, fun _ => ⟨rfl, rfl⟩⟩

theorem role_drillRx (step port : Nat) (ok : Bool) : (f.drillRx step port ok).twin.role = f.twin.role := by
  by_cases h : f.running = false ∨ f.twin.cfg.pairEn = false ∨ f.power.winter = true
  · rw [drillRx_not h]
  · simp only [not_or, Bool.not_eq_false, Bool.not_eq_true] at h
    obtain ⟨hrun, hpair, hwinter⟩ := h
    have hheard := (drillHeard_twin (f := f) step port ok).1
    rw [drillRx_taken hrun hpair hwinter]
    split
    · split
      · rfl
      · rfl
    · split
      · rfl
      · split
        · exact hheard
        · exact hheard

theorem latent_drillRx {step port : Nat} (hrun : f.running = true) (hpair : f.twin.cfg.pairEn = true) (hwinter : f.power.winter = false)
    (hstandby : f.isStandby = true) : (f.drillRx step port false).twin.latent = true := by
  have hactive : ¬ f.isActive = true := fun hact => absurd (hstandby.symm.trans (not_standby_of_active hact)) (by decide)
  have ⟨hlatent, hfail⟩ := (drillHeard_twin (f := f) step port false).2 rfl
  rw [drillRx_taken hrun hpair hwinter, if_neg hactive, if_neg (by simp [hstandby]), if_neg]
  · exact hlatent
  · exact fun hpass => hpass.2 hfail

/-! The input frame (R361, R365). -/

/-- The device with a section of the tick seen. -/
def sectionSeen (f : FieldDie) (n : Nat) : FieldDie := f.modTwin fun t => { t with sections := t.sections ++ [n] }

theorem inputRx_not {x : InputSection} (h : f.running = false ∨ f.twin.cfg.pairEn = false ∨ f.isStandby = false) : f.inputRx v x = f := by
  refine if_pos ?_
  rcases h with h | h | h <;> simp [h]

theorem inputRx_ignored {x : InputSection} (hnum : x.number ≠ 0) (hfollows : f.follows = false) : f.inputRx v x = f := by
  unfold inputRx
  split
  · rfl
  · exact if_neg (by simp [hnum, hfollows])

theorem inputRx_taken {x : InputSection} (hrun : f.running = true) (hpair : f.twin.cfg.pairEn = true) (hstandby : f.isStandby = true)
    (h : x.number = 0 ∨ f.follows = true) :
    f.inputRx v x = (f.sectionSeen x.number).inputSection v x :=
  (if_neg (by simp [hrun, hpair, hstandby])).trans (if_pos h)

theorem inputSection_header {x : InputSection} {n : BitVec 64} (hnum : x.number = 0) (hn : x.tb = some n) :
    f.inputSection v x = f.modTwin (fun w => { w with tbDelta := (n.toNat : Int) - f.tick.tb }) := by
  unfold inputSection
  rw [hnum, hn]
  rfl

theorem inputSection_events {x : InputSection} (hnum : x.number = 5) (hroom : f.twin.evq + x.portEvents ≤ 256) :
    f.inputSection v x = f.modTwin (fun w => { w with evq := f.twin.evq + x.portEvents }) := by
  unfold inputSection
  rw [hnum]
  refine (if_neg (Nat.not_lt.mpr hroom)).trans ?_
  rw [Nat.min_eq_right hroom]

/-! INPUT_SECTION_DEADLINE (R365). -/

theorem sectionMissed_not {n : Nat} (h : f.follows = false ∨ f.twin.sections.contains n = true) : f.sectionMissed n = f := by
  refine if_pos ?_
  rcases h with h | h
  · exact .inl (by simp [h])
  · exact .inr h

theorem sectionMissed_leaves {n : Nat} (hfollows : f.follows = true) (hsections : f.twin.sections.contains n = false) (hn : n ≠ 3)
    (hmiss : f.twin.missRun = 0) (hstep : f.twin.inStep = true) : f.sectionMissed n = f.leaveStep := by
  unfold sectionMissed
  rw [if_neg]
  · dsimp only
    rw [if_pos hn, if_pos hmiss, if_pos hstep]
  · rintro (hn | hn)
    · exact hn hfollows
    · exact absurd (hsections.symm.trans hn) (by decide)

theorem standby_of_follows (h : f.follows = true) : f.isStandby = true := (Bool.and_eq_true_iff.mp h).1

theorem arisen_leaveStep (hstandby : f.isStandby = true) (hstep : f.twin.inStep = true) : f.leaveStep.fcol.arisen =
    f.fcol.arisen ++ [{ tb := f.tick.tb, fine := f.tick.fine, src := 228, code := 1, value := 0 }] := by
  unfold leaveStep
  rw [if_pos ⟨hstandby, hstep⟩, vector_fcol]
  rfl

end FieldDie

namespace Machine

theorem twinHeartbeatRx_law (lane : Fin 2) (b : PeerBeat) (s : State) : ∃ t, exec (.twinHeartbeatRx lane b) s = .next t ∧ fieldOnly s t ∧
    (s.chip.field.twin.cfg.pairEn = false ∨ s.chip.field.running = false → t = s) ∧
    (s.chip.field.twin.cfg.pairEn = true → s.chip.field.running = true →
      t.chip.field.twin.beat = some b ∧ t.chip.field.twin.missRun = 0 ∧ t.chip.field.twin.hbSeen = true ∧
      t.chip.field.twin.role = s.chip.field.twin.role ∧ t.chip.field.twin.activeN = s.chip.field.twin.activeN ∧
      (s.chip.field.isActive = true → b.state = 5 → b.part = s.chip.variant.partCode → t.chip.field.twin.inStep = true) ∧
      (s.chip.field.isActive = true → b.state ≠ 5 ∨ b.part ≠ s.chip.variant.partCode → t.chip.field.twin.inStep = false)) := by
  refine ⟨s.onField fun f => f.heartbeat s.chip.variant b, rfl, rfl, fun hno => State.onField_eq_self (if_pos ?_), fun hpair hrun => ?_⟩
  · rcases hno with h | h <;> simp [h]
  · have ⟨hbeat, hmiss, hseen, hrole, hactive⟩ := FieldDie.beatHeard_heartbeat (v := s.chip.variant) (b := b) hpair hrun
    exact ⟨hbeat, hmiss, hseen, hrole, hactive, FieldDie.heartbeat_inStep hpair hrun, FieldDie.heartbeat_outOfStep hpair hrun⟩

/-- A digest that arrives (R366). -/
abbrev digestArrives (v : Variant) (d : BitVec 64) (f : FieldDie) : FieldDie :=
  if 9376 ≤ (f.digestHeld d).tick.fine then (f.digestHeld d).digestCompare v else f.digestHeld d

theorem twinDigestRx_law (d : BitVec 64) (s : State) : ∃ t, exec (.twinDigestRx d) s = .next t ∧ fieldOnly s t ∧
    (s.chip.field.twin.cfg.pairEn = false ∨ s.chip.field.running = false → t = s) ∧
    (s.chip.field.twin.cfg.pairEn = true → s.chip.field.running = true → s.chip.field.tick.fine < 9376 →
      t.chip.field = { s.chip.field with twin := { s.chip.field.twin with peerDigest := some d } }) ∧
    (s.chip.field.twin.cfg.pairEn = true → s.chip.field.running = true → 9376 ≤ s.chip.field.tick.fine → t.chip.field.twin.peerDigest = none ∧
      (s.chip.field.twin.inStep = true → d = s.chip.field.digest s.chip.variant → s.chip.field.twin.heardDiff = false →
        t.chip.field.twin.diffRun = 0 ∧ t.chip.field.fcol = s.chip.field.fcol)) := by
  by_cases hno : ¬ s.chip.field.twin.cfg.pairEn = true ∨ ¬ s.chip.field.running = true
  · have hexec : exec (.twinDigestRx d) s = .next s := congrArg Host.Outcome.next (State.onField_eq_self (if_pos hno.symm))
    exact ⟨s, hexec, rfl, fun _ => rfl, fun hpair hrun => absurd hno (by simp [hpair, hrun]), fun hpair hrun => absurd hno (by simp [hpair, hrun])⟩
  · have hexec : exec (.twinDigestRx d) s = .next (s.onField (digestArrives s.chip.variant d)) :=
      congrArg Host.Outcome.next (State.onField_else (p := fun f : FieldDie => ¬ f.running = true ∨ ¬ f.twin.cfg.pairEn = true)
        fun hn => hno hn.symm)
    refine ⟨_, hexec, rfl, fun hn => absurd (hn.imp (fun h => by simp [h]) fun h => by simp [h]) hno, fun _ _ hearly => ?_, fun _ _ hlate => ?_⟩
    · exact if_neg (Nat.not_le.mpr hearly)
    · rw [State.onField_field, digestArrives, if_pos (show 9376 ≤ (s.chip.field.digestHeld d).tick.fine from hlate)]
      refine ⟨FieldDie.peerDigest_digestCompare d, fun hstep hd hheard => ?_⟩
      rw [FieldDie.digestCompare_equal hstep hd hheard]
      exact ⟨rfl, rfl⟩

theorem twinPrepareRx_law (m : RoleMsg) (s : State) : ∃ t, exec (.twinPrepareRx m) s = .next t ∧ fieldOnly s t ∧
    t.chip.field.twin.role = s.chip.field.twin.role ∧
    (s.chip.field.running = false ∨ s.chip.field.twin.cfg.pairEn = false ∨ s.chip.field.isStandby = false → t = s) ∧
    (s.chip.field.running = true → s.chip.field.twin.cfg.pairEn = true → s.chip.field.isStandby = true →
      (s.chip.field.twin.inStep = false ∨ s.chip.field.power.winter = true ∨
        (s.chip.field.twin.twinB = true ∧ s.chip.field.tick.locked = false) → t.chip.field.hand.out = some (3, m)) ∧
      (s.chip.field.twin.inStep = true → s.chip.field.twin.twinB = false ∨ s.chip.field.tick.locked = true → s.chip.field.power.winter = false →
        t.chip.field.hand.phase = 2 ∧ t.chip.field.hand.stamp = m.stamp ∧ t.chip.field.hand.newEpoch = m.newEpoch ∧
        t.chip.field.hand.switchEdge = m.switchEdge ∧ t.chip.field.hand.out = some (2, m))) := by
  refine ⟨s.onField fun f => f.roleMsg 1 m, rfl, rfl, FieldDie.role_prepare m, fun hno => State.onField_eq_self (FieldDie.prepare_not hno),
    fun hrun hpair hstandby => ?_⟩
  rw [State.onField_field, FieldDie.prepare_taken hrun hpair hstandby]
  refine ⟨fun hrefused => ?_, fun hstep hlock hwinter => ?_⟩
  · have hrefused' : s.chip.field.prepareRefused := by
      rcases hrefused with h | h | ⟨hb, hlock⟩
      · exact .inl (by simp [h])
      · exact .inr (.inr h)
      · exact .inr (.inl ⟨hb, by simp [hlock]⟩)
    rw [if_pos hrefused']
    rfl
  · have hgoes : ¬ s.chip.field.prepareRefused := by
      rcases hlock with h | h <;> simp [FieldDie.prepareRefused, hstep, hwinter, h]
    rw [if_neg hgoes]
    exact ⟨rfl, rfl, rfl, rfl, rfl⟩

theorem twinPrepAckRx_law (m : RoleMsg) (s : State) : ∃ t, exec (.twinPrepAckRx m) s = .next t ∧ fieldOnly s t ∧
    (s.chip.field.hand.asking = false ∨ s.chip.field.hand.phase ≠ 1 ∨ m.stamp ≠ s.chip.field.hand.stamp → t = s) ∧
    (s.chip.field.running = true → s.chip.field.twin.cfg.pairEn = true → s.chip.field.power.winter = false → s.chip.field.hand.asking = true →
      s.chip.field.hand.phase = 1 → m.stamp = s.chip.field.hand.stamp → m.newEpoch = s.chip.field.hand.newEpoch →
      t.chip.field = { s.chip.field with hand := { s.chip.field.hand with phase := 3, out := some (4, m) } }) := by
  refine ⟨s.onField fun f => f.roleMsg 2 m, rfl, rfl, fun hno => State.onField_eq_self (if_neg ?_),
    fun hrun hpair hwinter hask hphase hstamp hepoch => if_pos ?_⟩
  · exact FieldDie.not_phase_of (hno.imp_left fun h => by simp [h])
  · exact ⟨FieldDie.takesPart_of hrun hpair hwinter, hask, hphase, FieldDie.isMine_of hstamp hepoch⟩

/-- What a refusal of the peer acts on (R376). -/
abbrev nakDue (m : RoleMsg) (f : FieldDie) : Prop := f.takesPart = true ∧ f.hand.asking = true ∧ f.hand.phase = 1 ∧ f.isMine m = true

theorem twinPrepNakRx_law (m : RoleMsg) (s : State) : ∃ t, exec (.twinPrepNakRx m) s = .next t ∧ fieldOnly s t ∧
    t.chip.field.twin.role = s.chip.field.twin.role ∧
    (s.chip.field.hand.asking = false ∨ s.chip.field.hand.phase ≠ 1 ∨ m.stamp ≠ s.chip.field.hand.stamp → t = s) ∧
    (s.chip.field.running = true → s.chip.field.twin.cfg.pairEn = true → s.chip.field.power.winter = false → s.chip.field.hand.asking = true →
      s.chip.field.hand.phase = 1 → m.stamp = s.chip.field.hand.stamp → m.newEpoch = s.chip.field.hand.newEpoch →
      t.chip.field.hand.outcome = 3 ∧ t.chip.field.hand.lastStamp = some m.stamp) := by
  by_cases hdue : nakDue m s.chip.field
  · have hexec : exec (.twinPrepNakRx m) s = .next (s.onField fun f => f.handEnd 3 .wrongMode false) :=
      congrArg Host.Outcome.next (State.onField_due (p := nakDue m) hdue)
    refine ⟨_, hexec, rfl, FieldDie.twin_handEnd.1, fun hno => ?_, fun _ _ _ _ _ hstamp _ => ⟨FieldDie.outcome_handEnd, ?_⟩⟩
    · exact absurd hdue (FieldDie.not_phase_of (hno.imp_left fun h => by simp [h]))
    · exact FieldDie.lastStamp_handEnd.trans (congrArg some hstamp.symm)
  · refine ⟨s, congrArg Host.Outcome.next (State.onField_not (p := nakDue m) hdue), rfl, rfl, fun _ => rfl,
      fun hrun hpair hwinter hask hphase hstamp hepoch => absurd ?_ hdue⟩
    exact ⟨FieldDie.takesPart_of hrun hpair hwinter, hask, hphase, FieldDie.isMine_of hstamp hepoch⟩

theorem twinCommitRx_law (m : RoleMsg) (s : State) : ∃ t, exec (.twinCommitRx m) s = .next t ∧ fieldOnly s t ∧
    (s.chip.field.hand.asking = true ∨ s.chip.field.hand.phase ≠ 2 ∨ m.stamp ≠ s.chip.field.hand.stamp → t = s) ∧
    (s.chip.field.running = true → s.chip.field.twin.cfg.pairEn = true → s.chip.field.power.winter = false → s.chip.field.hand.asking = false →
      s.chip.field.hand.phase = 2 → m.stamp = s.chip.field.hand.stamp → m.newEpoch = s.chip.field.hand.newEpoch →
      t.chip.field = { s.chip.field with hand := { s.chip.field.hand with phase := 4, out := some (5, m) } }) := by
  refine ⟨s.onField fun f => f.roleMsg 4 m, rfl, rfl, fun hno => State.onField_eq_self (if_neg ?_),
    fun hrun hpair hwinter hask hphase hstamp hepoch => if_pos ?_⟩
  · exact FieldDie.not_phase_of (hno.imp_left fun h => by simp [h])
  · exact ⟨FieldDie.takesPart_of hrun hpair hwinter, by simp [hask], hphase, FieldDie.isMine_of hstamp hepoch⟩

theorem twinCommitAckRx_law (m : RoleMsg) (s : State) : ∃ t, exec (.twinCommitAckRx m) s = .next t ∧ fieldOnly s t ∧
    (s.chip.field.hand.asking = false ∨ s.chip.field.hand.phase ≠ 3 ∨ m.stamp ≠ s.chip.field.hand.stamp → t = s) ∧
    (s.chip.field.running = true → s.chip.field.twin.cfg.pairEn = true → s.chip.field.power.winter = false → s.chip.field.hand.asking = true →
      s.chip.field.hand.phase = 3 → m.stamp = s.chip.field.hand.stamp → m.newEpoch = s.chip.field.hand.newEpoch →
      t.chip.field = { s.chip.field with hand := { s.chip.field.hand with phase := 4, acked := true } }) := by
  refine ⟨s.onField fun f => f.roleMsg 5 m, rfl, rfl, fun hno => State.onField_eq_self (if_neg ?_),
    fun hrun hpair hwinter hask hphase hstamp hepoch => if_pos ?_⟩
  · exact FieldDie.not_phase_of (hno.imp_left fun h => by simp [h])
  · exact ⟨FieldDie.takesPart_of hrun hpair hwinter, hask, hphase, FieldDie.isMine_of hstamp hepoch⟩

/-- The device with a request of its peer among those that wait (R375). -/
def swapWaits (f : FieldDie) (m : RoleMsg) : FieldDie := f.modHand fun h => { h with wait := h.wait ++ [(m.stamp, none)] }

/-- What keeps a request of the peer out. -/
abbrev swapIgnored (m : RoleMsg) (f : FieldDie) : Prop := ¬ f.takesPart = true ∨ ¬ f.isActive = true ∨ f.hand.lastStamp = some m.stamp

/-- A request of the peer taken: the handover starts where none runs. -/
abbrev swapTaken (m : RoleMsg) (f : FieldDie) : FieldDie :=
  if (swapWaits f m).hand.phase = 0 ∨ (swapWaits f m).hand.phase = 5 then (swapWaits f m).handNext else swapWaits f m

theorem wait_handNext (f : FieldDie) : f.handNext.hand.wait = f.hand.wait := by
  unfold FieldDie.handNext
  split
  · rfl
  · split <;> rfl

theorem swapTaken_keeps (m : RoleMsg) (f : FieldDie) : (swapTaken m f).twin = f.twin ∧
    (swapTaken m f).hand.wait = f.hand.wait ++ [(m.stamp, none)] := by
  unfold swapTaken
  split
  · exact ⟨FieldDie.handNext_twin _, wait_handNext _⟩
  · exact ⟨rfl, rfl⟩

theorem twinSwapReqRx_law (m : RoleMsg) (s : State) : ∃ t, exec (.twinSwapReqRx m) s = .next t ∧ fieldOnly s t ∧
    t.chip.field.twin = s.chip.field.twin ∧
    (s.chip.field.isActive = false ∨ s.chip.field.hand.lastStamp = some m.stamp → t = s) ∧
    (s.chip.field.running = true → s.chip.field.twin.cfg.pairEn = true → s.chip.field.power.winter = false → s.chip.field.isActive = true →
      s.chip.field.hand.lastStamp ≠ some m.stamp →
      t.chip.field.hand.wait = s.chip.field.hand.wait ++ [(m.stamp, none)] ∧
      (s.chip.field.hand.phase = 0 ∨ s.chip.field.hand.phase = 5 → s.chip.field.hand.wait = [] →
        t.chip.field.hand.phase = 1 ∧ t.chip.field.hand.stamp = m.stamp ∧
        t.chip.field.hand.newEpoch = (s.chip.field.twin.epoch + 1) % 65536 ∧ t.chip.field.hand.switchEdge = s.chip.field.tick.tb + 4)) := by
  by_cases hno : swapIgnored m s.chip.field
  · refine ⟨s, congrArg Host.Outcome.next (State.onField_eq_self (if_pos hno)), rfl, rfl, fun _ => rfl,
      fun hrun hpair hwinter hact hstamp => absurd hno ?_⟩
    simp [swapIgnored, FieldDie.takesPart, hrun, hpair, hwinter, hact, hstamp]
  · have hexec : exec (.twinSwapReqRx m) s = .next (s.onField (swapTaken m)) :=
      congrArg Host.Outcome.next (State.onField_else (p := swapIgnored m) hno)
    have ⟨htwin, hwait⟩ := swapTaken_keeps m s.chip.field
    refine ⟨_, hexec, rfl, htwin, fun hn => absurd (.inr (hn.imp_left fun h => by simp [h])) hno,
      fun _ _ _ hact _ => ⟨hwait, fun hfree hnone => ?_⟩⟩
    have hone : (swapWaits s.chip.field m).hand.wait = [(m.stamp, none)] := congrArg (· ++ [(m.stamp, none)]) hnone
    have hact' : (swapWaits s.chip.field m).isActive = true := hact
    have htaken : swapTaken m s.chip.field = (swapWaits s.chip.field m).handNext := if_pos hfree
    rw [State.onField_field, htaken, FieldDie.handNext_one hact' hone]
    exact ⟨rfl, rfl, rfl, rfl⟩

theorem twinStateRx_law (p : StatePart) (s : State) : ∃ t, exec (.twinStateRx p) s = .next t ∧ fieldOnly s t ∧
    (s.chip.field.twin.join ≠ 4 ∨ s.chip.field.running = false → t = s) ∧
    (s.chip.field.twin.join = 4 → s.chip.field.running = true →
      t.chip.field.twin.parts = s.chip.field.twin.parts ++ [if p.last then 1 else 0] ∧
      t.chip.field.twin.role = s.chip.field.twin.role ∧ t.chip.field.twin.join = 4 ∧
      (∀ d, p.disp = some d → t.chip.field.disp = d) ∧ (∀ c, p.config = some c → t.chip.field.cfg = c)) := by
  refine ⟨s.onField fun f => f.applyPart p, rfl, rfl, fun hno => State.onField_eq_self (FieldDie.applyPart_not hno), fun hjoin hrun => ?_⟩
  have ⟨htwin, hdisp, hcfg⟩ := FieldDie.applyPart_taken (p := p) hjoin hrun
  rw [State.onField_field, htwin, hdisp, hcfg]
  refine ⟨rfl, rfl, hjoin, fun d hd => ?_, fun c hc => ?_⟩
  · rw [hd, Option.getD_some]
  · rw [hc, Option.getD_some]

theorem twinDrillRx_law (step port : Fin 256) (ok : Bool) (s : State) : ∃ t, exec (.twinDrillRx step port ok) s = .next t ∧ fieldOnly s t ∧
    t.chip.field.twin.role = s.chip.field.twin.role ∧
    (s.chip.field.running = false ∨ s.chip.field.twin.cfg.pairEn = false ∨ s.chip.field.power.winter = true → t = s) ∧
    (s.chip.field.running = true → s.chip.field.twin.cfg.pairEn = true → s.chip.field.power.winter = false →
      (s.chip.field.isActive = true → ok = true ∨ s.chip.field.hand.drillOn = false → t = s) ∧
      (s.chip.field.isActive = true → ok = false → s.chip.field.hand.drillOn = true →
        t.chip.field.hand.drillFail = true ∧ t.chip.field.fcol.arisen ≠ s.chip.field.fcol.arisen) ∧
      (s.chip.field.isStandby = true → ok = false → t.chip.field.twin.latent = true)) := by
  refine ⟨s.onField fun f => f.drillRx step port ok, rfl, rfl, FieldDie.role_drillRx step port ok,
    fun hno => State.onField_eq_self (FieldDie.drillRx_not hno), fun hrun hpair hwinter => ⟨fun hact hcalm => ?_, fun hact hok hon => ?_,
      fun hstandby hok => ?_⟩⟩
  · refine State.onField_eq_self ((FieldDie.drillRx_taken hrun hpair hwinter).trans ((if_pos hact).trans (if_neg ?_)))
    rcases hcalm with h | h <;> simp [h]
  · rw [State.onField_field, FieldDie.drillRx_taken hrun hpair hwinter, if_pos hact, if_pos ⟨hon, by simp [hok]⟩]
    exact ⟨rfl, fun h => absurd (congrArg List.length h) (by simp [FieldDie.drillFailed, FieldDie.raise, FieldDie.modHand])⟩
  · rw [State.onField_field, hok]
    exact FieldDie.latent_drillRx hrun hpair hwinter hstandby

/-- A device whose lanes stay in reset (R359). -/
abbrev linkOff (f : FieldDie) : Prop := ¬ f.twin.cfg.pairEn = true ∨ ¬ f.running = true

theorem twinPacketDiscard_law (l : Fin 2) (s : State) : ∃ t, exec (.twinPacketDiscard l) s = .next t ∧ fieldOnly s t ∧
    (s.chip.field.twin.cfg.pairEn = false ∨ s.chip.field.running = false → t = s) ∧
    (s.chip.field.twin.cfg.pairEn = true → s.chip.field.running = true →
      t.chip.field.twin.linkErr = satN 8 (s.chip.field.twin.linkErr + 1) ∧ (t.chip.field.twin.lanes.get l).hit = true ∧
      ∀ j, j ≠ l → t.chip.field.twin.lanes.get j = s.chip.field.twin.lanes.get j) := by
  by_cases hoff : linkOff s.chip.field
  · exact ⟨s, congrArg Host.Outcome.next (State.onField_eq_self (if_pos hoff)), rfl, fun _ => rfl,
      fun hpair hrun => absurd hoff (by simp [linkOff, hpair, hrun])⟩
  · have hexec : exec (.twinPacketDiscard l) s = .next (s.onField fun f => f.modTwin (fun t => { t with
        linkErr := satN 8 (t.linkErr + 1), lanes := t.lanes.modify l (fun (l : Lane) => { l with hit := true }) })) :=
      congrArg Host.Outcome.next (State.onField_else (p := linkOff) hoff)
    refine ⟨_, hexec, rfl, fun hn => absurd (hn.imp (fun h => by simp [h]) fun h => by simp [h]) hoff, fun _ _ => ⟨rfl, ?_, fun j hj => ?_⟩⟩
    · exact congrArg Lane.hit (Tab.get_modify_self s.chip.field.twin.lanes l (fun (l : Lane) => { l with hit := true }))
    · exact Tab.get_modify_ne _ _ _ _ hj

theorem laneUp_law (l : Fin 2) (s : State) : ∃ t, exec (.laneUp l) s = .next t ∧ fieldOnly s t ∧
    (t.chip.field.twin.lanes.get l).up = ((s.chip.field.twin.lanes.get l).up || decide (40 ≤ (s.chip.field.twin.lanes.get l).good)) ∧
    ∀ j, j ≠ l → t.chip.field.twin.lanes.get j = s.chip.field.twin.lanes.get j := by
  refine ⟨_, rfl, rfl, ?_, fun j hj => Tab.get_modify_ne _ _ _ _ hj⟩
  refine (congrArg Lane.up (Tab.get_modify_self s.chip.field.twin.lanes l (fun (l : Lane) => if 40 ≤ l.good then { l with up := true } else l))).trans ?_
  by_cases h : 40 ≤ (s.chip.field.twin.lanes.get l).good <;> simp [h]

theorem laneDown_law (l : Fin 2) (s : State) : ∃ t, exec (.laneDown l) s = .next t ∧ fieldOnly s t ∧
    (t.chip.field.twin.lanes.get l).up = ((s.chip.field.twin.lanes.get l).up && decide ((s.chip.field.twin.lanes.get l).bad < 4)) ∧
    ∀ j, j ≠ l → t.chip.field.twin.lanes.get j = s.chip.field.twin.lanes.get j := by
  refine ⟨_, rfl, rfl, ?_, fun j hj => Tab.get_modify_ne _ _ _ _ hj⟩
  refine (congrArg Lane.up (Tab.get_modify_self s.chip.field.twin.lanes l (fun (l : Lane) => if 4 ≤ l.bad then { l with up := false } else l))).trans ?_
  by_cases h : 4 ≤ (s.chip.field.twin.lanes.get l).bad <;> simp [h, Nat.not_lt.mpr, Nat.lt_of_not_le]

theorem twinInputRx_law (x : InputSection) (s : State) : ∃ t, exec (.twinInputRx x) s = .next t ∧ fieldOnly s t ∧
    (s.chip.field.running = false ∨ s.chip.field.twin.cfg.pairEn = false ∨ s.chip.field.isStandby = false → t = s) ∧
    (x.number ≠ 0 → s.chip.field.follows = false → t = s) ∧
    (s.chip.field.running = true → s.chip.field.twin.cfg.pairEn = true → s.chip.field.isStandby = true →
      (∀ n, x.number = 0 → x.tb = some n → t.chip.field.twin = { s.chip.field.twin with
        sections := s.chip.field.twin.sections ++ [0], tbDelta := (n.toNat : Int) - s.chip.field.tick.tb }) ∧
      (x.number = 5 → s.chip.field.follows = true → s.chip.field.twin.evq + x.portEvents ≤ 256 → t.chip.field.twin = { s.chip.field.twin with
        sections := s.chip.field.twin.sections ++ [5], evq := s.chip.field.twin.evq + x.portEvents })) := by
  refine ⟨s.onField fun f => f.inputRx s.chip.variant x, rfl, rfl, fun hno => State.onField_eq_self (FieldDie.inputRx_not hno),
    fun hnum hfollows => State.onField_eq_self (FieldDie.inputRx_ignored hnum hfollows), fun hrun hpair hstandby => ⟨fun n hnum hn => ?_,
      fun hnum hfollows hroom => ?_⟩⟩
  · rw [State.onField_field, FieldDie.inputRx_taken hrun hpair hstandby (.inl hnum), FieldDie.inputSection_header hnum hn, hnum]
    rfl
  · have hroom' : (s.chip.field.sectionSeen x.number).twin.evq + x.portEvents ≤ 256 := hroom
    rw [State.onField_field, FieldDie.inputRx_taken hrun hpair hstandby (.inr hfollows), FieldDie.inputSection_events hnum hroom', hnum]
    rfl

theorem inputSectionDeadline_law (n : Fin 6) (s : State) : ∃ t, exec (.inputSectionDeadline n) s = .next t ∧ fieldOnly s t ∧
    (s.chip.field.follows = false ∨ s.chip.field.twin.sections.contains n.val = true → t = s) ∧
    (s.chip.field.follows = true → s.chip.field.twin.sections.contains n.val = false → n ≠ 3 → s.chip.field.twin.missRun = 0 →
      s.chip.field.twin.inStep = true → t.chip.field.twin.inStep = false ∧
      t.chip.field.fcol.arisen = s.chip.field.fcol.arisen ++ [fieldEvent s 228 1]) := by
  refine ⟨s.onField fun f => f.sectionMissed n, rfl, rfl, fun hno => State.onField_eq_self (FieldDie.sectionMissed_not hno),
    fun hfollows hsections hn hmiss hstep => ?_⟩
  have hstandby := FieldDie.standby_of_follows hfollows
  rw [State.onField_field, FieldDie.sectionMissed_leaves hfollows hsections (fun h => hn (Fin.ext h)) hmiss hstep]
  exact ⟨FieldDie.inStep_leaveStep hstandby, FieldDie.arisen_leaveStep hstandby hstep⟩

/-- Settles O38: each message of the peer, the lanes and the input frame, rule by rule. -/
theorem twinMessagesActInTheirPhase : Obligations.TwinMessagesActInTheirPhase :=
  ⟨twinHeartbeatRx_law, twinDigestRx_law, twinPrepareRx_law, twinPrepAckRx_law, twinPrepNakRx_law, twinCommitRx_law, twinCommitAckRx_law,
    twinSwapReqRx_law, twinStateRx_law, twinDrillRx_law, twinPacketDiscard_law, laneUp_law, laneDown_law, twinInputRx_law, inputSectionDeadline_law⟩

end Machine
end Sys2Proof

/-! The boot of region H, the confirmation of a trial, the load of a stale field, and the start of the field image (17 R443 to R447, 03 R79). -/

namespace Sys2Proof
namespace HostDie

/-! What the recorder's clears and the reports of a boot keep. -/

/-- A property that the recorder, the page operations, the queues, the mode's report and a raised event do not touch. -/
structure Indifferent (P : HostDie → Prop) : Prop where
  rech : ∀ h r, P h → P { h with rech := r }
  hif : ∀ h x, P h → P { h with hif := x }
  mode : ∀ h m, P h → P { h with mode := m }
  pages : ∀ h os c bs, P h → P { h with stor := { h.stor with ops := os, current := c, blocks := bs } }
  raise : ∀ h src code n, P h → P (h.raise src code n)

namespace Indifferent

theorem keeps_ite {P : HostDie → Prop} {c : Prop} [Decidable c] {g k : HostDie} (hg : P g) (hk : P k) : P (if c then g else k) := by
  split
  · exact hg
  · exact hk

variable {P : HostDie → Prop} (hP : Indifferent P) {h : HostDie}

include hP

theorem vector {n : Nat} (hh : P h) : P (h.vector n) := by
  unfold HostDie.vector
  split
  · exact hP.hif _ _ hh
  · exact hh

theorem complete {r : Request} {st : Status} {n : Nat} (hh : P h) : P (h.complete r st n) := by
  unfold HostDie.complete
  split
  · exact hh
  · exact hP.hif _ _ hh

theorem ops {os : List NandOp} (hh : P h) : P { h with stor := { h.stor with ops := os } } := hP.pages h os h.stor.current h.stor.blocks hh

theorem nandOp {o : NandOp} (hh : P h) : P (h.nandOp o) := by
  have hqueued : P { h with stor := { h.stor with ops := h.stor.ops ++ [o] } } := hP.ops hh
  unfold HostDie.nandOp HostDie.nandNext
  split
  · exact hqueued
  split
  · exact hP.pages _ _ _ h.stor.blocks hqueued
  · exact hqueued

theorem erasePart {a b c : Nat} (hh : P h) : P (h.erasePart a b c) := hP.pages h h.stor.ops h.stor.current _ hh

theorem handAll (hh : P h) : P h.handAll := by
  unfold HostDie.handAll
  dsimp only
  split
  · exact hh
  · exact hP.nandOp (hP.rech _ _ hh)

theorem storeRecord {r : Record} (hh : P h) : P (h.storeRecord r) := by
  unfold HostDie.storeRecord
  exact keeps_ite (hP.handAll (hP.rech _ _ hh)) (hP.rech _ _ hh)

theorem storeTrace (hh : P h) : P h.storeTrace := by
  unfold HostDie.storeTrace HostDie.tracesFull
  dsimp only
  split
  · exact hh
  split
  · split
    · exact hP.rech _ _ hh
    · exact hP.vector (hP.raise _ _ _ _ (hP.rech _ _ hh))
  split
  · exact hh
  · exact hP.nandOp hh

theorem clearLog {l : Ledger} (hh : P h) : P (h.clearLog l) := by
  unfold HostDie.clearLog
  refine hP.rech _ _ (List.foldlRecOn _ _ ?_ fun g hg i _ => hP.storeRecord hg)
  have hpages : ∀ {g : HostDie}, P g → ∀ {a b : Bool}, P (
      let k := if a then g.erasePart 6 2 4096 else g
      if b then (k.erasePart 7 0 4096).storeTrace else k) := fun hg =>
    keeps_ite (hP.storeTrace (hP.erasePart (keeps_ite (hP.erasePart hg) hg))) (keeps_ite (hP.erasePart hg) hg)
  have hstart : P { h with stor := { h.stor with ops := if l.what.testBit 0 then h.stor.ops.filter (fun o => match o with | .records _ => false | _ => true) else h.stor.ops } } :=
    hP.ops hh
  exact keeps_ite (hP.storeRecord (hpages (hP.rech _ _ hstart))) (hP.rech _ _ (hP.storeRecord (hpages (hP.rech _ _ hstart))))

theorem finishClears (hh : P h) : P h.finishClears := by
  have hcleared : P ((h.rech.ledger.filter (fun l => !l.cleared)).foldl HostDie.clearLog h) :=
    List.foldlRecOn _ _ hh fun g hg l _ => hP.clearLog hg
  exact List.foldlRecOn _ _ (hP.rech _ _ hcleared) fun g hg r _ => hP.vector (hP.raise _ _ _ _ (hP.complete hg))

theorem reportMode (hh : P h) : P h.reportMode := by
  unfold HostDie.reportMode
  dsimp only
  split
  · exact hh
  · exact hP.vector (hP.mode _ _ hh)

end Indifferent

/-! HOST_BOOT (R443 to R448). -/

/-- Region H as it runs an image, with no configuration staged and no copy stored. -/
structure Runs (key rollback : Nat) (recovery : Bool) (e : Event) (h : HostDie) : Prop where
  booted : h.booted = true
  ticks : h.runTicks = 0
  recovery : h.stor.recovery = recovery
  key : h.stor.key = key
  rollback : h.stor.rollback = rollback
  cfgPending : h.stor.hdr.cfgPending = false
  copies : h.stor.copies = []
  told : e ∈ h.fcm.arisen

variable {key rollback : Nat} {recovery : Bool} {e : Event} {v : Variant} {h : HostDie} {o : BootOutcome}

theorem indifferent_runs (key rollback : Nat) (recovery : Bool) (e : Event) : Indifferent (Runs key rollback recovery e) where
  rech _ _ hr := ⟨hr.booted, hr.ticks, hr.recovery, hr.key, hr.rollback, hr.cfgPending, hr.copies, hr.told⟩
  hif _ _ hr := ⟨hr.booted, hr.ticks, hr.recovery, hr.key, hr.rollback, hr.cfgPending, hr.copies, hr.told⟩
  mode _ _ hr := ⟨hr.booted, hr.ticks, hr.recovery, hr.key, hr.rollback, hr.cfgPending, hr.copies, hr.told⟩
  pages _ _ _ _ hr := ⟨hr.booted, hr.ticks, hr.recovery, hr.key, hr.rollback, hr.cfgPending, hr.copies, hr.told⟩
  raise _ _ _ _ hr := ⟨hr.booted, hr.ticks, hr.recovery, hr.key, hr.rollback, hr.cfgPending, hr.copies, List.mem_append_left _ hr.told⟩

/-- A boot whose port or header fails enters recovery (R445). -/
theorem boot_recovers {f : Option FieldDie} (hfail : o.portOk = false ∨ o.headerOk = false ∨ h.stor.formatted = false) :
    h.boot v f o = h.recover h.stor := by
  refine if_pos ?_
  rcases hfail with h | h | h <;> simp [h]

/-- The storage manager as the active image leaves it (R443, step 5). -/
def imageTaken (h : HostDie) : Stor := { h.stor with key := rd 1 6 h.stor.running, rollback := rd 4 0x0C h.stor.running }

/-- With no trial and nothing committed, the active image runs where its checks pass. -/
theorem bootRun_active {copyOk : Bool} (htrial : h.stor.hdr.trial = false) (hpending : h.stor.hdr.pending = false)
    (hcheck : checkSlot v h h.stor.running = 0) :
    bootRun v h (bootPending v h copyOk (bootTrial h.stor)) = { stor := h.imageTaken, reasons := [], runs := true } := by
  have hstart : bootTrial h.stor = { stor := h.stor, reasons := [], runs := false } := if_neg (by simp [htrial])
  have hnone : bootPending v h copyOk { stor := h.stor, reasons := [], runs := false } = { stor := h.stor, reasons := [], runs := false } :=
    if_pos (by simp [hpending])
  have hgood : checkSlot v { h with stor := h.stor } h.stor.running = 0 := hcheck
  rw [hstart, hnone]
  unfold bootRun
  dsimp only
  rw [if_pos hgood]
  rfl

theorem boot_unlinked (hport : o.portOk = true) (hheader : o.headerOk = true) (hformatted : h.stor.formatted = true)
    (htrial : h.stor.hdr.trial = false) (hpending : h.stor.hdr.pending = false) (hcheck : checkSlot v h h.stor.running = 0) :
    h.boot v none o = ((((h.firmwareStarts { stor := h.imageTaken, reasons := [], runs := true }).finishClears.installStaged v).judgeStored).pushStored v
      FieldDie.reset).reportMode := by
  have hgoes : ¬ (¬ o.portOk = true ∨ ¬ o.headerOk = true ∨ ¬ h.stor.formatted = true) := by simp [hport, hheader, hformatted]
  unfold boot
  rw [if_neg hgoes, bootRun_active htrial hpending hcheck]
  exact if_neg fun hn => hn rfl

/-- A nonce drawn touches nothing but the security engine. -/
theorem drawNonce_keeps {α : Type} (p : HostDie → α) (hp : ∀ h x, p { h with sec := x } = p h) (h : HostDie) : p h.drawNonce = p h := hp h _

theorem recover_rest (h : HostDie) (x : Stor) : (h.recover x).stor = { x with recovery := true } ∧ (h.recover x).booted = h.booted ∧
    (h.recover x).sec.draws = h.sec.draws + 8 :=
  ⟨drawNonce_keeps HostDie.stor (fun _ _ => rfl) _, drawNonce_keeps HostDie.booted (fun _ _ => rfl) _, rfl⟩

/-- The event that a start of region H raises (R443). -/
def startEvent (h : HostDie) : Event := { tb := h.htb, fine := 0xFFFF, src := 10, code := if h.mode.cause = 1 then 1 else 2, value := 0 }

/-- Region H with its firmware started on the active image, before it reports that (R443, step 6). -/
structure Starts (h g : HostDie) : Prop where
  booted : g.booted = true
  ticks : g.runTicks = 0
  recovery : g.stor.recovery = h.stor.recovery
  key : g.stor.key = rd 1 6 h.stor.running
  rollback : g.stor.rollback = rd 4 0x0C h.stor.running
  cfgPending : g.stor.hdr.cfgPending = h.stor.hdr.cfgPending
  copies : g.stor.copies = h.stor.copies
  htb : g.htb = h.htb
  mode : g.mode = h.mode

theorem starts_sec {g : HostDie} (hs : Starts h g) (x : Sec) : Starts h { g with sec := x } :=
  ⟨hs.booted, hs.ticks, hs.recovery, hs.key, hs.rollback, hs.cfgPending, hs.copies, hs.htb, hs.mode⟩

theorem starts_booted {g : HostDie} (hg : g = { h with stor := h.imageTaken }) :
    Starts h ({ g with booted := true, runTicks := 0 }.modStor fun s => { s with recovered := false }) := by
  subst hg
  exact ⟨rfl, rfl, rfl, rfl, rfl, rfl, rfl, rfl, rfl⟩

theorem mem_raise (g : HostDie) (src code : Nat) :
    ({ tb := g.htb, fine := 0xFFFF, src := src, code := code, value := 0 } : Event) ∈ (g.raise src code).fcm.arisen :=
  List.mem_append_right g.fcm.arisen (List.mem_singleton_self _)

theorem runs_of_starts {g : HostDie} (hs : Starts h g) (hcfg : h.stor.hdr.cfgPending = false) (hcopies : h.stor.copies = []) :
    Runs (rd 1 6 h.stor.running) (rd 4 0x0C h.stor.running) h.stor.recovery h.startEvent (g.raise 10 (if g.mode.cause = 1 then 1 else 2)) := by
  refine ⟨hs.booted, hs.ticks, hs.recovery, hs.key, hs.rollback, hs.cfgPending.trans hcfg, hs.copies.trans hcopies, ?_⟩
  unfold startEvent
  rw [← hs.htb, ← hs.mode]
  exact mem_raise g _ _

theorem runs_firmwareStarts (hcfg : h.stor.hdr.cfgPending = false) (hcopies : h.stor.copies = []) :
    Runs (rd 1 6 h.stor.running) (rd 4 0x0C h.stor.running) h.stor.recovery h.startEvent
      (h.firmwareStarts { stor := h.imageTaken, reasons := [], runs := true }) := by
  have hP := indifferent_runs (rd 1 6 h.stor.running) (rd 4 0x0C h.stor.running) h.stor.recovery h.startEvent
  unfold firmwareStarts
  extract_lets taken was started told reported
  have htaken : taken = { h with stor := h.imageTaken } := if_pos rfl
  have hstarted : Starts h started := starts_sec (starts_booted htaken) _
  clear_value started
  have htold := runs_of_starts hstarted hcfg hcopies
  exact Indifferent.keeps_ite (hP.vector (hP.raise _ _ _ _ htold)) htold

theorem installStaged_none (hcfg : h.stor.hdr.cfgPending = false) : h.installStaged v = h := if_pos (by simp [hcfg])

theorem newestCopy_none (hcopies : h.stor.copies = []) : h.stor.newestCopy = none := by
  unfold Stor.newestCopy
  rw [hcopies]
  rfl

theorem judgeStored_none (hcopies : h.stor.copies = []) : h.judgeStored = h := by
  unfold judgeStored
  rw [newestCopy_none hcopies]

theorem pushStored_none {f : FieldDie} (hcopies : h.stor.copies = []) : h.pushStored v f = h := by
  unfold pushStored Stor.usable
  rw [newestCopy_none hcopies]

/-- A boot of the active image leaves it running. -/
theorem runs_boot (hport : o.portOk = true) (hheader : o.headerOk = true) (hformatted : h.stor.formatted = true)
    (htrial : h.stor.hdr.trial = false) (hpending : h.stor.hdr.pending = false) (hcfg : h.stor.hdr.cfgPending = false) (hcopies : h.stor.copies = [])
    (hcheck : checkSlot v h h.stor.running = 0) :
    Runs (rd 1 6 h.stor.running) (rd 4 0x0C h.stor.running) h.stor.recovery h.startEvent (h.boot v none o) := by
  have hP := indifferent_runs (rd 1 6 h.stor.running) (rd 4 0x0C h.stor.running) h.stor.recovery h.startEvent
  have hruns := hP.finishClears (runs_firmwareStarts hcfg hcopies)
  rw [boot_unlinked hport hheader hformatted htrial hpending hcheck, installStaged_none hruns.cfgPending, judgeStored_none hruns.copies,
    pushStored_none hruns.copies]
  exact hP.reportMode hruns

/-! FIELD_STALE_LOAD (R446). -/

theorem reportMode_rest (h : HostDie) : h.reportMode.bar = h.bar ∧ h.reportMode.stor = h.stor := by
  unfold reportMode
  dsimp only
  split
  · exact ⟨rfl, rfl⟩
  · rw [vector_bar, vector_stor]
    exact ⟨rfl, rfl⟩

/-- Region H with the stale field taken up. -/
def staleTaken (h : HostDie) : HostDie := h.modStor fun s => { s with fieldStale := false, loadTries := 0 }

theorem loadField_running {f : FieldDie} (hrun : f.running = true) :
    h.loadField f = { h.staleTaken with bar := { h.bar with forward := h.bar.forward ++ [ownCommand 0x0002 4] } } := if_pos hrun

theorem loadField_stopped {f : FieldDie} (hrun : ¬ f.running = true) : h.loadField f = h.staleTaken.loadWaiting f := if_neg hrun

theorem fieldStale_loadField (f : FieldDie) : (h.loadField f).stor.fieldStale = false := by
  by_cases hrun : f.running = true
  · rw [loadField_running hrun]
    rfl
  · rw [loadField_stopped hrun]
    unfold loadWaiting
    split
    · exact congrArg Stor.fieldStale (startLoad_rest h.staleTaken).2
    · rfl

theorem running_of_waiting {f : FieldDie} (h : f.power.phase = .waiting) : ¬ f.running = true := by
  unfold FieldDie.running
  rw [h]
  exact (by decide)

theorem loadField_waiting {f : FieldDie} (hboot : h.booted = true) (hphase : f.power.phase = .waiting) (hready : f.power.ready = false)
    (hload : h.stor.loading = false) : (h.loadField f).stor.loading = true ∧ (h.loadField f).bar.blocks = h.stor.loadBlocks := by
  have hstarts : h.loadField f = h.staleTaken.startLoad := by
    refine (loadField_stopped (running_of_waiting hphase)).trans (if_pos ⟨hboot, hphase, by simp [hready], ?_, Nat.zero_lt_succ 2⟩)
    exact (Bool.not_eq_true _).mpr hload
  have ⟨hbar, hstor⟩ := startLoad_rest h.staleTaken
  rw [hstarts, hbar, hstor]
  exact ⟨rfl, rfl⟩

end HostDie

namespace Machine

/-- The boot of region H, with its link and without it. -/
theorem exec_hostBoot_may {o : BootOutcome} {s : State} (hmay : s.chip.host.mayBoot = true) : exec (.hostBoot o) s = .next (
    if s.linked then
      let t := s.onHost (fun h => h.boot s.chip.variant (some s.chip.field) o)
      if t.chip.host.booted then t.onField FieldDie.takeAon else t
    else s.onHost (fun h => h.boot s.chip.variant none o)) :=
  congrArg Host.Outcome.next (if_neg (by simp [hmay]))

theorem exec_hostBoot_not {o : BootOutcome} {s : State} (hmay : s.chip.host.mayBoot = false) : exec (.hostBoot o) s = .next s :=
  congrArg Host.Outcome.next (if_pos (by simp [hmay]))

theorem not_booted_of_mayBoot {h : HostDie} (hmay : h.mayBoot = true) : h.booted = false := by
  unfold HostDie.mayBoot at hmay
  simp only [Bool.and_eq_true, Bool.not_eq_true'] at hmay
  exact hmay.1.1.2

theorem exec_hostBoot_recovers {o : BootOutcome} {s : State} (hmay : s.chip.host.mayBoot = true)
    (hfail : o.portOk = false ∨ o.headerOk = false ∨ s.chip.host.stor.formatted = false) :
    exec (.hostBoot o) s = .next (s.onHost fun h => h.recover h.stor) := by
  have hstill : ¬ (s.onHost fun h => h.recover h.stor).chip.host.booted = true := fun hb =>
    absurd ((not_booted_of_mayBoot hmay).symm.trans ((HostDie.recover_rest _ _).2.1.symm.trans hb)) (by decide)
  have hboot (f : Option FieldDie) : s.onHost (fun h => h.boot s.chip.variant f o) = s.onHost fun h => h.recover h.stor :=
    congrArg (fun h : HostDie => ({ s with chip := { s.chip with host := h } } : State)) (HostDie.boot_recovers hfail)
  rw [exec_hostBoot_may hmay, hboot, hboot]
  dsimp only
  rw [if_neg hstill, ite_self]

theorem field_onHost (g : HostDie → HostDie) (s : State) : (s.onHost g).chip.field = s.chip.field := rfl

theorem hostBoot_law (o : BootOutcome) (s : State) : ∃ t, exec (.hostBoot o) s = .next t ∧
    (s.chip.host.mayBoot = false → t = s) ∧
    (s.chip.host.mayBoot = true → o.portOk = false ∨ o.headerOk = false ∨ s.chip.host.stor.formatted = false →
      t.chip.host.stor = { s.chip.host.stor with recovery := true } ∧ t.chip.host.booted = false ∧ t.chip.field = s.chip.field ∧
      t.chip.host.sec.draws = s.chip.host.sec.draws + 8) ∧
    (s.chip.host.mayBoot = true → o.portOk = true → o.headerOk = true → s.chip.host.stor.formatted = true → s.linked = false →
      s.chip.host.stor.hdr.trial = false → s.chip.host.stor.hdr.pending = false → s.chip.host.stor.hdr.cfgPending = false →
      s.chip.host.stor.copies = [] → checkSlot s.chip.variant s.chip.host s.chip.host.stor.running = 0 →
      t.chip.host.booted = true ∧ t.chip.host.stor.recovery = s.chip.host.stor.recovery ∧ t.chip.host.runTicks = 0 ∧
      t.chip.host.stor.key = rd 1 6 s.chip.host.stor.running ∧ t.chip.host.stor.rollback = rd 4 0x0C s.chip.host.stor.running ∧
      hostEvent s 10 (if s.chip.host.mode.cause = 1 then 1 else 2) ∈ t.chip.host.fcm.arisen) := by
  cases hmay : s.chip.host.mayBoot with
  | false => exact ⟨s, exec_hostBoot_not hmay, fun _ => rfl, nofun, nofun⟩
  | true =>
    by_cases hfail : o.portOk = false ∨ o.headerOk = false ∨ s.chip.host.stor.formatted = false
    · have ⟨hstor, hboot, hdraws⟩ := HostDie.recover_rest s.chip.host s.chip.host.stor
      refine ⟨_, exec_hostBoot_recovers hmay hfail, fun hn => absurd hn (by decide), fun _ _ => ?_, fun _ hport hheader hformatted => ?_⟩
      · rw [State.onHost_host, field_onHost]
        exact ⟨hstor, hboot.trans (not_booted_of_mayBoot hmay), rfl, hdraws⟩
      · simp [hport, hheader, hformatted] at hfail
    · refine ⟨_, exec_hostBoot_may hmay, fun hn => absurd hn (by decide), fun _ hn => absurd hn hfail,
        fun _ hport hheader hformatted hlink htrial hpending hcfg hcopies hcheck => ?_⟩
      have hruns := HostDie.runs_boot hport hheader hformatted htrial hpending hcfg hcopies hcheck
      rw [if_neg (by simp [hlink])]
      exact ⟨hruns.booted, hruns.recovery, hruns.ticks, hruns.key, hruns.rollback, hruns.told⟩

/-- The condition of a trial's confirmation (R444). -/
abbrev confirmDue (h : HostDie) : Prop :=
  h.booted = true ∧ h.stor.hdr.trial = true ∧ 40000 * h.stor.hdr.confirmT ≤ h.runTicks ∧ h.stor.fieldLoaded = true ∧ ¬ h.stor.loading = true

theorem trialConfirm_law (s : State) : ∃ t, exec .trialConfirm s = .next t ∧ hostOnly s t ∧
    (s.chip.host.booted = true → s.chip.host.stor.hdr.trial = true → 40000 * s.chip.host.stor.hdr.confirmT ≤ s.chip.host.runTicks →
      s.chip.host.stor.fieldLoaded = true → s.chip.host.stor.loading = false →
      t.chip.host.stor.hdr.trial = false ∧ hostEvent s 246 2 ∈ t.chip.host.fcm.arisen) ∧
    (s.chip.host.booted = false ∨ s.chip.host.stor.hdr.trial = false ∨ s.chip.host.runTicks < 40000 * s.chip.host.stor.hdr.confirmT → t = s) := by
  by_cases hdue : confirmDue s.chip.host
  · have hexec : exec .trialConfirm s = .next (s.onHost fun h => ((h.rewriteHeader (fun d => { d with trial := false })).raise 246 2).vector 47) :=
      congrArg Host.Outcome.next (State.onHost_due (p := confirmDue) hdue)
    refine ⟨_, hexec, rfl, fun _ _ _ _ _ => ?_, fun hno => ?_⟩
    · rw [State.onHost_host, HostDie.vector_stor, HostDie.vector_fcm, HostDie.arisen_raise_rewriteHeader]
      exact ⟨HostDie.stor_rewriteHeader _ _ (fun s : Stor => s.hdr.trial) fun _ _ _ => rfl, List.mem_append_right _ (List.mem_singleton_self _)⟩
    · obtain ⟨hboot, htrial, hlong, _⟩ := hdue
      rcases hno with hno | hno | hno
      · exact absurd (hno.symm.trans hboot) (by decide)
      · exact absurd (hno.symm.trans htrial) (by decide)
      · omega
  · refine ⟨s, congrArg Host.Outcome.next (State.onHost_not (p := confirmDue) hdue), rfl,
      fun hboot htrial hlong hloaded hload => absurd ⟨hboot, htrial, hlong, hloaded, by simp [hload]⟩ hdue, fun _ => rfl⟩

theorem fieldStaleLoad_law (s : State) : ∃ t, exec .fieldStaleLoad s = .next t ∧ hostOnly s t ∧
    (s.chip.host.booted = true → s.chip.host.stor.fieldStale = true → s.linked = true → s.chip.field.isActive = false →
      t.chip.host.stor.fieldStale = false ∧
      (s.chip.field.running = true → t.chip.host.bar.forward = s.chip.host.bar.forward ++ [ownCommand 0x0002 4]) ∧
      (s.chip.field.power.phase = .waiting → s.chip.field.power.ready = false → s.chip.host.stor.loading = false →
        t.chip.host.stor.loading = true ∧ t.chip.host.bar.blocks = s.chip.host.stor.loadBlocks)) ∧
    (s.chip.host.stor.fieldStale = false ∨ s.chip.field.isActive = true ∨ s.linked = false ∨ s.chip.host.booted = false → t = s) := by
  by_cases hdue : s.chip.host.booted = true ∧ s.chip.host.stor.fieldStale = true ∧ s.linked = true ∧ ¬ s.chip.field.isActive = true
  · have hexec : exec .fieldStaleLoad s = .next (s.onHost fun h => (h.loadField s.chip.field).reportMode) := congrArg Host.Outcome.next (if_pos hdue)
    have ⟨hbar, hstor⟩ := HostDie.reportMode_rest (s.chip.host.loadField s.chip.field)
    refine ⟨_, hexec, rfl, fun hboot _ _ _ => ?_, fun hno => ?_⟩
    · rw [State.onHost_host, hbar, hstor]
      refine ⟨HostDie.fieldStale_loadField _, fun hrun => ?_, HostDie.loadField_waiting hboot⟩
      rw [HostDie.loadField_running hrun]
    · obtain ⟨hboot, hstale, hlink, hact⟩ := hdue
      simp [hboot, hstale, hlink, hact] at hno
  · exact ⟨s, congrArg Host.Outcome.next (if_neg hdue), rfl,
      fun hboot hstale hlink hact => absurd ⟨hboot, hstale, hlink, by simp [hact]⟩ hdue, fun _ => rfl⟩

/-- The field side at the edge at which its image starts, before the tick begins (R447, 03 R79). -/
def imageEdge (f : FieldDie) (b : Bool) : FieldDie :=
  ({ f with
    power := { f.power with phase := .spring, ready := false, load := [] }
    tick := { f.tick with tb := 0, fine := 0, syncOut := true, following := b } }).modQd 0 (fun x => { x with ftim := x.ftim.startLines })

theorem takeAon_restored (g : FieldDie) : ({ g.takeAon with
    aon := g.aon, power := { g.takeAon.power with startCause := g.power.startCause } } : FieldDie) = g := rfl

theorem field_restored (g : FieldDie) : ({ g with
    aon := g.aon, power := { g.power with startCause := g.power.startCause } } : FieldDie) = g := rfl

theorem fieldImageStart_law (b : Bool) (s : State) : ∃ t, exec (.fieldImageStart b) s = .next t ∧
    (s.chip.field.waits s.chip.variant = false ∨ s.chip.field.power.ready = false → t = s) ∧
    (s.chip.field.waits s.chip.variant = true → s.chip.field.power.ready = true → ∃ g : FieldDie,
      g.power.phase = .spring ∧ g.power.ready = false ∧ g.tick.tb = 0 ∧ g.tick.fine = 0 ∧ g.twin.epoch = s.chip.field.twin.epoch ∧
      { t.chip.field with aon := (g.beginTick s.chip.variant).aon, power := { t.chip.field.power with
        startCause := (g.beginTick s.chip.variant).power.startCause } } = g.beginTick s.chip.variant) := by
  by_cases hno : ¬ s.chip.field.waits s.chip.variant = true ∨ ¬ s.chip.field.power.ready = true
  · refine ⟨s, congrArg Host.Outcome.next (if_pos hno), fun _ => rfl, fun hwaits hready => ?_⟩
    simp [hwaits, hready] at hno
  · refine ⟨_, congrArg Host.Outcome.next (if_neg hno), fun hn => absurd (hn.imp (fun h => by simp [h]) fun h => by simp [h]) hno,
      fun _ _ => ⟨imageEdge s.chip.field b, rfl, rfl, rfl, rfl, rfl, ?_⟩⟩
    dsimp only
    split
    · exact takeAon_restored _
    · exact field_restored _

/-- Settles O47: recovery and a run of the active image, the confirmation of a trial, the load of a stale field, and the start of the field image. -/
theorem bootRunsOrRecovers : Obligations.BootRunsOrRecovers :=
  ⟨hostBoot_law, trialConfirm_law, fieldStaleLoad_law, fieldImageStart_law⟩

end Machine
end Sys2Proof

/-! Two-wire buses (20 R502): what an operation on a bus leaves of that bus, of the rest of its die, and of the events. -/

namespace Sys2Proof

/-- A row replaced by itself. -/
theorem Tab.modifyNat_eq_self {α : Type} {n : Nat} (t : Tab α n) {i : Nat} (d : α) {f : α → α} (h : f (t.getD i d) = t.getD i d) :
    t.modifyNat i f = t := by
  obtain ⟨rows, hsize⟩ := t
  unfold Tab.modifyNat
  congr 1
  refine List.ext_getElem? fun j => ?_
  rw [List.getElem?_modify]
  by_cases hij : i = j
  · subst hij
    unfold Tab.getD at h
    rw [List.getD_eq_getElem?_getD] at h
    cases hrow : rows[i]? with
    | none => rfl
    | some a =>
      rw [hrow] at h
      exact congrArg some ((if_pos rfl).trans h)
  · simp [hij]

/-- An outcome that leaves the bus as the operation left it: all but the poll of a device that does not acknowledge (R515). -/
def TwOut.quiet : TwOut → Prop
  | .polled _ _ res => res.outcome ≠ 1 ∧ res.outcome ≠ 0
  | _ => True

namespace HostDie

variable {h : HostDie} {b : Nat} {g : TwBus → TwBus × List TwOut}

@[simp] theorem mb_twOut (h : HostDie) (b : Nat) (o : TwOut) : (h.twOut b o).mb = h.mb := by
  unfold twOut
  split
  · rfl
  · rw [complete_mb]
    split
    · rfl
    · exact bufWrite_mb _ _ _
  · rfl

@[simp] theorem area_twOut (h : HostDie) (b : Nat) (o : TwOut) : (h.twOut b o).area = h.area := by
  unfold twOut
  split
  · rfl
  · rw [complete_area]
    split
    · rfl
    · exact bufWrite_area _ _ _
  · rfl

theorem arisen_twOut {e : Event} (b : Nat) (o : TwOut) (he : e ∈ h.fcm.arisen) : e ∈ (h.twOut b o).fcm.arisen := by
  unfold twOut
  split
  · exact List.mem_append_left _ he
  · rw [complete_fcm]
    split
    · exact he
    · rwa [bufWrite_fcm]
  · exact he

theorem mb_onBus (hb : b < 2) : (h.onBus b g).mb.getD b {} = (g (h.mb.getD b {})).1 :=
  (congrArg (fun t : Tab TwBus 2 => t.getD b {}) (foldl_keeps HostDie.mb (fun h o => mb_twOut h b o) _ _)).trans
    (Tab.getD_modifyNat_self _ _ _ _ hb)

theorem area_onBus : (h.onBus b g).area = h.area := foldl_keeps HostDie.area (fun h o => area_twOut h b o) _ _

theorem onBus_self (hg : g (h.mb.getD b {}) = (h.mb.getD b {}, [])) : h.onBus b g = h := by
  unfold onBus
  rw [hg]
  exact congrArg (fun t : Tab TwBus 2 => { h with mb := t }) (Tab.modifyNat_eq_self (f := fun _ => h.mb.getD b {}) h.mb {} rfl)

/-- An operation that gives nothing changes the bus alone. -/
theorem onBus_silent {x : TwBus} (hg : g (h.mb.getD b {}) = (x, [])) : h.onBus b g = { h with mb := h.mb.modifyNat b (fun _ => x) } := by
  unfold onBus
  rw [hg]
  rfl

theorem event_onBus {code : Nat} {rest : List TwOut} (hout : (g (h.mb.getD b {})).2 = .event code :: rest) :
    { tb := h.htb, fine := 0xFFFF, src := 11, code := code, value := b } ∈ (h.onBus b g).fcm.arisen := by
  unfold onBus
  dsimp only
  rw [hout, List.foldl_cons]
  exact List.foldlRecOn (motive := fun k : HostDie => _ ∈ k.fcm.arisen) rest _ (List.mem_append_right _ (List.mem_singleton_self _))
    fun k hk o _ => arisen_twOut b o hk

end HostDie

namespace FieldDie

variable {f : FieldDie} {q : Nat} {g : TwBus → TwBus × List TwOut}

/-- The bus of a quadrant. -/
def qbus (f : FieldDie) (q : Nat) : TwBus := (f.qd q).ftw.bus

theorem qd_modQd_other (f : FieldDie) (g : Quad → Quad) {j : Nat} (h : j ≠ q) : (f.modQd q g).qd j = f.qd j := qd_modQd_ne f q j g h

theorem qbus_modQd {k : Quad → Quad} (hk : ∀ x, (k x).ftw.bus = x.ftw.bus) (f : FieldDie) (j : Nat) : (f.modQd j k).qbus q = f.qbus q := by
  unfold qbus
  by_cases hj : q = j
  · subst hj
    by_cases hq : q < 4
    · rw [qd_modQd_self _ _ _ hq]
      exact hk _
    · have hnone : f.quad.modifyNat q k = f.quad := by
        unfold Tab.modifyNat
        congr 1
        exact List.modify_eq_self (by rw [f.quad.size_eq]; omega)
      unfold modQd qd
      rw [hnone]
  · rw [qd_modQd_ne _ _ _ _ hj]

theorem qbus_polled {d k p : Nat} {res : TwResult} (hack : res.outcome ≠ 1) (hok : res.outcome ≠ 0) : (f.polled p d k res).qbus q = f.qbus q := by
  unfold polled
  extract_lets setDev dev
  have hset (k : Legacy → Legacy) : (setDev f k).qbus q = f.qbus q :=
    qbus_modQd (k := fun x => { x with ftw := { x.ftw with devs := x.ftw.devs.modifyNat d k } }) (fun _ => rfl) f p
  rw [if_neg hack]
  split
  · exact hset _
  · exact hset _

theorem qbus_twOut {o : TwOut} (ho : o.quiet) (p : Nat) : (f.twOut p o).qbus q = f.qbus q := by
  cases o with
  | event code => rfl
  | done r st result data => exact congrArg (fun t : Tab Quad 4 => (t.getD q {}).ftw.bus) (complete_quad f r st result _ data)
  | polled d k res => exact qbus_polled ho.1 ho.2

theorem fcol_twOut {e : Event} {o : TwOut} (ho : o.quiet) (p : Nat) (he : e ∈ f.fcol.arisen) : e ∈ (f.twOut p o).fcol.arisen := by
  cases o with
  | event code => exact List.mem_append_left _ he
  | done r st result data =>
    have hcol : (f.twOut p (.done r st result data)).fcol = f.fcol := complete_fcol f r st result _ data
    rwa [hcol]
  | polled d k res =>
    have hcol : (f.polled p d k res).fcol = f.fcol := by
      unfold polled
      extract_lets setDev dev
      rw [if_neg ho.1]
      split
      · rfl
      · exact (congrArg FieldDie.fcol (if_pos ho.2)).trans rfl
    rwa [show (f.twOut p (.polled d k res)).fcol = f.fcol from hcol]

theorem qbus_onFtw (hq : q < 4) (hquiet : ∀ o ∈ (g (f.qbus q)).2, o.quiet) : (f.onFtw q g).qbus q = (g (f.qbus q)).1 := by
  have hstart : (f.modQd q fun y => { y with ftw := { y.ftw with bus := (g (f.qbus q)).1 } }).qbus q = (g (f.qbus q)).1 :=
    congrArg (fun x : Quad => x.ftw.bus) (qd_modQd_self f q _ hq)
  exact List.foldlRecOn (motive := fun k : FieldDie => k.qbus q = (g (f.qbus q)).1) _ _ hstart
    fun k hk o ho => (qbus_twOut (hquiet o ho) q).trans hk

theorem onFtw_self (hg : g (f.qbus q) = (f.qbus q, [])) : f.onFtw q g = f := by
  unfold onFtw
  rw [show g (f.qd q).ftw.bus = ((f.qd q).ftw.bus, []) from hg]
  exact congrArg (fun t : Tab Quad 4 => { f with quad := t })
    (Tab.modifyNat_eq_self (f := fun y => { y with ftw := { y.ftw with bus := (f.qd q).ftw.bus } }) f.quad {} rfl)

theorem event_onFtw {code : Nat} {rest : List TwOut} (hout : (g (f.qbus q)).2 = .event code :: rest) (hquiet : ∀ o ∈ rest, o.quiet) :
    { tb := f.tick.tb, fine := f.tick.fine, src := 212, code := code, value := q } ∈ (f.onFtw q g).fcol.arisen := by
  unfold onFtw
  dsimp only
  rw [show (g (f.qd q).ftw.bus).2 = .event code :: rest from hout, List.foldl_cons]
  exact List.foldlRecOn (motive := fun k : FieldDie => _ ∈ k.fcol.arisen) rest _ (List.mem_append_right _ (List.mem_singleton_self _))
    fun k hk o ho => fcol_twOut (hquiet o ho) q hk

end FieldDie

namespace Machine

variable {s : State} {n : Nat} {g : TwBus → TwBus × List TwOut}

theorem State.bus_low (s : State) (hn : n < 2) : s.bus n = s.chip.host.mb.getD n {} := if_pos hn

theorem State.bus_high (s : State) (hn : ¬ n < 2) : s.bus n = s.chip.field.qbus (n - 2) := if_neg hn

theorem State.onTw_low (hn : n < 2) : s.onTw n g = s.onHost fun h => h.onBus n g := if_pos hn

theorem quads_of_hasBus (hn : ¬ n < 2) (h : s.hasBus n = true) : n - 2 < s.chip.variant.quads := by
  simpa [State.hasBus, hn] using h

theorem State.onTw_high (hn : ¬ n < 2) (h : s.hasBus n = true) : s.onTw n g = s.onField fun f => f.onFtw (n - 2) g :=
  (if_neg hn).trans (if_pos (quads_of_hasBus hn h))

theorem State.onTw_absent (h : s.hasBus n = false) : s.onTw n g = s := by
  simp only [State.hasBus, Bool.or_eq_false_iff, decide_eq_false_iff_not] at h
  exact (if_neg h.1).trans (if_neg h.2)

/-- An operation that changes nothing of the bus changes nothing. -/
theorem State.onTw_self (hg : g (s.bus n) = (s.bus n, [])) : s.onTw n g = s := by
  cases hbus : s.hasBus n with
  | false => exact State.onTw_absent hbus
  | true =>
    by_cases hn : n < 2
    · rw [State.bus_low s hn] at hg
      exact (State.onTw_low hn).trans (State.onHost_eq_self (HostDie.onBus_self hg))
    · rw [State.bus_high s hn] at hg
      exact (State.onTw_high hn hbus).trans (State.onField_eq_self (FieldDie.onFtw_self hg))

/-- The bus after an operation is as the operation leaves it. -/
theorem State.bus_onTw (hn6 : n < 6) (hbus : s.hasBus n = true) (hquiet : ∀ o ∈ (g (s.bus n)).2, o.quiet) :
    (s.onTw n g).bus n = (g (s.bus n)).1 := by
  by_cases hn : n < 2
  · rw [State.onTw_low hn, State.bus_low _ hn, State.bus_low _ hn]
    exact HostDie.mb_onBus hn
  · rw [State.bus_high s hn] at hquiet
    rw [State.onTw_high hn hbus, State.bus_high _ hn, State.bus_high _ hn]
    exact FieldDie.qbus_onFtw (by omega) hquiet

theorem State.busEvent_onTw {code : Nat} {rest : List TwOut} (hbus : s.hasBus n = true) (hout : (g (s.bus n)).2 = .event code :: rest)
    (hquiet : ∀ o ∈ rest, o.quiet) : busEvent s (s.onTw n g) n code := by
  unfold busEvent
  split
  next hn =>
    rw [State.bus_low s hn] at hout
    rw [State.onTw_low hn]
    exact HostDie.event_onBus hout
  next hn =>
    rw [State.bus_high s hn] at hout
    rw [State.onTw_high hn hbus]
    exact FieldDie.event_onFtw hout hquiet

end Machine
end Sys2Proof

/-! Two-wire buses as controllers (20 R504 to R508, R515, R517). -/

namespace Sys2Proof

namespace TwBus

variable {b : TwBus} {j : TwJob} {rest : List TwJob} {x : TwStart}

/-! TW_TRANSACTION_START (R506, R508). -/

theorem start_held (h : b.tgtAct = true ∨ b.job.isSome = true ∨ b.queue = []) : b.start x = (b, []) := by
  by_cases hbusy : b.tgtAct = true ∨ b.job.isSome = true
  · exact if_pos hbusy
  · have hempty : b.queue = [] := by
      rcases h with h | h | h
      · exact absurd (.inl h) hbusy
      · exact absurd (.inr h) hbusy
      · exact h
    refine (if_neg hbusy).trans ?_
    rw [hempty]

/-- A bus on which a job waits, with nothing that keeps it from starting. -/
structure Waits (b : TwBus) (j : TwJob) (rest : List TwJob) : Prop where
  free : b.tgtAct = false
  jobless : b.job = none
  queue : b.queue = j :: rest

theorem Waits.not_held (h : b.Waits j rest) : ¬ (b.tgtAct = true ∨ b.job.isSome = true) := by
  simp [h.free, h.jobless]

theorem start_setBus {r : Request} (h : b.Waits (.setBus r) rest) : b.start x = ({ b.setBus r with queue := rest }, [.done r .ok 0 []]) := by
  refine (if_neg h.not_held).trans ?_
  rw [h.queue]

/-- A transfer or a poll starts after the check for a stuck bus. -/
theorem start_transfer (h : b.Waits j rest) (hj : ∀ r, j ≠ .setBus r) : b.start x =
    if x.sdaLow ∧ ¬ x.freed then
      ({ b with queue := rest, job := some j, tries := 1, sda := false, busy := true, stuckCnt := satN 4 (b.stuckCnt + 1) }, [.event 1])
    else ({ b with queue := rest, job := some j, tries := 0, sda := true, busy := true, ctrlAct := true }, []) := by
  refine (if_neg h.not_held).trans ?_
  rw [h.queue]
  cases j with
  | xfer r => rfl
  | setBus r => exact absurd rfl (hj r)
  | poll d k => rfl

/-! The ends of a transaction (R504, R505, R507, R508). -/

theorem quiet_jobOut {res : TwResult} (hack : res.outcome ≠ 1) (hok : res.outcome ≠ 0) : ∀ o ∈ b.jobOut res, o.quiet := by
  intro o ho
  unfold jobOut at ho
  split at ho
  · rw [List.mem_singleton.mp ho]
    trivial
  · rw [List.mem_singleton.mp ho]
    trivial
  · rw [List.mem_singleton.mp ho]
    exact ⟨hack, hok⟩
  · exact absurd ho List.not_mem_nil

theorem jobOut_xfer {r : Request} (h : b.job = some (.xfer r)) (res : TwResult) : b.jobOut res =
    [.done r (twStatus res.outcome) (res.outcome.val + 2 ^ 8 * res.acked.val + 2 ^ 16 * (res.data.length % 2 ^ 16)) res.data] := by
  unfold jobOut
  rw [h]

/-- A bus on which no transaction of its own runs. -/
theorem jobless_of (h : b.job = none ∨ b.ctrlAct = false) : b.job.isNone = true ∨ ¬ b.ctrlAct = true := by
  rcases h with h | h <;> simp [h]

theorem runs_of (hjob : b.job = some j) (hctrl : b.ctrlAct = true) : ¬ (b.job.isNone = true ∨ ¬ b.ctrlAct = true) := by
  simp [hjob, hctrl]

theorem finish_not {res : TwResult} (h : b.job = none ∨ b.ctrlAct = false) : b.finish res = (b, []) := if_pos (jobless_of h)

theorem finish_runs {res : TwResult} (hjob : b.job = some j) (hctrl : b.ctrlAct = true) : b.finish res =
    ((if res.outcome = 6 then { b with pecCnt := satN 4 (b.pecCnt + 1) } else b).release, b.jobOut res) := if_neg (runs_of hjob hctrl)

theorem ctrlTimeout_not (h : b.job = none ∨ b.ctrlAct = false) : b.ctrlTimeout = (b, []) := if_pos (jobless_of h)

theorem ctrlTimeout_runs (hjob : b.job = some j) (hctrl : b.ctrlAct = true) : b.ctrlTimeout =
    ({ b with toutCnt := satN 4 (b.toutCnt + 1) }.release, b.jobOut ⟨5, 0, []⟩) := if_neg (runs_of hjob hctrl)

theorem lost_not {a : Bool} {w : BitVec 8} (h : b.job = none ∨ b.ctrlAct = false) : b.lost a w = (b, []) := if_pos (jobless_of h)

/-- Whether the winner of the arbitration addresses this device (R507). -/
def isMine (b : TwBus) (a : Bool) (w : BitVec 8) : Bool := a && b.role == 2 && w.toNat / 2 == b.taddr

theorem lost_runs {a : Bool} {w : BitVec 8} (hjob : b.job = some j) (hctrl : b.ctrlAct = true) : b.lost a w =
    ({ b.release with busy := true, tgtAct := b.isMine a w, tgtRead := b.isMine a w && w.getLsbD 0 }, b.jobOut ⟨3, 0, []⟩) :=
  if_neg (runs_of hjob hctrl)

theorem isMine_iff {a : Bool} {w : BitVec 8} : b.isMine a w = true ↔ a = true ∧ b.role = 2 ∧ w.toNat / 2 = b.taddr := by
  simp [isMine, and_assoc]

/-! TW_STUCK_RETRY (R508). -/

theorem retry_none {low : Bool} (h : b.tries = 0) : b.retry low = (b, []) := if_pos h

theorem retry_jobless_free (htries : b.tries ≠ 0) (hjob : b.job = none) : b.retry false = ({ b with tries := 0, sda := true }, []) := by
  unfold retry
  rw [if_neg htries, if_pos (by simp [hjob]), if_neg (by decide)]

theorem retry_jobless_low (htries : b.tries ≠ 0) (hjob : b.job = none) : b.retry true =
    ({ b with sda := false, stuckCnt := satN 4 (b.stuckCnt + 1), tries := if 4 ≤ b.tries then 0 else b.tries + 1 }, [.event 1]) := by
  unfold retry
  rw [if_neg htries, if_pos (by simp [hjob]), if_pos rfl]

theorem retry_job_free (htries : b.tries ≠ 0) (hjob : b.job = some j) : b.retry false = ({ b with tries := 0, sda := true, ctrlAct := true }, []) := by
  unfold retry
  rw [if_neg htries, if_neg (by simp [hjob]), if_neg (by decide)]

/-- The bus after a recovery that failed once more. -/
def stillStuck (b : TwBus) : TwBus := { b with stuckCnt := satN 4 (b.stuckCnt + 1), tries := b.tries + 1 }

theorem retry_job_low (htries : b.tries ≠ 0) (hjob : b.job = some j) : b.retry true =
    if 4 ≤ b.tries + 1 then (b.stillStuck.release, .event 1 :: b.jobOut ⟨4, 0, []⟩) else (b.stillStuck, [.event 1]) := by
  unfold retry
  rw [if_neg htries, if_neg (by simp [hjob]), if_pos rfl]
  rfl

end TwBus

namespace Machine

theorem bus_lt (b : Fin 6) : b.val < 6 := b.isLt

theorem quiet_nil : ∀ o ∈ ([] : List TwOut), o.quiet := fun _ ho => absurd ho List.not_mem_nil

theorem quiet_cons_event {code : Nat} {rest : List TwOut} (h : ∀ o ∈ rest, o.quiet) : ∀ o ∈ TwOut.event code :: rest, o.quiet := by
  intro o ho
  rcases List.mem_cons.mp ho with rfl | ho
  · trivial
  · exact h o ho

theorem quiet_done {r : Request} {st : Status} {n : Nat} {bs : List Byte} : ∀ o ∈ [TwOut.done r st n bs], o.quiet := by
  intro o ho
  rw [List.mem_singleton.mp ho]
  trivial

variable {s : State} {n : Nat} {g : TwBus → TwBus × List TwOut}

/-- The bus after an operation whose outcome is known. -/
theorem State.bus_onTw_of {x : TwBus} {outs : List TwOut} (hn6 : n < 6) (hbus : s.hasBus n = true) (hg : g (s.bus n) = (x, outs))
    (hquiet : ∀ o ∈ outs, o.quiet) : (s.onTw n g).bus n = x := by
  refine (State.bus_onTw hn6 hbus ?_).trans (congrArg Prod.fst hg)
  rw [hg]
  exact hquiet

theorem State.busEvent_of {x : TwBus} {code : Nat} {rest : List TwOut} (hbus : s.hasBus n = true) (hg : g (s.bus n) = (x, .event code :: rest))
    (hquiet : ∀ o ∈ rest, o.quiet) : busEvent s (s.onTw n g) n code :=
  State.busEvent_onTw hbus (congrArg Prod.snd hg) hquiet

/-- A command of a host bus that ends with the operation answers (R501). -/
theorem State.hostAnswers_onTw {x : TwBus} {r : Request} {st : Status} {result : Nat} {bs : List Byte} (hn : n < 2)
    (hg : g (s.bus n) = (x, [.done r st result bs])) (hsilent : r.silent = false) : hostAnswers s (s.onTw n g) r st result := by
  rw [State.bus_low s hn] at hg
  rw [State.onTw_low hn]
  unfold hostAnswers
  rw [State.onHost_host]
  unfold HostDie.onBus
  rw [hg]
  dsimp only [List.foldl_cons, List.foldl_nil, HostDie.twOut]
  rw [HostDie.complete_waiting _ _ _ _ hsilent]
  split
  · rfl
  · rfl

theorem twTransactionStart_law (b : Fin 6) (x : TwStart) (s : State) : ∃ t, exec (.twTransactionStart b x) s = .next t ∧
    (s.hasBus b = false ∨ s.busSleeps b = true ∨ (s.bus b).tgtAct = true ∨ (s.bus b).job.isSome = true ∨ (s.bus b).queue = [] → t = s) ∧
    ∀ j rest, s.hasBus b = true → s.busSleeps b = false → (s.bus b).tgtAct = false → (s.bus b).job = none → (s.bus b).queue = j :: rest →
      (∀ r, j = .setBus r → (t.bus b).queue = rest ∧ (t.bus b).speed = r.u32 4 ∧ (t.bus b).role = r.u32 8 ∧ (t.bus b).taddr = r.u32 12 ∧
        (t.bus b).job = none) ∧
      ((∀ r, j ≠ .setBus r) → x.sdaLow = true → x.freed = false → (t.bus b).job = some j ∧ (t.bus b).tries = 1 ∧
        (t.bus b).stuckCnt = satN 4 ((s.bus b).stuckCnt + 1) ∧ (t.bus b).ctrlAct = (s.bus b).ctrlAct ∧ busEvent s t b 1) ∧
      ((∀ r, j ≠ .setBus r) → x.sdaLow = false ∨ x.freed = true → (t.bus b).job = some j ∧ (t.bus b).queue = rest ∧
        (t.bus b).busy = true ∧ (t.bus b).ctrlAct = true ∧ (t.bus b).stuckCnt = (s.bus b).stuckCnt) := by
  cases hsleep : s.busSleeps b with
  | true => exact ⟨s, congrArg Host.Outcome.next (if_pos hsleep), fun _ => rfl, fun _ _ _ hn => absurd hn (by decide)⟩
  | false =>
    have hexec : exec (.twTransactionStart b x) s = .next (s.onTw b fun y => y.start x) :=
      congrArg Host.Outcome.next (if_neg (by simp [hsleep]))
    refine ⟨_, hexec, fun hno => ?_, fun j rest hbus _ hfree hjob hqueue => ?_⟩
    · rcases hno with hno | hno | hno
      · exact State.onTw_absent hno
      · exact absurd hno (by decide)
      · exact State.onTw_self (TwBus.start_held hno)
    · have hwaits : (s.bus b).Waits j rest := ⟨hfree, hjob, hqueue⟩
      refine ⟨fun r hr => ?_, fun hj hlow hfreed => ?_, fun hj hfreed => ?_⟩
      · subst hr
        rw [State.bus_onTw_of (bus_lt b) hbus (TwBus.start_setBus hwaits) quiet_done]
        exact ⟨rfl, rfl, rfl, rfl, hjob⟩
      · have hstart := (TwBus.start_transfer (x := x) hwaits hj).trans (if_pos ⟨hlow, by simp [hfreed]⟩)
        refine ⟨?_, ?_, ?_, ?_, State.busEvent_of hbus hstart quiet_nil⟩
        all_goals rw [State.bus_onTw_of (bus_lt b) hbus hstart (quiet_cons_event quiet_nil)]
      · have hstart := (TwBus.start_transfer (x := x) hwaits hj).trans (if_neg fun hn => ?_)
        · rw [State.bus_onTw_of (bus_lt b) hbus hstart quiet_nil]
          exact ⟨rfl, rfl, rfl, rfl, rfl⟩
        · obtain ⟨hlow, hstuck⟩ := hn
          simp [hlow, hstuck] at hfreed

theorem twTransactionEnd_law (b : Fin 6) (x : TwResult) (s : State) : ∃ t, exec (.twTransactionEnd b x) s = .next t ∧
    (s.hasBus b = false ∨ (s.bus b).job = none ∨ (s.bus b).ctrlAct = false → t = s) ∧
    ∀ r, s.hasBus b = true → (s.bus b).ctrlAct = true → (s.bus b).job = some (.xfer r) → (t.bus b).job = none ∧ (t.bus b).busy = false ∧
      (t.bus b).queue = (s.bus b).queue ∧ (t.bus b).pecCnt = (if x.outcome = 6 then satN 4 ((s.bus b).pecCnt + 1) else (s.bus b).pecCnt) ∧
      (b.val < 2 → r.silent = false → hostAnswers s t r (twStatus x.outcome)
        (x.outcome.val + 2 ^ 8 * x.acked.val + 2 ^ 16 * (x.data.length % 2 ^ 16))) := by
  refine ⟨s.onTw b fun y => y.finish x, rfl, fun hno => ?_, fun r hbus hctrl hjob => ?_⟩
  · rcases hno with hno | hno
    · exact State.onTw_absent hno
    · exact State.onTw_self (TwBus.finish_not hno)
  · have hfinish := (TwBus.finish_runs (res := x) hjob hctrl).trans (congrArg _ (TwBus.jobOut_xfer hjob x))
    refine ⟨?_, ?_, ?_, ?_, fun hn hsilent => State.hostAnswers_onTw hn hfinish hsilent⟩
    all_goals rw [State.bus_onTw_of (bus_lt b) hbus hfinish quiet_done]
    · rfl
    · rfl
    · unfold TwBus.release
      split <;> rfl
    · unfold TwBus.release
      split <;> rfl

theorem twStuckRetry_law (b : Fin 6) (low : Bool) (s : State) : ∃ t, exec (.twStuckRetry b low) s = .next t ∧
    (s.hasBus b = false ∨ (s.bus b).tries = 0 → t = s) ∧
    (s.hasBus b = true → (s.bus b).job = none → (s.bus b).tries ≠ 0 →
      (low = false → t.bus b = { s.bus b with tries := 0, sda := true }) ∧
      (low = true → (t.bus b).sda = false ∧ (t.bus b).stuckCnt = satN 4 ((s.bus b).stuckCnt + 1) ∧ busEvent s t b 1 ∧
        (t.bus b).tries = (if 4 ≤ (s.bus b).tries then 0 else (s.bus b).tries + 1))) ∧
    ∀ j, s.hasBus b = true → (s.bus b).job = some j → (s.bus b).tries ≠ 0 →
      (low = false → (t.bus b).job = some j ∧ (t.bus b).tries = 0 ∧ (t.bus b).ctrlAct = true) ∧
      (low = true → (t.bus b).stuckCnt = satN 4 ((s.bus b).stuckCnt + 1) ∧ busEvent s t b 1 ∧
        ((s.bus b).tries < 3 → (t.bus b).job = some j ∧ (t.bus b).tries = (s.bus b).tries + 1) ∧
        (3 ≤ (s.bus b).tries → (t.bus b).job = none ∧ (t.bus b).busy = false)) := by
  refine ⟨s.onTw b fun y => y.retry low, rfl, fun hno => ?_, fun hbus hjob htries => ⟨fun hlow => ?_, fun hlow => ?_⟩,
    fun j hbus hjob htries => ⟨fun hlow => ?_, fun hlow => ?_⟩⟩
  · rcases hno with hno | hno
    · exact State.onTw_absent hno
    · exact State.onTw_self (TwBus.retry_none hno)
  · subst hlow
    exact State.bus_onTw_of (bus_lt b) hbus (TwBus.retry_jobless_free htries hjob) quiet_nil
  · subst hlow
    have hretry := TwBus.retry_jobless_low htries hjob
    refine ⟨?_, ?_, State.busEvent_of hbus hretry quiet_nil, ?_⟩
    all_goals rw [State.bus_onTw_of (bus_lt b) hbus hretry (quiet_cons_event quiet_nil)]
  · subst hlow
    rw [State.bus_onTw_of (bus_lt b) hbus (TwBus.retry_job_free htries hjob) quiet_nil]
    exact ⟨hjob, rfl, rfl⟩
  · subst hlow
    have hretry := TwBus.retry_job_low htries hjob
    by_cases hlast : 4 ≤ (s.bus b).tries + 1
    · have hends := hretry.trans (if_pos hlast)
      have hquiet : ∀ o ∈ (s.bus b).jobOut ⟨4, 0, []⟩, o.quiet := TwBus.quiet_jobOut (by decide) (by decide)
      rw [State.bus_onTw_of (bus_lt b) hbus hends (quiet_cons_event hquiet)]
      exact ⟨rfl, State.busEvent_of hbus hends hquiet, fun hn => absurd hn (by omega), fun _ => ⟨rfl, rfl⟩⟩
    · have hgoes := hretry.trans (if_neg hlast)
      rw [State.bus_onTw_of (bus_lt b) hbus hgoes (quiet_cons_event quiet_nil)]
      exact ⟨rfl, State.busEvent_of hbus hgoes quiet_nil, fun _ => ⟨hjob, rfl⟩, fun hn => absurd hn (by omega)⟩

theorem twControllerTimeout_law (b : Fin 6) (s : State) : ∃ t, exec (.twControllerTimeout b) s = .next t ∧
    (s.hasBus b = false ∨ (s.bus b).job = none ∨ (s.bus b).ctrlAct = false → t = s) ∧
    ∀ j, s.hasBus b = true → (s.bus b).job = some j → (s.bus b).ctrlAct = true →
      (t.bus b).job = none ∧ (t.bus b).busy = false ∧ (t.bus b).toutCnt = satN 4 ((s.bus b).toutCnt + 1) := by
  refine ⟨s.onTw b fun y => y.ctrlTimeout, rfl, fun hno => ?_, fun j hbus hjob hctrl => ?_⟩
  · rcases hno with hno | hno
    · exact State.onTw_absent hno
    · exact State.onTw_self (TwBus.ctrlTimeout_not hno)
  · rw [State.bus_onTw_of (bus_lt b) hbus (TwBus.ctrlTimeout_runs hjob hctrl) (TwBus.quiet_jobOut (by decide) (by decide))]
    exact ⟨rfl, rfl, rfl⟩

theorem twArbitrationLost_law (b : Fin 6) (a : Bool) (w : BitVec 8) (s : State) : ∃ t, exec (.twArbitrationLost b a w) s = .next t ∧
    (s.hasBus b = false ∨ (s.bus b).job = none ∨ (s.bus b).ctrlAct = false → t = s) ∧
    ∀ j, s.hasBus b = true → (s.bus b).job = some j → (s.bus b).ctrlAct = true →
      (t.bus b).job = none ∧ (t.bus b).busy = true ∧ (t.bus b).ctrlAct = false ∧
      ((t.bus b).tgtAct = true ↔ a = true ∧ s.busSleeps b = false ∧ (s.bus b).role = 2 ∧ w.toNat / 2 = (s.bus b).taddr) := by
  refine ⟨s.onTw b fun y => y.lost (a && !s.busSleeps b) w, rfl, fun hno => ?_, fun j hbus hjob hctrl => ?_⟩
  · rcases hno with hno | hno
    · exact State.onTw_absent hno
    · exact State.onTw_self (TwBus.lost_not hno)
  · rw [State.bus_onTw_of (bus_lt b) hbus (TwBus.lost_runs hjob hctrl) (TwBus.quiet_jobOut (by decide) (by decide))]
    refine ⟨rfl, rfl, rfl, TwBus.isMine_iff.trans ?_⟩
    rw [Bool.and_eq_true, Bool.not_eq_true', and_assoc]

theorem twStatusRead_law (b : Fin 6) (s : State) : ∃ t, exec (.twStatusRead b) s = .next t ∧ t.chip.readData = [(s.bus b).status] ∧
    (s.hasBus b = true → t.bus b = { s.bus b with stuckCnt := 0, toutCnt := 0, protoCnt := 0, pecCnt := 0 }) := by
  refine ⟨_, rfl, ?_, fun hbus => ?_⟩
  · unfold State.bus
    by_cases hb : b.val < 2
    · exact congrArg (fun w : Word => [w]) ((if_pos hb).trans (congrArg TwBus.status (if_pos hb).symm))
    · exact congrArg (fun w : Word => [w]) ((if_neg hb).trans (congrArg TwBus.status (if_neg hb).symm))
  · exact State.bus_onTw_of (g := fun b => (b.clearCounts, [])) (bus_lt b) hbus rfl quiet_nil

/-! LEGACY_POLL (R515). -/

/-- What keeps a round of polls from a quadrant (R515, R516). -/
abbrev pollHeld (v : Variant) (q : Nat) (f : FieldDie) : Prop :=
  ¬ f.isActive = true ∨ v.quads ≤ q ∨ f.power.isolated.getD q false = true ∨ ((f.qd q).blk.getD 6 {}).state ≠ 1

/-- A quadrant with a round of polls among its bus's jobs. -/
def polls (x : Quad) : Quad := { x with ftw := { x.ftw with
  devs := x.ftw.devs.map (fun d => { d with nack := false, pecErr := false })
  bus := { x.ftw.bus with queue := x.ftw.bus.queue ++ (x.ftw.devs.indexed.flatMap (fun d => pollRound d.1 d.2)) } } }

theorem mem_indexed {α : Type} {n : Nat} (t : Tab α n) (i : Fin n) : (i.val, t.get i) ∈ t.indexed := by
  have hi : i.val < t.rows.length := by rw [t.size_eq]; exact i.isLt
  exact List.mem_mapIdx.mpr ⟨i.val, hi, rfl⟩

theorem mem_pollRound {d k : Nat} {dev : Legacy} (haddr : dev.addr ≠ 0) (hk : k < 7) : TwJob.poll d k ∈ pollRound d dev := by
  unfold pollRound
  rw [if_neg haddr]
  exact List.mem_append_right _ (List.mem_map.mpr ⟨k, List.mem_range.mpr hk, rfl⟩)

theorem legacyPoll_law (q : Fin 4) (s : State) : ∃ t, exec (.legacyPoll q) s = .next t ∧ fieldOnly s t ∧
    (s.chip.field.isActive = false ∨ s.chip.variant.quads ≤ q.val ∨ s.chip.field.power.isolated.getD q false = true ∨
      ((s.chip.field.qd q).blk.getD 6 {}).state ≠ 1 → t = s) ∧
    (s.chip.field.isActive = true → q.val < s.chip.variant.quads → s.chip.field.power.isolated.getD q false = false → ((s.chip.field.qd q).blk.getD 6 {}).state = 1 →
      (s.bus (q + 2)).queue <+: (t.bus (q + 2)).queue ∧
      ∀ d : Fin 8, ((s.chip.field.qd q).ftw.devs.get d).addr ≠ 0 → ∀ k, k < 7 → TwJob.poll d k ∈ (t.bus (q + 2)).queue) := by
  by_cases hheld : pollHeld s.chip.variant q s.chip.field
  · refine ⟨s, congrArg Host.Outcome.next (State.onField_eq_self (if_pos hheld)), rfl, fun _ => rfl, fun hact hq hiso hblk => absurd hheld ?_⟩
    simp [pollHeld, hact, hq, hiso, hblk]
  · have hexec : exec (.legacyPoll q) s = .next (s.onField fun f => f.modQd q polls) :=
      congrArg Host.Outcome.next (State.onField_else (p := pollHeld s.chip.variant q) hheld)
    have hbus (t : State) : t.bus (q + 2) = t.chip.field.qbus q := State.bus_high t (by omega)
    have hround : (s.chip.field.modQd q polls).qbus q = (polls (s.chip.field.qd q)).ftw.bus :=
      congrArg (fun x : Quad => x.ftw.bus) (FieldDie.qd_modQd_self s.chip.field q polls q.isLt)
    refine ⟨_, hexec, rfl, fun hno => absurd (hno.imp_left fun h => by simp [h]) hheld, fun _ _ _ _ => ?_⟩
    rw [hbus, hbus, State.onField_field, hround]
    refine ⟨List.prefix_append _ _, fun d haddr k hk => List.mem_append_right _ (List.mem_flatMap.mpr ⟨_, mem_indexed _ d, mem_pollRound haddr hk⟩)⟩

/-- Settles O59: the start of what waits, each way a transfer ends, the read of the counters, and a round of polls. -/
theorem twoWireTransfersStartAndEnd : Obligations.TwoWireTransfersStartAndEnd :=
  ⟨twTransactionStart_law, twTransactionEnd_law, twStuckRetry_law, twControllerTimeout_law, twArbitrationLost_law, twStatusRead_law, legacyPoll_law⟩

end Machine
end Sys2Proof

/-! Two-wire buses as targets (20 R509 to R513), and the commands of group 0xE0 (20 R500, R501, R517). -/

namespace Sys2Proof

namespace HostDie

variable {h : HostDie} {b : Nat}

/-- A bus that no write goes to, and one that a write goes to. -/
theorem not_written {x : TwBus} (h : x.tgtAct = false ∨ x.tgtRead = true) : ¬ x.tgtAct = true ∨ x.tgtRead = true :=
  h.imp_left fun hact => by simp [hact]

theorem written {x : TwBus} (hact : x.tgtAct = true) (hread : x.tgtRead = false) : ¬ (¬ x.tgtAct = true ∨ x.tgtRead = true) := by
  simp [hact, hread]

theorem targetData_byte {x : TwBus} (hpec : x.pecEn = false) (hi lo d : Byte) : x.targetData [hi, lo, d] = some [d] := if_neg (by simp [hpec])

/-- A byte of the message area written by the other end, with vector 53 (R510); outside the area nothing is. -/
def areaByte (h : HostDie) (p : Nat) (d : Byte) : HostDie :=
  if (0x0800 ≤ p && p < 0x1000) = true then ({ h with area := memWrite h.area (p - 0x0800) d } : HostDie).vector 53 else h

/-- The end of a target write: the pointer stands after the last byte (R510). -/
def writeDone (h : HostDie) (b p : Nat) : HostDie := h.onBus b fun y => ({ y with pointer := p, tgtAct := false, busy := false }, [])

theorem targetWrite_not {bs : List Byte} (hno : (h.mb.getD b {}).tgtAct = false ∨ (h.mb.getD b {}).tgtRead = true) : h.targetWrite b bs = h :=
  if_pos (not_written hno)

/-- A write of one byte: pointer high and low, then the byte (R510). -/
theorem targetWrite_byte {hi lo d : Byte} {p : Nat} (hact : (h.mb.getD b {}).tgtAct = true) (hread : (h.mb.getD b {}).tgtRead = false)
    (hpec : (h.mb.getD b {}).pecEn = false) (hp : p = hi.toNat * 256 + lo.toNat) :
    h.targetWrite b [hi, lo, d] = (h.areaByte p d).writeDone b (p / 32 * 32 + (p + 1) % 32) := by
  have hat : p / 32 * 32 + (p + 0) % 32 = p := by omega
  have hbytes : ¬ [hi, lo, d].length < 2 := by simp
  have hq : ([hi, lo, d].getD 0 0).toNat * 256 + ([hi, lo, d].getD 1 0).toNat = p := hp.symm
  unfold targetWrite
  rw [if_neg (written hact hread), targetData_byte hpec]
  dsimp only
  rw [if_neg hbytes, hq]
  unfold areaByte
  by_cases hin : (decide (0x0800 ≤ p) && decide (p < 0x1000)) = true
  · rw [if_pos hin, if_pos hin, if_pos ⟨hin, by simp⟩]
    change ((({ h with area := memWrite h.area (p / 32 * 32 + (p + 0) % 32 - 0x0800) d } : HostDie).vector 53).writeDone b _) = _
    rw [hat]
    rfl
  · rw [if_neg hin, if_neg hin, if_neg fun hn => hin hn.1]
    rfl

theorem mb_areaByte (p : Nat) (d : Byte) : (h.areaByte p d).mb = h.mb := by
  unfold areaByte
  split
  · rw [vector_mb]
  · rfl

theorem area_areaByte_in {p : Nat} (d : Byte) (hlo : 0x0800 ≤ p) (hhi : p < 0x1000) : (h.areaByte p d).area = memWrite h.area (p - 0x0800) d := by
  unfold areaByte
  rw [if_pos (by simp [hlo, hhi]), vector_area]

theorem area_areaByte_out {p : Nat} (d : Byte) (hout : p < 0x0800 ∨ 0x1000 ≤ p) : (h.areaByte p d).area = h.area := by
  unfold areaByte
  rw [if_neg]
  simp only [Bool.and_eq_true, decide_eq_true_eq]
  omega

/-! What a wrong write and a timeout leave (R511, R513). -/

/-- The bus as a write that goes wrong leaves it. -/
def wrongWrite (x : TwBus) (pec : Bool) : TwBus :=
  { x with protoCnt := satN 4 (x.protoCnt + 1), pecCnt := if pec then satN 4 (x.pecCnt + 1) else x.pecCnt, tgtAct := false, busy := false }

/-- The operation of a write that goes wrong. -/
def discards (pec : Bool) (x : TwBus) : TwBus × List TwOut := if ¬ x.tgtAct ∨ x.tgtRead then (x, []) else (wrongWrite x pec, [.event 2])

theorem protoErr_eq (pec : Bool) : h.protoErr b pec = h.onBus b (discards pec) := rfl

theorem discards_not {pec : Bool} {x : TwBus} (hno : x.tgtAct = false ∨ x.tgtRead = true) : discards pec x = (x, []) :=
  if_pos (not_written hno)

theorem discards_due {pec : Bool} {x : TwBus} (hact : x.tgtAct = true) (hread : x.tgtRead = false) :
    discards pec x = (wrongWrite x pec, [.event 2]) := if_neg (written hact hread)

/-- The operation of a target timeout. -/
def letsGo (x : TwBus) : TwBus × List TwOut :=
  if x.tgtAct then ({ x with tgtAct := false, busy := true, scl := true, sda := true, toutCnt := satN 4 (x.toutCnt + 1) }, [.event 3])
  else (x, [])

/-- A host bus set by a command. -/
def mbSet (h : HostDie) (n : Nat) (x : TwBus) : HostDie := { h with mb := h.mb.modifyNat n (fun _ => x) }

theorem mb_mbSet {n : Nat} (hn : n < 2) (x : TwBus) : (h.mbSet n x).mb.getD n {} = x := Tab.getD_modifyNat_self _ _ _ _ hn

theorem mbSet_self (h : HostDie) (n : Nat) : h.mbSet n (h.mb.getD n {}) = h :=
  congrArg (fun t : Tab TwBus 2 => { h with mb := t }) (Tab.modifyNat_eq_self (f := fun _ => h.mb.getD n {}) h.mb {} rfl)

end HostDie

/-! The commands on a bus (19 Table 19-13). -/

namespace TwBus

variable {b : TwBus} {r : Request}

theorem xfer_full (h : 8 ≤ b.queued) : b.xfer r = (b, some (.full, 0)) := if_pos h

theorem xfer_joins (h : b.queued < 8) : b.xfer r = ({ b with queue := b.queue ++ [.xfer r] }, none) := if_neg (Nat.not_le.mpr h)

theorem set_idle (h : b.idle = true) : b.set r = (b.setBus r, some (.ok, 0)) := if_pos h

theorem set_full (h : b.idle = false) (hfull : 8 ≤ b.queued) : b.set r = (b, some (.full, 0)) := (if_neg (by simp [h])).trans (if_pos hfull)

theorem set_joins (h : b.idle = false) (hroom : b.queued < 8) : b.set r = ({ b with queue := b.queue ++ [.setBus r] }, none) :=
  (if_neg (by simp [h])).trans (if_neg (Nat.not_le.mpr hroom))

end TwBus

/-- A field bus set by a command. -/
def qbusSet (f : FieldDie) (q : Nat) (x : TwBus) : FieldDie := f.modQd q fun y => { y with ftw := { y.ftw with bus := x } }

theorem qbus_qbusSet {f : FieldDie} {q : Nat} (hq : q < 4) (x : TwBus) : (qbusSet f q x).qbus q = x :=
  congrArg (fun y : Quad => y.ftw.bus) (FieldDie.qd_modQd_self f q _ hq)

section OnBusOf

variable {f : FieldDie} {r : Request} {g : TwBus → TwBus × Option (Status × Nat)}

theorem onBusOf_isolated (h : f.power.isolated.getD (r.u32 0 - 2) false = true) : onBusOf f r g = (f, some (.wrongMode, 0)) := if_pos h

theorem onBusOf_on {x : TwBus} {res : Option (Status × Nat)} (h : f.power.isolated.getD (r.u32 0 - 2) false = false)
    (hg : g (f.qbus (r.u32 0 - 2)) = (x, res)) : onBusOf f r g = (qbusSet f (r.u32 0 - 2) x, res) := by
  refine (if_neg (by simp [h])).trans ?_
  rw [show g (f.qd (r.u32 0 - 2)).ftw.bus = (x, res) from hg]
  rfl

end OnBusOf

theorem busCheck_lt {v : Variant} {r : Request} {ok : Bool} (h : busCheck v r ok = none) : ¬ r.u32 0 < 2 ∧ r.u32 0 < 6 := by
  unfold busCheck at h
  split at h
  · cases h
  · omega

namespace Machine

variable {s : State} {r : Request}

theorem State.byTarget_host {host : Request → Bool} {ch : HCmd} {cf : FCmd} (h : host r = true) : s.byTarget host ch cf r = s.host ch r := if_pos h

theorem State.byTarget_field {host : Request → Bool} {ch : HCmd} {cf : FCmd} (h : host r = false) : s.byTarget host ch cf r = s.field cf r :=
  if_neg (by simp [h])

theorem busHost_low (h : r.u32 0 < 2) : busHost r = true := decide_eq_true h

theorem busHost_high (h : 2 ≤ r.u32 0) : busHost r = false := decide_eq_false (Nat.not_lt.mpr h)

theorem hasBus_low {n : Nat} (hn : n < 2) : s.hasBus n = true := by simp [State.hasBus, hn]

/-! The target role. -/

theorem twTargetAddressed_law (b : Fin 2) (a : BitVec 7) (rd : Bool) (s : State) : ∃ t, exec (.twTargetAddressed b a rd) s = .next t ∧ hostOnly s t ∧
    (s.chip.host.listens = false ∨ (s.bus b).role = 0 ∨ (s.bus b).taddr ≠ a.toNat → t = s) ∧
    (s.chip.host.listens = true → (s.bus b).role ≠ 0 → (s.bus b).taddr = a.toNat →
      t.bus b = { s.bus b with busy := true, tgtAct := true, tgtRead := rd }) := by
  rw [State.bus_low s b.isLt]
  refine ⟨_, rfl, rfl, fun hno => State.onHost_eq_self ?_, fun hlis hrole haddr => ?_⟩
  · cases hlis : s.chip.host.listens with
    | false => exact if_pos (by simp)
    | true =>
      refine (if_neg (by simp)).trans (HostDie.onBus_self (if_neg ?_))
      rintro ⟨hrole, haddr⟩
      rcases hno with hno | hno | hno
      · exact absurd (hno.symm.trans hlis) (by decide)
      · exact hrole hno
      · exact hno haddr
  · rw [State.bus_low _ b.isLt, State.onHost_host, if_neg (by simp [hlis]), HostDie.mb_onBus b.isLt, if_pos ⟨hrole, haddr⟩]

theorem twTargetWriteCommit_law (b : Fin 2) (bs : List Byte) (s : State) : ∃ t, exec (.twTargetWriteCommit b bs) s = .next t ∧ hostOnly s t ∧
    ((s.bus b).tgtAct = false ∨ (s.bus b).tgtRead = true → t = s) ∧
    ∀ x y d, (s.bus b).tgtAct = true → (s.bus b).tgtRead = false → (s.bus b).pecEn = false → bs = [x, y, d] →
      memWf s.chip.host.area = true → (t.bus b).tgtAct = false ∧ ∀ p, p = x.toNat * 256 + y.toNat →
        (t.bus b).pointer = p / 32 * 32 + (p + 1) % 32 ∧
        (0x0800 ≤ p → p < 0x1000 → memRead t.chip.host.area (p - 0x0800) = d ∧
          ∀ a, a ≠ p - 0x0800 → memRead t.chip.host.area a = memRead s.chip.host.area a) ∧
        (p < 0x0800 ∨ 0x1000 ≤ p → t.chip.host.area = s.chip.host.area) := by
  rw [State.bus_low s b.isLt]
  refine ⟨s.onHost fun h => h.targetWrite b bs, rfl, rfl, fun hno => State.onHost_eq_self (HostDie.targetWrite_not hno),
    fun x y d hact hread hpec hbs hwf => ?_⟩
  subst hbs
  rw [State.bus_low _ b.isLt, State.onHost_host]
  refine ⟨?_, fun p hp => ?_⟩
  · rw [HostDie.targetWrite_byte hact hread hpec rfl, HostDie.writeDone, HostDie.mb_onBus b.isLt]
  · rw [HostDie.targetWrite_byte hact hread hpec hp, HostDie.writeDone, HostDie.mb_onBus b.isLt, HostDie.area_onBus]
    refine ⟨rfl, fun hlo hhi => ?_, fun hout => HostDie.area_areaByte_out d hout⟩
    rw [HostDie.area_areaByte_in d hlo hhi]
    exact ⟨memRead_memWrite_self _ _ _ hwf, fun a ha => memRead_memWrite_ne _ _ _ _ ha hwf⟩

theorem twTargetStop_law (b : Fin 2) (n : Nat) (s : State) : ∃ t, exec (.twTargetStop b n) s = .next t ∧ (t.bus b).tgtAct = false ∧
    ((s.bus b).tgtAct = false ∨ (s.bus b).tgtRead = false → t.chip.readData = [] ∧ t.chip.field = s.chip.field ∧
      (t.bus b).pointer = (s.bus b).pointer) := by
  rw [State.bus_low s b.isLt]
  refine ⟨_, rfl, ?_, fun hno => ?_⟩
  · rw [State.bus_low _ b.isLt]
    dsimp only
    rw [HostDie.mb_onBus b.isLt]
  · have hidle : ¬ ((s.chip.host.mb.getD b {}).tgtAct = true ∧ (s.chip.host.mb.getD b {}).tgtRead = true) := by
      rintro ⟨hact, hread⟩
      rcases hno with h | h
      · exact absurd (h.symm.trans hact) (by decide)
      · exact absurd (h.symm.trans hread) (by decide)
    rw [State.bus_low _ b.isLt]
    dsimp only
    rw [if_neg hidle, HostDie.mb_onBus b.isLt]
    exact ⟨rfl, rfl, rfl⟩

theorem twProtoErr_law (b : Fin 2) (pec : Bool) (s : State) : ∃ t, exec (.twProtoErr b pec) s = .next t ∧ hostOnly s t ∧
    t.chip.host.area = s.chip.host.area ∧ ((s.bus b).tgtAct = false ∨ (s.bus b).tgtRead = true → t = s) ∧
    ((s.bus b).tgtAct = true → (s.bus b).tgtRead = false →
      (t.bus b).tgtAct = false ∧ (t.bus b).protoCnt = satN 4 ((s.bus b).protoCnt + 1) ∧
      (t.bus b).pecCnt = (if pec then satN 4 ((s.bus b).pecCnt + 1) else (s.bus b).pecCnt) ∧ busEvent s t b 2) := by
  have htw : s.onHost (fun h => h.protoErr b pec) = s.onTw b (HostDie.discards pec) := (State.onTw_low b.isLt).symm
  have hbus : s.hasBus b = true := hasBus_low b.isLt
  refine ⟨s.onHost fun h => h.protoErr b pec, rfl, rfl, HostDie.area_onBus, fun hno => ?_, fun hact hread => ?_⟩
  · rw [htw]
    exact State.onTw_self (HostDie.discards_not hno)
  · have hdue := HostDie.discards_due (pec := pec) hact hread
    rw [htw, State.bus_onTw_of (by omega) hbus hdue (quiet_cons_event quiet_nil)]
    exact ⟨rfl, rfl, rfl, State.busEvent_of hbus hdue quiet_nil⟩

theorem twTargetTimeout_law (b : Fin 2) (s : State) : ∃ t, exec (.twTargetTimeout b) s = .next t ∧ hostOnly s t ∧
    t.chip.host.area = s.chip.host.area ∧ ((s.bus b).tgtAct = false → t = s) ∧
    ((s.bus b).tgtAct = true → (t.bus b).tgtAct = false ∧ (t.bus b).scl = true ∧ (t.bus b).sda = true ∧
      (t.bus b).toutCnt = satN 4 ((s.bus b).toutCnt + 1) ∧ busEvent s t b 3) := by
  have htw : s.onHost (fun h => h.onBus b HostDie.letsGo) = s.onTw b HostDie.letsGo := (State.onTw_low b.isLt).symm
  have hbus : s.hasBus b = true := hasBus_low b.isLt
  refine ⟨s.onHost fun h => h.onBus b HostDie.letsGo, rfl, rfl, HostDie.area_onBus, fun hno => ?_, fun hact => ?_⟩
  · rw [htw]
    exact State.onTw_self (if_neg (by simp [hno]))
  · have hdue : HostDie.letsGo (s.bus b) = _ := if_pos hact
    rw [htw, State.bus_onTw_of (by omega) hbus hdue (quiet_cons_event quiet_nil)]
    exact ⟨rfl, rfl, rfl, rfl, State.busEvent_of hbus hdue quiet_nil⟩

/-! The commands on a host bus. -/

section HostBus

variable {c : HCmd} {x : TwBus} {st : Status} {n : Nat}

/-- Region H as it takes a command sees the buses as they are. -/
theorem bus_accept {s : State} {q : Request} {b : Nat} (hlt : b < 2) : (s.chip.host.accept q).mb.getD b {} = s.bus b :=
  (congrArg (fun t : Tab TwBus 2 => t.getD b {}) (HostDie.accept_mb _ _)).trans (State.bus_low s hlt).symm

/-- A host bus set to what it was. -/
theorem mb_stands {s : State} {b : Nat} (hlt : b < 2) : s.chip.host.mb.modifyNat b (fun _ => s.bus b) = s.chip.host.mb :=
  Tab.modifyNat_eq_self _ {} (State.bus_low s hlt)

/-- A command that answers on a host bus leaves the bus as its meaning does. -/
theorem State.hostBus_done (hlt : r.u32 0 < 2) (h : hostTakes c r s)
    (hop : c.op s.chip.variant (s.chip.host.accept { r with opcode := c.code }) { r with opcode := c.code } =
      ((s.chip.host.accept { r with opcode := c.code }).mbSet (r.u32 0) x, some (st, n))) :
    hostOnly s (s.host c r) ∧ hostAnswers s (s.host c r) r st n ∧ (s.host c r).bus (r.u32 0) = x ∧
      (s.host c r).chip.host.mb = s.chip.host.mb.modifyNat (r.u32 0) (fun _ => x) := by
  have ⟨honly, hans, hp⟩ := State.host_done h hop rfl rfl
  have hmb : (s.host c r).chip.host.mb = s.chip.host.mb.modifyNat (r.u32 0) (fun _ => x) := hp HostDie.mb fun _ _ => rfl
  refine ⟨honly, hans, ?_, hmb⟩
  rw [State.bus_low _ hlt, hmb]
  exact Tab.getD_modifyNat_self _ _ _ _ hlt

/-- A command whose completion is still to come leaves a host bus as its meaning does. -/
theorem State.hostBus_pends (hlt : r.u32 0 < 2) (h : hostTakes c r s)
    (hop : c.op s.chip.variant (s.chip.host.accept { r with opcode := c.code }) { r with opcode := c.code } =
      ((s.chip.host.accept { r with opcode := c.code }).mbSet (r.u32 0) x, none)) :
    hostOnly s (s.host c r) ∧ hostWaits s (s.host c r) r ∧ (s.host c r).bus (r.u32 0) = x := by
  have ⟨honly, hwaits, hhost⟩ := State.host_pends h hop rfl
  refine ⟨honly, hwaits, ?_⟩
  rw [State.bus_low _ hlt, hhost]
  exact HostDie.mb_mbSet hlt x

end HostBus

/-! The commands on a field bus. -/

section FieldBus

variable {c : FCmd} {x : TwBus} {st : Status} {n : Nat}

theorem State.fieldBus_done (hlow : ¬ r.u32 0 < 2) (hlt : r.u32 0 < 6) (h : fieldTakes c r s)
    (hop : c.op s.chip.variant s.chip.field (arriving c r s) = (qbusSet s.chip.field (r.u32 0 - 2) x, some (st, n))) :
    fieldAnswers s (s.field c r) r st n ∧ (s.field c r).bus (r.u32 0) = x := by
  have ⟨hans, hp⟩ := State.field_done h hop rfl rfl
  refine ⟨hans, ?_⟩
  rw [State.bus_high _ hlow]
  exact (hp (fun f => f.qbus (r.u32 0 - 2)) fun _ _ => rfl).trans (qbus_qbusSet (by omega) x)

theorem State.fieldBus_pends (hlow : ¬ r.u32 0 < 2) (hlt : r.u32 0 < 6) (h : fieldTakes c r s)
    (hop : c.op s.chip.variant s.chip.field (arriving c r s) = (qbusSet s.chip.field (r.u32 0 - 2) x, none)) :
    fieldWaits s (s.field c r) r ∧ (s.field c r).bus (r.u32 0) = x := by
  have ⟨hfield, _⟩ := State.field_pends h hop
  refine ⟨State.field_waits h hop rfl, ?_⟩
  rw [State.bus_high _ hlow, hfield]
  exact qbus_qbusSet (by omega) x

/-- A command on the bus of an isolated quadrant is refused (R516). -/
theorem State.fieldBus_isolated {g : TwBus → TwBus × Option (Status × Nat)} (h : fieldTakes c r s)
    (hop : c.op s.chip.variant s.chip.field (arriving c r s) = onBusOf s.chip.field (arriving c r s) g)
    (hiso : s.chip.field.power.isolated.getD (r.u32 0 - 2) false = true) : fieldAnswers s (s.field c r) r .wrongMode 0 :=
  (State.field_reads h (hop.trans (onBusOf_isolated hiso))).2

end FieldBus

/-! The meanings of the commands, by what the operation on the bus gives. -/

theorem xferH_op {v : Variant} {h : HostDie} {q : Request} {x : TwBus} {res : Option (Status × Nat)}
    (hx : (h.mb.getD (q.u32 0) {}).xfer { q with data := h.bufRead q (q.par 24 8) (q.u32 8) } = (x, res)) :
    cmdTwXferH.op v h q = (h.mbSet (q.u32 0) x, res) := by
  unfold cmdTwXferH
  dsimp only
  rw [hx]
  rfl

theorem setBusH_op {v : Variant} {h : HostDie} {q : Request} {x : TwBus} {res : Option (Status × Nat)}
    (hx : (h.mb.getD (q.u32 0) {}).set q = (x, res)) : cmdTwSetBusH.op v h q = (h.mbSet (q.u32 0) x, res) := by
  unfold cmdTwSetBusH
  dsimp only
  rw [hx]
  rfl

theorem getBusH_op {v : Variant} {h : HostDie} {q : Request} {x : TwBus} (hx : h.mb.getD (q.u32 0) {} = x) :
    cmdTwGetBusH.op v h q = (h.mbSet (q.u32 0) x.clearCounts, some (.ok, x.status.toNat)) := by
  subst hx
  rfl

section FieldMeanings

variable {v : Variant} {f : FieldDie} {q : Request} {x : TwBus} {res : Option (Status × Nat)}
  (hon : f.power.isolated.getD (q.u32 0 - 2) false = false)

include hon

theorem xfer_op (hx : (f.qbus (q.u32 0 - 2)).xfer q = (x, res)) : cmdTwXfer.op v f q = (qbusSet f (q.u32 0 - 2) x, res) :=
  onBusOf_on (g := fun b => b.xfer q) hon hx

theorem setBus_op (hx : (f.qbus (q.u32 0 - 2)).set q = (x, res)) : cmdTwSetBus.op v f q = (qbusSet f (q.u32 0 - 2) x, res) :=
  onBusOf_on (g := fun b => b.set q) hon hx

theorem getBus_op : cmdTwGetBus.op v f q =
    (qbusSet f (q.u32 0 - 2) (f.qbus (q.u32 0 - 2)).clearCounts, some (.ok, (f.qbus (q.u32 0 - 2)).status.toNat)) :=
  onBusOf_on (g := fun b => (b.clearCounts, some (.ok, b.status.toNat))) hon rfl

end FieldMeanings

/-- A field command on a bus names a bus of the field. -/
theorem lt_of_fieldBus {c : FCmd} {ok : Bool} (h : fieldTakes c r s)
    (hchk : c.chk s.chip.variant s.chip.field (arriving c r s) = busCheck s.chip.variant (arriving c r s) ok) : ¬ r.u32 0 < 2 ∧ r.u32 0 < 6 := by
  obtain ⟨_, _, _, _, _, _, hadm, _⟩ := h
  exact busCheck_lt (hchk.symm.trans (chk_of_admitF hadm))

theorem exec_twXfer_host (hlt : r.u32 0 < 2) : exec (.twXfer r) s = .next (s.host cmdTwXferH r) :=
  congrArg Host.Outcome.next (State.byTarget_host (busHost_low hlt))

theorem exec_twXfer_field (hge : 2 ≤ r.u32 0) : exec (.twXfer r) s = .next (s.field cmdTwXfer r) :=
  congrArg Host.Outcome.next (State.byTarget_field (busHost_high hge))

theorem exec_twSetBus_host (hlt : r.u32 0 < 2) : exec (.twSetBus r) s = .next (s.host cmdTwSetBusH r) :=
  congrArg Host.Outcome.next (State.byTarget_host (busHost_low hlt))

theorem exec_twSetBus_field (hge : 2 ≤ r.u32 0) : exec (.twSetBus r) s = .next (s.field cmdTwSetBus r) :=
  congrArg Host.Outcome.next (State.byTarget_field (busHost_high hge))

theorem exec_twGetBus_host (hlt : r.u32 0 < 2) : exec (.twGetBus r) s = .next (s.host cmdTwGetBusH r) :=
  congrArg Host.Outcome.next (State.byTarget_host (busHost_low hlt))

theorem exec_twGetBus_field (hge : 2 ≤ r.u32 0) : exec (.twGetBus r) s = .next (s.field cmdTwGetBus r) :=
  congrArg Host.Outcome.next (State.byTarget_field (busHost_high hge))

theorem twXfer_law (r : Request) (s : State) :
    (r.u32 0 < 2 → hostTakes cmdTwXferH r s → ∃ t, exec (.twXfer r) s = .next t ∧ hostOnly s t ∧
      (8 ≤ (s.bus (r.u32 0)).queued → hostAnswers s t r .full 0 ∧ t.chip.host.mb = s.chip.host.mb) ∧
      ((s.bus (r.u32 0)).queued < 8 → hostWaits s t r ∧
        ∃ q, (t.bus (r.u32 0)).queue = (s.bus (r.u32 0)).queue ++ [.xfer q] ∧ q.tag = r.tag ∧ q.queue = r.queue)) ∧
    (2 ≤ r.u32 0 → fieldTakes cmdTwXfer r s → ∃ t, exec (.twXfer r) s = .next t ∧
      (s.chip.field.power.isolated.getD (r.u32 0 - 2) false = true → fieldAnswers s t r .wrongMode 0) ∧
      (s.chip.field.power.isolated.getD (r.u32 0 - 2) false = false → 8 ≤ (s.bus (r.u32 0)).queued → fieldAnswers s t r .full 0) ∧
      (s.chip.field.power.isolated.getD (r.u32 0 - 2) false = false → (s.bus (r.u32 0)).queued < 8 → fieldWaits s t r ∧
        (t.bus (r.u32 0)).queue = (s.bus (r.u32 0)).queue ++ [.xfer (arriving cmdTwXfer r s)])) := by
  refine ⟨fun hlt htakes => ⟨_, exec_twXfer_host hlt, hostOnly_host _ _ _, fun hfull => ?_, fun hroom => ?_⟩,
    fun hge htakes => ⟨_, exec_twXfer_field hge,
      State.fieldBus_isolated (g := fun b => b.xfer (arriving cmdTwXfer r s)) htakes rfl, fun hon hfull => ?_, fun hon hroom => ?_⟩⟩
  · have hop := xferH_op (v := s.chip.variant) (h := s.chip.host.accept { r with opcode := cmdTwXferH.code }) (q := { r with opcode := cmdTwXferH.code })
      ((congrArg (fun b : TwBus => b.xfer _) (bus_accept hlt)).trans (TwBus.xfer_full hfull))
    have ⟨_, hans, _, hmb⟩ := State.hostBus_done hlt htakes hop
    exact ⟨hans, hmb.trans (mb_stands hlt)⟩
  · have hop := xferH_op (v := s.chip.variant) (h := s.chip.host.accept { r with opcode := cmdTwXferH.code }) (q := { r with opcode := cmdTwXferH.code })
      ((congrArg (fun b : TwBus => b.xfer _) (bus_accept hlt)).trans (TwBus.xfer_joins hroom))
    have ⟨_, hwaits, hbus⟩ := State.hostBus_pends hlt htakes hop
    rw [hbus]
    exact ⟨hwaits, _, rfl, rfl, rfl⟩
  · have ⟨hlow, hlt⟩ := lt_of_fieldBus htakes rfl
    rw [State.bus_high s hlow] at hfull
    exact (State.fieldBus_done hlow hlt htakes (xfer_op (q := arriving cmdTwXfer r s) hon (TwBus.xfer_full hfull))).1
  · have ⟨hlow, hlt⟩ := lt_of_fieldBus htakes rfl
    rw [State.bus_high s hlow] at hroom ⊢
    have ⟨hwaits, hbus⟩ := State.fieldBus_pends hlow hlt htakes (xfer_op (q := arriving cmdTwXfer r s) hon (TwBus.xfer_joins hroom))
    rw [hbus]
    exact ⟨hwaits, rfl⟩

theorem twSetBus_law (r : Request) (s : State) :
    (r.u32 0 < 2 → hostTakes cmdTwSetBusH r s → ∃ t, exec (.twSetBus r) s = .next t ∧ hostOnly s t ∧
      ((s.bus (r.u32 0)).idle = true → hostAnswers s t r .ok 0 ∧
        t.bus (r.u32 0) = { s.bus (r.u32 0) with speed := r.u32 4, role := r.u32 8, taddr := r.u32 12 }) ∧
      ((s.bus (r.u32 0)).idle = false → 8 ≤ (s.bus (r.u32 0)).queued → hostAnswers s t r .full 0) ∧
      ((s.bus (r.u32 0)).idle = false → (s.bus (r.u32 0)).queued < 8 → hostWaits s t r ∧
        ∃ q, (t.bus (r.u32 0)).queue = (s.bus (r.u32 0)).queue ++ [.setBus q] ∧ q.tag = r.tag ∧ q.queue = r.queue)) ∧
    (2 ≤ r.u32 0 → fieldTakes cmdTwSetBus r s → ∃ t, exec (.twSetBus r) s = .next t ∧
      (s.chip.field.power.isolated.getD (r.u32 0 - 2) false = true → fieldAnswers s t r .wrongMode 0) ∧
      (s.chip.field.power.isolated.getD (r.u32 0 - 2) false = false → (s.bus (r.u32 0)).idle = true → fieldAnswers s t r .ok 0 ∧
        t.bus (r.u32 0) = { s.bus (r.u32 0) with speed := r.u32 4, role := r.u32 8, taddr := r.u32 12 }) ∧
      (s.chip.field.power.isolated.getD (r.u32 0 - 2) false = false → (s.bus (r.u32 0)).idle = false → (s.bus (r.u32 0)).queued < 8 →
        fieldWaits s t r)) := by
  refine ⟨fun hlt htakes => ?_, fun hge htakes => ⟨_, exec_twSetBus_field hge,
      State.fieldBus_isolated (g := fun b => b.set (arriving cmdTwSetBus r s)) htakes rfl, fun hon hidle => ?_,
    fun hon hbusy hroom => ?_⟩⟩
  · have hset {x : TwBus} {res : Option (Status × Nat)} (hx : (s.bus (r.u32 0)).set { r with opcode := cmdTwSetBusH.code } = (x, res)) :
        cmdTwSetBusH.op s.chip.variant (s.chip.host.accept { r with opcode := cmdTwSetBusH.code }) { r with opcode := cmdTwSetBusH.code } =
          ((s.chip.host.accept { r with opcode := cmdTwSetBusH.code }).mbSet (r.u32 0) x, res) :=
      setBusH_op ((congrArg (fun b : TwBus => b.set _) (bus_accept hlt)).trans hx)
    refine ⟨_, exec_twSetBus_host hlt, hostOnly_host _ _ _, fun hidle => ?_, fun hbusy hfull => ?_, fun hbusy hroom => ?_⟩
    · have ⟨_, hans, hbus, _⟩ := State.hostBus_done hlt htakes (hset (TwBus.set_idle hidle))
      exact ⟨hans, hbus⟩
    · have ⟨_, hans, _⟩ := State.hostBus_done hlt htakes (hset (TwBus.set_full hbusy hfull))
      exact hans
    · have ⟨_, hwaits, hbus⟩ := State.hostBus_pends hlt htakes (hset (TwBus.set_joins hbusy hroom))
      rw [hbus]
      exact ⟨hwaits, _, rfl, rfl, rfl⟩
  · have ⟨hlow, hlt⟩ := lt_of_fieldBus htakes rfl
    rw [State.bus_high s hlow] at hidle ⊢
    exact State.fieldBus_done hlow hlt htakes (setBus_op (q := arriving cmdTwSetBus r s) hon (TwBus.set_idle hidle))
  · have ⟨hlow, hlt⟩ := lt_of_fieldBus htakes rfl
    rw [State.bus_high s hlow] at hbusy hroom
    exact (State.fieldBus_pends hlow hlt htakes (setBus_op (q := arriving cmdTwSetBus r s) hon (TwBus.set_joins hbusy hroom))).1

theorem twGetBus_law (r : Request) (s : State) :
    (r.u32 0 < 2 → hostTakes cmdTwGetBusH r s → ∃ t, exec (.twGetBus r) s = .next t ∧ hostOnly s t ∧
      hostAnswers s t r .ok (s.bus (r.u32 0)).status.toNat ∧ t.bus (r.u32 0) = (s.bus (r.u32 0)).clearCounts) ∧
    (2 ≤ r.u32 0 → fieldTakes cmdTwGetBus r s → ∃ t, exec (.twGetBus r) s = .next t ∧
      (s.chip.field.power.isolated.getD (r.u32 0 - 2) false = true → fieldAnswers s t r .wrongMode 0) ∧
      (s.chip.field.power.isolated.getD (r.u32 0 - 2) false = false →
        fieldAnswers s t r .ok (s.bus (r.u32 0)).status.toNat ∧ t.bus (r.u32 0) = (s.bus (r.u32 0)).clearCounts)) := by
  refine ⟨fun hlt htakes => ?_, fun hge htakes => ⟨_, exec_twGetBus_field hge,
      State.fieldBus_isolated (g := fun b => (b.clearCounts, some (.ok, b.status.toNat))) htakes rfl, fun hon => ?_⟩⟩
  · have hop := getBusH_op (v := s.chip.variant) (q := { r with opcode := cmdTwGetBusH.code }) (bus_accept (s := s) (q := { r with opcode := cmdTwGetBusH.code }) hlt)
    have ⟨honly, hans, hbus, _⟩ := State.hostBus_done hlt htakes hop
    exact ⟨_, exec_twGetBus_host hlt, honly, hans, hbus⟩
  · have ⟨hlow, hlt⟩ := lt_of_fieldBus htakes rfl
    rw [State.bus_high s hlow]
    exact State.fieldBus_done hlow hlt htakes (getBus_op (q := arriving cmdTwGetBus r s) hon)

/-- Settles O60: an address, a write, a stop, a wrong write and a timeout of the target, and the bus commands on each side. -/
theorem twoWireTargetsCommitWhole : Obligations.TwoWireTargetsCommitWhole :=
  ⟨twTargetAddressed_law, twTargetWriteCommit_law, twTargetStop_law, twProtoErr_law, twTargetTimeout_law, twXfer_law, twSetBus_law, twGetBus_law⟩

end Machine
end Sys2Proof

/-! Timer blocks (21 R519 to R526): what an operation leaves of each channel. -/

namespace Sys2Proof

namespace TimerCh

variable (c : TimerCh) (d i : Nat)

@[simp] theorem count_load (rising : Bool) (stamp : Nat) : (c.load rising stamp).count = c.count := by
  unfold load
  split <;> rfl

@[simp] theorem chain_load (rising : Bool) (stamp : Nat) : (c.load rising stamp).chain = c.chain := by
  unfold load
  split <;> rfl

@[simp] theorem resetNext_load (rising : Bool) (stamp : Nat) : (c.load rising stamp).resetNext = c.resetNext := by
  unfold load
  split <;> rfl

@[simp] theorem count_movePwm : (c.movePwm d).count = c.count := by
  unfold movePwm takePwm
  dsimp only
  split
  · split <;> rfl
  · rfl

@[simp] theorem chain_movePwm : (c.movePwm d).chain = c.chain := by
  unfold movePwm takePwm
  dsimp only
  split
  · split <;> rfl
  · rfl

theorem chain_move : (c.move d i).chain = c.chain := by
  unfold move
  split
  · rfl
  · dsimp only
    rw [chain_movePwm]
    split
    · exact chain_load _ _ _
    · rfl

/-- Counts that pass move the counter on (R519). -/
theorem count_move {c : TimerCh} (hd : d ≠ 0) (hreset : c.resetNext = false) : (c.move d i).count = (c.count + i) % 2 ^ 32 := by
  unfold move
  rw [if_neg hd]
  dsimp only
  rw [count_movePwm]
  split
  next rising stamp _ =>
    dsimp only
    rw [resetNext_load, if_neg (by simp [hreset]), count_load]
  · exact if_neg (by simp [hreset])

/-- A channel whose compare `i` has matched. -/
def marked (i : Nat) (c : TimerCh) : TimerCh :=
  { c with cmpf := c.cmpf.modifyNat i (fun _ => true), out := if c.outMode = 1 then !c.out else c.out }

/-- A channel with an accepted edge, its registers loaded or the load pending for a lock (R523, R524). -/
def edged (rising : Bool) (stamp : Nat) (c : TimerCh) : TimerCh :=
  if c.lockedAt = some c.count then { c with waiting := some (rising, stamp), capPending := true } else c.load rising stamp

end TimerCh

namespace TimerBlk

variable {n k j i d : Nat} {t : TimerBlk n} {g : TimerCh → TimerCh}

theorem get_mod_self (hk : k < n) : (t.mod k g).get k = g (t.get k) := Tab.getD_modifyNat_self _ _ _ _ hk

theorem get_mod_ne (hj : j ≠ k) : (t.mod k g).get j = t.get j := Tab.getD_modifyNat_ne _ _ _ _ _ hj

theorem get_advance (hk : k < n) : (t.advance d).get k = (t.get k).move d (t.inc d k) := Tab.getD_mapIdx _ _ _ _ hk

theorem linked_ne (k : Nat) : linked k ≠ k := by
  unfold linked
  split <;> omega

theorem linked_lt (hk : k < n) (hn : n % 2 = 0) : linked k < n := by
  unfold linked
  split <;> omega

theorem chained_mod (hk : k < n) (hg : ∀ c, (g c).chain = c.chain) : (t.mod j g).chained k = t.chained k := by
  unfold chained
  by_cases hj : k - k % 2 = j
  · rw [← hj, get_mod_self (by omega)]
    exact hg _
  · rw [get_mod_ne hj]

theorem chained_advanceTo {c : Nat} (hk : k < n) : (t.advanceTo j c).chained k = t.chained k := by
  unfold advanceTo chained
  split
  · rw [get_advance (by omega)]
    exact TimerCh.chain_move _ _ _
  · rfl

/-- A counter that runs comes to the count that an event shows (R519). -/
theorem count_advanceTo {c : Nat} (hk : k < n) (hen : (t.get k).en = true) (hfree : t.chained k = false) (hreset : (t.get k).resetNext = false)
    (hcount : (t.get k).count < 2 ^ 32) (hc : c < 2 ^ 32) : ((t.advanceTo k c).get k).count = c := by
  have hgoes : (t.get k).en = true ∧ ¬ (k % 2 = 1 ∧ t.chained k = true) := ⟨hen, fun hn => absurd (hfree.symm.trans hn.2) (by decide)⟩
  have hinc (d : Nat) : t.inc d k = d := (if_neg hgoes.2).trans (if_pos hen)
  unfold advanceTo
  rw [if_pos hgoes, get_advance hk, hinc]
  by_cases hd : (c + 2 ^ 32 - (t.get k).count) % 2 ^ 32 = 0
  · rw [hd]
    have hsame : (t.get k).count = c := by omega
    exact hsame
  · rw [TimerCh.count_move _ _ hd hreset]
    omega

/-- A counter that stands still does not move. -/
theorem advanceTo_stands {c : Nat} (hen : (t.get k).en = false) : t.advanceTo k c = t := if_neg (by simp [hen])

/-! A compare match (R520). -/

/-- What a match does that no compare takes. -/
theorem compare_not (h : ((t.get k).outMode = 2 ∧ (i = 0 ∨ i = 3)) ∨ ((t.get k).en = false ∧ t.chained k = false)) : t.compare k i = (t, false) := by
  refine if_pos (h.imp_right ?_)
  rintro ⟨hen, hfree⟩
  simp [hen, hfree]

/-- The action of a match, by its code (R521). -/
def matched (t : TimerBlk n) (k i a : Nat) : TimerBlk n × Bool :=
  if a = 0 then (t, false)
  else if a = 1 ∨ (t.mod k (TimerCh.marked i)).chained k then (t.mod k (TimerCh.marked i), true)
  else if a = 2 then ((t.mod k (TimerCh.marked i)).mod (linked k) (fun c => { c with resetNext := true }), false)
  else ((t.mod k (TimerCh.marked i)).mod (linked k) (fun c => { c with en := true }), false)

theorem compare_due (hout : (t.get k).outMode ≠ 2) (hen : (t.get k).en = true) :
    t.compare k i = (t.advanceTo k ((t.get k).cmp.getD i 0)).matched k i ((t.get k).act.getD i 0) := by
  refine if_neg ?_
  rintro (hn | hn)
  · exact hout hn.1
  · exact hn (.inl hen)

variable {a : Nat}

theorem count_matched (hk : k < n) : ((t.matched k i a).1.get k).count = (t.get k).count := by
  have hmark : ((t.mod k (TimerCh.marked i)).get k).count = (t.get k).count := (congrArg TimerCh.count (get_mod_self hk)).trans rfl
  unfold matched
  split
  · rfl
  split
  · exact hmark
  split
  · exact (congrArg TimerCh.count (get_mod_ne (linked_ne k).symm)).trans hmark
  · exact (congrArg TimerCh.count (get_mod_ne (linked_ne k).symm)).trans hmark

theorem cmpf_matched (hk : k < n) (hi : i < 4) (ha : a ≠ 0) : ((t.matched k i a).1.get k).cmpf.getD i false = true := by
  have hmark : ((t.mod k (TimerCh.marked i)).get k).cmpf.getD i false = true :=
    (congrArg (fun c : TimerCh => c.cmpf.getD i false) (get_mod_self hk)).trans (Tab.getD_modifyNat_self _ _ _ _ hi)
  unfold matched
  rw [if_neg ha]
  split
  · exact hmark
  split
  · exact (congrArg (fun c : TimerCh => c.cmpf.getD i false) (get_mod_ne (linked_ne k).symm)).trans hmark
  · exact (congrArg (fun c : TimerCh => c.cmpf.getD i false) (get_mod_ne (linked_ne k).symm)).trans hmark

theorem matched_raises (t : TimerBlk n) (k i : Nat) : (t.matched k i 1).2 = true := by
  unfold matched
  rw [if_neg (by decide), if_pos (.inl rfl)]

theorem chained_marked (hk : k < n) : (t.mod k (TimerCh.marked i)).chained k = t.chained k := chained_mod hk fun _ => rfl

theorem matched_resets (hk : k < n) (hn : n % 2 = 0) (hfree : t.chained k = false) : ((t.matched k i 2).1.get (linked k)).resetNext = true := by
  unfold matched
  rw [if_neg (by decide), if_neg (by simp [chained_marked hk, hfree]), if_pos rfl, get_mod_self (linked_lt hk hn)]

theorem matched_starts (hk : k < n) (hn : n % 2 = 0) (hfree : t.chained k = false) : ((t.matched k i 3).1.get (linked k)).en = true := by
  unfold matched
  rw [if_neg (by decide), if_neg (by simp [chained_marked hk, hfree]), if_neg (by decide), get_mod_self (linked_lt hk hn)]

/-! A capture on a counter that stands still (R523, R524). -/

/-- A channel with the level of its input. -/
def seen (rising : Bool) (c : TimerCh) : TimerCh := { c with input := rising }

theorem get_capture_not {rising : Bool} {stamp : Nat} (hk : k < n) (hen : (t.get k).en = false) (hcap : (t.get k).captures rising = false) :
    (t.capture k rising stamp).1.get k = seen rising (t.get k) := by
  have hget : ((t.mod k (seen rising)).get k) = seen rising (t.get k) := get_mod_self hk
  unfold capture
  rw [advanceTo_stands hen]
  have hno : ¬ ((t.mod k (seen rising)).get k).captures rising = true := by
    rw [hget]
    exact Bool.eq_false_iff.mp hcap
  exact (congrArg (fun x : TimerBlk n × Bool => x.1.get k) (if_neg hno)).trans hget

theorem capture_taken {rising : Bool} {stamp : Nat} (hk : k < n) (hen : (t.get k).en = false) (hcap : (t.get k).captures rising = true) :
    (t.capture k rising stamp).1.get k = TimerCh.edged rising stamp (seen rising (t.get k)) ∧ (t.capture k rising stamp).2 = (t.get k).capIrq := by
  have hget : ((t.mod k (seen rising)).get k) = seen rising (t.get k) := get_mod_self hk
  have hyes : ((t.mod k (seen rising)).get k).captures rising = true := by
    rw [hget]
    exact hcap
  have htakes : t.capture k rising stamp =
      ((t.mod k (seen rising)).mod k (TimerCh.edged rising stamp), ((t.mod k (seen rising)).get k).capIrq) := by
    unfold capture
    rw [advanceTo_stands hen]
    exact if_pos hyes
  rw [htakes]
  dsimp only
  rw [get_mod_self hk, hget]
  exact ⟨rfl, rfl⟩

/-! Snapshots (R526). -/

theorem count_snapshot (t : TimerBlk n) (p j : Nat) : ((t.snapshot p).get j).count = (t.get j).count := by
  unfold snapshot
  by_cases hj : j = 2 * p
  · subst hj
    by_cases hn : 2 * p < n
    · rw [get_mod_self hn]
    · unfold get mod Tab.modifyNat Tab.getD
      dsimp only
      rw [List.modify_eq_self (by rw [t.ch.size_eq]; omega)]
  · rw [get_mod_ne hj]

theorem snap_snapshot {p : Nat} (hp : 2 * p < n) : ((t.snapshot p).get (2 * p)).snapLo = (t.get (2 * p)).count ∧
    ((t.snapshot p).get (2 * p)).snapHi = (t.get (2 * p + 1)).count := by
  unfold snapshot
  rw [get_mod_self hp]
  exact ⟨rfl, rfl⟩

theorem get_snapshot_ne {p q : Nat} (h : q ≠ p) : (t.snapshot p).get (2 * q) = t.get (2 * q) := get_mod_ne (by omega)

/-- The pairs of a list that a write names are snapped. -/
def snapped (t : TimerBlk n) (ps : BitVec 4) (l : List Nat) : TimerBlk n := l.foldl (fun t p => if ps.getLsbD p then t.snapshot p else t) t

theorem snapped_count (ps : BitVec 4) (l : List Nat) (j : Nat) : ((t.snapped ps l).get j).count = (t.get j).count :=
  foldl_keeps (fun t : TimerBlk n => (t.get j).count) (fun t p => by
    split
    · exact count_snapshot t p j
    · rfl) l t

/-- A pair named once in the list holds the counts of its channels. -/
theorem snapped_pair {ps : BitVec 4} {l : List Nat} {p : Nat} (hp : 2 * p < n) (hmem : p ∈ l) (hps : ps.getLsbD p = true) :
    ((t.snapped ps l).get (2 * p)).snapLo = (t.get (2 * p)).count ∧ ((t.snapped ps l).get (2 * p)).snapHi = (t.get (2 * p + 1)).count := by
  induction l using List.reverseRecOn with
  | nil => exact absurd hmem List.not_mem_nil
  | append_singleton l q ih =>
    have hsplit : t.snapped ps (l ++ [q]) = if ps.getLsbD q then (t.snapped ps l).snapshot q else t.snapped ps l := by
      unfold snapped
      rw [List.foldl_append]
      rfl
    rw [hsplit]
    by_cases hq : p = q
    · subst hq
      have ⟨hlo, hhi⟩ := snap_snapshot (t := t.snapped ps l) hp
      rw [if_pos hps, hlo, hhi, snapped_count, snapped_count]
      exact ⟨rfl, rfl⟩
    · have hl : p ∈ l := (List.mem_append.mp hmem).resolve_right fun h => hq (List.mem_singleton.mp h)
      split
      · rw [get_snapshot_ne hq]
        exact ih hl
      · exact ih hl

/-! Reads (R524, R525). -/

theorem readCount_alone {op : Bool} (h : t.chained k = false) : t.readCount k op = (t, (t.get k).count) := if_neg (by simp [h])

theorem readCount_even {op : Bool} (h : t.chained k = true) (hk : k % 2 = 0) : t.readCount k op =
    (t.mod k (fun c => if op then { c with shadowOp := (t.get (k + 1)).count } else { c with shadowProc := (t.get (k + 1)).count }), (t.get k).count) :=
  (if_pos h).trans (if_pos hk)

theorem readCount_odd {op : Bool} (h : t.chained k = true) (hk : k % 2 = 1) :
    t.readCount k op = (t, if op then (t.get (k - 1)).shadowOp else (t.get (k - 1)).shadowProc) :=
  (if_pos h).trans (if_neg (by omega))

/-- The shadow that a read of the even count leaves for its reader. -/
theorem shadow_readCount {op : Bool} (hlt : k < n) (h : t.chained k = true) (hk : k % 2 = 0) :
    (if op then ((t.readCount k op).1.get k).shadowOp else ((t.readCount k op).1.get k).shadowProc) = (t.get (k + 1)).count := by
  rw [readCount_even h hk]
  dsimp only
  rw [get_mod_self hlt]
  cases op with
  | true => rfl
  | false => rfl

end TimerBlk
end Sys2Proof

/-! Timers (21 R519 to R526, R529, R530): the events on a channel, the reads of it, and the commands of group 0xD0. -/

namespace Sys2Proof
namespace Machine

/-- The timer block that has a channel, and the channel's place in it (21 Table 21-1). -/
def timerBlock (ch : Nat) : Nat := if ch < 8 then 0 else 1 + (ch - 8) / 4
def timerPos (ch : Nat) : Nat := if ch < 8 then ch else (ch - 8) % 4

theorem timerPos_low {ch : Nat} (h : ch < 8) : timerPos ch = ch := if_pos h
theorem timerPos_high {ch : Nat} (h : ¬ ch < 8) : timerPos ch = (ch - 8) % 4 := if_neg h

theorem timerBlock_even (ch : Nat) : timerBlock (ch - ch % 2) = timerBlock ch := by
  unfold timerBlock
  split <;> split <;> omega

theorem timerPos_even (ch : Nat) : timerPos (ch - ch % 2) = timerPos ch - timerPos ch % 2 := by
  unfold timerPos
  split <;> split <;> omega

theorem timerPos_mod (ch : Nat) : timerPos ch % 2 = ch % 2 := by
  unfold timerPos
  split <;> omega

theorem timerBlock_succ {ch : Nat} (h : ch % 2 = 0) : timerBlock (ch + 1) = timerBlock ch ∧ timerPos (ch + 1) = timerPos ch + 1 := by
  unfold timerBlock timerPos
  constructor
  · split <;> split <;> omega
  · split <;> split <;> omega

theorem timerBlock_pred {ch : Nat} (h : ch % 2 = 1) : timerBlock (ch - 1) = timerBlock ch ∧ timerPos (ch - 1) = timerPos ch - 1 := by
  unfold timerBlock timerPos
  constructor
  · split <;> split <;> omega
  · split <;> split <;> omega

theorem linked_seat (ch : Nat) : timerBlock (TimerBlk.linked ch) = timerBlock ch ∧ timerPos (TimerBlk.linked ch) = TimerBlk.linked (timerPos ch) := by
  unfold TimerBlk.linked
  rw [timerPos_mod]
  split
  next h => exact timerBlock_succ h
  next h => exact timerBlock_pred (by omega)

theorem timerBlock_low {ch j : Nat} (h : ch < 8) (hj : timerBlock j = timerBlock ch) : j < 8 := by
  unfold timerBlock at hj
  rw [if_pos h] at hj
  split at hj <;> omega

/-- A channel sits in a timer block: what the block shows of its channels, and what an event on the channel does to it. -/
structure Seated (s : State) (ch n : Nat) (x : TimerBlk n) : Prop where
  lt : timerPos ch < n
  even : n % 2 = 0
  sees : ∀ j, timerBlock j = timerBlock ch → s.timer j = x.get (timerPos j)
  absent : ∀ g, s.hasTimer ch = false → s.onTimer ch g = s
  stands : ∀ g, g n x (timerPos ch) = (x, false) → s.onTimer ch g = s
  only : ∀ g, timerOnly s (s.onTimer ch g) ch
  left : ∀ g j, s.hasTimer ch = true → timerBlock j = timerBlock ch → (s.onTimer ch g).timer j = (g n x (timerPos ch)).1.get (timerPos j)
  raised : ∀ g, s.hasTimer ch = true → (g n x (timerPos ch)).2 = true → timerRaised s (s.onTimer ch g) ch
  value : ∀ g, (s.readTimer ch g).chip.readData = [BitVec.ofNat 32 (g n x (timerPos ch)).2]

variable {s : State} {ch n : Nat} {x : TimerBlk n}

theorem State.timer_low (s : State) {j : Nat} (h : j < 8) : s.timer j = s.chip.host.htim.get j := if_pos h

theorem State.timer_high (s : State) {j : Nat} (h : ¬ j < 8) : s.timer j = (s.chip.field.qd ((j - 8) / 4)).ftim.get ((j - 8) % 4) := if_neg h

/-- An event on a channel of HTIM, as it changes region H. -/
def htimEvent (ch : Nat) (g : (n : Nat) → TimerBlk n → Nat → TimerBlk n × Bool) (h : HostDie) : HostDie :=
  if (g 8 h.htim ch).2 then ({ h with htim := (g 8 h.htim ch).1 } : HostDie).vector 54 else { h with htim := (g 8 h.htim ch).1 }

theorem htim_htimEvent (ch : Nat) (g : (n : Nat) → TimerBlk n → Nat → TimerBlk n × Bool) (h : HostDie) :
    (htimEvent ch g h).htim = (g 8 h.htim ch).1 := by
  unfold htimEvent
  split
  · rw [HostDie.vector_htim]
  · rfl

theorem State.onTimer_low {g : (n : Nat) → TimerBlk n → Nat → TimerBlk n × Bool} (h : ch < 8) : s.onTimer ch g = s.onHost (htimEvent ch g) := if_pos h

theorem seated_host (h : ch < 8) : Seated s ch 8 s.chip.host.htim where
  lt := by rw [timerPos_low h]; exact h
  even := rfl
  sees j hj := by
    have hlow := timerBlock_low h hj
    rw [State.timer_low s hlow, timerPos_low hlow]
  absent g hno := by simp [State.hasTimer, h] at hno
  stands g hg := by
    rw [timerPos_low h] at hg
    rw [State.onTimer_low h]
    refine State.onHost_eq_self ?_
    unfold htimEvent
    rw [hg]
    rfl
  only g := by
    have hrest : htimEvent ch g s.chip.host =
        { s.chip.host with htim := (htimEvent ch g s.chip.host).htim, hif := (htimEvent ch g s.chip.host).hif } := by
      unfold htimEvent
      split
      · unfold HostDie.vector
        split <;> rfl
      · rfl
    unfold timerOnly
    rw [if_pos h, State.onTimer_low h]
    exact ⟨rfl, hrest⟩
  left g j _ hj := by
    have hlow := timerBlock_low h hj
    rw [State.onTimer_low h, State.timer_low _ hlow, State.onHost_host, htim_htimEvent, timerPos_low h, timerPos_low hlow]
  raised g _ hirq := by
    rw [timerPos_low h] at hirq
    unfold timerRaised
    rw [if_pos h, State.onTimer_low h, State.onHost_host, htim_htimEvent]
    exact if_pos hirq
  value g := by
    rw [timerPos_low h]
    exact congrArg (fun v : Nat => [BitVec.ofNat 32 v]) (if_pos h)

/-- An event on a channel of an FTIM block, as it changes the field side. -/
def ftimEvent (q k : Nat) (g : (n : Nat) → TimerBlk n → Nat → TimerBlk n × Bool) (f : FieldDie) : FieldDie :=
  if (g 4 (f.qd q).ftim k).2 then
    ({ f.modQd q (fun x => { x with ftim := (g 4 (f.qd q).ftim k).1 }) with bar := { f.bar with timerVec := true } })
  else f.modQd q fun x => { x with ftim := (g 4 (f.qd q).ftim k).1 }

theorem qd_ftimEvent (q k : Nat) (g : (n : Nat) → TimerBlk n → Nat → TimerBlk n × Bool) (f : FieldDie) (j : Nat) :
    (ftimEvent q k g f).qd j = (f.modQd q fun x => { x with ftim := (g 4 (f.qd q).ftim k).1 }).qd j := by
  unfold ftimEvent
  split <;> rfl

theorem State.onTimer_high {g : (n : Nat) → TimerBlk n → Nat → TimerBlk n × Bool} (h : ¬ ch < 8) (hq : (ch - 8) / 4 < s.chip.variant.quads) :
    s.onTimer ch g = s.onField (ftimEvent ((ch - 8) / 4) ((ch - 8) % 4) g) :=
  (if_neg h).trans (if_neg (Nat.not_le.mpr hq))

theorem State.onTimer_absent {g : (n : Nat) → TimerBlk n → Nat → TimerBlk n × Bool} (h : ¬ ch < 8) (hq : ¬ (ch - 8) / 4 < s.chip.variant.quads) :
    s.onTimer ch g = s := (if_neg h).trans (if_pos (Nat.not_lt.mp hq))

theorem hasTimer_high (h : ¬ ch < 8) : s.hasTimer ch = decide ((ch - 8) / 4 < s.chip.variant.quads) := by
  simp [State.hasTimer, h]

theorem timerBlock_high {j : Nat} (h : ¬ ch < 8) (hj : timerBlock j = timerBlock ch) : ¬ j < 8 ∧ (j - 8) / 4 = (ch - 8) / 4 := by
  unfold timerBlock at hj
  rw [if_neg h] at hj
  split at hj <;> omega

theorem seated_field (h : ¬ ch < 8) (hch : ch < 24) : Seated s ch 4 (s.chip.field.qd ((ch - 8) / 4)).ftim where
  lt := by rw [timerPos_high h]; omega
  even := rfl
  sees j hj := by
    have ⟨hhigh, hq⟩ := timerBlock_high h hj
    rw [State.timer_high s hhigh, timerPos_high hhigh, hq]
  absent g hno := by
    rw [hasTimer_high h] at hno
    exact State.onTimer_absent h (of_decide_eq_false hno)
  stands g hg := by
    rw [timerPos_high h] at hg
    by_cases hq : (ch - 8) / 4 < s.chip.variant.quads
    · rw [State.onTimer_high h hq]
      refine State.onField_eq_self ?_
      unfold ftimEvent
      rw [hg]
      exact congrArg (fun t : Tab Quad 4 => { s.chip.field with quad := t }) (Tab.modifyNat_eq_self
        (f := fun y => { y with ftim := (s.chip.field.qd ((ch - 8) / 4)).ftim }) s.chip.field.quad {} rfl)
    · exact State.onTimer_absent h hq
  only g := by
    unfold timerOnly
    rw [if_neg h]
    by_cases hq : (ch - 8) / 4 < s.chip.variant.quads
    · rw [State.onTimer_high h hq]
      exact ⟨rfl, fun q hne => (qd_ftimEvent _ _ _ _ _).trans (FieldDie.qd_modQd_ne _ _ _ _ hne)⟩
    · rw [State.onTimer_absent h hq]
      exact ⟨rfl, fun _ _ => rfl⟩
  left g j hhas hj := by
    have ⟨hhigh, hq⟩ := timerBlock_high h hj
    rw [hasTimer_high h, decide_eq_true_eq] at hhas
    rw [State.onTimer_high h hhas, State.timer_high _ hhigh, State.onField_field, hq, qd_ftimEvent, FieldDie.qd_modQd_self _ _ _ (by omega),
      timerPos_high h, timerPos_high hhigh]
  raised g hhas hirq := by
    rw [hasTimer_high h, decide_eq_true_eq] at hhas
    rw [timerPos_high h] at hirq
    unfold timerRaised
    rw [if_neg h, State.onTimer_high h hhas, State.onField_field]
    unfold ftimEvent
    rw [if_pos hirq]
  value g := by
    rw [timerPos_high h]
    exact congrArg (fun v : Nat => [BitVec.ofNat 32 v]) (if_neg h)

/-- Every channel sits in a timer block. -/
theorem seated (s : State) (hch : ch < 24) : ∃ (n : Nat) (x : TimerBlk n), Seated s ch n x := by
  by_cases h : ch < 8
  · exact ⟨8, _, seated_host h⟩
  · exact ⟨4, _, seated_field h hch⟩

theorem Seated.chained (hx : Seated s ch n x) : s.chained ch = x.chained (timerPos ch) := by
  unfold State.chained TimerBlk.chained
  rw [hx.sees _ (timerBlock_even ch), timerPos_even]

/-! The events (R520 to R523, R526, R530). -/

theorem timerCompareMatch_law (ch : Fin 24) (i : Fin 4) (s : State) : ∃ t, exec (.timerCompareMatch ch i) s = .next t ∧ timerOnly s t ch ∧
    (s.hasTimer ch = false → t = s) ∧
    ((s.timer ch).outMode = 2 → i = 0 ∨ i = 3 → t = s) ∧
    ((s.timer ch).en = false → s.chained ch = false → t = s) ∧
    (s.hasTimer ch = true → (s.timer ch).en = true → s.chained ch = false → (s.timer ch).outMode ≠ 2 →
      (s.timer ch).resetNext = false → (s.timer ch).count < 2 ^ 32 → (s.timer ch).cmp.get i < 2 ^ 32 →
      (t.timer ch).count = (s.timer ch).cmp.get i ∧
      ((s.timer ch).act.get i ≠ 0 → (t.timer ch).cmpf.get i = true) ∧
      ((s.timer ch).act.get i = 1 → timerRaised s t ch) ∧
      ((s.timer ch).act.get i = 2 → (t.timer (TimerBlk.linked ch)).resetNext = true) ∧
      ((s.timer ch).act.get i = 3 → (t.timer (TimerBlk.linked ch)).en = true)) := by
  obtain ⟨n, x, hx⟩ := seated s ch.isLt
  have hself := hx.sees ch rfl
  have ⟨hblock, hpos⟩ := linked_seat ch
  rw [hx.chained, hself, ← Tab.getD_get _ i 0, ← Tab.getD_get _ i 0]
  refine ⟨_, rfl, hx.only _, hx.absent _, fun hout hi => hx.stands _ (TimerBlk.compare_not (.inl ⟨hout, ?_⟩)),
    fun hen hfree => hx.stands _ (TimerBlk.compare_not (.inr ⟨hen, hfree⟩)), fun hhas hen hfree hout hreset hcount hcmp => ?_⟩
  · exact hi.imp (congrArg Fin.val) (congrArg Fin.val)
  · have hdue := TimerBlk.compare_due (i := i) hout hen
    have hfree' := (TimerBlk.chained_advanceTo (c := (x.get (timerPos ch)).cmp.getD i 0) (j := timerPos ch) hx.lt).trans hfree
    rw [hx.left _ ch hhas rfl, hx.left _ (TimerBlk.linked ch) hhas hblock, hpos, hdue]
    refine ⟨?_, fun ha => ?_, fun ha => hx.raised _ hhas ?_, fun ha => ?_, fun ha => ?_⟩
    · rw [TimerBlk.count_matched hx.lt, TimerBlk.count_advanceTo hx.lt hen hfree hreset hcount hcmp]
    · rw [← Tab.getD_get _ i false]
      exact TimerBlk.cmpf_matched hx.lt i.isLt ha
    · rw [hdue, ha]
      exact TimerBlk.matched_raises _ _ _
    · rw [ha]
      exact TimerBlk.matched_resets hx.lt hx.even hfree'
    · rw [ha]
      exact TimerBlk.matched_starts hx.lt hx.even hfree'

theorem timerCapture_law (ch : Fin 24) (rising : Bool) (n : Word) (s : State) : ∃ t, exec (.timerCapture ch rising n) s = .next t ∧ timerOnly s t ch ∧
    (s.hasTimer ch = false → t = s) ∧
    (s.hasTimer ch = true → (s.timer ch).en = false →
      ((s.timer ch).captures rising = false → t.timer ch = { s.timer ch with input := rising }) ∧
      ((s.timer ch).captures rising = true → (s.timer ch).lockedAt = none →
        (rising = true → t.timer ch = { s.timer ch with
          input := true, rise := n.toNat, period := (n.toNat + 2 ^ 32 - (s.timer ch).rise) % 2 ^ 32, risef := true, rose := true }) ∧
        (rising = false → (t.timer ch).fall = n.toNat ∧ (t.timer ch).fallf = true ∧ (t.timer ch).rise = (s.timer ch).rise ∧
          ((s.timer ch).capMode = 3 → (s.timer ch).rose = true → (t.timer ch).width = (n.toNat + 2 ^ 32 - (s.timer ch).rise) % 2 ^ 32)) ∧
        ((s.timer ch).capIrq = true → timerRaised s t ch)) ∧
      ((s.timer ch).captures rising = true → (s.timer ch).lockedAt = some (s.timer ch).count → (t.timer ch).capPending = true ∧
        (t.timer ch).rise = (s.timer ch).rise ∧ (t.timer ch).waiting = some (rising, n.toNat))) := by
  obtain ⟨m, x, hx⟩ := seated s ch.isLt
  rw [hx.sees ch rfl]
  refine ⟨_, rfl, hx.only _, hx.absent _, fun hhas hen => ⟨fun hcap => ?_, fun hcap hlock => ?_, fun hcap hlock => ?_⟩⟩
  · rw [hx.left _ ch hhas rfl, TimerBlk.get_capture_not hx.lt hen hcap]
    rfl
  · have ⟨hget, hirq⟩ := TimerBlk.capture_taken (stamp := n.toNat) hx.lt hen hcap
    have hloads : TimerCh.edged rising n.toNat (TimerBlk.seen rising (x.get (timerPos ch))) =
        (TimerBlk.seen rising (x.get (timerPos ch))).load rising n.toNat :=
        if_neg fun hn : (x.get (timerPos ch)).lockedAt = some (x.get (timerPos ch)).count => Option.some_ne_none _ (hn.symm.trans hlock)
    rw [hx.left _ ch hhas rfl, hget, hloads]
    refine ⟨fun hr => ?_, fun hr => ?_, fun hi => hx.raised _ hhas (hirq.trans hi)⟩
    · subst hr
      rfl
    · subst hr
      exact ⟨rfl, rfl, rfl, fun hmode hrose => if_pos ⟨hmode, hrose⟩⟩
  · have ⟨hget, _⟩ := TimerBlk.capture_taken (stamp := n.toNat) hx.lt hen hcap
    have hwaits : TimerCh.edged rising n.toNat (TimerBlk.seen rising (x.get (timerPos ch))) =
        { TimerBlk.seen rising (x.get (timerPos ch)) with waiting := some (rising, n.toNat), capPending := true } := if_pos hlock
    rw [hx.left _ ch hhas rfl, hget, hwaits]
    exact ⟨rfl, rfl, rfl⟩

theorem timerPwmPeriod_law (ch : Fin 24) (s : State) : ∃ t, exec (.timerPwmPeriod ch) s = .next t ∧ timerOnly s t ch ∧
    (s.hasTimer ch = true → ((s.timer ch).outMode ≠ 2 → t.timer ch = s.timer ch) ∧
      ((s.timer ch).outMode = 2 → (t.timer ch).pcnt = 0 ∧ (t.timer ch).cmp0Next = none ∧ (t.timer ch).cmp3Next = none ∧
        (t.timer ch).cmp.get 0 = (s.timer ch).cmp0Next.getD ((s.timer ch).cmp.get 0) ∧
        (t.timer ch).cmp.get 3 = (s.timer ch).cmp3Next.getD ((s.timer ch).cmp.get 3))) := by
  obtain ⟨n, x, hx⟩ := seated s ch.isLt
  rw [hx.sees ch rfl]
  refine ⟨_, rfl, hx.only _, fun hhas => ?_⟩
  rw [hx.left _ ch hhas rfl, TimerBlk.get_mod_self hx.lt]
  refine ⟨fun hout => if_neg hout, fun hout => ?_⟩
  rw [if_pos hout]
  refine ⟨rfl, rfl, rfl, ?_, ?_⟩
  · rw [← Tab.getD_get _ (0 : Fin 4) 0, ← Tab.getD_get _ (0 : Fin 4) 0]
    exact (Tab.getD_modifyNat_ne _ _ _ _ _ (by decide)).trans (Tab.getD_modifyNat_self _ _ _ _ (by decide))
  · rw [← Tab.getD_get _ (3 : Fin 4) 0, ← Tab.getD_get _ (3 : Fin 4) 0]
    exact (Tab.getD_modifyNat_self _ _ _ _ (by decide)).trans (congrArg _ (Tab.getD_modifyNat_ne _ _ _ _ _ (by decide)))

theorem tstatClear_law (ch : Fin 24) (m : Word) (s : State) : ∃ t, exec (.tstatClear ch m) s = .next t ∧ timerOnly s t ch ∧
    (s.hasTimer ch = true → (t.timer ch).capPending = ((s.timer ch).capPending && !m.getLsbD 27) ∧
      (t.timer ch).risef = ((s.timer ch).risef && !m.getLsbD 26) ∧ (t.timer ch).fallf = ((s.timer ch).fallf && !m.getLsbD 25) ∧
      (t.timer ch).count = (s.timer ch).count ∧
      ∀ i : Fin 4, (t.timer ch).cmpf.get i = ((s.timer ch).cmpf.get i && !m.getLsbD (28 + i.val))) := by
  obtain ⟨n, x, hx⟩ := seated s ch.isLt
  rw [hx.sees ch rfl]
  refine ⟨_, rfl, hx.only _, fun hhas => ?_⟩
  rw [hx.left _ ch hhas rfl, TimerBlk.get_mod_self hx.lt]
  refine ⟨rfl, rfl, rfl, rfl, fun i => ?_⟩
  rw [← Tab.getD_get _ i false, ← Tab.getD_get _ i false]
  exact Tab.getD_mapIdx _ _ _ _ i.isLt

/-! The reads (R524, R525). -/

/-- An event that reads a channel leaves the timers as the block's read does. -/
theorem State.timer_readTimer (g : (n : Nat) → TimerBlk n → Nat → TimerBlk n × Nat) (j : Nat) :
    (s.readTimer ch g).timer j = (s.onTimer ch (fun n t k => ((g n t k).1, false))).timer j := rfl

theorem timerCountRead_law (ch : Fin 24) (op : Bool) (s : State) : ∃ t, exec (.timerCountRead ch op) s = .next t ∧
    (s.chained ch = false → t.chip.readData = [BitVec.ofNat 32 (s.timer ch).count] ∧ t.timer ch = s.timer ch) ∧
    (s.chained ch = true → (ch.val % 2 = 0 → t.chip.readData = [BitVec.ofNat 32 (s.timer ch).count] ∧ (s.hasTimer ch = true →
        (if op then (t.timer ch).shadowOp else (t.timer ch).shadowProc) = (s.timer (ch + 1)).count)) ∧
      (ch.val % 2 = 1 → t.chip.readData =
        [BitVec.ofNat 32 (if op then (s.timer (ch.val - 1)).shadowOp else (s.timer (ch.val - 1)).shadowProc)])) := by
  obtain ⟨n, x, hx⟩ := seated s ch.isLt
  have hvalue := hx.value fun _ t k => t.readCount k op
  rw [hx.chained]
  refine ⟨s.readTimer ch fun _ t k => t.readCount k op, rfl, fun hfree => ⟨?_, ?_⟩, fun hchain => ⟨fun heven => ⟨?_, fun hhas => ?_⟩, fun hodd => ?_⟩⟩
  · rw [hvalue, TimerBlk.readCount_alone hfree, hx.sees ch rfl]
  · rw [State.timer_readTimer, hx.stands _ (congrArg (fun y : TimerBlk n × Nat => (y.1, false)) (TimerBlk.readCount_alone hfree))]
  · rw [hvalue, TimerBlk.readCount_even hchain ((timerPos_mod ch).trans heven), hx.sees ch rfl]
  · have ⟨hblock, hpos⟩ := timerBlock_succ heven
    rw [State.timer_readTimer, hx.left _ ch hhas rfl, hx.sees _ hblock, hpos]
    exact TimerBlk.shadow_readCount hx.lt hchain ((timerPos_mod ch).trans heven)
  · have ⟨hblock, hpos⟩ := timerBlock_pred hodd
    rw [hvalue, TimerBlk.readCount_odd hchain ((timerPos_mod ch).trans hodd), hx.sees _ hblock, hpos]

theorem captureReadLock_law (ch : Fin 24) (g : CapReg) (s : State) : ∃ t, exec (.captureReadLock ch g) s = .next t ∧
    t.chip.readData = [BitVec.ofNat 32 (match g with
      | .width => (s.timer ch).width | .rise => (s.timer ch).rise | .fall => (s.timer ch).fall | .period => (s.timer ch).period)] ∧
    (s.hasTimer ch = true → t.timer ch = { s.timer ch with lockedAt := some (s.timer ch).count }) := by
  obtain ⟨n, x, hx⟩ := seated s ch.isLt
  have hvalue := hx.value fun _ t k => t.readCapture k g
  rw [hx.sees ch rfl]
  refine ⟨s.readTimer ch fun _ t k => t.readCapture k g, rfl, hvalue.trans ?_, fun hhas => ?_⟩
  · cases g <;> rfl
  · rw [State.timer_readTimer, hx.left _ ch hhas rfl]
    exact TimerBlk.get_mod_self hx.lt

/-- The first channel of a block of R526: block 0 is HTIM, block 1 + q the FTIM of quadrant q. -/
def snapBase (b : Nat) : Nat := if b = 0 then 0 else 4 + 4 * b

theorem timerBlock_host {j : Nat} (h : j < 8) : timerBlock j = 0 := if_pos h
theorem timerBlock_field {j : Nat} (h : ¬ j < 8) : timerBlock j = 1 + (j - 8) / 4 := if_neg h

theorem snapBase_zero : snapBase 0 = 0 := rfl
theorem snapBase_field {b : Nat} (h : b ≠ 0) : snapBase b = 4 + 4 * b := if_neg h

/-- The channels of a pair sit in the block of the write that names it. -/
theorem snapBase_pair {b p : Nat} (hp : p < (if b = 0 then 4 else 2)) :
    timerBlock (snapBase b + 2 * p) = timerBlock (snapBase b) ∧ timerPos (snapBase b + 2 * p) = 2 * p ∧
      timerBlock (snapBase b + 2 * p + 1) = timerBlock (snapBase b) ∧ timerPos (snapBase b + 2 * p + 1) = 2 * p + 1 := by
  by_cases hb : b = 0
  · subst hb
    rw [if_pos rfl] at hp
    rw [snapBase_zero, timerBlock_host (by omega), timerBlock_host (by omega), timerBlock_host (by omega), timerPos_low (by omega),
      timerPos_low (by omega)]
    omega
  · rw [if_neg hb] at hp
    rw [snapBase_field hb, timerBlock_field (by omega), timerBlock_field (by omega), timerBlock_field (by omega), timerPos_high (by omega),
      timerPos_high (by omega)]
    omega

theorem seated_snapBase (s : State) {b : Nat} (hb : b < 5) :
    ∃ (n : Nat) (x : TimerBlk n), Seated s (snapBase b) n x ∧ n / 2 = if b = 0 then 4 else 2 := by
  by_cases h : b = 0
  · subst h
    exact ⟨8, _, seated_host (by decide), rfl⟩
  · rw [snapBase_field h, if_neg h]
    exact ⟨4, _, seated_field (by omega) (by omega), rfl⟩

theorem timerSnapWrite_law (b : Fin 5) (ps : BitVec 4) (s : State) : ∃ t, exec (.timerSnapWrite b ps) s = .next t ∧
    ∀ p, s.hasTimer (if b.val = 0 then 0 else 4 + 4 * b.val) = true → p < (if b.val = 0 then 4 else 2) → ps.getLsbD p = true →
      (t.timer ((if b.val = 0 then 0 else 4 + 4 * b.val) + 2 * p)).snapLo =
        (s.timer ((if b.val = 0 then 0 else 4 + 4 * b.val) + 2 * p)).count ∧
      (t.timer ((if b.val = 0 then 0 else 4 + 4 * b.val) + 2 * p)).snapHi =
        (s.timer ((if b.val = 0 then 0 else 4 + 4 * b.val) + 2 * p + 1)).count := by
  change ∃ t : State, _ ∧ ∀ p, s.hasTimer (snapBase b) = true → _ → _ → (t.timer (snapBase b + 2 * p)).snapLo = (s.timer (snapBase b + 2 * p)).count ∧
    (t.timer (snapBase b + 2 * p)).snapHi = (s.timer (snapBase b + 2 * p + 1)).count
  obtain ⟨n, x, hx, hn⟩ := seated_snapBase s b.isLt
  refine ⟨s.onTimer (snapBase b) fun n t _ => (t.snapped ps (List.range (n / 2)), false), rfl, fun p hhas hp hps => ?_⟩
  have ⟨hlo, hlopos, hhi, hhipos⟩ := snapBase_pair hp
  rw [hx.left _ _ hhas hlo, hx.sees _ hlo, hx.sees _ hhi, hlopos, hhipos]
  rw [← hn] at hp
  exact TimerBlk.snapped_pair (by omega) (List.mem_range.mpr hp) hps

/-! The commands of group 0xD0. -/

theorem timerHost_low {r : Request} (h : r.u32 0 < 8) : timerHost r = true := decide_eq_true h
theorem timerHost_high {r : Request} (h : 8 ≤ r.u32 0) : timerHost r = false := decide_eq_false (Nat.not_lt.mpr h)

section Commands

variable {r : Request} {code : Nat} {ro : Bool} {ok : Request → Bool}

/-- A timer command on HTIM passes its check of the parameters, leaves the channels as its meaning on the block does, and answers. -/
theorem hTimer_done {g : TimerBlk 8 → Nat → Request → TimerBlk 8 × Nat} (hch : r.u32 0 < 8) (h : hostTakes (hTimer code ro ok g) r s) :
    ok { r with opcode := code } = true ∧ hostOnly s (s.host (hTimer code ro ok g) r) ∧
      hostAnswers s (s.host (hTimer code ro ok g) r) r .ok (g s.chip.host.htim (timerPos (r.u32 0)) { r with opcode := code }).2 ∧
      (s.host (hTimer code ro ok g) r).timer (r.u32 0) =
        (g s.chip.host.htim (timerPos (r.u32 0)) { r with opcode := code }).1.get (timerPos (r.u32 0)) := by
  have ⟨honly, hans, hp⟩ := State.host_done h rfl rfl rfl
  rw [timerPos_low hch, State.timer_low _ hch, hp HostDie.htim fun _ _ => rfl]
  exact ⟨need_eq_none.mp (chk_of_hostTakes h), honly, hans, rfl⟩

/-- A timer command of the field names a channel of a quadrant. -/
theorem fTimer_checked {g : TimerBlk 4 → Nat → Request → TimerBlk 4 × Nat} (h : fieldTakes (fTimer code ro ok g) r s) :
    ¬ r.u32 0 < 8 ∧ r.u32 0 < 24 ∧ ok (arriving (fTimer code ro ok g) r s) = true := by
  obtain ⟨_, _, _, _, _, _, hadm, _⟩ := h
  have hchk : (if 24 ≤ r.u32 0 ∨ r.u32 0 < 8 then some .badParam
    else if s.chip.variant.quads ≤ (r.u32 0 - 8) / 4 then some .unitAbsent else need (ok (arriving (fTimer code ro ok g) r s))) = none :=
    chk_of_admitF hadm
  split at hchk
  · cases hchk
  next hch =>
    split at hchk
    · cases hchk
    · exact ⟨by omega, by omega, need_eq_none.mp hchk⟩

/-- A command that changes a channel of a fixed function is refused (R528, 19 R498). -/
theorem fTimer_fixed {g : TimerBlk 4 → Nat → Request → TimerBlk 4 × Nat} (h : fieldTakes (fTimer code false ok g) r s)
    (hfix : s.chip.field.fixedTimer (r.u32 0) = true) :
    (s.field (fTimer code false ok g) r).chip.field.quad = s.chip.field.quad ∧ fieldAnswers s (s.field (fTimer code false ok g) r) r .wrongMode 0 := by
  have ⟨hrest, hans⟩ := State.field_reads h (if_pos ⟨by decide, hfix⟩)
  exact ⟨(rfl : _ = FieldDie.quad { (s.field (fTimer code false ok g) r).chip.field with bar := s.chip.field.bar }).trans (congrArg FieldDie.quad hrest), hans⟩

/-- A timer command on an FTIM block leaves its channel as its meaning on the block does, and answers. -/
theorem fTimer_done {g : TimerBlk 4 → Nat → Request → TimerBlk 4 × Nat} (h : fieldTakes (fTimer code ro ok g) r s)
    (hfree : ro = true ∨ s.chip.field.fixedTimer (r.u32 0) = false) :
    fieldAnswers s (s.field (fTimer code ro ok g) r) r .ok
        (g (s.chip.field.qd ((r.u32 0 - 8) / 4)).ftim (timerPos (r.u32 0)) (arriving (fTimer code ro ok g) r s)).2 ∧
      (s.field (fTimer code ro ok g) r).timer (r.u32 0) =
        (g (s.chip.field.qd ((r.u32 0 - 8) / 4)).ftim (timerPos (r.u32 0)) (arriving (fTimer code ro ok g) r s)).1.get (timerPos (r.u32 0)) := by
  have ⟨hlow, hlt, _⟩ := fTimer_checked h
  have hgoes : ¬ (¬ ro = true ∧ s.chip.field.fixedTimer (r.u32 0) = true) := by
    rintro ⟨hro, hfix⟩
    rcases hfree with hro' | hfree
    · exact hro hro'
    · exact absurd (hfree.symm.trans hfix) (by decide)
  have hop : (fTimer code ro ok g).op s.chip.variant s.chip.field (arriving (fTimer code ro ok g) r s) =
      (s.chip.field.modQd ((r.u32 0 - 8) / 4) fun y => { y with
        ftim := (g (s.chip.field.qd ((r.u32 0 - 8) / 4)).ftim ((r.u32 0 - 8) % 4) (arriving (fTimer code ro ok g) r s)).1 },
      some (.ok, (g (s.chip.field.qd ((r.u32 0 - 8) / 4)).ftim ((r.u32 0 - 8) % 4) (arriving (fTimer code ro ok g) r s)).2)) := if_neg hgoes
  have ⟨hans, hp⟩ := State.field_done h hop rfl rfl
  rw [timerPos_high hlow, State.timer_high _ hlow, hp (fun f => (f.qd ((r.u32 0 - 8) / 4)).ftim) fun _ _ => rfl,
    FieldDie.qd_modQd_self _ _ _ (by omega)]
  exact ⟨hans, rfl⟩

/-! What each command does to a block. -/

variable {n k : Nat} {t : TimerBlk n} {q : Request}

theorem tmrSet_leaves (hk : k < n) (hok : tmrSetOk q = true) : (t.tmrSet k q).2 = 0 ∧
    ((t.tmrSet k q).1.get k).en = (BitVec.ofNat 32 (q.u32 4)).getLsbD 31 ∧ ((t.tmrSet k q).1.get k).filt = bits 23 16 (BitVec.ofNat 32 (q.u32 4)) := by
  have hfilt : 4 ≤ bits 23 16 (BitVec.ofNat 32 (q.u32 4)) := by
    unfold tmrSetOk at hok
    simp only [Bool.and_eq_true, decide_eq_true_eq] at hok
    exact hok.1.1
  have hget : (t.tmrSet k q).1.get k = (t.get k).setCtrl (k % 2 = 0) (BitVec.ofNat 32 (q.u32 4)) := TimerBlk.get_mod_self hk
  rw [hget]
  exact ⟨rfl, rfl, if_neg (Nat.not_lt.mpr hfilt)⟩

theorem setCmp_held {c : TimerCh} {i v : Nat} (h : c.outMode ≠ 2) : c.setCmp i v = { c with cmp := c.cmp.modifyNat i (fun _ => v) } :=
  (if_neg fun hn => h hn.1).trans (if_neg fun hn => h hn.1)

theorem tmrCompare_leaves (hk : k < n) (hok : tmrCompareOk q = true) : (t.tmrCompare k q).2 = 0 ∧
    ((t.tmrCompare k q).1.get k).act.getD (q.u32 4) 0 = q.u32 12 ∧
    ((t.get k).outMode ≠ 2 → ((t.tmrCompare k q).1.get k).cmp.getD (q.u32 4) 0 = q.u32 8) := by
  have hi : q.u32 4 < 4 := by
    unfold tmrCompareOk at hok
    simp only [Bool.and_eq_true, decide_eq_true_eq] at hok
    exact hok.1
  have hget : (t.tmrCompare k q).1.get k =
      { (t.get k).setCmp (q.u32 4) (q.u32 8) with act := (t.get k).act.modifyNat (q.u32 4) (fun _ => q.u32 12) } := TimerBlk.get_mod_self hk
  rw [hget]
  refine ⟨rfl, Tab.getD_modifyNat_self _ _ _ _ hi, fun hout => ?_⟩
  rw [setCmp_held hout]
  exact Tab.getD_modifyNat_self _ _ _ _ hi

theorem tmrSnapshot_gives (hk : k + 1 < n) (heven : k % 2 = 0) : (t.tmrSnapshot k q).2 = (t.get k).count + 2 ^ 32 * (t.get (k + 1)).count := by
  have hpair : 2 * (k / 2) = k := by omega
  have hsnap := TimerBlk.snap_snapshot (t := t) (p := k / 2) (by omega)
  rw [hpair] at hsnap
  unfold TimerBlk.tmrSnapshot
  dsimp only
  rw [hsnap.1, hsnap.2]

theorem tmrGet_gives (t : TimerBlk n) (k : Nat) (q : Request) :
    (q.u32 4 = 0 → t.chained k = false → (t.tmrGet k q).2 = (t.get k).count) ∧
    (q.u32 4 = 1 → (t.tmrGet k q).2 = (t.get k).width + 2 ^ 32 * bit (t.get k).capPending) ∧
    (q.u32 4 = 2 → (t.tmrGet k q).2 = (t.get k).cmp.getD (q.u32 8) 0) := by
  unfold TimerBlk.tmrGet
  refine ⟨fun hwhat hfree => ?_, fun hwhat => ?_, fun hwhat => ?_⟩
  · rw [hwhat]
    exact congrArg Prod.snd (TimerBlk.readCount_alone hfree)
  · rw [hwhat]
    rfl
  · rw [hwhat]
    rfl

end Commands

/-! The laws of the commands. -/

theorem tmrSet_law (r : Request) (s : State) :
    (r.u32 0 < 8 → hostTakes cmdTmrSetH r s → ∃ t, exec (.tmrSet r) s = .next t ∧ hostOnly s t ∧
      hostAnswers s t r .ok 0 ∧ (t.timer (r.u32 0)).en = (BitVec.ofNat 32 (r.u32 4)).getLsbD 31 ∧
      (t.timer (r.u32 0)).filt = bits 23 16 (BitVec.ofNat 32 (r.u32 4))) ∧
    (8 ≤ r.u32 0 → fieldTakes cmdTmrSet r s → ∃ t, exec (.tmrSet r) s = .next t ∧
      (s.chip.field.fixedTimer (r.u32 0) = true → t.chip.field.quad = s.chip.field.quad ∧ fieldAnswers s t r .wrongMode 0) ∧
      (s.chip.field.fixedTimer (r.u32 0) = false →
        fieldAnswers s t r .ok 0 ∧ (t.timer (r.u32 0)).en = (BitVec.ofNat 32 (r.u32 4)).getLsbD 31)) := by
  refine ⟨fun hch htakes => ⟨_, congrArg Host.Outcome.next (State.byTarget_host (timerHost_low hch)), ?_⟩,
    fun hch htakes => ⟨_, congrArg Host.Outcome.next (State.byTarget_field (timerHost_high hch)), fTimer_fixed htakes, fun hfree => ?_⟩⟩
  · have ⟨hok, honly, hans, htimer⟩ := hTimer_done hch htakes
    have ⟨hres, hen, hfilt⟩ := tmrSet_leaves (t := s.chip.host.htim) (seated_host (s := s) hch).lt hok
    rw [hres] at hans
    exact ⟨honly, hans, (congrArg TimerCh.en htimer).trans hen, (congrArg TimerCh.filt htimer).trans hfilt⟩
  · have ⟨hlow, hlt, hok⟩ := fTimer_checked htakes
    have ⟨hans, htimer⟩ := fTimer_done htakes (.inr hfree)
    have ⟨hres, hen, _⟩ := tmrSet_leaves (t := (s.chip.field.qd ((r.u32 0 - 8) / 4)).ftim) (seated_field (s := s) hlow hlt).lt hok
    rw [hres] at hans
    exact ⟨hans, (congrArg TimerCh.en htimer).trans hen⟩

theorem tmrCompare_law (r : Request) (s : State) :
    (r.u32 0 < 8 → hostTakes cmdTmrCompareH r s → ∃ t, exec (.tmrCompare r) s = .next t ∧ hostOnly s t ∧
      hostAnswers s t r .ok 0 ∧ (t.timer (r.u32 0)).act.getD (r.u32 4) 0 = r.u32 12 ∧
      ((s.timer (r.u32 0)).outMode ≠ 2 → (t.timer (r.u32 0)).cmp.getD (r.u32 4) 0 = r.u32 8)) ∧
    (8 ≤ r.u32 0 → fieldTakes cmdTmrCompare r s → ∃ t, exec (.tmrCompare r) s = .next t ∧
      (s.chip.field.fixedTimer (r.u32 0) = true → t.chip.field.quad = s.chip.field.quad ∧ fieldAnswers s t r .wrongMode 0) ∧
      (s.chip.field.fixedTimer (r.u32 0) = false →
        fieldAnswers s t r .ok 0 ∧ (t.timer (r.u32 0)).act.getD (r.u32 4) 0 = r.u32 12 ∧
        ((s.timer (r.u32 0)).outMode ≠ 2 → (t.timer (r.u32 0)).cmp.getD (r.u32 4) 0 = r.u32 8))) := by
  refine ⟨fun hch htakes => ⟨_, congrArg Host.Outcome.next (State.byTarget_host (timerHost_low hch)), ?_⟩,
    fun hch htakes => ⟨_, congrArg Host.Outcome.next (State.byTarget_field (timerHost_high hch)), fTimer_fixed htakes, fun hfree => ?_⟩⟩
  · have ⟨hok, honly, hans, htimer⟩ := hTimer_done hch htakes
    have hx := seated_host (s := s) hch
    have ⟨hres, hact, hcmp⟩ := tmrCompare_leaves (t := s.chip.host.htim) hx.lt hok
    rw [hres] at hans
    rw [← htimer] at hact hcmp
    rw [hx.sees _ rfl]
    exact ⟨honly, hans, hact, hcmp⟩
  · have ⟨hlow, hlt, hok⟩ := fTimer_checked htakes
    have hx := seated_field (s := s) hlow hlt
    have ⟨hans, htimer⟩ := fTimer_done htakes (.inr hfree)
    have ⟨hres, hact, hcmp⟩ := tmrCompare_leaves (t := (s.chip.field.qd ((r.u32 0 - 8) / 4)).ftim) hx.lt hok
    rw [hres] at hans
    rw [← htimer] at hact hcmp
    rw [hx.sees _ rfl]
    exact ⟨hans, hact, hcmp⟩

/-- A snapshot command gives the counts of its channel's pair. -/
theorem Seated.snapshot_gives {s : State} {ch n : Nat} {x : TimerBlk n} (hx : Seated s ch n x) {q : Request} (heven : ch % 2 = 0) :
    (x.tmrSnapshot (timerPos ch) q).2 = (s.timer ch).count + 2 ^ 32 * (s.timer (ch + 1)).count := by
  have ⟨hblock, hpos⟩ := timerBlock_succ heven
  have hmod := timerPos_mod ch
  have hlt := hx.lt
  have hn := hx.even
  rw [hx.sees _ hblock, hx.sees ch rfl, hpos, tmrSnapshot_gives (by omega) (by omega)]

theorem tmrSnapshot_law (r : Request) (s : State) :
    (r.u32 0 < 8 → hostTakes cmdTmrSnapshotH r s → ∃ t, exec (.tmrSnapshot r) s = .next t ∧ hostOnly s t ∧
      hostAnswers s t r .ok ((s.timer (r.u32 0)).count + 2 ^ 32 * (s.timer (r.u32 0 + 1)).count)) ∧
    (8 ≤ r.u32 0 → fieldTakes cmdTmrSnapshot r s → s.chip.field.fixedTimer (r.u32 0) = false →
      ∃ t, exec (.tmrSnapshot r) s = .next t ∧
        fieldAnswers s t r .ok ((s.timer (r.u32 0)).count + 2 ^ 32 * (s.timer (r.u32 0 + 1)).count)) := by
  refine ⟨fun hch htakes => ⟨_, congrArg Host.Outcome.next (State.byTarget_host (timerHost_low hch)), ?_⟩,
    fun hch htakes hfree => ⟨_, congrArg Host.Outcome.next (State.byTarget_field (timerHost_high hch)), ?_⟩⟩
  · have ⟨hok, honly, hans, _⟩ := hTimer_done hch htakes
    rw [(seated_host hch).snapshot_gives (beq_iff_eq.mp hok)] at hans
    exact ⟨honly, hans⟩
  · have ⟨hlow, hlt, hok⟩ := fTimer_checked htakes
    have ⟨hans, _⟩ := fTimer_done htakes (.inr hfree)
    rw [(seated_field hlow hlt).snapshot_gives (beq_iff_eq.mp hok)] at hans
    exact hans

/-- What TMR_GET gives of a channel. -/
theorem Seated.get_gives {s : State} {ch n : Nat} {x : TimerBlk n} (hx : Seated s ch n x) (q : Request) :
    (q.u32 4 = 0 → s.chained ch = false → (x.tmrGet (timerPos ch) q).2 = (s.timer ch).count) ∧
    (q.u32 4 = 1 → (x.tmrGet (timerPos ch) q).2 = (s.timer ch).width + 2 ^ 32 * bit (s.timer ch).capPending) ∧
    (q.u32 4 = 2 → (x.tmrGet (timerPos ch) q).2 = (s.timer ch).cmp.getD (q.u32 8) 0) := by
  rw [hx.chained, hx.sees ch rfl]
  exact tmrGet_gives x (timerPos ch) q

theorem tmrGet_law (r : Request) (s : State) :
    (r.u32 0 < 8 → hostTakes cmdTmrGetH r s → ∃ t, exec (.tmrGet r) s = .next t ∧ hostOnly s t ∧
      (r.u32 4 = 0 → s.chained (r.u32 0) = false → hostAnswers s t r .ok (s.timer (r.u32 0)).count) ∧
      (r.u32 4 = 1 → hostAnswers s t r .ok ((s.timer (r.u32 0)).width + 2 ^ 32 * bit (s.timer (r.u32 0)).capPending)) ∧
      (r.u32 4 = 2 → hostAnswers s t r .ok ((s.timer (r.u32 0)).cmp.getD (r.u32 8) 0))) ∧
    (8 ≤ r.u32 0 → fieldTakes cmdTmrGet r s → ∃ t, exec (.tmrGet r) s = .next t ∧
      (r.u32 4 = 0 → s.chained (r.u32 0) = false → fieldAnswers s t r .ok (s.timer (r.u32 0)).count) ∧
      (r.u32 4 = 1 → fieldAnswers s t r .ok ((s.timer (r.u32 0)).width + 2 ^ 32 * bit (s.timer (r.u32 0)).capPending)) ∧
      (r.u32 4 = 2 → fieldAnswers s t r .ok ((s.timer (r.u32 0)).cmp.getD (r.u32 8) 0))) := by
  refine ⟨fun hch htakes => ⟨_, congrArg Host.Outcome.next (State.byTarget_host (timerHost_low hch)), ?_⟩,
    fun hch htakes => ⟨_, congrArg Host.Outcome.next (State.byTarget_field (timerHost_high hch)), ?_⟩⟩
  · have ⟨_, honly, hans, _⟩ := hTimer_done hch htakes
    have ⟨hcount, hwidth, hcmp⟩ := (seated_host (s := s) hch).get_gives { r with opcode := 0xD010 }
    exact ⟨honly, fun hwhat hfree => hcount hwhat hfree ▸ hans, fun hwhat => hwidth hwhat ▸ hans, fun hwhat => hcmp hwhat ▸ hans⟩
  · have ⟨hlow, hlt, _⟩ := fTimer_checked htakes
    have ⟨hans, _⟩ := fTimer_done htakes (.inl rfl)
    have ⟨hcount, hwidth, hcmp⟩ := (seated_field (s := s) hlow hlt).get_gives (arriving cmdTmrGet r s)
    exact ⟨fun hwhat hfree => hcount hwhat hfree ▸ hans, fun hwhat => hwidth hwhat ▸ hans, fun hwhat => hcmp hwhat ▸ hans⟩

/-- Settles O58: a channel is followed through its place in its block (`Seated`), so the events and reads are facts of one block, and a
command of group 0xD0 is its meaning on the block of its target. -/
theorem timersMatchCaptureAndRead : Obligations.TimersMatchCaptureAndRead :=
  ⟨timerCompareMatch_law, timerCapture_law, timerPwmPeriod_law, tstatClear_law, timerSnapWrite_law, timerCountRead_law, captureReadLock_law,
    tmrSet_law, tmrCompare_law, tmrSnapshot_law, tmrGet_law⟩

end Machine
end Sys2Proof
